-- ==== Sys2Proof/Word.lean ====
section
/-!
DEFINITION. The words the registers and memories hold, and their plainest arithmetic.
-/
namespace Sys2Proof

/-- A register word (R10, R37): 32 bits. -/
abbrev Word := BitVec 32

/-- A byte of memory. -/
abbrev Byte := BitVec 8

/-- The mask of `w` ones. -/
def onesMask (w : Nat) : Word := BitVec.ofNat 32 (2 ^ w - 1)

/-- Read a number as signed in `w` bits (two's complement). -/
def signed (w n : Nat) : Int := if n % 2 ^ w < 2 ^ (w - 1) then (n % 2 ^ w : Nat) else (n % 2 ^ w : Nat) - (2 ^ w : Nat)

/-- The `w`-bit two's complement code of an integer (wraps). -/
def toUnsigned (w : Nat) (i : Int) : Nat := (i % (2 ^ w : Nat)).toNat

/-- A counter that stops at `m`. -/
def satInc (m n : Nat) : Nat := if n < m then n + 1 else m

/-- Saturate at `m`. -/
def satAt (m n : Nat) : Nat := min m n

end Sys2Proof
end

