-- ==== Sys2Proof/Syntax.lean ====
section
/-!
DEFINITION. The commands the block takes: one constructor per row of spec/opcode_table.json. A command is a register
access, a message, a pin or link event, or the end of a process the spec gives the part; what the outside world alone
decides (a measured value, a received byte, the outcome of a check inside an unspecified engine) is an operand.
-/
namespace Sys2Proof

/-- A bay (R10): 0–3. -/
abbrev Bay := Fin 4

/-- The ten bus masters of R19/R20 (the two application cores apart). -/
inductive Master where
  | app0 | app1 | saf | lgl | vlt | dma | upd | ylr | hif | dbg
deriving DecidableEq, Repr

/-- The four processor domains, numbered as in R15. -/
inductive Domain where
  | app | saf | lgl | vlt
deriving DecidableEq, Repr

/-- The two host links (R470, R471). -/
inductive Link where
  | spi | rmii
deriving DecidableEq, Repr

/-- The roles of R253: 0 PUBLIC, 1 USER, … as numbered there. -/
abbrev Role := Nat

/-- What the two residual-current demodulators of a bay deliver over the window that ends (R205): 16 kS/s counts of channel A and of
channel B. -/
structure RcdData where
  a : List Int := []
  b : List Int := []
deriving DecidableEq, Repr

/-- A timer of a channel's trip curve that has run out (R207): its point, the magnitude of the point's quantity in µA, and for how
many ms the quantity has reached the threshold and not fallen below 0.9 of it. -/
structure RcdOver where
  pt : Fin 8
  ua : Nat
  ms : Nat
deriving DecidableEq, Repr

/-- What a residual-current self-test measures (R212): whether FG_TST held its current; the I_DC of channels A and B in µA at the
offset, at +DC_EQ and at -DC_EQ, and their I_AC; whether both point 0 comparators responded at each DC step, and both of point 3. -/
structure RcdTest where
  held : Bool := true
  off : Int × Int := (0, 0)
  plus : Int × Int := (0, 0)
  minus : Int × Int := (0, 0)
  ac : Int × Int := (0, 0)
  respPlus : Bool := true
  respMinus : Bool := true
  respAc : Bool := true
deriving DecidableEq, Repr

/-- A half-period of the insulation monitor (R213, R215): 1 kS/s counts of IMD_SP and IMD_SN. -/
structure ImdHalf where
  sp : List (BitVec 16) := []
  sn : List (BitVec 16) := []
deriving DecidableEq, Repr

/-- What the analog side presents over a wheel cycle that ends: the length of a whole cycle in ns as the PLL runs it (R51, R57);
per source code of R86 the 16 kS/s samples in counts, before clipping, whose instants lie in the cycle, oldest first (a source that
is not listed, and samples that are not listed, are zeros); the bays' residual currents. -/
structure CycleData where
  periodNs : Nat := 20000000
  src : List (Nat × List Int) := []
  rcd : Vector RcdData 4 := Vector.replicate 4 {}
deriving DecidableEq, Repr

/-- A unit's wheel time as its pair peer hears it (R33, R452): 64 bits, and whether the wheel runs free. -/
structure WheelMark where
  wt : BitVec 64
  fw : Bool := false
deriving DecidableEq, Repr

/-- The voltages the power path sees at a pole (R190, R197), in mV: supply side (rms; V11 in DC), and the largest across the contact. -/
structure PoleVolts where
  sup : Nat := 0
  vx : Nat := 0
deriving DecidableEq, Repr

/-- What triggers the waveform capture (R98): a WAV_TRIG seat, TRIG.SW, two successive samples of slot LVL_SLOT, a safety trip. -/
inductive WavCause where
  | seat (k : Fin 4)
  | software
  | level (old new : BitVec 24)
  | safety
deriving DecidableEq, Repr

/-- An OBIS code A-B:C.D.E*F (R252). -/
structure Obis where
  a : Nat
  b : Nat
  c : Nat
  d : Nat
  e : Nat
  f : Nat := 255
deriving DecidableEq, Repr

/-- What every host request carries (R253, R472): the link it came by, its role and its tag. -/
structure Req where
  link : Link
  role : Role
  tag : Nat := 0
deriving DecidableEq, Repr

/-- SEL of a buffer read (R257): by time or by sequence, maximum entries, FROM and TO. -/
structure Sel where
  byTime : Bool
  max : Nat
  lo : Nat
  hi : Nat
deriving DecidableEq, Repr


/-- Who asks the vault (R349): a domain on its mailbox, or a host request passed on by the application. -/
structure VltReq where
  dom : Domain := .app
  host : Option Req := none
deriving DecidableEq, Repr

/-- Header fields of a key blob (R335). -/
structure KeyHdr where
  alg : BitVec 8
  usage : BitVec 8
  roles : BitVec 8
  domains : BitVec 8
  policy : BitVec 16
  keyId : Word
deriving DecidableEq, Repr

/-- What a reader exchange ends with (R355, R373): the bytes received, the card identifier of an ANTICOLL, and the flags. -/
structure NfrRx where
  data : List Byte := []
  uid : List Byte := []
  timeout : Bool := false
  crcErr : Bool := false
  coll : Bool := false
deriving DecidableEq, Repr

/-- How a record write goes (R368): well; its CRC fails in step 2; or the field collapses before the shadow slot is written,
while it is, between it and the commit word, or in or after the commit word. -/
inductive Collapse where
  | none | crc | before | during | between | after
deriving DecidableEq, Repr

/-- A powerline frame as the modem tells them apart (R155, R158, R160): the SLAC messages with their RunID, and the rest (a
HomePlug management message or not); `data` is the whole frame. A sound carries the attenuation of the 58 groups in dB. -/
inductive PlcFrame where
  | startAtten (run : BitVec 64)
  | sound (run : BitVec 64) (atten : List Byte)
  | slacParmCnf (run : BitVec 64) (data : List Byte)
  | attenChar (run : BitVec 64) (data : List Byte)
  | slacMatch (run : BitVec 64) (data : List Byte)
  | other (data : List Byte) (mme : Bool)
deriving DecidableEq, Repr

/-- How the codec's run over a document ends by what the document and its grammar say (R168). -/
inductive ExiStop where
  | ok | grammar | srcEnd | valueRange | unsupported
deriving DecidableEq, Repr

/-- A token (R167). -/
structure ExiToken where
  kind : BitVec 8
  qname : BitVec 16 := 0
  typ : BitVec 4 := 0
  value : BitVec 32 := 0
deriving DecidableEq, Repr

/-- What the codec finds (R167, R168): how it ends and where (bit offset of the input, or token index), the tokens and the value
area a decode gives, the bytes an encode gives. -/
structure ExiResult where
  stop : ExiStop := .ok
  pos : BitVec 32 := 0
  tokens : List ExiToken := []
  vals : List Byte := []
  stream : List Byte := []
deriving DecidableEq, Repr

/-- A CAN frame (R173). -/
structure CanFrame where
  id : BitVec 29
  ide : Bool := false
  fdf : Bool := false
  brs : Bool := false
  dlc : Fin 16 := 0
  data : List Byte := []
deriving DecidableEq, Repr

/-- A fabric packet (R428), with what its CRCs and its tag give at the receiver. -/
structure Pkt where
  cls : Fin 4
  auth : Bool := false
  mgmt : Bool := false
  typ : BitVec 8
  dst : BitVec 8
  src : BitVec 8
  ttl : BitVec 8 := 32
  epoch : BitVec 8 := 0
  seq : Word := 0
  cyc : BitVec 16 := 0
  payload : List Byte := []
  hcrcOk : Bool := true
  crcOk : Bool := true
  tagOk : Bool := true
deriving DecidableEq, Repr

/-- A REPORT (R434): UID, requested address, the neighbour's UID of each port in LINK_UP, the identity public key. -/
structure Report where
  uid : BitVec 64
  addr : BitVec 8 := 0
  neigh : List (Option (BitVec 64)) := []
  key : List Byte := []
deriving DecidableEq, Repr

/-- One bay of a DEMAND (R440), powers in 0.1 kW: D, P_MIN, P_MEAS, session start second. -/
structure BayDemand where
  bay : Bay
  d : Nat
  pMin : Nat
  pMeas : Nat
  start : Nat
deriving DecidableEq, Repr

/-- A SESSION message (R452): table state, timers in ms, STOPSRC, the limits CFG, HOST, APP, TABLE and FABRIC, CP mode and
duty, commanded outputs (CT_DRV of the poles, CT_PRE), learned times (TIME, N) of MAKE_A–C and BREAK_A–C, last RCD self-test
and its age in s, IMD status and results (STAT, RISO, RP, RN), safety-net status word and ms left. -/
structure PairSess where
  open_ : Bool := false
  num : Nat := 0
  state : Nat := 0
  timers : List Nat := []
  stopsrc : Nat := 0
  lims : List Nat := []
  cpMode : Nat := 0
  duty : Nat := 0
  drv : Nat := 0
  pre : Bool := false
  learned : List (Nat × Nat) := []
  rcdPass : Bool := false
  rcdAge : Nat := 0
  imd : List Nat := []
  net : Nat := 0
  netMs : Nat := 0
deriving DecidableEq, Repr

/-- An open-session record as it is replicated (R308, R456). -/
structure SessRep where
  num : Nat
  metering : Bool := false
  auth : Option (List Byte) := none
  tariff : Nat := 0
  flags : Nat := 0
  loss : Nat := 0
  startWt : Nat := 0
  tStart : Nat := 0
  impStart : Nat := 0
  expStart : Nat := 0
  calId : Nat := 0
deriving DecidableEq, Repr

/-- An account as it is replicated (R288, R289, R456). -/
structure AcctRep where
  prepaid : Bool := false
  state : Nat := 0
  credit : Int := 0
  loaded : Nat := 0
  ecG : Nat := 0
  ec : Nat := 0
  warn1 : Nat := 0
  warn2 : Nat := 0
  tObey : Nat := 5000
  tFb : Nat := 100
  reconnect : Nat := 0
deriving DecidableEq, Repr

/-- A LEDGER message (R456, R458): a replicated transaction, or the register records of a page for a minute. -/
inductive PairRec where
  | session (n : Bay) (r : SessRep)
  | account (n : Bay) (a : AcctRep)
  | disconnect (n : Bay)
  | closed (n : Bay)
  | registers (p : Fin 5) (minute : Nat) (ap an : List Nat) (qp qn : Nat) (rq : List Nat)
deriving DecidableEq, Repr

/-- A start-up stage that completes (R504): crystal and PLLs locked; an image slot (0 VLT, 1 SAF, 2 APP) checked in the bank
SYS.BANKSEL held and, if that failed, in the other one, with the cause of a failure (0 signature, 1 hash, 2 rollback); the
device keys derived. -/
inductive BootStage where
  | clocks
  | image (slot : Fin 3) (first other : Option (Fin 3))
  | keys
deriving DecidableEq, Repr

/-- A processor fault (R227): the domain whose processor it is, and for an uncorrectable error of its TCM the address. -/
structure CoreFault where
  dom : Domain
  ecc : Option Word := none
deriving DecidableEq, Repr

/-- What the ECC of a memory finds in a read (R27). -/
inductive Ecc where
  | clean | corrected | uncorrectable
deriving DecidableEq, Repr

/-- An access of a bus master (R19): master, address, the bytes it writes (none: a read), the bytes it reads, what ECC finds. -/
structure Access where
  master : Master
  addr : Word
  write : Option (List Byte) := none
  len : Fin 9 := 4
  ecc : Ecc := .clean
deriving DecidableEq, Repr

/-- A fragment of a mailbox train (R478): index, count, total HMP payload length, the payload bytes it carries. -/
structure Fragment where
  index : Nat
  count : Nat
  total : Nat
  data : List Byte := []
deriving DecidableEq, Repr

/-- A train as its receiver sees it end (R478): sender and receiver, message type, HMP TAG, the fragments in order; the request
it carries, when it came from a host; a reset of either domain cut it. -/
structure Train where
  src : Domain
  dst : Domain
  typ : BitVec 16
  tag : BitVec 16 := 0
  frags : List Fragment := []
  req : Option Req := none
  cut : Bool := false
deriving DecidableEq, Repr

/-- A host message as it arrives (R472): header, payload, what its trailer gives; the transaction or datagram holds the bytes
its header announces. -/
structure HmpMsg where
  typ : BitVec 16
  tag : BitVec 16 := 0
  len : BitVec 16 := 0
  role : BitVec 8 := 0
  flags : BitVec 8 := 0
  seq : Word := 0
  payload : List Byte := []
  macOk : Bool := true
  whole : Bool := true
deriving DecidableEq, Repr

/-- What a SAR entry has converted (R542): its samples, and the wheel angle of the last one. -/
structure SarEntry where
  samples : List (BitVec 12)
  angle : BitVec 16
deriving DecidableEq, Repr

/-- An IPv6 address and UDP port (R471). -/
structure EthPeer where
  addr : BitVec 128
  port : BitVec 16
deriving DecidableEq, Repr

/-- Where an Ethernet frame is addressed to (R483): this MAC, its solicited-node or the all-nodes multicast group, broadcast,
anything else. -/
inductive EthDst where
  | own | solicited | allNodes | broadcast | other
deriving DecidableEq, Repr

/-- What an Ethernet frame carries (R471, R483): a UDP datagram with one host message, an ICMPv6 echo request, a neighbour
solicitation, anything else of IPv6, another EtherType. -/
inductive EthFrame where
  | udp (src : EthPeer) (port : BitVec 16) (h : HmpMsg)
  | echo (src : BitVec 128) (data : List Byte)
  | solicit (src target : BitVec 128)
  | otherIp
  | otherType
deriving DecidableEq, Repr

/-- What the thermal manager measures on a load-switch channel (R402): current, temperature in 0.1 °C, VLS − V_OUT. -/
structure ChMeas where
  ma : BitVec 16
  dC : BitVec 12
  dropMv : BitVec 16
deriving DecidableEq, Repr

/-- What the open-load check of a channel senses (R403): the current, held for 10 ms, or 100 ms to clear; with the output off its
voltage, as the pull-up leaves it. -/
inductive OlSense where
  | onState (ma : BitVec 16)
  | offState (mv : BitVec 16)
deriving DecidableEq, Repr

/-- A rail fault of the panel (R379): EPD_PG not high in time, EPD_PG low, or VCOM_SNS off its setting for 1 ms. -/
inductive RailCause where
  | pgTimeout
  | pgLow
  | vcom (sns : BitVec 12)
deriving DecidableEq, Repr

/-- How an I2C transfer ends (R546): the bytes a read brought; address or data byte not acknowledged, with the data bytes
acknowledged; arbitration lost. -/
inductive I2cEnd where
  | done (data : List Byte)
  | nackAddr
  | nackData (n : BitVec 8)
  | arbLost (n : BitVec 8)
deriving DecidableEq, Repr
/-- The commands, in the order of spec/opcode_table.json. -/
inductive Instr where
  /-- CHIP_RESET (R507). -/
  | chipReset (cause : Fin 6) (pairRole testMode : Bool)
  /-- POWER_ON_RESET (R507). -/
  | powerOnReset (pairRole testMode : Bool)
  /-- PORST_N (R507). -/
  | porstN (pairRole testMode : Bool)
  /-- RESET_N (R507). -/
  | resetN (pairRole testMode : Bool)
  /-- TRST_N (R507). -/
  | trstN
  /-- POWER_GOOD (R502). -/
  | powerGood (vsup : BitVec 16)
  /-- BOOT_STAGE_DONE (R504). -/
  | bootStageDone (g : BootStage)
  /-- WATCHDOG_EXPIRY (R16). -/
  | watchdogExpiry (dom : Domain)
  /-- PROCESSOR_FAULT (R227). -/
  | processorFault (f : CoreFault)
  /-- DRST_APP (R508). -/
  | drstApp (m : Master)
  /-- DRST_SAF (R508). -/
  | drstSaf (m : Master)
  /-- DRST_LGL (R508). -/
  | drstLgl (m : Master)
  /-- DRST_VLT (R508). -/
  | drstVlt (m : Master)
  /-- CRST (R508). -/
  | crst (m : Master) (w : Word)
  /-- WDT_KICK (R517). -/
  | wdtKick (m : Master)
  /-- MEMORY_ACCESS (R19). -/
  | memoryAccess (a : Access)
  /-- SCRUB_PASS (R530). -/
  | scrubPass (cor uncor : BitVec 16)
  /-- FW_VIOL_CLR (R517). -/
  | fwViolClr (m : Master)
  /-- MAILBOX_WR_IDX_WRITE (R29). -/
  | mailboxWrIdxWrite (m : Master) (src dst : Domain) (v : BitVec 6)
  /-- MAILBOX_RD_IDX_WRITE (R29). -/
  | mailboxRdIdxWrite (m : Master) (src dst : Domain) (v : BitVec 6)
  /-- FRAGMENT_TRAIN_RECEIVE (R478). -/
  | fragmentTrainReceive (t : Train)
  /-- CLOCK_FAULT (R32). -/
  | clockFault (lost : BitVec 7)
  /-- CLOCK_RECOVERED (R32). -/
  | clockRecovered
  /-- REGISTER_WRITE (R40). -/
  | registerWrite (m : Master) (a : BitVec 20) (w : Word)
  /-- LO_REGISTER_READ (R74). -/
  | loRegisterRead (m : Master) (a : BitVec 20)
  /-- BLOCK_ENABLE (R46). -/
  | blockEnable (m : Master) (page : BitVec 8)
  /-- BLOCK_DISABLE (R46). -/
  | blockDisable (m : Master) (page : BitVec 8)
  /-- BLOCK_FORCE_OFF (R47). -/
  | blockForceOff (m : Master) (page : BitVec 8)
  /-- BLOCK_DRAIN_SET (R37). -/
  | blockDrainSet (m : Master) (page : BitVec 8) (on : Bool)
  /-- DRAIN_COMPLETE (R46). -/
  | drainComplete (page : BitVec 8)
  /-- DRAIN_TIMEOUT (R48). -/
  | drainTimeout (page : BitVec 8)
  /-- OWNER_CHANGE (R44). -/
  | ownerChange (m : Master) (page : BitVec 8) (owner : BitVec 2)
  /-- EXPCLOSE (R43). -/
  | expclose (m : Master) (page : BitVec 8)
  /-- PAGE_LOCK (R11). -/
  | pageLock (m : Master) (page : BitVec 8)
  /-- EXPKEY_WRITE (R42). -/
  | expkeyWrite (m : Master) (page : BitVec 8) (w : Word)
  /-- IRQ_STAT_CLEAR (R38). -/
  | irqStatClear (m : Master) (page : BitVec 8) (w : Word)
  /-- IRQ_SET_WRITE (R38). -/
  | irqSetWrite (m : Master) (page : BitVec 8) (w : Word)
  /-- LOOPBACK_SET (R522). -/
  | loopbackSet (m : Master) (page : BitVec 8) (w : Word)
  /-- TEST_QUEUED_START (R525). -/
  | testQueuedStart (page : BitVec 8)
  /-- TEST_COMPLETE (R525). -/
  | testComplete (page : BitVec 8) (pass : Bool) (ms : BitVec 16)
  /-- TEST_QUEUE_TIMEOUT (R527). -/
  | testQueueTimeout (page : BitVec 8)
  /-- CAR_SOURCE_CHANGE (R55). -/
  | carSourceChange (m : Master) (w : Word)
  /-- CAR_ZERO_CROSSING (R56). -/
  | carZeroCrossing (period : Nat) (i q : Int) (angle : BitVec 16) (c : CycleData)
  /-- SOURCE_LOST (R56). -/
  | sourceLost
  /-- CAR_CYCLE_BOUNDARY (R53). -/
  | carCycleBoundary (c : CycleData)
  /-- CAR_TICK (R53). -/
  | carTick
  /-- RTC_SECOND_TICK (R61). -/
  | rtcSecondTick (adv : BitVec 10)
  /-- INTERVAL_BOUNDARY (R63). -/
  | intervalBoundary
  /-- SEAT_WRITE (R66). -/
  | seatWrite (m : Master) (k : Fin 64) (word : Fin 3) (w : Word)
  /-- SEAT_ARM (R69). -/
  | seatArm (m : Master) (hi : Bool) (mask : Word)
  /-- SEAT_CANCEL (R69). -/
  | seatCancel (m : Master) (hi : Bool) (mask : Word)
  /-- SEAT_FIRE (R70). -/
  | seatFire (k : Fin 64)
  /-- INITIAL_CALIBRATION_DONE (R89). -/
  | initialCalibrationDone (refOk : Bool) (faults : BitVec 28)
  /-- ROTATION_STEP (R90). -/
  | rotationStep (g : Fin 4) (gain ofs : Int)
  /-- SHADOW_RESULT (R92). -/
  | shadowResult (g : Fin 4) (samples : List (Int × Int)) (relGain relOfs dGain dOfs : Int)
  /-- CAL_AGED (R94). -/
  | calAged (c : Fin 28)
  /-- SHADOW_GRANT (R95). -/
  | shadowGrant (g : Fin 4) (on : Bool)
  /-- MAP_ENTRY_WRITE (R87). -/
  | mapEntryWrite (m : Master) (i : Fin 80) (w : Word)
  /-- MAP_CRC_COMPARE (R88). -/
  | mapCrcCompare
  /-- MDAT_STUCK (R83). -/
  | mdatStuck (i : Fin 16)
  /-- MDAT_RECOVER (R83). -/
  | mdatRecover (i : Fin 16)
  /-- MCLK_LOSS (R83). -/
  | mclkLoss (k : Fin 4) (lost : Bool) (err : BitVec 8)
  /-- REF_FAULT (R79). -/
  | refFault
  /-- RINJ_START (R96). -/
  | rinjStart (m : Master) (w : Word)
  /-- RINJ_DONE (R96). -/
  | rinjDone (avg : BitVec 24)
  /-- WAV_ARM (R98). -/
  | wavArm (m : Master)
  /-- WAV_TRIGGER (R98). -/
  | wavTrigger (m : Master) (cause : WavCause)
  /-- WAV_DONE (R98). -/
  | wavDone
  /-- WAV_STOP (R102). -/
  | wavStop (m : Master)
  /-- WAV_OVERRUN (R99). -/
  | wavOverrun (n : Word)
  /-- SENSOR_PARAM_LOAD (R104). -/
  | sensorParamLoad (m : Master) (p : Fin 5) (r : Fin 51) (w : Word)
  /-- METER_CFG_WRITE (R106). -/
  | meterCfgWrite (m : Master) (p : Fin 5) (w : Word)
  /-- HARMONIC_WINDOW_END (R113). -/
  | harmonicWindowEnd (p : Fin 5)
  /-- REDERR_SET (R116). -/
  | rederrSet (p : Fin 5) (i12 i13 : Int)
  /-- REDERR_CLEAR (R116). -/
  | rederrClear (p : Fin 5)
  /-- ECLR (R127). -/
  | eclr (m : Master) (p : Fin 5)
  /-- CP_STATE_CHANGE (R131). -/
  | cpStateChange (n : Bay)
  /-- DIODE_FAIL (R133). -/
  | diodeFail (n : Bay)
  /-- DIODE_OK_RESTORE (R133). -/
  | diodeOkRestore (n : Bay)
  /-- PP_MEASURE (R134). -/
  | ppMeasure (n : Bay) (mv : BitVec 12)
  /-- LIMIT_REGISTER_WRITE (R135). -/
  | limitRegisterWrite (m : Master) (n : Bay) (k : Fin 8) (w : Word)
  /-- TABLE_LOAD (R137). -/
  | tableLoad (m : Master) (n : Bay) (w : Word)
  /-- TABLE_VALIDATION_DONE (R138). -/
  | tableValidationDone (n : Bay)
  /-- EVT_POST (R142). -/
  | evtPost (m : Master) (n : Bay) (e : BitVec 6)
  /-- BAY_EVENT_HANDLE (R141). -/
  | bayEventHandle (n : Bay)
  /-- BAY_TIMER_EXPIRY (R144). -/
  | bayTimerExpiry (n : Bay) (k : Fin 8)
  /-- END (R140). -/
  | endList (n : Bay)
  /-- SET_DUTY (R140). -/
  | setDuty (n : Bay) (arg : BitVec 16)
  /-- SET_STATE_X1 (R140). -/
  | setStateX1 (n : Bay)
  /-- SET_STATE_X2 (R140). -/
  | setStateX2 (n : Bay)
  /-- CP_NEG (R140). -/
  | cpNeg (n : Bay)
  /-- START_SLAC (R140). -/
  | startSlac (n : Bay)
  /-- REQUEST_AUTH (R140). -/
  | requestAuth (n : Bay) (methods : BitVec 3)
  /-- NOTIFY_HOST (R140). -/
  | notifyHost (n : Bay) (code : BitVec 16)
  /-- LOCK (R140). -/
  | lock (n : Bay) (on : Bool)
  /-- HLC_STOP (R140). -/
  | hlcStop (n : Bay)
  /-- CT_CLOSE_AT (R140). -/
  | ctCloseAt (n : Bay) (pre : Bool)
  /-- CT_OPEN_AT (R140). -/
  | ctOpenAt (n : Bay) (pre : Bool)
  /-- START_TIMER (R144). -/
  | startTimer (n : Bay) (k : Fin 8) (ms : BitVec 16)
  /-- STOP_TIMER (R144). -/
  | stopTimer (n : Bay) (k : Fin 8)
  /-- LIMIT_CURRENT (R140). -/
  | limitCurrent (n : Bay) (i : BitVec 16)
  /-- OPEN_SESSION (R145). -/
  | openSession (n : Bay)
  /-- START_METERING (R308). -/
  | startMetering (n : Bay)
  /-- END_SESSION (R147). -/
  | endSession (n : Bay)
  /-- RCD_TEST (R211). -/
  | rcdTest (n : Bay)
  /-- IMD_RUN (R214). -/
  | imdRun (n : Bay) (on : Bool)
  /-- POST_EVENT (R140). -/
  | postEvent (n : Bay) (e : BitVec 6)
  /-- SNET_RESUME (R238). -/
  | snetResume (n : Bay)
  /-- SESSION_HANDOVER (R147). -/
  | sessionHandover (n : Bay)
  /-- REQ_POP (R153). -/
  | reqPop (n : Bay)
  /-- STOP_REQ_HOST (R153). -/
  | stopReqHost (m : Master) (n : Bay)
  /-- STOP_REQUEST (R146). -/
  | stopRequest (n : Bay) (mask : BitVec 8)
  /-- BAY_STOP_TIMEOUT (R148). -/
  | bayStopTimeout (n : Bay)
  /-- UCODE_LOADED (R156). -/
  | ucodeLoaded (n : Bay) (ok : Bool) (ver : BitVec 16)
  /-- UCODE_RELOAD (R156). -/
  | ucodeReload (n : Bay)
  /-- KEY_SET (R157). -/
  | keySet (m : Master) (n : Bay)
  /-- LINK_RESET (R157). -/
  | linkReset (m : Master) (n : Bay)
  /-- PLC_STATION_JOIN (R157). -/
  | plcStationJoin (n : Bay) (mac : BitVec 48)
  /-- PLC_FRAME_RX (R155). -/
  | plcFrameRx (n : Bay) (f : PlcFrame)
  /-- PLC_FRAME_TX (R160). -/
  | plcFrameTx (n : Bay) (f : PlcFrame)
  /-- ARBITRATION_DECISION (R159). -/
  | arbitrationDecision (run : BitVec 64)
  /-- SOUND_SLOT_EXPIRY (R159). -/
  | soundSlotExpiry (n : Bay) (k : Fin 4)
  /-- MODEM_WAKE (R176). -/
  | modemWake (n : Bay)
  /-- T1S_FRAME_RX (R162). -/
  | t1sFrameRx (n : Bay) (mac : BitVec 48) (data : List Byte) (collided : Bool)
  /-- GSLOT_LOAD (R166). -/
  | gslotLoad (m : Master) (k : Fin 8) (w : Word)
  /-- EXI_JOB_START (R167). -/
  | exiJobStart (m : Master) (w : Word)
  /-- EXI_JOB_DONE (R168). -/
  | exiJobDone (r : ExiResult)
  /-- CAN_TX_PUSH (R174). -/
  | canTxPush (m : Master) (k : Fin 4) (w : Word)
  /-- CAN_RX_POP (R174). -/
  | canRxPop (m : Master) (k : Fin 4)
  /-- CAN_FRAME_RX (R173). -/
  | canFrameRx (k : Fin 4) (f : CanFrame) (err : Bool)
  /-- CAN_FRAME_TX (R173). -/
  | canFrameTx (k : Fin 4) (ok : Bool)
  /-- PERMIT_WITHDRAWN (R182). -/
  | permitWithdrawn (n : Bay) (hl : Bool)
  /-- ECONOMISER_START (R183). -/
  | economiserStart (n : Bay)
  /-- CT_FB_CHANGE (R184). -/
  | ctFbChange (n : Bay) (high : Bool)
  /-- MAKE_OBSERVED (R190). -/
  | makeObserved (n : Bay) (pole : Fin 3) (us : BitVec 16) (vx : List Nat) (sup : Nat)
  /-- BREAK_OBSERVED (R190). -/
  | breakObserved (n : Bay) (pole : Fin 3) (us : BitVec 16) (vx : List Nat)
  /-- NO_MAKE_TIMEOUT (R196). -/
  | noMakeTimeout (n : Bay)
  /-- BREAK_CHECK_TIMEOUT (R197). -/
  | breakCheckTimeout (n : Bay) (v : Vector PoleVolts 3)
  /-- DC_OPEN_CURRENT_LOW (R193). -/
  | dcOpenCurrentLow (n : Bay) (i : Int)
  /-- DC_OPEN_TIMEOUT (R193). -/
  | dcOpenTimeout (n : Bay)
  /-- PRECHARGE_REACHED (R194). -/
  | prechargeReached (n : Bay) (chg veh : Int)
  /-- PRECHARGE_OVERLAP_END (R194). -/
  | prechargeOverlapEnd (n : Bay)
  /-- PRECHARGE_TIMEOUT (R194). -/
  | prechargeTimeout (n : Bay)
  /-- FW_WAIT_EXPIRY (R195). -/
  | fwWaitExpiry (n : Bay)
  /-- WELD_CLR (R198). -/
  | weldClr (m : Master) (n : Bay) (v : Vector PoleVolts 3)
  /-- LINE_VOLTAGE_RETURN (R199). -/
  | lineVoltageReturn (n : Bay) (v : Vector PoleVolts 3)
  /-- SEED_APPLY (R203). -/
  | seedApply (m : Master) (n : Bay) (w : Word)
  /-- RCD_TRIP (R207). -/
  | rcdTrip (n : Bay) (a b : Option RcdOver)
  /-- CURVE_APPLY (R208). -/
  | curveApply (m : Master) (n : Bay)
  /-- RCD_TRIP_CLR (R209). -/
  | rcdTripClr (m : Master) (n : Bay) (sound : Bool)
  /-- RCD_DISCREPANCY (R210). -/
  | rcdDiscrepancy (n : Bay) (aDc bDc : BitVec 32)
  /-- DISCREP_CLEAR (R210). -/
  | discrepClear (n : Bay)
  /-- EXC_FAULT (R210). -/
  | excFault (n : Bay)
  /-- RCD_PERIODIC_TEST_DUE (R211). -/
  | rcdPeriodicTestDue (n : Bay)
  /-- RCD_SELF_TEST_START (R211). -/
  | rcdSelfTestStart (n : Bay)
  /-- RCD_SELF_TEST_END (R212). -/
  | rcdSelfTestEnd (n : Bay) (r : RcdTest)
  /-- IMD_START (R214). -/
  | imdStart (m : Master) (n : Bay)
  /-- IMD_STOP (R214). -/
  | imdStop (m : Master) (n : Bay)
  /-- IMD_PERIOD_RESULT (R215). -/
  | imdPeriodResult (n : Bay) (plus minus : ImdHalf)
  /-- IMD_NORESULT (R216). -/
  | imdNoresult (n : Bay)
  /-- CHANNEL_HEARTBEAT (R223). -/
  | channelHeartbeat (hlMiss procMiss disagree : Bool) (hlCrc : Option Word) (ownProc ownHl : BitVec 4)
  /-- HL_CHANNEL_LOST (R228). -/
  | hlChannelLost (cause : Fin 8)
  /-- SAFETY_STARTUP_DONE (R227). -/
  | safetyStartupDone
  /-- PROOF_TEST_START (R244). -/
  | proofTestStart
  /-- PROOF_TEST_END (R244). -/
  | proofTestEnd (pass : Bool)
  /-- PROOF_OVERDUE (R244). -/
  | proofOverdue
  /-- SI_INPUT_CHANGE (R233). -/
  | siInputChange (k : Fin 8) (a b : Bool)
  /-- SI_DISCREPANCY (R234). -/
  | siDiscrepancy (k : Fin 8)
  /-- SI_TEST_PULSE (R235). -/
  | siTestPulse (k : Fin 8) (onB a b : Bool)
  /-- SAIN_SAMPLE (R236). -/
  | sainSample (i : Fin 16) (mv : BitVec 12)
  /-- TEMP_TRIP (R236). -/
  | tempTrip (i : Fin 16)
  /-- OCG_TRIP (R232). -/
  | ocgTrip (n : Bay) (hl : Bool) (ma : BitVec 32) (ms : Nat)
  /-- HL_WELD_DETECT (R230). -/
  | hlWeldDetect (n : Bay) (v : Vector PoleVolts 3) (ms : Nat)
  /-- SNET_ENTER (R237). -/
  | snetEnter (n : Bay) (cause : Fin 7)
  /-- SNET_EXPIRE (R239). -/
  | snetExpire (n : Bay)
  /-- TRIP_PULSE_END (R241). -/
  | tripPulseEnd (p : Bool)
  /-- CFG_WRITE (R243). -/
  | cfgWrite (ofs : BitVec 16) (val : Word)
  /-- CFG_COMMIT (R243). -/
  | cfgCommit
  /-- SI_CLR (R234). -/
  | siClr (mask : BitVec 8)
  /-- TRIP_CLR (R243). -/
  | tripClr
  /-- PROOF_NOW (R243). -/
  | proofNow
  /-- GATE_TEST (R245). -/
  | gateTest (pass : Bool)
  /-- TRIP_OUTPUT_TEST (R245). -/
  | tripOutputTest (pass : Bool)
  /-- CFG_CRC_TEST (R524). -/
  | cfgCrcTest (pass : Bool)
  /-- CFG_CRC_SELF_CHECK (R245). -/
  | cfgCrcSelfCheck (crc : Option Word)
  /-- ENTRY_DRAIN (R260). -/
  | entryDrain
  /-- BOUNDARY_TRANSACTION (R269). -/
  | boundaryTransaction
  /-- LEGAL_DOMAIN_START (R300). -/
  | legalDomainStart (replayed : Option (Nat × Nat))
  /-- LEGAL_READY (R35). -/
  | legalReady
  /-- LEGAL_NOT_READY_TIMEOUT (R35). -/
  | legalNotReadyTimeout
  /-- LEDGER_READ (R257). -/
  | ledgerRead (q : Req) (o : Obis) (attr : BitVec 8) (sel : Option Sel) (cont : Option Word)
  /-- LEGAL_PARAMETER_WRITE (R302). -/
  | legalParameterWrite (q : Req) (o : Obis) (val : List Byte)
  /-- RIGHTS_TABLE_WRITE (R254). -/
  | rightsTableWrite (q : Req) (changes : List (Obis × BitVec 8 × BitVec 24))
  /-- DEMAND_CONFIG_WRITE (R263). -/
  | demandConfigWrite (q : Req) (p : Fin 5) (exp : Bool) (attr : BitVec 8) (v : Nat)
  /-- PROFILE_DEFINITION_WRITE (R267). -/
  | profileDefinitionWrite (q : Req) (p2 : Bool) (period : Option Nat) (defs : List (Word × Word))
  /-- CALENDAR_STAGE_WRITE (R281). -/
  | calendarStageWrite (q : Req) (ofs : BitVec 16) (data : List Byte)
  /-- CALENDAR_COMMIT (R281). -/
  | calendarCommit (q : Req)
  /-- CALENDAR_CLEAR (R281). -/
  | calendarClear (q : Req)
  /-- ACCOUNT_WRITE (R288). -/
  | accountWrite (q : Req) (n : Bay) (attr : BitVec 8) (v : Int)
  /-- ACCOUNT_LOAD (R289). -/
  | accountLoad (q : Req) (n : Bay) (amount id : BitVec 64)
  /-- FALLBACK_CHECK (R292). -/
  | fallbackCheck (n : Bay)
  /-- LLOG_ACKNOWLEDGE (R273). -/
  | llogAcknowledge (q : Req) (seq : Word)
  /-- CLOCK_SLEW (R305). -/
  | clockSlew (q : Req) (ofs : Int)
  /-- SLEW_DONE (R305). -/
  | slewDone
  /-- CLOCK_STEP (R306). -/
  | clockStep (q : Req) (ms : BitVec 64)
  /-- CLOCK_STEP_APPLY (R270). -/
  | clockStepApply
  /-- MEASURE (R304). -/
  | measure (q : Req) (p : Fin 5) (cycles : Nat)
  /-- MEASURE_COMPLETE (R304). -/
  | measureComplete (p : Fin 5)
  /-- TAMPER_ACK (R320). -/
  | tamperAck (q : Req) (k : Fin 4)
  /-- SESSION_AUTH (R308). -/
  | sessionAuth (bay : BitVec 8) (num tariff : Word) (id : List Byte)
  /-- RECEIPT_SIGNED (R314). -/
  | receiptSigned (sig : List Byte)
  /-- VAULT_WAIT_TIMEOUT (R314). -/
  | vaultWaitTimeout
  /-- MIRROR_REFRESH (R370). -/
  | mirrorRefresh
  /-- TAMPER_INPUT_EVENT (R319). -/
  | tamperInputEvent (k : Fin 4)
  /-- TMP_EVT_CLEAR (R326). -/
  | tmpEvtClear (m : Master) (mask : BitVec 8)
  /-- RTC_ALARM (R324). -/
  | rtcAlarm
  /-- ALARM_CTL_WRITE (R324). -/
  | alarmCtlWrite (m : Master) (en : Bool)
  /-- ZEROISATION (R331). -/
  | zeroisation (cause : Fin 5)
  /-- VLT_INFO (R349). -/
  | vltInfo (q : VltReq)
  /-- ROLE_CHALLENGE (R343). -/
  | roleChallenge (q : Req) (role : BitVec 8)
  /-- ROLE_OPEN (R343). -/
  | roleOpen (q : Req) (role : BitVec 8) (idx : Fin 2) (eph : List Byte) (ok : Bool)
  /-- ROLE_CLOSE (R344). -/
  | roleClose (q : Req) (role : BitVec 8)
  /-- ROLE_SESSION_IDLE_TIMEOUT (R344). -/
  | roleSessionIdleTimeout (link : Link) (role : Role)
  /-- KEY_GENERATE (R335). -/
  | keyGenerate (q : VltReq) (h : KeyHdr)
  /-- KEY_LOAD (R336). -/
  | keyLoad (q : VltReq) (blob : List Byte) (slot : BitVec 8) (tagOk : Bool)
  /-- KEY_UNLOAD (R349). -/
  | keyUnload (q : VltReq) (slot : BitVec 8)
  /-- KEY_PUBLIC (R349). -/
  | keyPublic (q : VltReq) (slot : BitVec 8)
  /-- SIGN (R337). -/
  | sign (q : VltReq) (slot : BitVec 8) (data : List Byte) (intact : Bool)
  /-- ECDH (R337). -/
  | ecdh (q : VltReq) (slot : BitVec 8) (peer : List Byte) (intact : Bool)
  /-- MAC (R337). -/
  | mac (q : VltReq) (slot : BitVec 8) (data : List Byte) (tag : Option (List Byte)) (intact : Bool)
  /-- ATTEST (R345). -/
  | attest (q : VltReq) (nonce : List Byte) (intact : Bool)
  /-- RANDOM (R349). -/
  | random (q : VltReq) (n : BitVec 16)
  /-- ANCHOR_SET (R342). -/
  | anchorSet (q : VltReq) (role : BitVec 8) (idx : BitVec 8) (key : List Byte)
  /-- KEY_TRANSFER (R349). -/
  | keyTransfer (q : VltReq) (slot : BitVec 8) (peer : List Byte) (intact : Bool)
  /-- KEY_TO_TAG (R363). -/
  | keyToTag (q : VltReq) (slot : BitVec 8) (intact : Bool)
  /-- ROLLBACK_SET (R348). -/
  | rollbackSet (q : VltReq) (dom : BitVec 8) (v : Word)
  /-- LIFECYCLE_SET (R346). -/
  | lifecycleSet (q : VltReq) (target : BitVec 8)
  /-- DEBUG_CHALLENGE (R347). -/
  | debugChallenge (q : VltReq) (scope : BitVec 8)
  /-- DEBUG_OPEN (R347). -/
  | debugOpen (q : VltReq) (ok : Bool)
  /-- DEBUG_SCOPE_EXPIRY (R347). -/
  | debugScopeExpiry
  /-- VAULT_TAMPER_CFG (R332). -/
  | vaultTamperCfg (q : VltReq) (en : Bool)
  /-- TRNG_HEALTH_FAIL (R341). -/
  | trngHealthFail
  /-- TRNG_RETEST (R341). -/
  | trngRetest (pass : Bool)
  /-- DRBG_RESEED (R341). -/
  | drbgReseed
  /-- NFR_FIELD_ON (R353). -/
  | nfrFieldOn (m : Master)
  /-- NFR_FIELD_OFF (R353). -/
  | nfrFieldOff (m : Master)
  /-- LPCD_START (R354). -/
  | lpcdStart (m : Master)
  /-- LPCD_PULSE (R354). -/
  | lpcdPulse (amp : BitVec 16)
  /-- TRANSCEIVE (R352). -/
  | transceive (m : Master)
  /-- ANTICOLL (R356). -/
  | anticoll (m : Master)
  /-- NFR_ABORT (R373). -/
  | nfrAbort (m : Master)
  /-- NFR_RX_DONE (R373). -/
  | nfrRxDone (r : NfrRx)
  /-- LIST_CLEAR (R355). -/
  | listClear (m : Master)
  /-- LIST_DATA_WRITE (R355). -/
  | listDataWrite (m : Master) (w : Word)
  /-- LOAD_DONE (R355). -/
  | loadDone (m : Master)
  /-- NFR_TAG_TEST (R524). -/
  | nfrTagTest (pass : Bool)
  /-- TAG_FIELD_ON (R359). -/
  | tagFieldOn (own : Bool)
  /-- TAG_FIELD_LOSS (R359). -/
  | tagFieldLoss
  /-- REQB (R359). -/
  | reqb (n : Fin 5) (afi : BitVec 8) (wake : Bool)
  /-- XREQB (R360). -/
  | xreqb (afi param : BitVec 8)
  /-- XMARK (R360). -/
  | xmark (std : Bool) (sl : BitVec 8)
  /-- READ_SIG_B (R360). -/
  | readSigB (pupi : Word)
  /-- ATTRIB (R359). -/
  | attrib (pupi : Word)
  /-- HLTB (R359). -/
  | hltb (pupi : Option Word)
  /-- READ_BINARY (R365). -/
  | readBinary (ofs le : BitVec 16)
  /-- GET_SIG (R365). -/
  | getSig (p le : BitVec 16)
  /-- GET_INFO (R365). -/
  | getInfo (p le : BitVec 16)
  /-- AUTH_BEGIN (R363). -/
  | authBegin (p le : BitVec 16)
  /-- AUTH_END (R363). -/
  | authEnd (p len : BitVec 16) (ok : Bool)
  /-- VERIFY_PWD (R362). -/
  | verifyPwd (p : BitVec 16) (pwd : List Byte)
  /-- WRITE_RECORD (R368). -/
  | writeRecord (p txn : BitVec 16) (data : List Byte) (macOk : Bool) (cut : Collapse)
  /-- HOST_RECORD_WRITE (R369). -/
  | hostRecordWrite (m : Master) (rec : BitVec 8)
  /-- HOST_RECORD_COMMIT (R369). -/
  | hostRecordCommit
  /-- HOST_DATA_READ (R369). -/
  | hostDataRead (m : Master) (busy : Bool)
  /-- UPD_XY_GO (R385). -/
  | updXyGo (m : Master) (mode : BitVec 3)
  /-- EPDR_GO (R385). -/
  | epdrGo (m : Master) (mode : BitVec 3)
  /-- REGION_START (R385). -/
  | regionStart
  /-- EPD_FRAME (R376). -/
  | epdFrame (late : Option (BitVec 11)) (sns : BitVec 12)
  /-- REGION_END (R385). -/
  | regionEnd (id : Fin 64)
  /-- WB_ACK (R387). -/
  | wbAck (m : Master)
  /-- RECT_WRITE (R387). -/
  | rectWrite (m : Master) (wh : Bool) (w : Word)
  /-- RAIL_IDLE_OFF (R378). -/
  | railIdleOff
  /-- RAIL_FAULT (R379). -/
  | railFault (cause : RailCause)
  /-- WF_LOAD (R384). -/
  | wfLoad (m : Master) (w : Word)
  /-- BAND_LOAD (R384). -/
  | bandLoad
  /-- TEMP_STALE (R384). -/
  | tempStale
  /-- BLINK_TOGGLE (R388). -/
  | blinkToggle (k : Fin 4)
  /-- BL_DATA_WRITE (R388). -/
  | blDataWrite (m : Master) (w : Word)
  /-- CMD_ON (R404). -/
  | cmdOn (m : Master) (mask : BitVec 12)
  /-- CMD_OFF (R404). -/
  | cmdOff (m : Master) (mask : BitVec 12)
  /-- NOP (R405). -/
  | nop (frame : Word)
  /-- SET_ON (R405). -/
  | setOn (frame : Word)
  /-- SET_OFF (R405). -/
  | setOff (frame : Word)
  /-- READ_STAT (R405). -/
  | readStat (frame : Word)
  /-- READ_CUR (R405). -/
  | readCur (frame : Word)
  /-- SPI_LATCH_CLR (R405). -/
  | spiLatchClr (frame : Word)
  /-- LATCH_CLR (R414). -/
  | latchClr (m : Master) (mask : BitVec 12)
  /-- SPI_FRAME_ERROR (R405). -/
  | spiFrameError
  /-- DIN_INPUT_CHANGE (R396). -/
  | dinInputChange (c : Fin 12) (level : Bool)
  /-- LSW_CURRENT_LIMIT (R399). -/
  | lswCurrentLimit (c : Fin 12) (ma : BitVec 16)
  /-- LIMIT_RECOVER (R401). -/
  | limitRecover (c : Fin 12) (ma : BitVec 16)
  /-- THERMAL_TRIP (R399). -/
  | thermalTrip (c : Fin 12)
  /-- LSW_RESTART (R400). -/
  | lswRestart (c : Fin 12) (dC : BitVec 12)
  /-- BUDGET_CUT (R402). -/
  | budgetCut (meas : Vector ChMeas 12)
  /-- INRUSH_WINDOW_END (R400). -/
  | inrushWindowEnd (c : Fin 12)
  /-- OPEN_LOAD_DETECT (R403). -/
  | openLoadDetect (c : Fin 12) (sense : OlSense)
  /-- HM_KICK (R407). -/
  | hmKick (m : Master)
  /-- HALL_MONITOR_EXPIRY (R407). -/
  | hallMonitorExpiry (port : Fin 2)
  /-- FS_STORE (R410). -/
  | fsStore (m : Master)
  /-- FS_STORE_DONE (R410). -/
  | fsStoreDone
  /-- LSW_LIMIT_TEST (R524). -/
  | lswLimitTest (pass : Bool)
  /-- DMA_START (R424). -/
  | dmaStart (m : Master) (c : Fin 16) (w : Word)
  /-- DMA_ABORT (R421). -/
  | dmaAbort (m : Master) (c : Fin 16)
  /-- PACING_REQUEST (R418). -/
  | pacingRequest (c : Fin 16) (data : List Byte)
  /-- DMA_BURST (R422). -/
  | dmaBurst (ecc : Ecc)
  /-- DESCRIPTOR_END (R417). -/
  | descriptorEnd (c : Fin 16)
  /-- LINK_SYNC (R426). -/
  | linkSync (p : Fin 3)
  /-- HELLO (R426). -/
  | hello (p : Fin 3) (uid : BitVec 64) (addr : BitVec 8)
  /-- LINK_DOWN (R437). -/
  | linkDown (p : Fin 3) (silent : Bool) (viol : BitVec 16)
  /-- PACKET_RECEIVE (R430). -/
  | packetReceive (p : Fin 3) (k : Pkt)
  /-- PACKET_TRANSMIT (R427). -/
  | packetTransmit (p : Fin 3) (busy : Bool)
  /-- ELECTION_START (R433). -/
  | electionStart
  /-- BEACON (R433). -/
  | beacon (uid : BitVec 64)
  /-- RINGMASTER_ELECT (R433). -/
  | ringmasterElect
  /-- ROLLCALL (R434). -/
  | rollcall (p : Fin 3) (epoch : Word)
  /-- REPORT (R434). -/
  | report (r : Report)
  /-- ROUTES_COMPUTE (R435). -/
  | routesCompute
  /-- ROUTES (R434). -/
  | routes (data : List Byte)
  /-- ROLLCALL_HOLD_EXPIRY (R434). -/
  | rollcallHoldExpiry
  /-- RC_CTL_START (R434). -/
  | rcCtlStart (m : Master)
  /-- SYNC (R439). -/
  | sync (wt : BitVec 64) (fw : Bool) (hops : BitVec 8)
  /-- DEMAND (R440). -/
  | demand (src : BitVec 8) (bays : List BayDemand) (site : Option Nat)
  /-- SHARE_DIVISION (R440). -/
  | shareDivision
  /-- SHARE (R441). -/
  | share (bays : List Nat) (cyc : Nat)
  /-- SHARE_TIMEOUT (R441). -/
  | shareTimeout
  /-- TXQ_WR_WRITE (R442). -/
  | txqWrWrite (m : Master) (w : Word)
  /-- YLR_KEY_WRITE (R432). -/
  | ylrKeyWrite (m : Master) (w : Word)
  /-- PAIR_PERIOD_START (R448). -/
  | pairPeriodStart (tokI : Bool)
  /-- HEARTBEAT (R452). -/
  | heartbeat (st : Fin 8) (unit tok : Bool) (flags : BitVec 2) (fail : BitVec 16) (seq : Word) (phase : BitVec 16)
  /-- HEARTBEAT_MISSED (R453). -/
  | heartbeatMissed
  /-- TAKEOVER_GUARD_END (R453). -/
  | takeoverGuardEnd (tokI : Bool)
  /-- PAIR_START_WAIT_EXPIRY (R450). -/
  | pairStartWaitExpiry (tokI : Bool)
  /-- TOKEN_RACE (R454). -/
  | tokenRace (stays : Bool)
  /-- RESIGN (R461). -/
  | resign (cause : BitVec 8)
  /-- RESIGN_RECEIVED (R453). -/
  | resignReceived (reason item : BitVec 8)
  /-- DEFERRED_RESIGN (R462). -/
  | deferredResign
  /-- TAKEOVER (R463). -/
  | takeover
  /-- SESSION (R452). -/
  | session (n : Bay) (v : PairSess)
  /-- LEDGER (R456). -/
  | ledger (r : PairRec)
  /-- OUTPUT (R452). -/
  | output (n : Bay) (drv : BitVec 3) (pre : Bool) (mode : BitVec 2) (duty : BitVec 10)
  /-- PAIR_MARK (R452). -/
  | pairMark (mark : WheelMark)
  /-- CROSS_CHECK (R457). -/
  | crossCheck (minute : Nat) (pages : List (Nat × Nat × Nat × Nat)) (late : Bool)
  /-- STANDBY_REPORT (R459). -/
  | standbyReport (card : List (Nat × Nat)) (eligible : Bool)
  /-- HANDOVER (R466). -/
  | handover (ack : Option (BitVec 16))
  /-- SYNC_BLOCK (R465). -/
  | syncBlock (progress : BitVec 7) (r : List PairRec)
  /-- PAIR_SYNC_COMPLETE (R465). -/
  | pairSyncComplete
  /-- PAIR_STATUS (R467). -/
  | pairStatus
  /-- PAIR_HANDOVER (R466). -/
  | pairHandover (w : Master ⊕ Req)
  /-- PAIR_REJOIN (R450). -/
  | pairRejoin (w : Master ⊕ Req)
  /-- PAIR_KEY (R449). -/
  | pairKey (q : Req) (blob : List Byte)
  /-- WRITE_MSG (R470). -/
  | writeMsg (h : HmpMsg)
  /-- READ_MSG (R470). -/
  | readMsg (whole : Bool)
  /-- REG_READ (R480). -/
  | regRead (a : Word) (whole : Bool)
  /-- REG_WRITE (R480). -/
  | regWrite (a w : Word) (whole : Bool)
  /-- SPI_STAT (R470). -/
  | spiStat (whole : Bool)
  /-- ETH_DATAGRAM_RX (R471). -/
  | ethDatagramRx (fcs : Bool) (dst : EthDst) (f : EthFrame)
  /-- SYS_INFO (R479). -/
  | sysInfo (q : Req)
  /-- SYS_EXPERT (R479). -/
  | sysExpert (q : Req) (v : BitVec 8)
  /-- SYS_ECHO (R479). -/
  | sysEcho (q : Req) (data : List Byte)
  /-- FW_READY (R481). -/
  | fwReady (m : Master)
  /-- MDIO_ACCESS (R483). -/
  | mdioAccess (m : Master) (w : Word)
  /-- PHY_LINK_POLL (R483). -/
  | phyLinkPoll (up refclk : Bool)
  /-- UPD_BEGIN (R487). -/
  | updBegin (q : Req) (hdr : List Byte) (sigV : Bool) (sigO : Option Bool)
  /-- UPD_BLOCK (R488). -/
  | updBlock (q : Req) (img : BitVec 8) (ofs crc : Word) (data : List Byte)
  /-- UPD_STATUS (R485). -/
  | updStatus (q : Req) (img : BitVec 8) (first : BitVec 16)
  /-- UPD_END (R490). -/
  | updEnd (q : Req) (img : BitVec 8)
  /-- RECONSTRUCTION_DONE (R490). -/
  | reconstructionDone
  /-- UPD_APPLY (R492). -/
  | updApply (q : Req) (bundle : Word)
  /-- UPD_CANCEL (R499). -/
  | updCancel (q : Req) (bundle : Word)
  /-- UPDATE_STEP_SWITCH (R493). -/
  | updateStepSwitch
  /-- CONFIRM (R493). -/
  | confirm (m : Master)
  /-- UPDATE_REVERT (R495). -/
  | updateRevert
  /-- ROLLBACK_RETRY (R496). -/
  | rollbackRetry (busy : Bool)
  /-- SUPPLY_LEVEL_ENTER (R509). -/
  | supplyLevelEnter (lvl : Fin 3) (vsup : BitVec 16)
  /-- SUPPLY_LEVEL_LEAVE (R509). -/
  | supplyLevelLeave (lvl : Fin 3) (vsup : BitVec 16)
  /-- SHED_STOP_TIMEOUT (R151). -/
  | shedStopTimeout (n : Bay)
  /-- THERMAL_LEVEL_CHANGE (R511). -/
  | thermalLevelChange (s : Vector (BitVec 12) 4) (tvb : BitVec 12)
  /-- THERMAL_SHUTDOWN (R511). -/
  | thermalShutdown (c : CycleData)
  /-- SUPPLY_MONITOR (R503). -/
  | supplyMonitor (vsup vsense vls vbat i33 icore : BitVec 16)
  /-- HOLDUP_ENTRY (R513). -/
  | holdupEntry (vsup vsense : BitVec 16) (c : CycleData)
  /-- HOLDUP_STEP_ADVANCE (R514). -/
  | holdupStepAdvance (dur vend : BitVec 16)
  /-- SUPPLY_RETURN_RESET (R515). -/
  | supplyReturnReset (vsup vsense : BitVec 16)
  /-- GPIO_SET (R541). -/
  | gpioSet (m : Master) (w : Word)
  /-- GPIO_CLR (R541). -/
  | gpioClr (m : Master) (w : Word)
  /-- GPIO_TGL (R541). -/
  | gpioTgl (m : Master) (w : Word)
  /-- GPIO_EDGE (R541). -/
  | gpioEdge (k : Fin 16) (level : Bool)
  /-- SAR_SEQUENCE_START (R542). -/
  | sarSequenceStart (m : Master) (mask : BitVec 4)
  /-- SAR_SEQUENCE_DONE (R542). -/
  | sarSequenceDone (vals : List SarEntry)
  /-- RESULT_READ (R542). -/
  | resultRead (m : Master) (c : Fin 18)
  /-- UART_TX_PUSH (R544). -/
  | uartTxPush (m : Master) (k : Fin 4) (c : Byte)
  /-- UART_RX_POP (R544). -/
  | uartRxPop (m : Master) (k : Fin 4)
  /-- UART_CHAR_RX (R544). -/
  | uartCharRx (k : Fin 4) (c : Byte) (pe fe brk : Bool)
  /-- UART_RX_TIMEOUT (R544). -/
  | uartRxTimeout (k : Fin 4)
  /-- TX_FLUSH (R545). -/
  | txFlush (m : Master) (k : Fin 4)
  /-- RX_FLUSH (R545). -/
  | rxFlush (m : Master) (k : Fin 4)
  /-- I2C_GO (R546). -/
  | i2cGo (m : Master) (n : Fin 2) (w : Word)
  /-- I2C_TRANSFER_END (R546). -/
  | i2cTransferEnd (n : Fin 2) (e : I2cEnd)
  /-- I2C_TIMEOUT (R546). -/
  | i2cTimeout (n : Fin 2)
  /-- RECOVER (R546). -/
  | recover (m : Master) (n : Fin 2)
  /-- OSPI_CMD_GO (R548). -/
  | ospiCmdGo (m : Master) (w : Word)
  /-- OSPI_WINDOW_WRITE (R549). -/
  | ospiWindowWrite (m : Master) (a : BitVec 28) (data : List Byte)
  /-- FLUSH (R549). -/
  | flush (m : Master)
  /-- PAGE_BUFFER_TIMEOUT (R549). -/
  | pageBufferTimeout
  /-- PROGRAM_DONE (R549). -/
  | programDone
  /-- PROGRAM_STALL_TIMEOUT (R549). -/
  | programStallTimeout
  /-- FRAME_LOOP_TEST (R524). -/
  | frameLoopTest (n : Bay) (t1s : Bool) (pass : Bool)
  /-- SCRUB_TEST (R524). -/
  | scrubTest (pass : Bool)
  /-- LINEARITY_SWEEP (R524). -/
  | linearitySweep (pass : Bool)
  /-- TRNG_CHARACTERISATION (R524). -/
  | trngCharacterisation (pass : Bool)
  /-- TEST_RUN (R529). -/
  | testRun (q : Req) (page : Word) (id : BitVec 8) (now : Bool)
  /-- LOOP_SET (R529). -/
  | loopSet (q : Req) (page : Word) (depth : BitVec 8) (en : Bool)
  /-- MESH_CHECK (R330). -/
  | meshCheck (ok : Bool)
  /-- TAMPER_INPUT_LEAVE (R326). -/
  | tamperInputLeave (k : Fin 4)
  /-- XT32_STOP (R307). -/
  | xt32Stop
  /-- THERMAL_SHUTDOWN_END (R511). -/
  | thermalShutdownEnd (tj : BitVec 12)
  /-- CP_PWM_PERIOD (R128). -/
  | cpPwmPeriod (n : Bay) (samples : List (BitVec 12))
  /-- PLC_LINK_DOWN (R178). -/
  | plcLinkDown (n : Bay)
  /-- PLCA_STATUS_CHANGE (R179). -/
  | plcaStatusChange (n : Bay) (up : Bool)
  /-- UART_CHAR_TX (R544). -/
  | uartCharTx (k : Fin 4)
  /-- OSPI_CMD_DONE (R548). -/
  | ospiCmdDone (data : List Byte)
  /-- MDIO_DONE (R483). -/
  | mdioDone (data : BitVec 16)
  /-- HELLO_PERIOD (R426). -/
  | helloPeriod
  /-- BEACON_PERIOD (R433). -/
  | beaconPeriod
  /-- SESSION_PERIOD (R452). -/
  | sessionPeriod
deriving DecidableEq, Repr

end Sys2Proof
end

