-- ==== Sys2Proof/Decode.lean ====
section
/-!
DEFINITION. Reading a command from a table word. spec/opcode_table.json gives none of its rows bits: the part is driven by
register accesses, messages and events, not by an instruction word. No word spells a command.
-/
namespace Sys2Proof

/-- The command that a word of the table spells: none, since no row has bits. -/
def decodeTableWord (_nbits _w : Nat) : Option Instr := none

end Sys2Proof
end

