-- ==== Sys2Proof/Config.lean ====
section
/-!
DEFINITION. What the spec leaves to an implementation or to an engine whose inside it does not give: constants with no
body. Nothing can be proved of their values; a statement about them holds for every value (assumptions 5 to 9).
-/
namespace Sys2Proof

/-- A value the spec leaves open: the n-th one the machine uses (assumption 5). -/
opaque Config.freeValue : Nat → Nat

/-- The pool's delay of a path by 1/256 samples (R84, R86), and the engine's by ns (R103): the filters are not given. Delay, the samples
up to the present cycle's end, index: the delayed sample in counts. -/
opaque Config.poolDelay : Nat → List Int → Nat → Int
opaque Config.engineDelay : Int → List Int → Nat → Int

/-- Coefficients of the resampler (R109), by phase 0 to 1,024 and tap 0 to 63, in units of 2^-30: they are not given. -/
opaque Config.resampleTap : Nat → Nat → Int

/-- RDS(on) of a load-switch channel at a temperature in 0.1 °C, in µΩ: the spec gives two points of it (R394, R402). -/
opaque Config.rdsOn : Nat → Int → Nat

/-- CRC32 of the built-in session table images, DEF_AC (false) and DEF_DC (true): fixed for a bay engine ROM (R566). -/
opaque Config.defTableCrc : Bool → Word

/-- The boot ROM's bytes (R23): its contents are not given. -/
opaque Config.bootRom : Nat → Byte

/-- CRC-32 of an adopted safety configuration: the byte order it runs over is not given (R249). -/
opaque Config.safCfgCrc : List Nat → Word

/-- SHA-384 of the legal ROM, by byte (R300): the ROM's contents are not given. -/
opaque Config.legalRomHash : Nat → Byte

/-- Version of the legal image (R323). -/
opaque Config.legalRomVer : Word

/-- SHA-384 of the APP image of a version, by byte (R321). -/
opaque Config.appImageHash : Nat → Nat → Byte

/-- First 8 bytes of SHA-256 over the public key that signs receipts (R312), by byte: the key is not given. -/
opaque Config.receiptKid : Nat → Byte

/-- The same of an operator key in an N variant (R321), by the key's blob and byte. -/
opaque Config.operatorKid : List Byte → Nat → Byte

/-- SHA-384 of the images a part was made with, by slot and byte (R345): their bytes are not given. -/
opaque Config.imageHash : Nat → Nat → Byte

/-- SHA-384 of the fuse map, by byte (R345): its layout is not given. -/
opaque Config.fuseHash : Nat → Byte

/-- Public keys of slots 0 to 2 by slot, UID, root generation and byte (R333, R334): the root secret is not given. -/
opaque Config.deviceKey : Nat → Nat → Nat → Nat → Byte

/-- USAGE codes of slots 0 to 2 (R334): R335 gives codes to the other usages only. -/
opaque Config.deviceUsage : Nat → Nat

/-- Certificates of slots 0 to 2, by slot and byte (R334, R349), and their lengths. -/
opaque Config.certificate : Nat → Nat → Byte
opaque Config.certificateLen : Nat → Nat

/-- Public key that belongs to a key blob, by byte (R335): the key-encryption key is not given. -/
opaque Config.blobKey : List Byte → Nat → Byte

/-- AES-CMAC under the key of a blob, over data, by byte (R337): the key is not given. -/
opaque Config.blobCmac : List Byte → List Byte → Nat → Byte

/-- A byte of the AES-128-CMAC over a message under the key that a blob brings (R431): the key never leaves the vault. -/
opaque Config.fabricTag : List Byte → List Byte → Nat → Byte

/-- NID of a network key (R157): the HomePlug rule is not given. -/
opaque Config.networkId : Nat → Nat

/-- Originality signature of a part, by UID, variant code and byte (R364). -/
opaque Config.originality : Nat → Nat → Nat → Byte

/-- Fixed PUPI of a part's witness tag, by UID (R357). -/
opaque Config.pupi : Nat → Word

end Sys2Proof
end

