-- ==== Sys2Proof/Machine/Regs.lean ====
section
/-!
DEFINITION. The register map of every page, from the register tables of the spec's chapters (R36, R37 and the table
rule named at each page): one name per register (its offset in the window at 0x4000_0000), one per field,
one per event bit, and per page type the table of writable bits, reset values and ranges.
-/
namespace Sys2Proof.Machine

/-- A field of a register: the register's offset in the page window, the lowest bit, the width. -/
structure Fld where
  reg : Nat
  lo : Nat
  w : Nat
deriving DecidableEq, Repr

/-- One row of a page's register table: page offset, stride and count of an array of registers, the bits of each
access code of R11, the reset words and the ranges (low bit, width, least, greatest). -/
structure RegRow where
  off : Nat
  stride : Nat
  count : Nat
  rw : Nat
  w1c : Nat
  w1s : Nat
  wo : Nat
  rwl : Nat
  rwe : Nat
  ro : Nat
  reset : List Nat
  range : List (Nat × Nat × Nat × Nat)
deriving DecidableEq, Repr

/-! ### SYS page (R517) -/

/-- Offset of the SYS page in the page window (R36). -/
def SYS.page : Nat := 0x0
def SYS.ev_FW_VIOL : Nat := 0
def SYS.ev_ECC : Nat := 1
def SYS.ev_DOMAIN_RESET : Nat := 2
def SYS.VARIANT : Nat := SYS.page + 0x040
def SYS.UID_LO : Nat := SYS.page + 0x044
def SYS.UID_HI : Nat := SYS.page + 0x048
def SYS.STAT : Nat := SYS.page + 0x04C
def SYS.STAT_BOOT_DONE : Fld := ⟨SYS.STAT, 0, 1⟩
def SYS.STAT_RECOVERY : Fld := ⟨SYS.STAT, 1, 1⟩
def SYS.STAT_IMG_FAIL : Fld := ⟨SYS.STAT, 4, 3⟩
def SYS.STAT_BANK_FALLBACK : Fld := ⟨SYS.STAT, 7, 1⟩
def SYS.BANKSEL : Nat := SYS.page + 0x050
def SYS.BANKSEL_SEL : Fld := ⟨SYS.BANKSEL, 0, 5⟩
def SYS.EXPERT_EN : Nat := SYS.page + 0x054
def SYS.EXPERT_EN_EN : Fld := ⟨SYS.EXPERT_EN, 0, 1⟩
def SYS.WDT : Nat := SYS.page + 0x058
def SYS.WDT_TIMEOUT : Fld := ⟨SYS.WDT, 0, 10⟩
def SYS.WDT_EN : Fld := ⟨SYS.WDT, 16, 1⟩
def SYS.WDT_KICK : Nat := SYS.page + 0x05C
def SYS.WDT_KICK_KICK : Fld := ⟨SYS.WDT_KICK, 0, 1⟩
def SYS.RST_CAUSE : Nat := SYS.page + 0x060
def SYS.RST_CAUSE_CHIP : Fld := ⟨SYS.RST_CAUSE, 0, 4⟩
def SYS.RST_CAUSE_COUNT : Fld := ⟨SYS.RST_CAUSE, 16, 16⟩
def SYS.DRST : Nat := SYS.page + 0x064
def SYS.DRST_APP : Fld := ⟨SYS.DRST, 0, 1⟩
def SYS.DRST_SAF : Fld := ⟨SYS.DRST, 1, 1⟩
def SYS.DRST_LGL : Fld := ⟨SYS.DRST, 2, 1⟩
def SYS.DRST_VLT : Fld := ⟨SYS.DRST, 3, 1⟩
def SYS.DRST_CNT : Nat := SYS.page + 0x068
def SYS.DRST_CNT_CNT0 : Fld := ⟨SYS.DRST_CNT, 0, 8⟩
def SYS.DRST_CNT_CNT1 : Fld := ⟨SYS.DRST_CNT, 8, 8⟩
def SYS.DRST_CNT_CNT2 : Fld := ⟨SYS.DRST_CNT, 16, 8⟩
def SYS.DRST_CNT_CNT3 : Fld := ⟨SYS.DRST_CNT, 24, 8⟩
def SYS.CRST : Nat := SYS.page + 0x06C
def SYS.CRST_KEY : Fld := ⟨SYS.CRST, 0, 16⟩
def SYS.CRST_FORCE : Fld := ⟨SYS.CRST, 31, 1⟩
def SYS.FW_VIOL : Nat := SYS.page + 0x070
def SYS.FW_VIOL_MASTER : Fld := ⟨SYS.FW_VIOL, 0, 4⟩
def SYS.FW_VIOL_CLR : Fld := ⟨SYS.FW_VIOL, 8, 1⟩
def SYS.FW_VIOL_COUNT : Fld := ⟨SYS.FW_VIOL, 16, 16⟩
def SYS.FW_ADDR : Nat := SYS.page + 0x074
def SYS.ECC_CNT : Nat := SYS.page + 0x078
def SYS.ECC_CNT_COR : Fld := ⟨SYS.ECC_CNT, 0, 16⟩
def SYS.ECC_CNT_UNCOR : Fld := ⟨SYS.ECC_CNT, 16, 16⟩
def SYS.BOOTVER : Nat := SYS.page + 0x07C
/-- The register table of the SYS page (R517). -/
def SYS.table : List RegRow := [
  ⟨0x040, 0, 1, 0, 0, 0, 0, 0, 0, 0xFFFFFFFF, [], []⟩,
  ⟨0x044, 0, 1, 0, 0, 0, 0, 0, 0, 0xFFFFFFFF, [], []⟩,
  ⟨0x048, 0, 1, 0, 0, 0, 0, 0, 0, 0xFFFFFFFF, [], []⟩,
  ⟨0x04C, 0, 1, 0, 0, 0, 0, 0, 0, 0xF3, [], []⟩,
  ⟨0x050, 0, 1, 0, 0, 0, 0, 0, 0, 0x1F, [], []⟩,
  ⟨0x054, 0, 1, 0x1, 0, 0, 0, 0, 0, 0, [], []⟩,
  ⟨0x058, 0, 1, 0x3FF, 0, 0, 0, 0x10000, 0, 0, [0x100C8], [(0, 10, 10, 1000)]⟩,
  ⟨0x05C, 0, 1, 0, 0, 0x1, 0, 0, 0, 0, [], []⟩,
  ⟨0x060, 0, 1, 0, 0, 0, 0, 0, 0, 0xFFFF000F, [0x10001], []⟩,
  ⟨0x064, 0, 1, 0, 0, 0xF, 0, 0, 0, 0, [], []⟩,
  ⟨0x068, 0, 1, 0, 0, 0, 0, 0, 0, 0xFFFFFFFF, [], []⟩,
  ⟨0x06C, 0, 1, 0, 0, 0, 0x8000FFFF, 0, 0, 0, [], []⟩,
  ⟨0x070, 0, 1, 0, 0, 0x100, 0, 0, 0, 0xFFFF000F, [], []⟩,
  ⟨0x074, 0, 1, 0, 0, 0, 0, 0, 0, 0xFFFFFFFF, [], []⟩,
  ⟨0x078, 0, 1, 0, 0, 0, 0, 0, 0, 0xFFFFFFFF, [], []⟩,
  ⟨0x07C, 0, 1, 0, 0, 0, 0, 0, 0, 0xFFFFFFFF, [], []⟩]

/-! ### CLK page (R517) -/

/-- Offset of the CLK page in the page window (R36). -/
def CLK.page : Nat := 0x1000
def CLK.ev_FAULT : Nat := 0
def CLK.ev_RECOVERED : Nat := 1
def CLK.STAT : Nat := CLK.page + 0x040
def CLK.STAT_XTAL_OK : Fld := ⟨CLK.STAT, 0, 1⟩
def CLK.STAT_SYS_LOCK : Fld := ⟨CLK.STAT, 1, 1⟩
def CLK.STAT_PLC_LOCK : Fld := ⟨CLK.STAT, 2, 1⟩
def CLK.STAT_ADC_LOCK : Fld := ⟨CLK.STAT, 3, 1⟩
def CLK.STAT_BACKUP : Fld := ⟨CLK.STAT, 4, 1⟩
def CLK.STAT_XT32_OK : Fld := ⟨CLK.STAT, 5, 1⟩
def CLK.STAT_RC_OK : Fld := ⟨CLK.STAT, 6, 1⟩
def CLK.FAULT : Nat := CLK.page + 0x044
def CLK.FAULT_LOST : Fld := ⟨CLK.FAULT, 0, 7⟩
def CLK.FAULT_COUNT : Fld := ⟨CLK.FAULT, 16, 16⟩
def CLK.APPCLK : Nat := CLK.page + 0x048
def CLK.APPCLK_HALF : Fld := ⟨CLK.APPCLK, 0, 1⟩
/-- The register table of the CLK page (R517). -/
def CLK.table : List RegRow := [
  ⟨0x040, 0, 1, 0, 0, 0, 0, 0, 0, 0x7F, [0x10], []⟩,
  ⟨0x044, 0, 1, 0, 0x7F, 0, 0, 0, 0, 0xFFFF0000, [], []⟩,
  ⟨0x048, 0, 1, 0, 0, 0, 0, 0, 0, 0x1, [], []⟩]

/-! ### PWR page (R517) -/

/-- Offset of the PWR page in the page window (R36). -/
def PWR.page : Nat := 0x2000
def PWR.ev_LEVEL : Nat := 0
def PWR.ev_HOLDUP : Nat := 1
def PWR.ev_THERM : Nat := 2
def PWR.ev_VLS_LOW : Nat := 3
def PWR.ev_VBAT_LOW : Nat := 4
def PWR.CFG : Nat := PWR.page + 0x040
def PWR.CFG_NOM : Fld := ⟨PWR.CFG, 0, 1⟩
def PWR.CFG_VSENSE_EN : Fld := ⟨PWR.CFG, 1, 1⟩
def PWR.STAT : Nat := PWR.page + 0x044
def PWR.STAT_LEVEL : Fld := ⟨PWR.STAT, 0, 3⟩
def PWR.STAT_SUP_LVL : Fld := ⟨PWR.STAT, 4, 3⟩
def PWR.STAT_THERM_LVL : Fld := ⟨PWR.STAT, 8, 2⟩
def PWR.STAT_VSENSE_OK : Fld := ⟨PWR.STAT, 12, 1⟩
def PWR.STAT_HOLDUP : Fld := ⟨PWR.STAT, 13, 1⟩
def PWR.STAT_HU_STEP : Fld := ⟨PWR.STAT, 16, 3⟩
def PWR.STAT_VLS_LOW : Fld := ⟨PWR.STAT, 20, 1⟩
def PWR.STAT_VBAT_LOW : Fld := ⟨PWR.STAT, 21, 1⟩
def PWR.VSUP : Nat := PWR.page + 0x048
def PWR.VSUP_VSUP : Fld := ⟨PWR.VSUP, 0, 16⟩
def PWR.VSUP_VSENSE : Fld := ⟨PWR.VSUP, 16, 16⟩
def PWR.VAUX : Nat := PWR.page + 0x04C
def PWR.VAUX_VLS : Fld := ⟨PWR.VAUX, 0, 16⟩
def PWR.VAUX_VBAT : Fld := ⟨PWR.VAUX, 16, 16⟩
def PWR.ILOAD : Nat := PWR.page + 0x050
def PWR.ILOAD_I33 : Fld := ⟨PWR.ILOAD, 0, 16⟩
def PWR.ILOAD_ICORE : Fld := ⟨PWR.ILOAD, 16, 16⟩
def PWR.LVL_CNT : Nat := PWR.page + 0x054
def PWR.LVL_CNT_L1 : Fld := ⟨PWR.LVL_CNT, 0, 8⟩
def PWR.LVL_CNT_L2 : Fld := ⟨PWR.LVL_CNT, 8, 8⟩
def PWR.LVL_CNT_L3 : Fld := ⟨PWR.LVL_CNT, 16, 8⟩
def PWR.LVL_CNT_HU : Fld := ⟨PWR.LVL_CNT, 24, 8⟩
def PWR.HU_LAST : Nat := PWR.page + 0x058
def PWR.HU_LAST_DUR : Fld := ⟨PWR.HU_LAST, 0, 16⟩
def PWR.HU_LAST_VEND : Fld := ⟨PWR.HU_LAST, 16, 16⟩
def PWR.THR : Nat := PWR.page + 0x400
def PWR.THR_L1 : Fld := ⟨PWR.THR, 0, 8⟩
def PWR.THR_L2 : Fld := ⟨PWR.THR, 8, 8⟩
def PWR.THR_L3 : Fld := ⟨PWR.THR, 16, 8⟩
def PWR.THR_HYST : Fld := ⟨PWR.THR, 24, 8⟩
def PWR.VSENSE_CFG : Nat := PWR.page + 0x404
def PWR.VSENSE_CFG_LOSS : Fld := ⟨PWR.VSENSE_CFG, 0, 8⟩
def PWR.VSENSE_CFG_FILT : Fld := ⟨PWR.VSENSE_CFG, 8, 16⟩
/-- The register table of the PWR page (R517). -/
def PWR.table : List RegRow := [
  ⟨0x040, 0, 1, 0, 0, 0, 0, 0x3, 0, 0, [0x2], []⟩,
  ⟨0x044, 0, 1, 0, 0, 0, 0, 0, 0, 0x373377, [], []⟩,
  ⟨0x048, 0, 1, 0, 0, 0, 0, 0, 0, 0xFFFFFFFF, [], []⟩,
  ⟨0x04C, 0, 1, 0, 0, 0, 0, 0, 0, 0xFFFFFFFF, [], []⟩,
  ⟨0x050, 0, 1, 0, 0, 0, 0, 0, 0, 0xFFFFFFFF, [], []⟩,
  ⟨0x054, 0, 1, 0, 0, 0, 0, 0, 0, 0xFFFFFFFF, [], []⟩,
  ⟨0x058, 0, 1, 0, 0, 0, 0, 0, 0, 0xFFFFFFFF, [], []⟩,
  ⟨0x400, 0, 1, 0, 0, 0, 0, 0, 0xFFFFFFFF, 0, [0x5414B55], []⟩,
  ⟨0x404, 0, 1, 0, 0, 0, 0, 0, 0xFFFFFF, 0, [0x643C], [(0, 8, 55, 80), (8, 16, 20, 1000)]⟩]

/-! ### TSEN page (R517) -/

/-- Offset of the TSEN page in the page window (R36). -/
def TSEN.page : Nat := 0x3000
def TSEN.ev_T140 : Nat := 0
def TSEN.ev_T147 : Nat := 1
def TSEN.ev_CLEAR : Nat := 2
def TSEN.ev_SENSOR : Nat := 3
def TSEN.TJ : Nat := TSEN.page + 0x040
def TSEN.TJ_TJ : Fld := ⟨TSEN.TJ, 0, 12⟩
def TSEN.S (k : Nat) : Nat := TSEN.page + 0x044 + 0x4 * k
def TSEN.S_T (k : Nat) : Fld := ⟨TSEN.S k, 0, 12⟩
def TSEN.S_VALID (k : Nat) : Fld := ⟨TSEN.S k, 15, 1⟩
def TSEN.TVB : Nat := TSEN.page + 0x054
def TSEN.TVB_T : Fld := ⟨TSEN.TVB, 0, 12⟩
def TSEN.STAT : Nat := TSEN.page + 0x058
def TSEN.STAT_HOT140 : Fld := ⟨TSEN.STAT, 0, 1⟩
def TSEN.STAT_HOT147 : Fld := ⟨TSEN.STAT, 1, 1⟩
def TSEN.STAT_SHUTDOWN : Fld := ⟨TSEN.STAT, 2, 1⟩
def TSEN.STAT_INVALID : Fld := ⟨TSEN.STAT, 4, 4⟩
def TSEN.TMAX : Nat := TSEN.page + 0x05C
def TSEN.TMAX_T : Fld := ⟨TSEN.TMAX, 0, 12⟩
/-- The register table of the TSEN page (R517). -/
def TSEN.table : List RegRow := [
  ⟨0x040, 0, 1, 0, 0, 0, 0, 0, 0, 0xFFF, [], []⟩,
  ⟨0x044, 0x4, 4, 0, 0, 0, 0, 0, 0, 0x8FFF, [], []⟩,
  ⟨0x054, 0, 1, 0, 0, 0, 0, 0, 0, 0xFFF, [], []⟩,
  ⟨0x058, 0, 1, 0, 0, 0, 0, 0, 0, 0xF7, [], []⟩,
  ⟨0x05C, 0, 1, 0, 0, 0, 0, 0, 0, 0xFFF, [], []⟩]

/-! ### RTC page (R325) -/

/-- Offset of the RTC page in the page window (R36). -/
def RTC.page : Nat := 0x4000
def RTC.ev_SECOND : Nat := 0
def RTC.ev_ALARM : Nat := 1
def RTC.ev_CI : Nat := 2
def RTC.ev_SLEW_DONE : Nat := 3
def RTC.STAT : Nat := RTC.page + 0x040
def RTC.STAT_XT32_OK : Fld := ⟨RTC.STAT, 0, 1⟩
def RTC.STAT_CI : Fld := ⟨RTC.STAT, 1, 1⟩
def RTC.STAT_SLEWING : Fld := ⟨RTC.STAT, 2, 1⟩
def RTC.STAT_VBAT_RUN : Fld := ⟨RTC.STAT, 3, 1⟩
def RTC.SEC : Nat := RTC.page + 0x044
def RTC.MS : Nat := RTC.page + 0x048
def RTC.MS_MS : Fld := ⟨RTC.MS, 0, 10⟩
def RTC.SLEW_REM : Nat := RTC.page + 0x04C
def RTC.ALARM : Nat := RTC.page + 0x050
def RTC.ALARM_CTL : Nat := RTC.page + 0x054
def RTC.ALARM_CTL_EN : Fld := ⟨RTC.ALARM_CTL, 0, 1⟩
/-- The register table of the RTC page (R325). -/
def RTC.table : List RegRow := [
  ⟨0x040, 0, 1, 0, 0, 0, 0, 0, 0, 0xF, [], []⟩,
  ⟨0x044, 0, 1, 0, 0, 0, 0, 0, 0, 0xFFFFFFFF, [], []⟩,
  ⟨0x048, 0, 1, 0, 0, 0, 0, 0, 0, 0x3FF, [], []⟩,
  ⟨0x04C, 0, 1, 0, 0, 0, 0, 0, 0, 0xFFFFFFFF, [], []⟩,
  ⟨0x050, 0, 1, 0xFFFFFFFF, 0, 0, 0, 0, 0, 0, [], []⟩,
  ⟨0x054, 0, 1, 0x1, 0, 0, 0, 0, 0, 0, [], []⟩]

/-! ### TMP page (R326) -/

/-- Offset of the TMP page in the page window (R36). -/
def TMP.page : Nat := 0x5000
def TMP.ev_ENTER : Nat := 0
def TMP.ev_LEAVE : Nat := 1
def TMP.ev_MESH : Nat := 2
def TMP.STAT : Nat := TMP.page + 0x040
def TMP.STAT_LEVEL : Fld := ⟨TMP.STAT, 0, 4⟩
def TMP.STAT_EN : Fld := ⟨TMP.STAT, 4, 4⟩
def TMP.STAT_MESH_EN : Fld := ⟨TMP.STAT, 8, 1⟩
def TMP.STAT_MESH_OK : Fld := ⟨TMP.STAT, 9, 1⟩
def TMP.STAT_VMON : Fld := ⟨TMP.STAT, 10, 1⟩
def TMP.STAT_TMON : Fld := ⟨TMP.STAT, 11, 1⟩
def TMP.EVT : Nat := TMP.page + 0x044
def TMP.EVT_ENTER : Fld := ⟨TMP.EVT, 0, 4⟩
def TMP.EVT_LEAVE : Fld := ⟨TMP.EVT, 4, 4⟩
/-- The register table of the TMP page (R326). -/
def TMP.table : List RegRow := [
  ⟨0x040, 0, 1, 0, 0, 0, 0, 0, 0, 0xFFF, [], []⟩,
  ⟨0x044, 0, 1, 0, 0xFF, 0, 0, 0, 0, 0, [], []⟩]

/-! ### CAR page (R75) -/

/-- Offset of the CAR page in the page window (R36). -/
def CAR.page : Nat := 0x6000
def CAR.ev_LOCK : Nat := 0
def CAR.ev_FREEWHEEL : Nat := 1
def CAR.ev_SEAT : Nat := 2
def CAR.ev_LATE : Nat := 3
def CAR.ev_RTC_CAP : Nat := 4
def CAR.ev_BOUNDARY : Nat := 5
def CAR.ev_STEP : Nat := 6
def CAR.CFG : Nat := CAR.page + 0x040
def CAR.CFG_SRC_MET : Fld := ⟨CAR.CFG, 0, 3⟩
def CAR.CFG_SRC_PH : Fld := ⟨CAR.CFG, 4, 2⟩
def CAR.CFG_NOMINAL : Fld := ⟨CAR.CFG, 8, 1⟩
def CAR.CFG_SRC_MIN : Fld := ⟨CAR.CFG, 12, 4⟩
def CAR.CFG_QUIET_STEP : Fld := ⟨CAR.CFG, 16, 1⟩
def CAR.STAT : Nat := CAR.page + 0x044
def CAR.STAT_LOCKED : Fld := ⟨CAR.STAT, 0, 1⟩
def CAR.STAT_FREEWHEEL : Fld := ⟨CAR.STAT, 1, 1⟩
def CAR.STAT_ACQUIRE : Fld := ⟨CAR.STAT, 2, 1⟩
def CAR.STAT_SRC_OK : Fld := ⟨CAR.STAT, 3, 1⟩
def CAR.STAT_OFS_NOM : Fld := ⟨CAR.STAT, 4, 1⟩
def CAR.STAT_STEPS : Fld := ⟨CAR.STAT, 8, 8⟩
def CAR.STAT_RELOCKS : Fld := ⟨CAR.STAT, 16, 16⟩
def CAR.FREQ : Nat := CAR.page + 0x048
def CAR.FREQ_FREQ : Fld := ⟨CAR.FREQ, 0, 17⟩
def CAR.FREQ_VALID : Fld := ⟨CAR.FREQ, 31, 1⟩
def CAR.PHERR : Nat := CAR.page + 0x04C
def CAR.PHERR_PHERR : Fld := ⟨CAR.PHERR, 0, 16⟩
def CAR.WT_LO : Nat := CAR.page + 0x050
def CAR.WT_LO_ANGLE : Fld := ⟨CAR.WT_LO, 0, 16⟩
def CAR.WT_LO_CYC_L : Fld := ⟨CAR.WT_LO, 16, 16⟩
def CAR.WT_HI : Nat := CAR.page + 0x054
def CAR.OFS (k : Nat) : Nat := CAR.page + 0x058 + 0x4 * k
def CAR.OFS_OFS (k : Nat) : Fld := ⟨CAR.OFS k, 0, 16⟩
def CAR.RTC_CAP_LO : Nat := CAR.page + 0x064
def CAR.RTC_CAP_HI : Nat := CAR.page + 0x068
def CAR.RTC_SEC : Nat := CAR.page + 0x06C
def CAR.BND_SEQ : Nat := CAR.page + 0x070
def CAR.BND_STAT : Nat := CAR.page + 0x074
def CAR.BND_STAT_PEND : Fld := ⟨CAR.BND_STAT, 0, 5⟩
def CAR.BND_STAT_BASE_VALID : Fld := ⟨CAR.BND_STAT, 8, 1⟩
def CAR.BND_STAT_OVF : Fld := ⟨CAR.BND_STAT, 9, 1⟩
def CAR.BND_WT_LO : Nat := CAR.page + 0x078
def CAR.BND_WT_HI : Nat := CAR.page + 0x07C
def CAR.SEAT_ARM (k : Nat) : Nat := CAR.page + 0x080 + 0x4 * k
def CAR.SEAT_CANCEL (k : Nat) : Nat := CAR.page + 0x088 + 0x4 * k
def CAR.SEAT_ACT (k : Nat) : Nat := CAR.page + 0x090 + 0x4 * k
def CAR.SEAT_FIRED (k : Nat) : Nat := CAR.page + 0x098 + 0x4 * k
def CAR.SEAT_LATE (k : Nat) : Nat := CAR.page + 0x0A0 + 0x4 * k
def CAR.SEAT_CTL (k : Nat) : Nat := CAR.page + 0x100 + 0xC * k
def CAR.SEAT_CTL_ANGLE (k : Nat) : Fld := ⟨CAR.SEAT_CTL k, 0, 16⟩
def CAR.SEAT_CTL_INST (k : Nat) : Fld := ⟨CAR.SEAT_CTL k, 16, 8⟩
def CAR.SEAT_CTL_ACTION (k : Nat) : Fld := ⟨CAR.SEAT_CTL k, 24, 6⟩
def CAR.SEAT_CTL_REF (k : Nat) : Fld := ⟨CAR.SEAT_CTL k, 30, 2⟩
def CAR.SEAT_START (k : Nat) : Nat := CAR.page + 0x104 + 0xC * k
def CAR.SEAT_SCHED (k : Nat) : Nat := CAR.page + 0x108 + 0xC * k
def CAR.SEAT_SCHED_START_HI (k : Nat) : Fld := ⟨CAR.SEAT_SCHED k, 0, 16⟩
def CAR.SEAT_SCHED_MODE_N (k : Nat) : Fld := ⟨CAR.SEAT_SCHED k, 16, 16⟩
def CAR.PLLCFG : Nat := CAR.page + 0x400
def CAR.PLLCFG_KP : Fld := ⟨CAR.PLLCFG, 0, 8⟩
def CAR.PLLCFG_KI : Fld := ⟨CAR.PLLCFG, 8, 8⟩
def CAR.PLLCFG_SLEW : Fld := ⟨CAR.PLLCFG, 16, 6⟩
/-- The register table of the CAR page (R75). -/
def CAR.table : List RegRow := [
  ⟨0x040, 0, 1, 0x1F137, 0, 0, 0, 0, 0, 0, [0x16004], [(0, 3, 0, 4), (4, 2, 0, 2)]⟩,
  ⟨0x044, 0, 1, 0, 0, 0, 0, 0, 0, 0xFFFFFF1F, [0x12], []⟩,
  ⟨0x048, 0, 1, 0, 0, 0, 0, 0, 0, 0x8001FFFF, [0xC350], []⟩,
  ⟨0x04C, 0, 1, 0, 0, 0, 0, 0, 0, 0xFFFF, [], []⟩,
  ⟨0x050, 0, 1, 0, 0, 0, 0, 0, 0, 0xFFFFFFFF, [], []⟩,
  ⟨0x054, 0, 1, 0, 0, 0, 0, 0, 0, 0xFFFFFFFF, [], []⟩,
  ⟨0x058, 0x4, 3, 0, 0, 0, 0, 0, 0, 0xFFFF, [0, 0x5555, 0xAAAB], []⟩,
  ⟨0x064, 0, 1, 0, 0, 0, 0, 0, 0, 0xFFFFFFFF, [], []⟩,
  ⟨0x068, 0, 1, 0, 0, 0, 0, 0, 0, 0xFFFFFFFF, [], []⟩,
  ⟨0x06C, 0, 1, 0, 0, 0, 0, 0, 0, 0xFFFFFFFF, [], []⟩,
  ⟨0x070, 0, 1, 0, 0, 0, 0, 0, 0, 0xFFFFFFFF, [], []⟩,
  ⟨0x074, 0, 1, 0, 0, 0, 0, 0, 0, 0x31F, [], []⟩,
  ⟨0x078, 0, 1, 0, 0, 0, 0, 0, 0, 0xFFFFFFFF, [], []⟩,
  ⟨0x07C, 0, 1, 0, 0, 0, 0, 0, 0, 0xFFFFFFFF, [], []⟩,
  ⟨0x080, 0x4, 2, 0, 0, 0xFFFFFFFF, 0, 0, 0, 0, [], []⟩,
  ⟨0x088, 0x4, 2, 0, 0, 0xFFFFFFFF, 0, 0, 0, 0, [], []⟩,
  ⟨0x090, 0x4, 2, 0, 0, 0, 0, 0, 0, 0xFFFFFFFF, [], []⟩,
  ⟨0x098, 0x4, 2, 0, 0xFFFFFFFF, 0, 0, 0, 0, 0, [], []⟩,
  ⟨0x0A0, 0x4, 2, 0, 0xFFFFFFFF, 0, 0, 0, 0, 0, [], []⟩,
  ⟨0x100, 0xC, 64, 0xFFFFFFFF, 0, 0, 0, 0, 0, 0, [], []⟩,
  ⟨0x104, 0xC, 64, 0xFFFFFFFF, 0, 0, 0, 0, 0, 0, [], []⟩,
  ⟨0x108, 0xC, 64, 0xFFFFFFFF, 0, 0, 0, 0, 0, 0, [], []⟩,
  ⟨0x400, 0, 1, 0, 0, 0, 0, 0, 0x3FFFFF, 0, [0x140420], [(16, 6, 1, 50)]⟩]

/-! ### TST page (R529) -/

/-- Offset of the TST page in the page window (R36). -/
def TST.page : Nat := 0x7000
def TST.ev_TEST_DONE : Nat := 0
def TST.ev_TEST_FAIL : Nat := 1
def TST.ev_ABANDONED : Nat := 2
def TST.STAT : Nat := TST.page + 0x040
def TST.STAT_PROD : Fld := ⟨TST.STAT, 0, 1⟩
def TST.STAT_FORCED_OK : Fld := ⟨TST.STAT, 1, 1⟩
def TST.STAT_QUEUED : Fld := ⟨TST.STAT, 8, 8⟩
def TST.STAT_RUNNING : Fld := ⟨TST.STAT, 16, 8⟩
def TST.STAT_LOOPS : Fld := ⟨TST.STAT, 24, 8⟩
def TST.QCFG : Nat := TST.page + 0x044
def TST.QCFG_TMO : Fld := ⟨TST.QCFG, 0, 8⟩
def TST.LAST0 : Nat := TST.page + 0x048
def TST.LAST0_TYPE : Fld := ⟨TST.LAST0, 0, 16⟩
def TST.LAST0_INST : Fld := ⟨TST.LAST0, 16, 8⟩
def TST.LAST0_TEST_ID : Fld := ⟨TST.LAST0, 24, 8⟩
def TST.LAST1 : Nat := TST.page + 0x04C
def TST.LAST1_PASS : Fld := ⟨TST.LAST1, 0, 1⟩
def TST.LAST1_FAIL : Fld := ⟨TST.LAST1, 1, 1⟩
def TST.LAST1_ABANDONED : Fld := ⟨TST.LAST1, 2, 1⟩
def TST.LAST1_CAUSE : Fld := ⟨TST.LAST1, 8, 8⟩
def TST.LAST1_DUR : Fld := ⟨TST.LAST1, 16, 16⟩
def TST.SCRUB : Nat := TST.page + 0x050
def TST.SCRUB_PASS_S : Fld := ⟨TST.SCRUB, 0, 16⟩
def TST.SCRUB_STAT : Nat := TST.page + 0x054
def TST.SCRUB_STAT_PASSES : Fld := ⟨TST.SCRUB_STAT, 0, 16⟩
def TST.SCRUB_STAT_AGE : Fld := ⟨TST.SCRUB_STAT, 16, 16⟩
/-- The register table of the TST page (R529). -/
def TST.table : List RegRow := [
  ⟨0x040, 0, 1, 0, 0, 0, 0, 0, 0, 0xFFFFFF03, [], []⟩,
  ⟨0x044, 0, 1, 0xFF, 0, 0, 0, 0, 0, 0, [0x18], [(0, 8, 1, 168)]⟩,
  ⟨0x048, 0, 1, 0, 0, 0, 0, 0, 0, 0xFFFFFFFF, [], []⟩,
  ⟨0x04C, 0, 1, 0, 0, 0, 0, 0, 0, 0xFFFFFF07, [], []⟩,
  ⟨0x050, 0, 1, 0xFFFF, 0, 0, 0, 0, 0, 0, [0x258], [(0, 16, 10, 3600)]⟩,
  ⟨0x054, 0, 1, 0, 0, 0, 0, 0, 0, 0xFFFFFFFF, [], []⟩]

/-! ### DMA page (R424) -/

/-- Offset of the DMA page in the page window (R36). -/
def DMA.page : Nat := 0x8000
def DMA.ev_ABORT : Nat := 0
def DMA.ev_CONFLICT : Nat := 1
def DMA.CH_ACT : Nat := DMA.page + 0x040
def DMA.CH_ACT_ACT : Fld := ⟨DMA.CH_ACT, 0, 16⟩
def DMA.CH_CLAIM : Nat := DMA.page + 0x044
def DMA.CH_CLAIM_CLAIM : Fld := ⟨DMA.CH_CLAIM, 0, 16⟩
def DMA.CH_DESC (k : Nat) : Nat := DMA.page + 0x100 + 0x20 * k
def DMA.CH_CTL (k : Nat) : Nat := DMA.page + 0x104 + 0x20 * k
def DMA.CH_CTL_PRIO (k : Nat) : Fld := ⟨DMA.CH_CTL k, 0, 2⟩
def DMA.CH_CTL_START (k : Nat) : Fld := ⟨DMA.CH_CTL k, 8, 1⟩
def DMA.CH_CTL_ABORT (k : Nat) : Fld := ⟨DMA.CH_CTL k, 9, 1⟩
def DMA.CH_CTL_IE_DONE (k : Nat) : Fld := ⟨DMA.CH_CTL k, 12, 1⟩
def DMA.CH_CTL_IE_DESC (k : Nat) : Fld := ⟨DMA.CH_CTL k, 13, 1⟩
def DMA.CH_CTL_IE_ABORT (k : Nat) : Fld := ⟨DMA.CH_CTL k, 14, 1⟩
def DMA.CH_STAT (k : Nat) : Nat := DMA.page + 0x108 + 0x20 * k
def DMA.CH_STAT_ACTIVE (k : Nat) : Fld := ⟨DMA.CH_STAT k, 0, 1⟩
def DMA.CH_STAT_DONE (k : Nat) : Fld := ⟨DMA.CH_STAT k, 1, 1⟩
def DMA.CH_STAT_DESC_END (k : Nat) : Fld := ⟨DMA.CH_STAT k, 2, 1⟩
def DMA.CH_STAT_ABORTED (k : Nat) : Fld := ⟨DMA.CH_STAT k, 3, 1⟩
def DMA.CH_STAT_CLAIMED (k : Nat) : Fld := ⟨DMA.CH_STAT k, 4, 1⟩
def DMA.CH_STAT_CONFLICT (k : Nat) : Fld := ⟨DMA.CH_STAT k, 5, 1⟩
def DMA.CH_STAT_START_LOST (k : Nat) : Fld := ⟨DMA.CH_STAT k, 6, 1⟩
def DMA.CH_STAT_WB_FAIL (k : Nat) : Fld := ⟨DMA.CH_STAT k, 7, 1⟩
def DMA.CH_STAT_CAUSE (k : Nat) : Fld := ⟨DMA.CH_STAT k, 8, 4⟩
def DMA.CH_STAT_CLAIMER (k : Nat) : Fld := ⟨DMA.CH_STAT k, 12, 4⟩
def DMA.CH_CUR (k : Nat) : Nat := DMA.page + 0x10C + 0x20 * k
def DMA.CH_REM (k : Nat) : Nat := DMA.page + 0x110 + 0x20 * k
def DMA.CH_REM_REM (k : Nat) : Fld := ⟨DMA.CH_REM k, 0, 24⟩
def DMA.CH_SADDR (k : Nat) : Nat := DMA.page + 0x114 + 0x20 * k
def DMA.CH_DADDR (k : Nat) : Nat := DMA.page + 0x118 + 0x20 * k
def DMA.CH_WB (k : Nat) : Nat := DMA.page + 0x11C + 0x20 * k
/-- The register table of the DMA page (R424). -/
def DMA.table : List RegRow := [
  ⟨0x040, 0, 1, 0, 0, 0, 0, 0, 0, 0xFFFF, [], []⟩,
  ⟨0x044, 0, 1, 0, 0, 0, 0, 0, 0, 0xFFFF, [], []⟩,
  ⟨0x100, 0x20, 16, 0xFFFFFFFF, 0, 0, 0, 0, 0, 0, [], []⟩,
  ⟨0x104, 0x20, 16, 0x7003, 0, 0x300, 0, 0, 0, 0, [], []⟩,
  ⟨0x108, 0x20, 16, 0, 0xCE, 0, 0, 0, 0, 0xFF31, [], []⟩,
  ⟨0x10C, 0x20, 16, 0, 0, 0, 0, 0, 0, 0xFFFFFFFF, [], []⟩,
  ⟨0x110, 0x20, 16, 0, 0, 0, 0, 0, 0, 0xFFFFFF, [], []⟩,
  ⟨0x114, 0x20, 16, 0, 0, 0, 0, 0, 0, 0xFFFFFFFF, [], []⟩,
  ⟨0x118, 0x20, 16, 0, 0, 0, 0, 0, 0, 0xFFFFFFFF, [], []⟩,
  ⟨0x11C, 0x20, 16, 0xFFFFFFFF, 0, 0, 0, 0, 0, 0, [], []⟩]

/-! ### UPD page (R500) -/

/-- Offset of the UPD page in the page window (R36). -/
def UPD.page : Nat := 0xA000
def UPD.ev_READY : Nat := 0
def UPD.ev_SWAPPED : Nat := 1
def UPD.ev_CONFIRMED : Nat := 2
def UPD.ev_REVERTED : Nat := 3
def UPD.ev_DONE : Nat := 4
def UPD.ev_FAILED : Nat := 5
def UPD.CFG : Nat := UPD.page + 0x040
def UPD.CFG_CSIG_REQ : Fld := ⟨UPD.CFG, 0, 1⟩
def UPD.CFG_STG_OSPI : Fld := ⟨UPD.CFG, 1, 1⟩
def UPD.CFG_ACTIVE_OK : Fld := ⟨UPD.CFG, 2, 1⟩
def UPD.CFG_CONFIRM_TMO : Fld := ⟨UPD.CFG, 8, 8⟩
def UPD.STG_BASE : Nat := UPD.page + 0x044
def UPD.STG_SIZE : Nat := UPD.page + 0x048
def UPD.STAT : Nat := UPD.page + 0x04C
def UPD.STAT_STATE : Fld := ⟨UPD.STAT, 0, 3⟩
def UPD.STAT_STEP : Fld := ⟨UPD.STAT, 4, 3⟩
def UPD.STAT_DOMAIN : Fld := ⟨UPD.STAT, 8, 3⟩
def UPD.STAT_WAIT_IDLE : Fld := ⟨UPD.STAT, 11, 1⟩
def UPD.STAT_REVERTED : Fld := ⟨UPD.STAT, 12, 1⟩
def UPD.STAT_PAUSED : Fld := ⟨UPD.STAT, 13, 1⟩
def UPD.STAT_TBL_HELD : Fld := ⟨UPD.STAT, 14, 1⟩
def UPD.STAT_CAUSE : Fld := ⟨UPD.STAT, 16, 8⟩
def UPD.BUNDLE : Nat := UPD.page + 0x050
def UPD.PROG : Nat := UPD.page + 0x054
def UPD.MISSING : Nat := UPD.page + 0x058
def UPD.MISSING_CNT : Fld := ⟨UPD.MISSING, 0, 16⟩
def UPD.CTL : Nat := UPD.page + 0x05C
def UPD.CTL_CONFIRM : Fld := ⟨UPD.CTL, 0, 1⟩
def UPD.REV : Nat := UPD.page + 0x060
def UPD.REV_DOMAIN : Fld := ⟨UPD.REV, 0, 3⟩
def UPD.REV_CAUSE : Fld := ⟨UPD.REV, 8, 8⟩
def UPD.TRIAL_REM : Nat := UPD.page + 0x064
def UPD.TRIAL_REM_MS : Fld := ⟨UPD.TRIAL_REM, 0, 16⟩
/-- The register table of the UPD page (R500). -/
def UPD.table : List RegRow := [
  ⟨0x040, 0, 1, 0xFF07, 0, 0, 0, 0, 0, 0, [0xA00], [(8, 8, 1, 60)]⟩,
  ⟨0x044, 0, 1, 0xFFFFFFFF, 0, 0, 0, 0, 0, 0, [0x20580000], []⟩,
  ⟨0x048, 0, 1, 0xFFFFFFFF, 0, 0, 0, 0, 0, 0, [0x200000], []⟩,
  ⟨0x04C, 0, 1, 0, 0, 0, 0, 0, 0, 0xFF7F77, [], []⟩,
  ⟨0x050, 0, 1, 0, 0, 0, 0, 0, 0, 0xFFFFFFFF, [], []⟩,
  ⟨0x054, 0, 1, 0, 0, 0, 0, 0, 0, 0xFFFFFFFF, [], []⟩,
  ⟨0x058, 0, 1, 0, 0, 0, 0, 0, 0, 0xFFFF, [], []⟩,
  ⟨0x05C, 0, 1, 0, 0, 0x1, 0, 0, 0, 0, [], []⟩,
  ⟨0x060, 0, 1, 0, 0, 0, 0, 0, 0, 0xFF07, [], []⟩,
  ⟨0x064, 0, 1, 0, 0, 0, 0, 0, 0, 0xFFFF, [], []⟩]

/-! ### HIF page (R482) -/

/-- Offset of the HIF page in the page window (R36). -/
def HIF.page : Nat := 0xB000
def HIF.ev_RX : Nat := 0
def HIF.ev_TX_EMPTY : Nat := 1
def HIF.ev_AUTH_FAIL : Nat := 2
def HIF.ev_OVF : Nat := 3
def HIF.ev_ETH_LINK : Nat := 4
def HIF.CFG : Nat := HIF.page + 0x040
def HIF.CFG_SPI_EN : Fld := ⟨HIF.CFG, 0, 1⟩
def HIF.CFG_QUAD : Fld := ⟨HIF.CFG, 1, 1⟩
def HIF.CFG_ETH_EN : Fld := ⟨HIF.CFG, 2, 1⟩
def HIF.ETH_PORT : Nat := HIF.page + 0x044
def HIF.ETH_PORT_PORT : Fld := ⟨HIF.ETH_PORT, 0, 16⟩
def HIF.STAT : Nat := HIF.page + 0x048
def HIF.STAT_FW_READY : Fld := ⟨HIF.STAT, 0, 1⟩
def HIF.STAT_ETH_LINK : Fld := ⟨HIF.STAT, 1, 1⟩
def HIF.STAT_SPI_RXQ : Fld := ⟨HIF.STAT, 8, 4⟩
def HIF.STAT_SPI_TXQ : Fld := ⟨HIF.STAT, 12, 5⟩
def HIF.STAT_ETH_RXQ : Fld := ⟨HIF.STAT, 20, 4⟩
def HIF.STAT_ETH_TXQ : Fld := ⟨HIF.STAT, 24, 5⟩
def HIF.CTL : Nat := HIF.page + 0x04C
def HIF.CTL_READY : Fld := ⟨HIF.CTL, 0, 1⟩
def HIF.CNT_AUTH : Nat := HIF.page + 0x050
def HIF.CNT_AUTH_AUTH_FAIL : Fld := ⟨HIF.CNT_AUTH, 0, 16⟩
def HIF.CNT_AUTH_REPLAY : Fld := ⟨HIF.CNT_AUTH, 16, 16⟩
def HIF.CNT_FRAME : Nat := HIF.page + 0x054
def HIF.CNT_FRAME_BAD_HDR : Fld := ⟨HIF.CNT_FRAME, 0, 16⟩
def HIF.CNT_FRAME_OVF : Fld := ⟨HIF.CNT_FRAME, 16, 16⟩
/-- The register table of the HIF page (R482). -/
def HIF.table : List RegRow := [
  ⟨0x040, 0, 1, 0x7, 0, 0, 0, 0, 0, 0, [0x3], []⟩,
  ⟨0x044, 0, 1, 0xFFFF, 0, 0, 0, 0, 0, 0, [0xBAB8], [(0, 16, 1024, 65535)]⟩,
  ⟨0x048, 0, 1, 0, 0, 0, 0, 0, 0, 0x1FF1FF03, [], []⟩,
  ⟨0x04C, 0, 1, 0, 0, 0x1, 0, 0, 0, 0, [], []⟩,
  ⟨0x050, 0, 1, 0, 0, 0, 0, 0, 0, 0xFFFFFFFF, [], []⟩,
  ⟨0x054, 0, 1, 0, 0, 0, 0, 0, 0, 0xFFFFFFFF, [], []⟩]

/-! ### MPL page (R101) -/

/-- Offset of the MPL page in the page window (R36). -/
def MPL.page : Nat := 0x10000
def MPL.ev_ROTATE : Nat := 0
def MPL.ev_MISMATCH : Nat := 1
def MPL.ev_CONV_FAULT : Nat := 2
def MPL.ev_CAL_AGED : Nat := 3
def MPL.ev_STUCK : Nat := 4
def MPL.ev_MCLK_LOSS : Nat := 5
def MPL.ev_RINJ_DONE : Nat := 6
def MPL.ev_REF_FAULT : Nat := 7
def MPL.ev_MAP_CHANGED : Nat := 8
def MPL.CFG : Nat := MPL.page + 0x040
def MPL.CFG_ROT_EN : Fld := ⟨MPL.CFG, 0, 1⟩
def MPL.CFG_ROT_PERIOD : Fld := ⟨MPL.CFG, 4, 4⟩
def MPL.CFG_REF_SEL : Fld := ⟨MPL.CFG, 8, 1⟩
def MPL.CFG_VREF_OUT_EN : Fld := ⟨MPL.CFG, 9, 1⟩
def MPL.STAT : Nat := MPL.page + 0x044
def MPL.STAT_GRP_OK : Fld := ⟨MPL.STAT, 0, 4⟩
def MPL.STAT_ROTATING : Fld := ⟨MPL.STAT, 4, 4⟩
def MPL.STAT_REF_OK : Fld := ⟨MPL.STAT, 8, 1⟩
def MPL.STAT_CAL_AGED : Fld := ⟨MPL.STAT, 9, 1⟩
def MPL.STAT_INIT_DONE : Fld := ⟨MPL.STAT, 10, 1⟩
def MPL.STAT_MCLK_OK : Fld := ⟨MPL.STAT, 16, 4⟩
def MPL.ASSIGN (k : Nat) : Nat := MPL.page + 0x048 + 0x4 * k
def MPL.ASSIGN_INS (k : Nat) : Fld := ⟨MPL.ASSIGN k, 0, 18⟩
def MPL.ASSIGN_SPARE (k : Nat) : Fld := ⟨MPL.ASSIGN k, 18, 3⟩
def MPL.ASSIGN_NEXT (k : Nat) : Fld := ⟨MPL.ASSIGN k, 24, 3⟩
def MPL.ROTSTAT (k : Nat) : Nat := MPL.page + 0x058 + 0x4 * k
def MPL.ROTSTAT_PHASE (k : Nat) : Fld := ⟨MPL.ROTSTAT k, 0, 3⟩
def MPL.ROTSTAT_LAST_GAIN (k : Nat) : Fld := ⟨MPL.ROTSTAT k, 8, 8⟩
def MPL.ROTSTAT_LAST_OFS (k : Nat) : Fld := ⟨MPL.ROTSTAT k, 16, 8⟩
def MPL.ROTSTAT_STEPS (k : Nat) : Fld := ⟨MPL.ROTSTAT k, 24, 8⟩
def MPL.CONV_FAULT : Nat := MPL.page + 0x068
def MPL.CONV_FAULT_FAULT : Fld := ⟨MPL.CONV_FAULT, 0, 28⟩
def MPL.MISMATCH : Nat := MPL.page + 0x06C
def MPL.MISMATCH_COUNT : Fld := ⟨MPL.MISMATCH, 0, 16⟩
def MPL.MISMATCH_FORCED : Fld := ⟨MPL.MISMATCH, 16, 16⟩
def MPL.CALAGE (k : Nat) : Nat := MPL.page + 0x070 + 0x4 * k
def MPL.MCLK_CFG : Nat := MPL.page + 0x090
def MPL.MCLK_CFG_DIV0 : Fld := ⟨MPL.MCLK_CFG, 0, 8⟩
def MPL.MCLK_CFG_DIV1 : Fld := ⟨MPL.MCLK_CFG, 8, 8⟩
def MPL.MCLK_CFG_DIV2 : Fld := ⟨MPL.MCLK_CFG, 16, 8⟩
def MPL.MCLK_CFG_DIV3 : Fld := ⟨MPL.MCLK_CFG, 24, 8⟩
def MPL.MCLK_MODE : Nat := MPL.page + 0x094
def MPL.MCLK_MODE_OUT_EN : Fld := ⟨MPL.MCLK_MODE, 0, 4⟩
def MPL.MCLK_MODE_IN : Fld := ⟨MPL.MCLK_MODE, 4, 4⟩
def MPL.MCLK_NOM (k : Nat) : Nat := MPL.page + 0x098 + 0x4 * k
def MPL.MCLK_NOM_NOM0 (k : Nat) : Fld := ⟨MPL.MCLK_NOM k, 0, 16⟩
def MPL.MCLK_NOM_NOM1 (k : Nat) : Fld := ⟨MPL.MCLK_NOM k, 16, 16⟩
def MPL.MCLK_ERR : Nat := MPL.page + 0x0A0
def MPL.MDAT_CFG (k : Nat) : Nat := MPL.page + 0x0C0 + 0x4 * k
def MPL.MDAT_CFG_EN (k : Nat) : Fld := ⟨MPL.MDAT_CFG k, 0, 1⟩
def MPL.MDAT_CFG_CLKSEL (k : Nat) : Fld := ⟨MPL.MDAT_CFG k, 1, 2⟩
def MPL.MDAT_CFG_EDGE (k : Nat) : Fld := ⟨MPL.MDAT_CFG k, 3, 1⟩
def MPL.MDAT_CFG_OSR (k : Nat) : Fld := ⟨MPL.MDAT_CFG k, 4, 10⟩
def MPL.MDAT_CFG_DEC2 (k : Nat) : Fld := ⟨MPL.MDAT_CFG k, 14, 2⟩
def MPL.MAP (k : Nat) : Nat := MPL.page + 0x100 + 0x4 * k
def MPL.MAP_SRC (k : Nat) : Fld := ⟨MPL.MAP k, 0, 7⟩
def MPL.MAP_EN (k : Nat) : Fld := ⟨MPL.MAP k, 7, 1⟩
def MPL.MAP_GAIN (k : Nat) : Fld := ⟨MPL.MAP k, 8, 3⟩
def MPL.MAP_INV (k : Nat) : Fld := ⟨MPL.MAP k, 11, 1⟩
def MPL.MAP_DELAY (k : Nat) : Fld := ⟨MPL.MAP k, 16, 8⟩
def MPL.MDAT_STAT : Nat := MPL.page + 0x240
def MPL.MDAT_STAT_STUCK : Fld := ⟨MPL.MDAT_STAT, 0, 16⟩
def MPL.MDAT_STAT_CLKLOSS : Fld := ⟨MPL.MDAT_STAT, 16, 4⟩
def MPL.RINJ_CFG : Nat := MPL.page + 0x244
def MPL.RINJ_CFG_TARGET : Fld := ⟨MPL.RINJ_CFG, 0, 4⟩
def MPL.RINJ_CFG_LEVEL : Fld := ⟨MPL.RINJ_CFG, 4, 2⟩
def MPL.RINJ_CFG_NOW : Fld := ⟨MPL.RINJ_CFG, 7, 1⟩
def MPL.RINJ_CFG_START : Fld := ⟨MPL.RINJ_CFG, 8, 1⟩
def MPL.RINJ_CFG_TOL : Fld := ⟨MPL.RINJ_CFG, 16, 16⟩
def MPL.RINJ_EXP : Nat := MPL.page + 0x248
def MPL.RINJ_EXP_EXP : Fld := ⟨MPL.RINJ_EXP, 0, 24⟩
def MPL.RINJ_RES : Nat := MPL.page + 0x24C
def MPL.RINJ_RES_AVG : Fld := ⟨MPL.RINJ_RES, 0, 24⟩
def MPL.RINJ_RES_PASS : Fld := ⟨MPL.RINJ_RES, 24, 1⟩
def MPL.RINJ_RES_FAIL : Fld := ⟨MPL.RINJ_RES, 25, 1⟩
def MPL.RINJ_RES_REFUSED : Fld := ⟨MPL.RINJ_RES, 26, 1⟩
def MPL.MAP_CRC : Nat := MPL.page + 0x250
def MPL.CALLIM : Nat := MPL.page + 0x400
def MPL.CALLIM_MIS_PPM : Fld := ⟨MPL.CALLIM, 0, 8⟩
def MPL.CALLIM_GAIN_LIM : Fld := ⟨MPL.CALLIM, 8, 8⟩
def MPL.CALLIM_OFS_LIM : Fld := ⟨MPL.CALLIM, 16, 8⟩
/-- The register table of the MPL page (R101). -/
def MPL.table : List RegRow := [
  ⟨0x040, 0, 1, 0x2F1, 0, 0, 0, 0x100, 0, 0, [0x81], [(4, 4, 2, 8)]⟩,
  ⟨0x044, 0, 1, 0, 0, 0, 0, 0, 0, 0xF07FF, [], []⟩,
  ⟨0x048, 0x4, 4, 0, 0, 0, 0, 0, 0, 0x71FFFFF, [0x1AC688], []⟩,
  ⟨0x058, 0x4, 4, 0, 0, 0, 0, 0, 0, 0xFFFFFF07, [], []⟩,
  ⟨0x068, 0, 1, 0, 0, 0, 0, 0, 0, 0xFFFFFFF, [], []⟩,
  ⟨0x06C, 0, 1, 0, 0, 0, 0, 0, 0, 0xFFFFFFFF, [], []⟩,
  ⟨0x070, 0x4, 7, 0, 0, 0, 0, 0, 0, 0xFFFFFFFF, [], []⟩,
  ⟨0x090, 0, 1, 0xFFFFFFFF, 0, 0, 0, 0, 0, 0, [0x32323232], [(0, 8, 40, 160), (8, 8, 40, 160), (16, 8, 40, 160), (24, 8, 40, 160)]⟩,
  ⟨0x094, 0, 1, 0xFF, 0, 0, 0, 0, 0, 0, [], []⟩,
  ⟨0x098, 0x4, 2, 0xFFFFFFFF, 0, 0, 0, 0, 0, 0, [0x3E803E80], [(0, 16, 5000, 20000), (16, 16, 5000, 20000)]⟩,
  ⟨0x0A0, 0, 1, 0, 0, 0, 0, 0, 0, 0xFFFFFFFF, [], []⟩,
  ⟨0x0C0, 0x4, 16, 0xFFFF, 0, 0, 0, 0, 0, 0, [0x8FA0, 0x8FA0, 0x8FA0, 0x8FA0, 0x8FA2, 0x8FA2, 0x8FA2, 0x8FA2, 0x8FA4, 0x8FA4, 0x8FA4, 0x8FA4, 0x8FA6, 0x8FA6, 0x8FA6, 0x8FA6], [(4, 10, 32, 1023)]⟩,
  ⟨0x100, 0x4, 80, 0, 0, 0, 0, 0xFF0FFF, 0, 0, [0x7F], []⟩,
  ⟨0x240, 0, 1, 0, 0xFFFFF, 0, 0, 0, 0, 0, [], []⟩,
  ⟨0x244, 0, 1, 0xFFFF00BF, 0, 0x100, 0, 0, 0, 0, [0x3E80000], []⟩,
  ⟨0x248, 0, 1, 0xFFFFFF, 0, 0, 0, 0, 0, 0, [], []⟩,
  ⟨0x24C, 0, 1, 0, 0, 0, 0, 0, 0, 0x7FFFFFF, [], []⟩,
  ⟨0x250, 0, 1, 0, 0, 0, 0, 0, 0, 0xFFFFFFFF, [0xBA41EC0], []⟩,
  ⟨0x400, 0, 1, 0, 0, 0, 0, 0, 0xFFFFFF, 0, [0xA0A14], [(0, 8, 1, 255)]⟩]

/-! ### MET page (R127) -/

/-- Offset of the MET page in the page window (R36). -/
def MET.page (n : Fin 5) : Nat := 0x11000 + 0x1000 * n.val
def MET.ev_CYCLE : Nat := 0
def MET.ev_HARM : Nat := 1
def MET.ev_INVALID : Nat := 2
def MET.ev_SAT : Nat := 3
def MET.ev_NOLOAD : Nat := 4
def MET.ev_REDERR : Nat := 5
def MET.ev_PARAM : Nat := 6
def MET.CFG (n : Fin 5) : Nat := MET.page n + 0x040
def MET.CFG_MODE (n : Fin 5) : Fld := ⟨MET.CFG n, 0, 2⟩
def MET.CFG_PH_EN (n : Fin 5) : Fld := ⟨MET.CFG n, 4, 3⟩
def MET.CFG_N_EN (n : Fin 5) : Fld := ⟨MET.CFG n, 7, 1⟩
def MET.CFG_SUP_EN (n : Fin 5) : Fld := ⟨MET.CFG n, 8, 1⟩
def MET.CFG_RED_EN (n : Fin 5) : Fld := ⟨MET.CFG n, 9, 1⟩
def MET.CFG_HARM_EN (n : Fin 5) : Fld := ⟨MET.CFG n, 10, 1⟩
def MET.NOM (n : Fin 5) : Nat := MET.page n + 0x044
def MET.NOM_UNOM (n : Fin 5) : Fld := ⟨MET.NOM n, 0, 16⟩
def MET.HCFG (n : Fin 5) : Nat := MET.page n + 0x048
def MET.HCFG_WIN (n : Fin 5) : Fld := ⟨MET.HCFG n, 0, 6⟩
def MET.HCFG_HPH (n : Fin 5) : Fld := ⟨MET.HCFG n, 8, 2⟩
def MET.HCFG_HQTY (n : Fin 5) : Fld := ⟨MET.HCFG n, 10, 1⟩
def MET.STAT (n : Fin 5) : Nat := MET.page n + 0x04C
def MET.STAT_RUN (n : Fin 5) : Fld := ⟨MET.STAT n, 0, 1⟩
def MET.STAT_METERING (n : Fin 5) : Fld := ⟨MET.STAT n, 1, 1⟩
def MET.STAT_NOLOAD (n : Fin 5) : Fld := ⟨MET.STAT n, 2, 1⟩
def MET.STAT_INVALID (n : Fin 5) : Fld := ⟨MET.STAT n, 3, 1⟩
def MET.STAT_SAT (n : Fin 5) : Fld := ⟨MET.STAT n, 4, 1⟩
def MET.STAT_FW (n : Fin 5) : Fld := ⟨MET.STAT n, 5, 1⟩
def MET.STAT_REDERR (n : Fin 5) : Fld := ⟨MET.STAT n, 6, 1⟩
def MET.STAT_SCALE_OK (n : Fin 5) : Fld := ⟨MET.STAT n, 7, 1⟩
def MET.STAT_VX_NONE (n : Fin 5) : Fld := ⟨MET.STAT n, 8, 1⟩
def MET.STAT_HSTAT_FW (n : Fin 5) : Fld := ⟨MET.STAT n, 9, 1⟩
def MET.CYC (n : Fin 5) : Nat := MET.page n + 0x050
def MET.VRMS (n : Fin 5) (k : Nat) : Nat := MET.page n + 0x054 + 0x4 * k
def MET.IRMS (n : Fin 5) (k : Nat) : Nat := MET.page n + 0x060 + 0x4 * k
def MET.P (n : Fin 5) (k : Nat) : Nat := MET.page n + 0x070 + 0x4 * k
def MET.Q (n : Fin 5) (k : Nat) : Nat := MET.page n + 0x080 + 0x4 * k
def MET.S (n : Fin 5) (k : Nat) : Nat := MET.page n + 0x090 + 0x4 * k
def MET.PF_T (n : Fin 5) : Nat := MET.page n + 0x0A0
def MET.PF_T_PF (n : Fin 5) : Fld := ⟨MET.PF_T n, 0, 16⟩
def MET.PF_T_QUAD (n : Fin 5) : Fld := ⟨MET.PF_T n, 16, 2⟩
def MET.FREQ (n : Fin 5) : Nat := MET.page n + 0x0A4
def MET.FREQ_FREQ (n : Fin 5) : Fld := ⟨MET.FREQ n, 0, 17⟩
def MET.FREQ_VALID (n : Fin 5) : Fld := ⟨MET.FREQ n, 31, 1⟩
def MET.VDC_VEH (n : Fin 5) : Nat := MET.page n + 0x0A8
def MET.VDC_CHG (n : Fin 5) : Nat := MET.page n + 0x0AC
def MET.IDC (n : Fin 5) : Nat := MET.page n + 0x0B0
def MET.IDC_RED (n : Fin 5) : Nat := MET.page n + 0x0B4
def MET.PDC (n : Fin 5) : Nat := MET.page n + 0x0B8
def MET.VX (n : Fin 5) (k : Nat) : Nat := MET.page n + 0x0BC + 0x4 * k
def MET.THD (n : Fin 5) (k : Nat) : Nat := MET.page n + 0x0C8 + 0x4 * k
def MET.THD_THD (n : Fin 5) (k : Nat) : Fld := ⟨MET.THD n k, 0, 16⟩
def MET.EIMP_LO (n : Fin 5) : Nat := MET.page n + 0x0E0
def MET.EIMP_HI (n : Fin 5) : Nat := MET.page n + 0x0E4
def MET.EEXP_LO (n : Fin 5) : Nat := MET.page n + 0x0E8
def MET.EEXP_HI (n : Fin 5) : Nat := MET.page n + 0x0EC
def MET.ECLR (n : Fin 5) : Nat := MET.page n + 0x0F0
def MET.ECLR_CLR (n : Fin 5) : Fld := ⟨MET.ECLR n, 0, 1⟩
def MET.HMAG (n : Fin 5) (k : Nat) : Nat := MET.page n + 0x100 + 0x4 * k
def MET.HPH (n : Fin 5) (k : Nat) : Nat := MET.page n + 0x1A0 + 0x4 * k
def MET.HPH_PH (n : Fin 5) (k : Nat) : Fld := ⟨MET.HPH n k, 0, 16⟩
def MET.SCALE (n : Fin 5) (k : Nat) : Nat := MET.page n + 0x400 + 0x4 * k
def MET.OFS (n : Fin 5) (k : Nat) : Nat := MET.page n + 0x440 + 0x4 * k
def MET.OFS_OFS (n : Fin 5) (k : Nat) : Fld := ⟨MET.OFS n k, 0, 24⟩
def MET.PHCOR (n : Fin 5) (k : Nat) : Nat := MET.page n + 0x480 + 0x4 * k
def MET.PHCOR_PHCOR (n : Fin 5) (k : Nat) : Fld := ⟨MET.PHCOR n k, 0, 16⟩
def MET.LCFG (n : Fin 5) : Nat := MET.page n + 0x4C0
def MET.LCFG_SUM (n : Fin 5) : Fld := ⟨MET.LCFG n, 0, 1⟩
def MET.ISTART (n : Fin 5) : Nat := MET.page n + 0x4C4
def MET.RED_TOL (n : Fin 5) : Nat := MET.page n + 0x4C8
def MET.RED_TOL_TOL_R (n : Fin 5) : Fld := ⟨MET.RED_TOL n, 0, 16⟩
def MET.RED_TOL_TOL_F (n : Fin 5) : Fld := ⟨MET.RED_TOL n, 16, 16⟩
/-- The register table of the MET page (R127). -/
def MET.table : List RegRow := [
  ⟨0x040, 0, 1, 0x7F3, 0, 0, 0, 0, 0, 0, [0x70], []⟩,
  ⟨0x044, 0, 1, 0xFFFF, 0, 0, 0, 0, 0, 0, [0xE6], []⟩,
  ⟨0x048, 0, 1, 0x73F, 0, 0, 0, 0, 0, 0, [0xA], [(8, 2, 0, 2)]⟩,
  ⟨0x04C, 0, 1, 0, 0, 0, 0, 0, 0, 0x3FF, [0x120], []⟩,
  ⟨0x050, 0, 1, 0, 0, 0, 0, 0, 0, 0xFFFFFFFF, [], []⟩,
  ⟨0x054, 0x4, 3, 0, 0, 0, 0, 0, 0, 0xFFFFFFFF, [], []⟩,
  ⟨0x060, 0x4, 4, 0, 0, 0, 0, 0, 0, 0xFFFFFFFF, [], []⟩,
  ⟨0x070, 0x4, 4, 0, 0, 0, 0, 0, 0, 0xFFFFFFFF, [], []⟩,
  ⟨0x080, 0x4, 4, 0, 0, 0, 0, 0, 0, 0xFFFFFFFF, [], []⟩,
  ⟨0x090, 0x4, 4, 0, 0, 0, 0, 0, 0, 0xFFFFFFFF, [], []⟩,
  ⟨0x0A0, 0, 1, 0, 0, 0, 0, 0, 0, 0x3FFFF, [], []⟩,
  ⟨0x0A4, 0, 1, 0, 0, 0, 0, 0, 0, 0x8001FFFF, [], []⟩,
  ⟨0x0A8, 0, 1, 0, 0, 0, 0, 0, 0, 0xFFFFFFFF, [], []⟩,
  ⟨0x0AC, 0, 1, 0, 0, 0, 0, 0, 0, 0xFFFFFFFF, [], []⟩,
  ⟨0x0B0, 0, 1, 0, 0, 0, 0, 0, 0, 0xFFFFFFFF, [], []⟩,
  ⟨0x0B4, 0, 1, 0, 0, 0, 0, 0, 0, 0xFFFFFFFF, [], []⟩,
  ⟨0x0B8, 0, 1, 0, 0, 0, 0, 0, 0, 0xFFFFFFFF, [], []⟩,
  ⟨0x0BC, 0x4, 3, 0, 0, 0, 0, 0, 0, 0xFFFFFFFF, [], []⟩,
  ⟨0x0C8, 0x4, 6, 0, 0, 0, 0, 0, 0, 0xFFFF, [], []⟩,
  ⟨0x0E0, 0, 1, 0, 0, 0, 0, 0, 0, 0xFFFFFFFF, [], []⟩,
  ⟨0x0E4, 0, 1, 0, 0, 0, 0, 0, 0, 0xFFFFFFFF, [], []⟩,
  ⟨0x0E8, 0, 1, 0, 0, 0, 0, 0, 0, 0xFFFFFFFF, [], []⟩,
  ⟨0x0EC, 0, 1, 0, 0, 0, 0, 0, 0, 0xFFFFFFFF, [], []⟩,
  ⟨0x0F0, 0, 1, 0, 0, 0x1, 0, 0, 0, 0, [], []⟩,
  ⟨0x100, 0x4, 40, 0, 0, 0, 0, 0, 0, 0xFFFFFFFF, [], []⟩,
  ⟨0x1A0, 0x4, 40, 0, 0, 0, 0, 0, 0, 0xFFFF, [], []⟩,
  ⟨0x400, 0x4, 16, 0, 0, 0, 0, 0, 0xFFFFFFFF, 0, [], []⟩,
  ⟨0x440, 0x4, 16, 0, 0, 0, 0, 0, 0xFFFFFF, 0, [], []⟩,
  ⟨0x480, 0x4, 16, 0, 0, 0, 0, 0, 0xFFFF, 0, [], []⟩,
  ⟨0x4C0, 0, 1, 0, 0, 0, 0, 0, 0x1, 0, [], []⟩,
  ⟨0x4C4, 0, 1, 0, 0, 0, 0, 0, 0xFFFFFFFF, 0, [], []⟩,
  ⟨0x4C8, 0, 1, 0, 0, 0, 0, 0, 0xFFFFFFFF, 0, [0x50032], []⟩]

/-! ### WAV page (R102) -/

/-- Offset of the WAV page in the page window (R36). -/
def WAV.page : Nat := 0x16000
def WAV.ev_TRIGGERED : Nat := 0
def WAV.ev_DONE : Nat := 1
def WAV.ev_OVR : Nat := 2
def WAV.CFG : Nat := WAV.page + 0x040
def WAV.CFG_RATE : Fld := ⟨WAV.CFG, 0, 1⟩
def WAV.CFG_DMA_CH : Fld := ⟨WAV.CFG, 8, 4⟩
def WAV.CHSEL (k : Nat) : Nat := WAV.page + 0x044 + 0x4 * k
def WAV.CHSEL_SLOT0 (k : Nat) : Fld := ⟨WAV.CHSEL k, 0, 7⟩
def WAV.CHSEL_EN0 (k : Nat) : Fld := ⟨WAV.CHSEL k, 7, 1⟩
def WAV.CHSEL_SLOT1 (k : Nat) : Fld := ⟨WAV.CHSEL k, 8, 7⟩
def WAV.CHSEL_EN1 (k : Nat) : Fld := ⟨WAV.CHSEL k, 15, 1⟩
def WAV.CHSEL_SLOT2 (k : Nat) : Fld := ⟨WAV.CHSEL k, 16, 7⟩
def WAV.CHSEL_EN2 (k : Nat) : Fld := ⟨WAV.CHSEL k, 23, 1⟩
def WAV.CHSEL_SLOT3 (k : Nat) : Fld := ⟨WAV.CHSEL k, 24, 7⟩
def WAV.CHSEL_EN3 (k : Nat) : Fld := ⟨WAV.CHSEL k, 31, 1⟩
def WAV.TRIG : Nat := WAV.page + 0x054
def WAV.TRIG_IN_EN : Fld := ⟨WAV.TRIG, 0, 4⟩
def WAV.TRIG_SW : Fld := ⟨WAV.TRIG, 4, 1⟩
def WAV.TRIG_LVL_EN : Fld := ⟨WAV.TRIG, 5, 1⟩
def WAV.TRIG_SAF_EN : Fld := ⟨WAV.TRIG, 6, 1⟩
def WAV.TRIG_LVL_SLOT : Fld := ⟨WAV.TRIG, 8, 7⟩
def WAV.TRIG_LVL_FALL : Fld := ⟨WAV.TRIG, 15, 1⟩
def WAV.LEVEL : Nat := WAV.page + 0x058
def WAV.LEVEL_LEVEL : Fld := ⟨WAV.LEVEL, 0, 24⟩
def WAV.POST : Nat := WAV.page + 0x05C
def WAV.POST_POST : Fld := ⟨WAV.POST, 0, 16⟩
def WAV.CTL : Nat := WAV.page + 0x060
def WAV.CTL_ARM : Fld := ⟨WAV.CTL, 0, 1⟩
def WAV.CTL_STOP : Fld := ⟨WAV.CTL, 1, 1⟩
def WAV.STAT : Nat := WAV.page + 0x064
def WAV.STAT_ARMED : Fld := ⟨WAV.STAT, 0, 1⟩
def WAV.STAT_TRIGGERED : Fld := ⟨WAV.STAT, 1, 1⟩
def WAV.STAT_DONE : Fld := ⟨WAV.STAT, 2, 1⟩
def WAV.STAT_OVR : Fld := ⟨WAV.STAT, 3, 1⟩
def WAV.STAT_CAUSE : Fld := ⟨WAV.STAT, 4, 3⟩
def WAV.TRIG_WT_LO : Nat := WAV.page + 0x068
def WAV.TRIG_WT_HI : Nat := WAV.page + 0x06C
def WAV.TRIG_IDX : Nat := WAV.page + 0x070
def WAV.REC_CNT : Nat := WAV.page + 0x074
/-- The register table of the WAV page (R102). -/
def WAV.table : List RegRow := [
  ⟨0x040, 0, 1, 0xF01, 0, 0, 0, 0, 0, 0, [], []⟩,
  ⟨0x044, 0x4, 4, 0xFFFFFFFF, 0, 0, 0, 0, 0, 0, [], [(0, 7, 0, 79), (8, 7, 0, 79), (16, 7, 0, 79), (24, 7, 0, 79)]⟩,
  ⟨0x054, 0, 1, 0xFF6F, 0, 0x10, 0, 0, 0, 0, [], [(8, 7, 0, 79)]⟩,
  ⟨0x058, 0, 1, 0xFFFFFF, 0, 0, 0, 0, 0, 0, [], []⟩,
  ⟨0x05C, 0, 1, 0xFFFF, 0, 0, 0, 0, 0, 0, [0x200], [(0, 16, 1, 65535)]⟩,
  ⟨0x060, 0, 1, 0, 0, 0x3, 0, 0, 0, 0, [], []⟩,
  ⟨0x064, 0, 1, 0, 0, 0, 0, 0, 0, 0x7F, [], []⟩,
  ⟨0x068, 0, 1, 0, 0, 0, 0, 0, 0, 0xFFFFFFFF, [], []⟩,
  ⟨0x06C, 0, 1, 0, 0, 0, 0, 0, 0, 0xFFFFFFFF, [], []⟩,
  ⟨0x070, 0, 1, 0, 0, 0, 0, 0, 0, 0xFFFFFFFF, [], []⟩,
  ⟨0x074, 0, 1, 0, 0, 0, 0, 0, 0, 0xFFFFFFFF, [], []⟩]

/-! ### BAY page (R153) -/

/-- Offset of the BAY page in the page window (R36). -/
def BAY.page (n : Fin 4) : Nat := 0x20000 + 0x8000 * n.val
def BAY.ev_STATE : Nat := 0
def BAY.ev_REQ : Nat := 1
def BAY.ev_CP : Nat := 2
def BAY.ev_PP : Nat := 3
def BAY.ev_STOP : Nat := 4
def BAY.ev_DENY : Nat := 5
def BAY.ev_TBL_BAD : Nat := 6
def BAY.ev_MERGED : Nat := 7
def BAY.CFG (n : Fin 4) : Nat := BAY.page n + 0x040
def BAY.CFG_DC (n : Fin 4) : Fld := ⟨BAY.CFG n, 0, 1⟩
def BAY.CFG_PP_EN (n : Fin 4) : Fld := ⟨BAY.CFG n, 1, 1⟩
def BAY.CFG_CP_DEB (n : Fin 4) : Fld := ⟨BAY.CFG n, 8, 4⟩
def BAY.CFG_CP_SETTLE (n : Fin 4) : Fld := ⟨BAY.CFG n, 16, 7⟩
def BAY.TBL_SEL (n : Fin 4) : Nat := BAY.page n + 0x044
def BAY.TBL_SEL_OFFSET (n : Fin 4) : Fld := ⟨BAY.TBL_SEL n, 0, 20⟩
def BAY.TBL_SEL_DEF (n : Fin 4) : Fld := ⟨BAY.TBL_SEL n, 30, 1⟩
def BAY.TBL_SEL_LOAD (n : Fin 4) : Fld := ⟨BAY.TBL_SEL n, 31, 1⟩
def BAY.TBL_STAT (n : Fin 4) : Nat := BAY.page n + 0x048
def BAY.TBL_STAT_LOADED (n : Fin 4) : Fld := ⟨BAY.TBL_STAT n, 0, 1⟩
def BAY.TBL_STAT_BAD (n : Fin 4) : Fld := ⟨BAY.TBL_STAT n, 1, 1⟩
def BAY.TBL_STAT_CAUSE (n : Fin 4) : Fld := ⟨BAY.TBL_STAT n, 4, 4⟩
def BAY.TBL_ID (n : Fin 4) : Nat := BAY.page n + 0x04C
def BAY.TBL_CRC (n : Fin 4) : Nat := BAY.page n + 0x050
def BAY.STATE (n : Fin 4) : Nat := BAY.page n + 0x054
def BAY.STATE_CUR (n : Fin 4) : Fld := ⟨BAY.STATE n, 0, 6⟩
def BAY.STATE_PREV (n : Fin 4) : Fld := ⟨BAY.STATE n, 8, 6⟩
def BAY.STATE_LAST_EVT (n : Fin 4) : Fld := ⟨BAY.STATE n, 16, 6⟩
def BAY.STATE_IDLE (n : Fin 4) : Fld := ⟨BAY.STATE n, 24, 1⟩
def BAY.STATE_SESSION (n : Fin 4) : Fld := ⟨BAY.STATE n, 25, 1⟩
def BAY.CP_STAT (n : Fin 4) : Nat := BAY.page n + 0x058
def BAY.CP_STAT_STATE (n : Fin 4) : Fld := ⟨BAY.CP_STAT n, 0, 3⟩
def BAY.CP_STAT_MODE (n : Fin 4) : Fld := ⟨BAY.CP_STAT n, 4, 2⟩
def BAY.CP_STAT_DIODE_OK (n : Fin 4) : Fld := ⟨BAY.CP_STAT n, 6, 1⟩
def BAY.CP_MEAS (n : Fin 4) : Nat := BAY.page n + 0x05C
def BAY.CP_MEAS_POS (n : Fin 4) : Fld := ⟨BAY.CP_MEAS n, 0, 16⟩
def BAY.CP_MEAS_NEG (n : Fin 4) : Fld := ⟨BAY.CP_MEAS n, 16, 16⟩
def BAY.CP_DUTY (n : Fin 4) : Nat := BAY.page n + 0x060
def BAY.CP_DUTY_DUTY (n : Fin 4) : Fld := ⟨BAY.CP_DUTY n, 0, 10⟩
def BAY.CP_DUTY_AUTO (n : Fin 4) : Fld := ⟨BAY.CP_DUTY n, 15, 1⟩
def BAY.PP_STAT (n : Fin 4) : Nat := BAY.page n + 0x064
def BAY.PP_STAT_R (n : Fin 4) : Fld := ⟨BAY.PP_STAT n, 0, 16⟩
def BAY.PP_STAT_CODE (n : Fin 4) : Fld := ⟨BAY.PP_STAT n, 16, 3⟩
def BAY.EVT_POST (n : Fin 4) : Nat := BAY.page n + 0x068
def BAY.EVT_POST_EVENT (n : Fin 4) : Fld := ⟨BAY.EVT_POST n, 0, 6⟩
def BAY.EVT_STAT (n : Fin 4) : Nat := BAY.page n + 0x06C
def BAY.EVT_STAT_UNHANDLED (n : Fin 4) : Fld := ⟨BAY.EVT_STAT n, 0, 16⟩
def BAY.EVT_STAT_MERGED (n : Fin 4) : Fld := ⟨BAY.EVT_STAT n, 16, 16⟩
def BAY.REQ (n : Fin 4) : Nat := BAY.page n + 0x070
def BAY.REQ_CODE (n : Fin 4) : Fld := ⟨BAY.REQ n, 0, 8⟩
def BAY.REQ_ARG (n : Fin 4) : Fld := ⟨BAY.REQ n, 8, 24⟩
def BAY.REQ_STAT (n : Fin 4) : Nat := BAY.page n + 0x074
def BAY.REQ_STAT_COUNT (n : Fin 4) : Fld := ⟨BAY.REQ_STAT n, 0, 5⟩
def BAY.STOPSRC (n : Fin 4) : Nat := BAY.page n + 0x078
def BAY.STOPSRC_SRC (n : Fin 4) : Fld := ⟨BAY.STOPSRC n, 0, 10⟩
def BAY.STOP_REQ (n : Fin 4) : Nat := BAY.page n + 0x07C
def BAY.STOP_REQ_HOST (n : Fin 4) : Fld := ⟨BAY.STOP_REQ n, 0, 1⟩
def BAY.SESSION (n : Fin 4) : Nat := BAY.page n + 0x080
def BAY.SESSION_STAT (n : Fin 4) : Nat := BAY.page n + 0x084
def BAY.SESSION_STAT_DENY (n : Fin 4) : Fld := ⟨BAY.SESSION_STAT n, 0, 4⟩
def BAY.SESSION_STAT_END_REASON (n : Fin 4) : Fld := ⟨BAY.SESSION_STAT n, 16, 8⟩
def BAY.LIM (n : Fin 4) (k : Nat) : Nat := BAY.page n + 0x0A0 + 0x4 * k
def BAY.LIM_I (n : Fin 4) (k : Nat) : Fld := ⟨BAY.LIM n k, 0, 16⟩
def BAY.LIM_P (n : Fin 4) (k : Nat) : Fld := ⟨BAY.LIM n k, 16, 16⟩
def BAY.LIM_EFF (n : Fin 4) : Nat := BAY.page n + 0x0C0
def BAY.LIM_EFF_I (n : Fin 4) : Fld := ⟨BAY.LIM_EFF n, 0, 16⟩
def BAY.LIM_EFF_P (n : Fin 4) : Fld := ⟨BAY.LIM_EFF n, 16, 16⟩
def BAY.LIM_SRC (n : Fin 4) : Nat := BAY.page n + 0x0C4
def BAY.LIM_SRC_ISRC (n : Fin 4) : Fld := ⟨BAY.LIM_SRC n, 0, 3⟩
def BAY.LIM_SRC_PSRC (n : Fin 4) : Fld := ⟨BAY.LIM_SRC n, 4, 3⟩
def BAY.TMR_ACT (n : Fin 4) : Nat := BAY.page n + 0x0C8
def BAY.TMR_ACT_ACT (n : Fin 4) : Fld := ⟨BAY.TMR_ACT n, 0, 8⟩
def BAY.CPCAL (n : Fin 4) : Nat := BAY.page n + 0x400
def BAY.CPCAL_GAIN (n : Fin 4) : Fld := ⟨BAY.CPCAL n, 0, 16⟩
def BAY.CPCAL_OFS (n : Fin 4) : Fld := ⟨BAY.CPCAL n, 16, 16⟩
def BAY.PPCFG (n : Fin 4) : Nat := BAY.page n + 0x404
def BAY.PPCFG_RPU (n : Fin 4) : Fld := ⟨BAY.PPCFG n, 0, 16⟩
def BAY.STOPCFG (n : Fin 4) : Nat := BAY.page n + 0x408
def BAY.STOPCFG_T_OBEY (n : Fin 4) : Fld := ⟨BAY.STOPCFG n, 0, 13⟩
def BAY.STOPCFG_T_SHED (n : Fin 4) : Fld := ⟨BAY.STOPCFG n, 16, 13⟩
def BAY.IMIN_DC (n : Fin 4) : Nat := BAY.page n + 0x40C
def BAY.IMIN_DC_I (n : Fin 4) : Fld := ⟨BAY.IMIN_DC n, 0, 16⟩
/-- The register table of the BAY page (R153). -/
def BAY.table : List RegRow := [
  ⟨0x040, 0, 1, 0x7F0F03, 0, 0, 0, 0, 0, 0, [0xC0300], [(8, 4, 1, 15), (16, 7, 5, 100)]⟩,
  ⟨0x044, 0, 1, 0x400FFFFF, 0, 0x80000000, 0, 0, 0, 0, [0x40000000], []⟩,
  ⟨0x048, 0, 1, 0, 0, 0, 0, 0, 0, 0xF3, [], []⟩,
  ⟨0x04C, 0, 1, 0, 0, 0, 0, 0, 0, 0xFFFFFFFF, [], []⟩,
  ⟨0x050, 0, 1, 0, 0, 0, 0, 0, 0, 0xFFFFFFFF, [], []⟩,
  ⟨0x054, 0, 1, 0, 0, 0, 0, 0, 0, 0x33F3F3F, [0x1000000], []⟩,
  ⟨0x058, 0, 1, 0, 0, 0, 0, 0, 0, 0x77, [0x36], []⟩,
  ⟨0x05C, 0, 1, 0, 0, 0, 0, 0, 0, 0xFFFFFFFF, [], []⟩,
  ⟨0x060, 0, 1, 0, 0, 0, 0, 0, 0, 0x83FF, [0x3E8], []⟩,
  ⟨0x064, 0, 1, 0, 0, 0, 0, 0, 0, 0x7FFFF, [0xFFFF], []⟩,
  ⟨0x068, 0, 1, 0, 0, 0, 0x3F, 0, 0, 0, [], []⟩,
  ⟨0x06C, 0, 1, 0, 0, 0, 0, 0, 0, 0xFFFFFFFF, [], []⟩,
  ⟨0x070, 0, 1, 0, 0, 0, 0, 0, 0, 0xFFFFFFFF, [], []⟩,
  ⟨0x074, 0, 1, 0, 0, 0, 0, 0, 0, 0x1F, [], []⟩,
  ⟨0x078, 0, 1, 0, 0, 0, 0, 0, 0, 0x3FF, [], []⟩,
  ⟨0x07C, 0, 1, 0, 0, 0x1, 0, 0, 0, 0, [], []⟩,
  ⟨0x080, 0, 1, 0, 0, 0, 0, 0, 0, 0xFFFFFFFF, [], []⟩,
  ⟨0x084, 0, 1, 0, 0, 0, 0, 0, 0, 0xFF000F, [], []⟩,
  ⟨0x0A0, 0x4, 8, 0xFFFFFFFF, 0, 0, 0, 0, 0, 0, [0, 0xFFFFFFFF, 0xFFFFFFFF, 0xFFFFFFFF, 0xFFFFFFFF, 0xFFFFFFFF, 0xFFFFFFFF, 0xFFFFFFFF], []⟩,
  ⟨0x0C0, 0, 1, 0, 0, 0, 0, 0, 0, 0xFFFFFFFF, [], []⟩,
  ⟨0x0C4, 0, 1, 0, 0, 0, 0, 0, 0, 0x77, [], []⟩,
  ⟨0x0C8, 0, 1, 0, 0, 0, 0, 0, 0, 0xFF, [], []⟩,
  ⟨0x400, 0, 1, 0, 0, 0, 0, 0, 0xFFFFFFFF, 0, [0xC5681C9C], []⟩,
  ⟨0x404, 0, 1, 0, 0, 0, 0, 0, 0xFFFF, 0, [0x3E8], []⟩,
  ⟨0x408, 0, 1, 0, 0, 0, 0, 0, 0x1FFF1FFF, 0, [0x7D01388], [(0, 13, 1000, 6000), (16, 13, 100, 8000)]⟩,
  ⟨0x40C, 0, 1, 0, 0, 0, 0, 0, 0xFFFF, 0, [0x32], []⟩]

/-! ### PLC page (R178) -/

/-- Offset of the PLC page in the page window (R36). -/
def PLC.page (n : Fin 4) : Nat := 0x21000 + 0x8000 * n.val
def PLC.ev_LINK_UP : Nat := 0
def PLC.ev_LINK_DOWN : Nat := 1
def PLC.ev_RX_MME : Nat := 2
def PLC.ev_SND_DONE : Nat := 3
def PLC.ev_GATED : Nat := 4
def PLC.ev_SHED : Nat := 5
def PLC.CFG (n : Fin 4) : Nat := PLC.page n + 0x040
def PLC.CFG_TXATT (n : Fin 4) : Fld := ⟨PLC.CFG n, 0, 8⟩
def PLC.CFG_TMASK_USER (n : Fin 4) : Fld := ⟨PLC.CFG n, 8, 1⟩
def PLC.CFG_ARB_EN (n : Fin 4) : Fld := ⟨PLC.CFG n, 12, 1⟩
def PLC.CFG_DMA_TX (n : Fin 4) : Fld := ⟨PLC.CFG n, 16, 4⟩
def PLC.CFG_DMA_RX (n : Fin 4) : Fld := ⟨PLC.CFG n, 24, 4⟩
def PLC.CTL (n : Fin 4) : Nat := PLC.page n + 0x044
def PLC.CTL_TX_EN (n : Fin 4) : Fld := ⟨PLC.CTL n, 0, 1⟩
def PLC.CTL_KEY_SET (n : Fin 4) : Fld := ⟨PLC.CTL n, 8, 1⟩
def PLC.CTL_LINK_RESET (n : Fin 4) : Fld := ⟨PLC.CTL n, 9, 1⟩
def PLC.STAT (n : Fin 4) : Nat := PLC.page n + 0x048
def PLC.STAT_AFE_ON (n : Fin 4) : Fld := ⟨PLC.STAT n, 0, 1⟩
def PLC.STAT_LINK_UP (n : Fin 4) : Fld := ⟨PLC.STAT n, 1, 1⟩
def PLC.STAT_CCO (n : Fin 4) : Fld := ⟨PLC.STAT n, 2, 1⟩
def PLC.STAT_SHED (n : Fin 4) : Fld := ⟨PLC.STAT n, 3, 1⟩
def PLC.STAT_UCODE_VER (n : Fin 4) : Fld := ⟨PLC.STAT n, 16, 16⟩
def PLC.NID_LO (n : Fin 4) : Nat := PLC.page n + 0x04C
def PLC.NID_HI (n : Fin 4) : Nat := PLC.page n + 0x050
def PLC.NID_HI_NID (n : Fin 4) : Fld := ⟨PLC.NID_HI n, 0, 22⟩
def PLC.NMK (n : Fin 4) (k : Nat) : Nat := PLC.page n + 0x054 + 0x4 * k
def PLC.PEER_LO (n : Fin 4) : Nat := PLC.page n + 0x064
def PLC.PEER_HI (n : Fin 4) : Nat := PLC.page n + 0x068
def PLC.PEER_HI_MAC (n : Fin 4) : Fld := ⟨PLC.PEER_HI n, 0, 16⟩
def PLC.ARBCFG (n : Fin 4) : Nat := PLC.page n + 0x070
def PLC.ARBCFG_WINDOW (n : Fin 4) : Fld := ⟨PLC.ARBCFG n, 0, 10⟩
def PLC.ARBCFG_MIN_SOUNDS (n : Fin 4) : Fld := ⟨PLC.ARBCFG n, 12, 4⟩
def PLC.ARBCFG_MARGIN (n : Fin 4) : Fld := ⟨PLC.ARBCFG n, 16, 8⟩
def PLC.ARBCFG_ATTEN_MAX (n : Fin 4) : Fld := ⟨PLC.ARBCFG n, 24, 8⟩
def PLC.SND_RUN_LO (n : Fin 4) (k : Nat) : Nat := PLC.page n + 0x080 + 0x10 * k
def PLC.SND_RUN_HI (n : Fin 4) (k : Nat) : Nat := PLC.page n + 0x084 + 0x10 * k
def PLC.SND_STAT (n : Fin 4) (k : Nat) : Nat := PLC.page n + 0x088 + 0x10 * k
def PLC.SND_STAT_COUNT (n : Fin 4) (k : Nat) : Fld := ⟨PLC.SND_STAT n k, 0, 4⟩
def PLC.SND_STAT_MEAN (n : Fin 4) (k : Nat) : Fld := ⟨PLC.SND_STAT n k, 4, 12⟩
def PLC.SND_STAT_RESULT (n : Fin 4) (k : Nat) : Fld := ⟨PLC.SND_STAT n k, 16, 3⟩
def PLC.SND_STAT_VALID (n : Fin 4) (k : Nat) : Fld := ⟨PLC.SND_STAT n k, 20, 1⟩
def PLC.SND_STAT_CAND (n : Fin 4) (k : Nat) : Fld := ⟨PLC.SND_STAT n k, 21, 1⟩
def PLC.ARBSTAT (n : Fin 4) : Nat := PLC.page n + 0x0C0
def PLC.ARBSTAT_OVF (n : Fin 4) : Fld := ⟨PLC.ARBSTAT n, 0, 16⟩
def PLC.TXSTAT (n : Fin 4) : Nat := PLC.page n + 0x0C4
def PLC.TXSTAT_GATED (n : Fin 4) : Fld := ⟨PLC.TXSTAT n, 0, 16⟩
def PLC.RXSTAT (n : Fin 4) : Nat := PLC.page n + 0x0C8
def PLC.RXSTAT_DROP (n : Fin 4) : Fld := ⟨PLC.RXSTAT n, 0, 16⟩
def PLC.PROF (n : Fin 4) (k : Nat) : Nat := PLC.page n + 0x100 + 0x4 * k
def PLC.TONEMASK (n : Fin 4) (k : Nat) : Nat := PLC.page n + 0x400 + 0x4 * k
/-- The register table of the PLC page (R178). -/
def PLC.table : List RegRow := [
  ⟨0x040, 0, 1, 0xF0F11FF, 0, 0, 0, 0, 0, 0, [0x1032], [(0, 8, 0, 70)]⟩,
  ⟨0x044, 0, 1, 0x1, 0, 0x300, 0, 0, 0, 0, [0x1], []⟩,
  ⟨0x048, 0, 1, 0, 0, 0, 0, 0, 0, 0xFFFF000F, [], []⟩,
  ⟨0x04C, 0, 1, 0, 0, 0, 0, 0, 0, 0xFFFFFFFF, [], []⟩,
  ⟨0x050, 0, 1, 0, 0, 0, 0, 0, 0, 0x3FFFFF, [], []⟩,
  ⟨0x054, 0x4, 4, 0, 0, 0, 0xFFFFFFFF, 0, 0, 0, [], []⟩,
  ⟨0x064, 0, 1, 0, 0, 0, 0, 0, 0, 0xFFFFFFFF, [], []⟩,
  ⟨0x068, 0, 1, 0, 0, 0, 0, 0, 0, 0xFFFF, [], []⟩,
  ⟨0x070, 0, 1, 0xFFFFF3FF, 0, 0, 0, 0, 0, 0, [0x780C6258], [(0, 10, 100, 1000), (12, 4, 1, 10)]⟩,
  ⟨0x080, 0x10, 4, 0, 0, 0, 0, 0, 0, 0xFFFFFFFF, [], []⟩,
  ⟨0x084, 0x10, 4, 0, 0, 0, 0, 0, 0, 0xFFFFFFFF, [], []⟩,
  ⟨0x088, 0x10, 4, 0, 0, 0, 0, 0, 0, 0x37FFFF, [], []⟩,
  ⟨0x0C0, 0, 1, 0, 0, 0, 0, 0, 0, 0xFFFF, [], []⟩,
  ⟨0x0C4, 0, 1, 0, 0, 0, 0, 0, 0, 0xFFFF, [], []⟩,
  ⟨0x0C8, 0, 1, 0, 0, 0, 0, 0, 0, 0xFFFF, [], []⟩,
  ⟨0x100, 0x4, 64, 0, 0, 0, 0, 0, 0, 0xFFFFFFFF, [], []⟩,
  ⟨0x400, 0x4, 37, 0, 0, 0, 0, 0, 0xFFFFFFFF, 0, [0xFFFFF000, 0xFFFFFFFF, 0xC0000003, 0xFFFFFFFF, 0xFF001FFF, 0xFFFFFFFF, 0x1FFFF, 0xFFFFFFE0, 0xFFFFFFFF, 0xFFFFFFFF, 0xFC00FFFF, 0xFFFFFFFF, 0xFFFFFFFF, 0xFFFFFFFF, 0xFFFFFFFF, 0xFFFF, 0xFFFFFFC0, 0xFFFFFFFF, 0xFFFFFFFF, 0xFFFFFFFF, 0x7FFFFF, 0xFFFFFFF8, 0xFFFFFFFF, 0xFFFFFFFF, 0x7FFF, 0xFFFFFE00, 0xFFFFFFFF, 0xFFFFFFFF, 0xFFFFFFFF, 0xFC003FFF, 0xFFFFFFFF, 0xFFFFFFFF, 0xFFFFFFFF, 0x3FFF, 0, 0, 0], []⟩]

/-! ### T1S page (R179) -/

/-- Offset of the T1S page in the page window (R36). -/
def T1S.page (n : Fin 4) : Nat := 0x22000 + 0x8000 * n.val
def T1S.ev_PLCA_UP : Nat := 0
def T1S.ev_PLCA_DOWN : Nat := 1
def T1S.ev_PEER : Nat := 2
def T1S.CFG (n : Fin 4) : Nat := T1S.page n + 0x040
def T1S.CFG_PLCA_EN (n : Fin 4) : Fld := ⟨T1S.CFG n, 0, 1⟩
def T1S.CFG_NODE_ID (n : Fin 4) : Fld := ⟨T1S.CFG n, 8, 8⟩
def T1S.CFG_NODE_CNT (n : Fin 4) : Fld := ⟨T1S.CFG n, 16, 4⟩
def T1S.CFG_DMA_TX (n : Fin 4) : Fld := ⟨T1S.CFG n, 24, 4⟩
def T1S.CFG_DMA_RX (n : Fin 4) : Fld := ⟨T1S.CFG n, 28, 4⟩
def T1S.PLCA (n : Fin 4) : Nat := T1S.page n + 0x044
def T1S.PLCA_TO_TIMER (n : Fin 4) : Fld := ⟨T1S.PLCA n, 0, 8⟩
def T1S.PLCA_BURST_CNT (n : Fin 4) : Fld := ⟨T1S.PLCA n, 8, 8⟩
def T1S.PLCA_BURST_TMR (n : Fin 4) : Fld := ⟨T1S.PLCA n, 16, 8⟩
def T1S.STAT (n : Fin 4) : Nat := T1S.page n + 0x048
def T1S.STAT_PLCA_STATUS (n : Fin 4) : Fld := ⟨T1S.STAT n, 0, 1⟩
def T1S.STAT_PEER_SEEN (n : Fin 4) : Fld := ⟨T1S.STAT n, 1, 1⟩
def T1S.STAT_COLL (n : Fin 4) : Fld := ⟨T1S.STAT n, 16, 16⟩
def T1S.PEER_LO (n : Fin 4) : Nat := T1S.page n + 0x04C
def T1S.PEER_HI (n : Fin 4) : Nat := T1S.page n + 0x050
def T1S.PEER_HI_MAC (n : Fin 4) : Fld := ⟨T1S.PEER_HI n, 0, 16⟩
/-- The register table of the T1S page (R179). -/
def T1S.table : List RegRow := [
  ⟨0x040, 0, 1, 0xFF0FFF01, 0, 0, 0, 0, 0, 0, [0x80001], [(8, 8, 0, 7), (16, 4, 2, 8)]⟩,
  ⟨0x044, 0, 1, 0xFFFFFF, 0, 0, 0, 0, 0, 0, [0x800020], []⟩,
  ⟨0x048, 0, 1, 0, 0, 0, 0, 0, 0, 0xFFFF0003, [], []⟩,
  ⟨0x04C, 0, 1, 0, 0, 0, 0, 0, 0, 0xFFFFFFFF, [], []⟩,
  ⟨0x050, 0, 1, 0, 0, 0, 0, 0, 0, 0xFFFF, [], []⟩]

/-! ### CTC page (R203) -/

/-- Offset of the CTC page in the page window (R36). -/
def CTC.page (n : Fin 4) : Nat := 0x23000 + 0x8000 * n.val
def CTC.ev_CLOSED : Nat := 0
def CTC.ev_OPENED : Nat := 1
def CTC.ev_FAIL : Nat := 2
def CTC.ev_WELD : Nat := 3
def CTC.ev_LEARN : Nat := 4
def CTC.ev_UNTIMED : Nat := 5
def CTC.ev_LOADBREAK : Nat := 6
def CTC.ev_OUTLIER : Nat := 7
def CTC.CFG (n : Fin 4) : Nat := CTC.page n + 0x040
def CTC.CFG_MODE (n : Fin 4) : Fld := ⟨CTC.CFG n, 0, 2⟩
def CTC.CFG_POLES (n : Fin 4) : Fld := ⟨CTC.CFG n, 4, 3⟩
def CTC.CFG_FB_EN (n : Fin 4) : Fld := ⟨CTC.CFG n, 8, 1⟩
def CTC.CFG_FB_POL (n : Fin 4) : Fld := ⟨CTC.CFG n, 9, 1⟩
def CTC.CFG_AUX (n : Fin 4) : Fld := ⟨CTC.CFG n, 10, 1⟩
def CTC.CFG_FW_WAIT (n : Fin 4) : Fld := ⟨CTC.CFG n, 16, 12⟩
def CTC.ECO (n : Fin 4) : Nat := CTC.page n + 0x044
def CTC.ECO_T_PULL (n : Fin 4) : Fld := ⟨CTC.ECO n, 0, 10⟩
def CTC.ECO_HOLD_DUTY (n : Fin 4) : Fld := ⟨CTC.ECO n, 16, 7⟩
def CTC.ECO_FREQ (n : Fin 4) : Fld := ⟨CTC.ECO n, 24, 6⟩
def CTC.PW_CLOSE (n : Fin 4) : Nat := CTC.page n + 0x048
def CTC.PW_CLOSE_ANGLE (n : Fin 4) : Fld := ⟨CTC.PW_CLOSE n, 0, 16⟩
def CTC.PW_CLOSE_AUTO (n : Fin 4) : Fld := ⟨CTC.PW_CLOSE n, 16, 1⟩
def CTC.PW_OPEN (n : Fin 4) : Nat := CTC.page n + 0x04C
def CTC.PW_OPEN_LEAD (n : Fin 4) : Fld := ⟨CTC.PW_OPEN n, 0, 16⟩
def CTC.PW_OPEN_GANG_PH (n : Fin 4) : Fld := ⟨CTC.PW_OPEN n, 16, 2⟩
def CTC.STATE (n : Fin 4) : Nat := CTC.page n + 0x050
def CTC.STATE_ST (n : Fin 4) : Fld := ⟨CTC.STATE n, 0, 3⟩
def CTC.STATE_MADE (n : Fin 4) : Fld := ⟨CTC.STATE n, 8, 3⟩
def CTC.STATE_PRE (n : Fin 4) : Fld := ⟨CTC.STATE n, 16, 1⟩
def CTC.STATE_ECO (n : Fin 4) : Fld := ⟨CTC.STATE n, 17, 1⟩
def CTC.STAT (n : Fin 4) : Nat := CTC.page n + 0x054
def CTC.STAT_PERMIT (n : Fin 4) : Fld := ⟨CTC.STAT n, 0, 1⟩
def CTC.STAT_FB (n : Fin 4) : Fld := ⟨CTC.STAT n, 1, 1⟩
def CTC.STAT_WELD (n : Fin 4) : Fld := ⟨CTC.STAT n, 2, 1⟩
def CTC.STAT_WELD_UNCHK (n : Fin 4) : Fld := ⟨CTC.STAT n, 3, 1⟩
def CTC.STAT_UNTIMED (n : Fin 4) : Fld := ⟨CTC.STAT n, 4, 1⟩
def CTC.STAT_LOADBREAK (n : Fin 4) : Fld := ⟨CTC.STAT n, 5, 1⟩
def CTC.STAT_FW (n : Fin 4) : Fld := ⟨CTC.STAT n, 6, 1⟩
def CTC.FAIL (n : Fin 4) : Nat := CTC.page n + 0x058
def CTC.FAIL_CAUSE (n : Fin 4) : Fld := ⟨CTC.FAIL n, 0, 4⟩
def CTC.MAKE (n : Fin 4) (k : Nat) : Nat := CTC.page n + 0x060 + 0x4 * k
def CTC.MAKE_TIME (n : Fin 4) (k : Nat) : Fld := ⟨CTC.MAKE n k, 0, 16⟩
def CTC.MAKE_N (n : Fin 4) (k : Nat) : Fld := ⟨CTC.MAKE n k, 16, 16⟩
def CTC.BREAK (n : Fin 4) (k : Nat) : Nat := CTC.page n + 0x06C + 0x4 * k
def CTC.BREAK_TIME (n : Fin 4) (k : Nat) : Fld := ⟨CTC.BREAK n k, 0, 16⟩
def CTC.BREAK_N (n : Fin 4) (k : Nat) : Fld := ⟨CTC.BREAK n k, 16, 16⟩
def CTC.LAST_ERR (n : Fin 4) (k : Nat) : Nat := CTC.page n + 0x078 + 0x4 * k
def CTC.LAST_ERR_ERR (n : Fin 4) (k : Nat) : Fld := ⟨CTC.LAST_ERR n k, 0, 16⟩
def CTC.CNT_OPS (n : Fin 4) : Nat := CTC.page n + 0x084
def CTC.CNT_A (n : Fin 4) : Nat := CTC.page n + 0x088
def CTC.CNT_A_UNTIMED (n : Fin 4) : Fld := ⟨CTC.CNT_A n, 0, 16⟩
def CTC.CNT_A_LOADBREAK (n : Fin 4) : Fld := ⟨CTC.CNT_A n, 16, 16⟩
def CTC.CNT_B (n : Fin 4) : Nat := CTC.page n + 0x08C
def CTC.CNT_B_OVERRULED (n : Fin 4) : Fld := ⟨CTC.CNT_B n, 0, 16⟩
def CTC.CNT_B_OUTLIER (n : Fin 4) : Fld := ⟨CTC.CNT_B n, 16, 16⟩
def CTC.DCCFG (n : Fin 4) : Nat := CTC.page n + 0x0A0
def CTC.DCCFG_PRE_DV (n : Fin 4) : Fld := ⟨CTC.DCCFG n, 0, 16⟩
def CTC.DCCFG_OPEN_I (n : Fin 4) : Fld := ⟨CTC.DCCFG n, 16, 16⟩
def CTC.DCTIME (n : Fin 4) : Nat := CTC.page n + 0x0A4
def CTC.DCTIME_PRE_TMAX (n : Fin 4) : Fld := ⟨CTC.DCTIME n, 0, 16⟩
def CTC.DCTIME_T_DCOPEN (n : Fin 4) : Fld := ⟨CTC.DCTIME n, 16, 16⟩
def CTC.WELD_CLR (n : Fin 4) : Nat := CTC.page n + 0x0A8
def CTC.WELD_CLR_CLR (n : Fin 4) : Fld := ⟨CTC.WELD_CLR n, 0, 1⟩
def CTC.LEARN (n : Fin 4) : Nat := CTC.page n + 0x400
def CTC.LEARN_K (n : Fin 4) : Fld := ⟨CTC.LEARN n, 0, 3⟩
def CTC.LEARN_MAXDEV (n : Fin 4) : Fld := ⟨CTC.LEARN n, 8, 8⟩
def CTC.LEARN_FREEZE (n : Fin 4) : Fld := ⟨CTC.LEARN n, 16, 1⟩
def CTC.SEED (n : Fin 4) : Nat := CTC.page n + 0x404
def CTC.SEED_TIME (n : Fin 4) : Fld := ⟨CTC.SEED n, 0, 16⟩
def CTC.SEED_POLES (n : Fin 4) : Fld := ⟨CTC.SEED n, 16, 3⟩
def CTC.SEED_BREAK (n : Fin 4) : Fld := ⟨CTC.SEED n, 19, 1⟩
def CTC.SEED_APPLY (n : Fin 4) : Fld := ⟨CTC.SEED n, 31, 1⟩
def CTC.VXCFG (n : Fin 4) : Nat := CTC.page n + 0x408
def CTC.VXCFG_VX_CLOSED (n : Fin 4) : Fld := ⟨CTC.VXCFG n, 0, 8⟩
def CTC.VXCFG_VX_ARC (n : Fin 4) : Fld := ⟨CTC.VXCFG n, 8, 8⟩
def CTC.VXCFG_VX_BLIND (n : Fin 4) : Fld := ⟨CTC.VXCFG n, 16, 8⟩
def CTC.VXCFG_WELD_V (n : Fin 4) : Fld := ⟨CTC.VXCFG n, 24, 8⟩
def CTC.FBCFG (n : Fin 4) : Nat := CTC.page n + 0x40C
def CTC.FBCFG_T_FB (n : Fin 4) : Fld := ⟨CTC.FBCFG n, 0, 10⟩
def CTC.FBCFG_WELD_VMIN (n : Fin 4) : Fld := ⟨CTC.FBCFG n, 16, 16⟩
/-- The register table of the CTC page (R203). -/
def CTC.table : List RegRow := [
  ⟨0x040, 0, 1, 0xFFF0773, 0, 0, 0, 0, 0, 0, [0xC80170], [(0, 2, 0, 2), (16, 12, 0, 2000)]⟩,
  ⟨0x044, 0, 1, 0x3F7F03FF, 0, 0, 0, 0, 0, 0, [0x14280064], [(0, 10, 10, 1000), (16, 7, 10, 100), (24, 6, 1, 40)]⟩,
  ⟨0x048, 0, 1, 0x1FFFF, 0, 0, 0, 0, 0, 0, [0x10000], []⟩,
  ⟨0x04C, 0, 1, 0x3FFFF, 0, 0, 0, 0, 0, 0, [0xCCD], []⟩,
  ⟨0x050, 0, 1, 0, 0, 0, 0, 0, 0, 0x30707, [], []⟩,
  ⟨0x054, 0, 1, 0, 0, 0, 0, 0, 0, 0x7F, [], []⟩,
  ⟨0x058, 0, 1, 0, 0, 0, 0, 0, 0, 0xF, [], []⟩,
  ⟨0x060, 0x4, 3, 0, 0, 0, 0, 0, 0, 0xFFFFFFFF, [0x4E20], []⟩,
  ⟨0x06C, 0x4, 3, 0, 0, 0, 0, 0, 0, 0xFFFFFFFF, [0x2710], []⟩,
  ⟨0x078, 0x4, 3, 0, 0, 0, 0, 0, 0, 0xFFFF, [], []⟩,
  ⟨0x084, 0, 1, 0, 0, 0, 0, 0, 0, 0xFFFFFFFF, [], []⟩,
  ⟨0x088, 0, 1, 0, 0, 0, 0, 0, 0, 0xFFFFFFFF, [], []⟩,
  ⟨0x08C, 0, 1, 0, 0, 0, 0, 0, 0, 0xFFFFFFFF, [], []⟩,
  ⟨0x0A0, 0, 1, 0xFFFFFFFF, 0, 0, 0, 0, 0, 0, [0x3200C8], []⟩,
  ⟨0x0A4, 0, 1, 0xFFFFFFFF, 0, 0, 0, 0, 0, 0, [0x3E81388], [(0, 16, 500, 20000), (16, 16, 100, 1500)]⟩,
  ⟨0x0A8, 0, 1, 0, 0, 0x1, 0, 0, 0, 0, [], []⟩,
  ⟨0x400, 0, 1, 0, 0, 0, 0, 0, 0x1FF07, 0, [0x1E03], [(0, 3, 1, 6)]⟩,
  ⟨0x404, 0, 1, 0, 0, 0x80000000, 0, 0, 0xFFFFF, 0, [], []⟩,
  ⟨0x408, 0, 1, 0, 0, 0, 0, 0, 0xFFFFFFFF, 0, [0x17140805], []⟩,
  ⟨0x40C, 0, 1, 0, 0, 0, 0, 0, 0xFFFF03FF, 0, [0x320064], [(0, 10, 10, 1000)]⟩]

/-! ### RCD page (R220) -/

/-- Offset of the RCD page in the page window (R36). -/
def RCD.page (n : Fin 4) : Nat := 0x24000 + 0x8000 * n.val
def RCD.ev_TRIP : Nat := 0
def RCD.ev_TEST_DONE : Nat := 1
def RCD.ev_DISCREP : Nat := 2
def RCD.ev_EXC_FAULT : Nat := 3
def RCD.CFG (n : Fin 4) : Nat := RCD.page n + 0x040
def RCD.CFG_EXC_AMP (n : Fin 4) : Fld := ⟨RCD.CFG n, 0, 2⟩
def RCD.CFG_TST_AUTO (n : Fin 4) : Fld := ⟨RCD.CFG n, 4, 1⟩
def RCD.CFG_NT (n : Fin 4) : Fld := ⟨RCD.CFG n, 8, 8⟩
def RCD.SCALE_A (n : Fin 4) : Nat := RCD.page n + 0x044
def RCD.SCALE_B (n : Fin 4) : Nat := RCD.page n + 0x048
def RCD.TRIPCFG (n : Fin 4) : Nat := RCD.page n + 0x04C
def RCD.TRIPCFG_T_CT (n : Fin 4) : Fld := ⟨RCD.TRIPCFG n, 0, 7⟩
def RCD.CURVE (n : Fin 4) (k : Nat) : Nat := RCD.page n + 0x050 + 0x4 * k
def RCD.CURVE_I (n : Fin 4) (k : Nat) : Fld := ⟨RCD.CURVE n k, 0, 14⟩
def RCD.CURVE_QTY (n : Fin 4) (k : Nat) : Fld := ⟨RCD.CURVE n k, 14, 2⟩
def RCD.CURVE_T (n : Fin 4) (k : Nat) : Fld := ⟨RCD.CURVE n k, 16, 16⟩
def RCD.CURVE_APPLY (n : Fin 4) : Nat := RCD.page n + 0x070
def RCD.CURVE_APPLY_APPLY (n : Fin 4) : Fld := ⟨RCD.CURVE_APPLY n, 0, 1⟩
def RCD.CURVE_CRC (n : Fin 4) : Nat := RCD.page n + 0x074
def RCD.MEAS_DC (n : Fin 4) : Nat := RCD.page n + 0x078
def RCD.MEAS_AC (n : Fin 4) : Nat := RCD.page n + 0x07C
def RCD.MEAS_TOT (n : Fin 4) : Nat := RCD.page n + 0x080
def RCD.MEAS_B_DC (n : Fin 4) : Nat := RCD.page n + 0x084
def RCD.STAT (n : Fin 4) : Nat := RCD.page n + 0x088
def RCD.STAT_TRIP (n : Fin 4) : Fld := ⟨RCD.STAT n, 0, 1⟩
def RCD.STAT_TRIP_A (n : Fin 4) : Fld := ⟨RCD.STAT n, 1, 1⟩
def RCD.STAT_TRIP_B (n : Fin 4) : Fld := ⟨RCD.STAT n, 2, 1⟩
def RCD.STAT_TRIP_PT (n : Fin 4) : Fld := ⟨RCD.STAT n, 3, 3⟩
def RCD.STAT_TEST_RUN (n : Fin 4) : Fld := ⟨RCD.STAT n, 6, 1⟩
def RCD.STAT_TEST_PASS (n : Fin 4) : Fld := ⟨RCD.STAT n, 7, 1⟩
def RCD.STAT_TEST_FAIL (n : Fin 4) : Fld := ⟨RCD.STAT n, 8, 1⟩
def RCD.STAT_DISCREP (n : Fin 4) : Fld := ⟨RCD.STAT n, 9, 1⟩
def RCD.STAT_EXC_FAULT (n : Fin 4) : Fld := ⟨RCD.STAT n, 10, 1⟩
def RCD.STAT_TEST_STEP (n : Fin 4) : Fld := ⟨RCD.STAT n, 12, 3⟩
def RCD.TEST_AGE (n : Fin 4) : Nat := RCD.page n + 0x08C
def RCD.TRIP_CLR (n : Fin 4) : Nat := RCD.page n + 0x090
def RCD.TRIP_CLR_CLR (n : Fin 4) : Fld := ⟨RCD.TRIP_CLR n, 0, 1⟩
def RCD.DISC (n : Fin 4) : Nat := RCD.page n + 0x400
def RCD.DISC_PCT (n : Fin 4) : Fld := ⟨RCD.DISC n, 0, 8⟩
def RCD.DISC_MA (n : Fin 4) : Fld := ⟨RCD.DISC n, 8, 8⟩
def RCD.TSTLVL (n : Fin 4) : Nat := RCD.page n + 0x404
def RCD.TSTLVL_DC_EQ (n : Fin 4) : Fld := ⟨RCD.TSTLVL n, 0, 16⟩
def RCD.TSTLVL_AC_EQ (n : Fin 4) : Fld := ⟨RCD.TSTLVL n, 16, 16⟩
/-- The register table of the RCD page (R220). -/
def RCD.table : List RegRow := [
  ⟨0x040, 0, 1, 0xFF13, 0, 0, 0, 0, 0, 0, [0xA11], [(8, 8, 1, 100)]⟩,
  ⟨0x044, 0, 1, 0xFFFFFFFF, 0, 0, 0, 0, 0, 0, [], []⟩,
  ⟨0x048, 0, 1, 0xFFFFFFFF, 0, 0, 0, 0, 0, 0, [], []⟩,
  ⟨0x04C, 0, 1, 0x7F, 0, 0, 0, 0, 0, 0, [0x28], [(0, 7, 0, 100)]⟩,
  ⟨0x050, 0x4, 8, 0xFFFFFFFF, 0, 0, 0, 0, 0, 0, [0x2710403C, 0x12C4258, 0x6447D0, 0x12C812C, 0x968258, 0, 0, 0], []⟩,
  ⟨0x070, 0, 1, 0, 0, 0x1, 0, 0, 0, 0, [], []⟩,
  ⟨0x074, 0, 1, 0, 0, 0, 0, 0, 0, 0xFFFFFFFF, [], []⟩,
  ⟨0x078, 0, 1, 0, 0, 0, 0, 0, 0, 0xFFFFFFFF, [], []⟩,
  ⟨0x07C, 0, 1, 0, 0, 0, 0, 0, 0, 0xFFFFFFFF, [], []⟩,
  ⟨0x080, 0, 1, 0, 0, 0, 0, 0, 0, 0xFFFFFFFF, [], []⟩,
  ⟨0x084, 0, 1, 0, 0, 0, 0, 0, 0, 0xFFFFFFFF, [], []⟩,
  ⟨0x088, 0, 1, 0, 0, 0, 0, 0, 0, 0x77FF, [], []⟩,
  ⟨0x08C, 0, 1, 0, 0, 0, 0, 0, 0, 0xFFFFFFFF, [0xFFFFFFFF], []⟩,
  ⟨0x090, 0, 1, 0, 0, 0x1, 0, 0, 0, 0, [], []⟩,
  ⟨0x400, 0, 1, 0, 0, 0, 0, 0, 0xFFFF, 0, [0xA14], []⟩,
  ⟨0x404, 0, 1, 0, 0, 0, 0, 0, 0xFFFFFFFF, 0, [0x19000C8], []⟩]

/-! ### IMD page (R221) -/

/-- Offset of the IMD page in the page window (R36). -/
def IMD.page (n : Fin 4) : Nat := 0x25000 + 0x8000 * n.val
def IMD.ev_RESULT : Nat := 0
def IMD.ev_WARN : Nat := 1
def IMD.ev_FAULT : Nat := 2
def IMD.ev_UNSETTLED : Nat := 3
def IMD.CFG (n : Fin 4) : Nat := IMD.page n + 0x040
def IMD.CFG_HALF (n : Fin 4) : Fld := ⟨IMD.CFG n, 0, 8⟩
def IMD.CFG_AUTO_SLOW (n : Fin 4) : Fld := ⟨IMD.CFG n, 8, 1⟩
def IMD.CFG_AVG (n : Fin 4) : Fld := ⟨IMD.CFG n, 9, 3⟩
def IMD.RI (n : Fin 4) : Nat := IMD.page n + 0x044
def IMD.RI_R (n : Fin 4) : Fld := ⟨IMD.RI n, 0, 16⟩
def IMD.UINJ (n : Fin 4) : Nat := IMD.page n + 0x048
def IMD.UINJ_U (n : Fin 4) : Fld := ⟨IMD.UINJ n, 0, 16⟩
def IMD.RM (n : Fin 4) : Nat := IMD.page n + 0x04C
def IMD.RM_R (n : Fin 4) : Fld := ⟨IMD.RM n, 0, 16⟩
def IMD.SCALE_SP (n : Fin 4) : Nat := IMD.page n + 0x050
def IMD.SCALE_SN (n : Fin 4) : Nat := IMD.page n + 0x054
def IMD.THR (n : Fin 4) : Nat := IMD.page n + 0x058
def IMD.THR_WARN (n : Fin 4) : Fld := ⟨IMD.THR n, 0, 16⟩
def IMD.THR_FAULT (n : Fin 4) : Fld := ⟨IMD.THR n, 16, 16⟩
def IMD.CTL (n : Fin 4) : Nat := IMD.page n + 0x05C
def IMD.CTL_START (n : Fin 4) : Fld := ⟨IMD.CTL n, 0, 1⟩
def IMD.CTL_STOP (n : Fin 4) : Fld := ⟨IMD.CTL n, 1, 1⟩
def IMD.STAT (n : Fin 4) : Nat := IMD.page n + 0x060
def IMD.STAT_RUNNING (n : Fin 4) : Fld := ⟨IMD.STAT n, 0, 1⟩
def IMD.STAT_VALID (n : Fin 4) : Fld := ⟨IMD.STAT n, 1, 1⟩
def IMD.STAT_WARN (n : Fin 4) : Fld := ⟨IMD.STAT n, 2, 1⟩
def IMD.STAT_FAULT (n : Fin 4) : Fld := ⟨IMD.STAT n, 3, 1⟩
def IMD.STAT_UNSETTLED (n : Fin 4) : Fld := ⟨IMD.STAT n, 4, 1⟩
def IMD.STAT_UNDER (n : Fin 4) : Fld := ⟨IMD.STAT n, 5, 1⟩
def IMD.STAT_OVER (n : Fin 4) : Fld := ⟨IMD.STAT n, 6, 1⟩
def IMD.STAT_NOUV (n : Fin 4) : Fld := ⟨IMD.STAT n, 7, 1⟩
def IMD.STAT_NORESULT (n : Fin 4) : Fld := ⟨IMD.STAT n, 8, 1⟩
def IMD.STAT_HALF_EFF (n : Fin 4) : Fld := ⟨IMD.STAT n, 16, 8⟩
def IMD.RISO (n : Fin 4) : Nat := IMD.page n + 0x064
def IMD.RP (n : Fin 4) : Nat := IMD.page n + 0x068
def IMD.RN (n : Fin 4) : Nat := IMD.page n + 0x06C
def IMD.ULINK (n : Fin 4) : Nat := IMD.page n + 0x070
def IMD.ULINK_U (n : Fin 4) : Fld := ⟨IMD.ULINK n, 0, 16⟩
def IMD.RES_CNT (n : Fin 4) : Nat := IMD.page n + 0x074
def IMD.SETTLE (n : Fin 4) : Nat := IMD.page n + 0x400
def IMD.SETTLE_TOL (n : Fin 4) : Fld := ⟨IMD.SETTLE n, 0, 8⟩
def IMD.SETTLE_WIN (n : Fin 4) : Fld := ⟨IMD.SETTLE n, 8, 8⟩
def IMD.TMAX (n : Fin 4) : Nat := IMD.page n + 0x404
def IMD.TMAX_IMD_TMAX (n : Fin 4) : Fld := ⟨IMD.TMAX n, 0, 16⟩
/-- The register table of the IMD page (R221). -/
def IMD.table : List RegRow := [
  ⟨0x040, 0, 1, 0xFFF, 0, 0, 0, 0, 0, 0, [0x519], [(9, 3, 1, 4)]⟩,
  ⟨0x044, 0, 1, 0xFFFF, 0, 0, 0, 0, 0, 0, [0x1D6], []⟩,
  ⟨0x048, 0, 1, 0xFFFF, 0, 0, 0, 0, 0, 0, [0x1F4], []⟩,
  ⟨0x04C, 0, 1, 0xFFFF, 0, 0, 0, 0, 0, 0, [0xFFFF], []⟩,
  ⟨0x050, 0, 1, 0xFFFFFFFF, 0, 0, 0, 0, 0, 0, [], []⟩,
  ⟨0x054, 0, 1, 0xFFFFFFFF, 0, 0, 0, 0, 0, 0, [], []⟩,
  ⟨0x058, 0, 1, 0xFFFFFFFF, 0, 0, 0, 0, 0, 0, [0x6401F4], []⟩,
  ⟨0x05C, 0, 1, 0, 0, 0x3, 0, 0, 0, 0, [], []⟩,
  ⟨0x060, 0, 1, 0, 0, 0, 0, 0, 0, 0xFF01FF, [0x190000], []⟩,
  ⟨0x064, 0, 1, 0, 0, 0, 0, 0, 0, 0xFFFFFFFF, [0xFFFFFFFF], []⟩,
  ⟨0x068, 0, 1, 0, 0, 0, 0, 0, 0, 0xFFFFFFFF, [0xFFFFFFFF], []⟩,
  ⟨0x06C, 0, 1, 0, 0, 0, 0, 0, 0, 0xFFFFFFFF, [0xFFFFFFFF], []⟩,
  ⟨0x070, 0, 1, 0, 0, 0, 0, 0, 0, 0xFFFF, [], []⟩,
  ⟨0x074, 0, 1, 0, 0, 0, 0, 0, 0, 0xFFFFFFFF, [], []⟩,
  ⟨0x400, 0, 1, 0, 0, 0, 0, 0, 0xFFFF, 0, [0x1902], []⟩,
  ⟨0x404, 0, 1, 0, 0, 0, 0, 0, 0xFFFF, 0, [0x1E], [(0, 16, 5, 100)]⟩]

/-! ### EXI page (R180) -/

/-- Offset of the EXI page in the page window (R36). -/
def EXI.page : Nat := 0x40000
def EXI.ev_DONE : Nat := 0
def EXI.ev_ERROR : Nat := 1
def EXI.ev_GRAMMAR : Nat := 2
def EXI.CFG : Nat := EXI.page + 0x040
def EXI.CFG_DMA_RD : Fld := ⟨EXI.CFG, 0, 4⟩
def EXI.CFG_DMA_WR : Fld := ⟨EXI.CFG, 4, 4⟩
def EXI.GSLOT (k : Nat) : Nat := EXI.page + 0x044 + 0x4 * k
def EXI.GSLOT_OFFSET (k : Nat) : Fld := ⟨EXI.GSLOT k, 0, 20⟩
def EXI.GSLOT_LOADED (k : Nat) : Fld := ⟨EXI.GSLOT k, 30, 1⟩
def EXI.GSLOT_LOAD (k : Nat) : Fld := ⟨EXI.GSLOT k, 31, 1⟩
def EXI.GID (k : Nat) : Nat := EXI.page + 0x064 + 0x4 * k
def EXI.GSTAT : Nat := EXI.page + 0x084
def EXI.GSTAT_BAD : Fld := ⟨EXI.GSTAT, 0, 8⟩
def EXI.JOB_SRC : Nat := EXI.page + 0x090
def EXI.JOB_SRCLEN : Nat := EXI.page + 0x094
def EXI.JOB_DST : Nat := EXI.page + 0x098
def EXI.JOB_DSTLEN : Nat := EXI.page + 0x09C
def EXI.JOB_VAL : Nat := EXI.page + 0x0A0
def EXI.JOB_VALLEN : Nat := EXI.page + 0x0A4
def EXI.JOB_CTL : Nat := EXI.page + 0x0A8
def EXI.JOB_CTL_DIR : Fld := ⟨EXI.JOB_CTL, 0, 1⟩
def EXI.JOB_CTL_GSLOT : Fld := ⟨EXI.JOB_CTL, 1, 3⟩
def EXI.JOB_CTL_FRAGMENT : Fld := ⟨EXI.JOB_CTL, 4, 1⟩
def EXI.JOB_CTL_START : Fld := ⟨EXI.JOB_CTL, 8, 1⟩
def EXI.JOB_RES : Nat := EXI.page + 0x0AC
def EXI.JOB_RES_CODE : Fld := ⟨EXI.JOB_RES, 0, 4⟩
def EXI.JOB_RES_DONE : Fld := ⟨EXI.JOB_RES, 4, 1⟩
def EXI.JOB_OUT : Nat := EXI.page + 0x0B0
def EXI.JOB_POS : Nat := EXI.page + 0x0B4
/-- The register table of the EXI page (R180). -/
def EXI.table : List RegRow := [
  ⟨0x040, 0, 1, 0xFF, 0, 0, 0, 0, 0, 0, [], []⟩,
  ⟨0x044, 0x4, 8, 0xFFFFF, 0, 0x80000000, 0, 0, 0, 0x40000000, [], []⟩,
  ⟨0x064, 0x4, 8, 0, 0, 0, 0, 0, 0, 0xFFFFFFFF, [], []⟩,
  ⟨0x084, 0, 1, 0, 0, 0, 0, 0, 0, 0xFF, [], []⟩,
  ⟨0x090, 0, 1, 0xFFFFFFFF, 0, 0, 0, 0, 0, 0, [], []⟩,
  ⟨0x094, 0, 1, 0xFFFFFFFF, 0, 0, 0, 0, 0, 0, [], []⟩,
  ⟨0x098, 0, 1, 0xFFFFFFFF, 0, 0, 0, 0, 0, 0, [], []⟩,
  ⟨0x09C, 0, 1, 0xFFFFFFFF, 0, 0, 0, 0, 0, 0, [], []⟩,
  ⟨0x0A0, 0, 1, 0xFFFFFFFF, 0, 0, 0, 0, 0, 0, [], []⟩,
  ⟨0x0A4, 0, 1, 0xFFFFFFFF, 0, 0, 0, 0, 0, 0, [], []⟩,
  ⟨0x0A8, 0, 1, 0x1F, 0, 0x100, 0, 0, 0, 0, [], []⟩,
  ⟨0x0AC, 0, 1, 0, 0, 0, 0, 0, 0, 0x1F, [], []⟩,
  ⟨0x0B0, 0, 1, 0, 0, 0, 0, 0, 0, 0xFFFFFFFF, [], []⟩,
  ⟨0x0B4, 0, 1, 0, 0, 0, 0, 0, 0, 0xFFFFFFFF, [], []⟩]

/-! ### SAF page (R249) -/

/-- Offset of the SAF page in the page window (R36). -/
def SAF.page : Nat := 0x50000
def SAF.ev_PERMIT : Nat := 0
def SAF.ev_TRIP : Nat := 1
def SAF.ev_SNET_ENTER : Nat := 2
def SAF.ev_SNET_EXPIRE : Nat := 3
def SAF.ev_SI_FAULT : Nat := 4
def SAF.ev_MODE : Nat := 5
def SAF.ev_PROOF_DONE : Nat := 6
def SAF.ev_TEMP_WARN : Nat := 7
def SAF.MODE : Nat := SAF.page + 0x040
def SAF.MODE_CHMODE : Fld := ⟨SAF.MODE, 0, 3⟩
def SAF.MODE_HL_OUT : Fld := ⟨SAF.MODE, 3, 1⟩
def SAF.PERMIT : Nat := SAF.page + 0x044
def SAF.PERMIT_EFF : Fld := ⟨SAF.PERMIT, 0, 4⟩
def SAF.PERMIT_PROC : Fld := ⟨SAF.PERMIT, 4, 4⟩
def SAF.PERMIT_HL : Fld := ⟨SAF.PERMIT, 8, 4⟩
def SAF.SF_BAY (k : Nat) : Nat := SAF.page + 0x048 + 0x4 * k
def SAF.SF_BAY_ACT (k : Nat) : Fld := ⟨SAF.SF_BAY k, 0, 7⟩
def SAF.SF_BAY_LATCH (k : Nat) : Fld := ⟨SAF.SF_BAY k, 8, 7⟩
def SAF.SNET_CFG : Nat := SAF.page + 0x058
def SAF.SNET_CFG_I_AC : Fld := ⟨SAF.SNET_CFG, 0, 16⟩
def SAF.SNET_CFG_DC_PCT : Fld := ⟨SAF.SNET_CFG, 16, 7⟩
def SAF.SNET_TIME : Nat := SAF.page + 0x05C
def SAF.SNET_TIME_TIME : Fld := ⟨SAF.SNET_TIME, 0, 10⟩
def SAF.SNET_STAT (k : Nat) : Nat := SAF.page + 0x060 + 0x4 * k
def SAF.SNET_STAT_REMAIN (k : Nat) : Fld := ⟨SAF.SNET_STAT k, 0, 10⟩
def SAF.SNET_STAT_ACTIVE (k : Nat) : Fld := ⟨SAF.SNET_STAT k, 15, 1⟩
def SAF.SNET_STAT_USED (k : Nat) : Fld := ⟨SAF.SNET_STAT k, 16, 1⟩
def SAF.SNET_STAT_CAUSE (k : Nat) : Fld := ⟨SAF.SNET_STAT k, 17, 7⟩
def SAF.SNET_CNT : Nat := SAF.page + 0x070
def SAF.SNET_CNT_ENTRIES : Fld := ⟨SAF.SNET_CNT, 0, 16⟩
def SAF.SNET_CNT_EXPIRIES : Fld := ⟨SAF.SNET_CNT, 16, 16⟩
def SAF.SI_CFG (k : Nat) : Nat := SAF.page + 0x080 + 0x4 * k
def SAF.SI_CFG_EN (k : Nat) : Fld := ⟨SAF.SI_CFG k, 0, 1⟩
def SAF.SI_CFG_ANTI (k : Nat) : Fld := ⟨SAF.SI_CFG k, 1, 1⟩
def SAF.SI_CFG_TP_EN (k : Nat) : Fld := ⟨SAF.SI_CFG k, 2, 1⟩
def SAF.SI_CFG_FUNC (k : Nat) : Fld := ⟨SAF.SI_CFG k, 4, 2⟩
def SAF.SI_CFG_BAYMASK (k : Nat) : Fld := ⟨SAF.SI_CFG k, 8, 4⟩
def SAF.SI_CFG_DISC (k : Nat) : Fld := ⟨SAF.SI_CFG k, 16, 9⟩
def SAF.SI_STAT : Nat := SAF.page + 0x0A0
def SAF.SI_STAT_SAFE : Fld := ⟨SAF.SI_STAT, 0, 8⟩
def SAF.SI_STAT_DISC_FAULT : Fld := ⟨SAF.SI_STAT, 8, 8⟩
def SAF.SI_STAT_XSHORT : Fld := ⟨SAF.SI_STAT, 16, 8⟩
def SAF.TLIM (k : Nat) : Nat := SAF.page + 0x0B0 + 0x4 * k
def SAF.TLIM_TRIP_MV (k : Nat) : Fld := ⟨SAF.TLIM k, 0, 11⟩
def SAF.TLIM_WARN_MV (k : Nat) : Fld := ⟨SAF.TLIM k, 11, 11⟩
def SAF.TLIM_EN (k : Nat) : Fld := ⟨SAF.TLIM k, 22, 4⟩
def SAF.TLIM_DIR (k : Nat) : Fld := ⟨SAF.TLIM k, 26, 1⟩
def SAF.TLIM_HYST (k : Nat) : Fld := ⟨SAF.TLIM k, 27, 5⟩
def SAF.TFILT : Nat := SAF.page + 0x0C0
def SAF.TFILT_TFILT : Fld := ⟨SAF.TFILT, 0, 12⟩
def SAF.TSTAT : Nat := SAF.page + 0x0C4
def SAF.TSTAT_WARN : Fld := ⟨SAF.TSTAT, 0, 16⟩
def SAF.TSTAT_TRIP : Fld := ⟨SAF.TSTAT, 16, 16⟩
def SAF.OCG : Nat := SAF.page + 0x0C8
def SAF.OCG_PCT : Fld := ⟨SAF.OCG, 0, 8⟩
def SAF.OCG_ABS : Fld := ⟨SAF.OCG, 8, 8⟩
def SAF.OCG_T : Fld := ⟨SAF.OCG, 16, 16⟩
def SAF.LSW_GATE : Nat := SAF.page + 0x0CC
def SAF.LSW_GATE_CH : Fld := ⟨SAF.LSW_GATE, 0, 12⟩
def SAF.TRIP_CFG : Nat := SAF.page + 0x0D0
def SAF.TRIP_CFG_MASK_L : Fld := ⟨SAF.TRIP_CFG, 0, 7⟩
def SAF.TRIP_CFG_MASK_P : Fld := ⟨SAF.TRIP_CFG, 8, 7⟩
def SAF.TRIP_CFG_LATCH : Fld := ⟨SAF.TRIP_CFG, 15, 1⟩
def SAF.TRIP_CFG_PULSE : Fld := ⟨SAF.TRIP_CFG, 16, 8⟩
def SAF.TRIP_STAT : Nat := SAF.page + 0x0D4
def SAF.TRIP_STAT_TRIP_L : Fld := ⟨SAF.TRIP_STAT, 0, 1⟩
def SAF.TRIP_STAT_TRIP_P : Fld := ⟨SAF.TRIP_STAT, 1, 1⟩
def SAF.TRIP_STAT_SAFE_OK : Fld := ⟨SAF.TRIP_STAT, 2, 1⟩
def SAF.PROOF_CFG : Nat := SAF.page + 0x0E0
def SAF.PROOF_CFG_INT : Fld := ⟨SAF.PROOF_CFG, 0, 8⟩
def SAF.PROOF_STAT : Nat := SAF.page + 0x0E4
def SAF.PROOF_STAT_RUN : Fld := ⟨SAF.PROOF_STAT, 0, 1⟩
def SAF.PROOF_STAT_PASS : Fld := ⟨SAF.PROOF_STAT, 1, 1⟩
def SAF.PROOF_STAT_FAIL : Fld := ⟨SAF.PROOF_STAT, 2, 1⟩
def SAF.PROOF_STAT_FAILS : Fld := ⟨SAF.PROOF_STAT, 8, 8⟩
def SAF.PROOF_STAT_AGE : Fld := ⟨SAF.PROOF_STAT, 16, 16⟩
def SAF.DIAG : Nat := SAF.page + 0x0F0
def SAF.DIAG_ECC_COR : Fld := ⟨SAF.DIAG, 0, 16⟩
def SAF.DIAG_CRC_ERR : Fld := ⟨SAF.DIAG, 16, 16⟩
def SAF.CFG_CRC : Nat := SAF.page + 0x0F8
def SAF.EXPCFG : Nat := SAF.page + 0x400
def SAF.EXPCFG_SINGLE_START : Fld := ⟨SAF.EXPCFG, 0, 1⟩
/-- The register table of the SAF page (R249). -/
def SAF.table : List RegRow := [
  ⟨0x040, 0, 1, 0, 0, 0, 0, 0, 0, 0xF, [0x1], []⟩,
  ⟨0x044, 0, 1, 0, 0, 0, 0, 0, 0, 0xFFF, [], []⟩,
  ⟨0x048, 0x4, 4, 0, 0, 0, 0, 0, 0, 0x7F7F, [], []⟩,
  ⟨0x058, 0, 1, 0x7FFFFF, 0, 0, 0, 0, 0, 0, [0x3200A0], [(16, 7, 1, 50)]⟩,
  ⟨0x05C, 0, 1, 0x3FF, 0, 0, 0, 0, 0, 0, [0x78], [(0, 10, 10, 900)]⟩,
  ⟨0x060, 0x4, 4, 0, 0, 0, 0, 0, 0, 0xFF83FF, [], []⟩,
  ⟨0x070, 0, 1, 0, 0, 0, 0, 0, 0, 0xFFFFFFFF, [], []⟩,
  ⟨0x080, 0x4, 8, 0x1FF0F37, 0, 0, 0, 0, 0, 0, [0x320004], [(4, 2, 0, 2), (16, 9, 5, 500)]⟩,
  ⟨0x0A0, 0, 1, 0, 0, 0, 0, 0, 0, 0xFFFFFF, [0xFF], []⟩,
  ⟨0x0B0, 0x4, 4, 0xFFFFFFFF, 0, 0, 0, 0, 0, 0, [0x10000000], []⟩,
  ⟨0x0C0, 0, 1, 0xFFF, 0, 0, 0, 0, 0, 0, [0x1F4], [(0, 12, 50, 4000)]⟩,
  ⟨0x0C4, 0, 1, 0, 0, 0, 0, 0, 0, 0xFFFFFFFF, [], []⟩,
  ⟨0x0C8, 0, 1, 0xFFFFFFFF, 0, 0, 0, 0, 0, 0, [0x1388140A], []⟩,
  ⟨0x0CC, 0, 1, 0xFFF, 0, 0, 0, 0, 0, 0, [], []⟩,
  ⟨0x0D0, 0, 1, 0xFFFF7F, 0, 0, 0, 0, 0, 0, [0x148908], [(16, 8, 1, 255)]⟩,
  ⟨0x0D4, 0, 1, 0, 0, 0, 0, 0, 0, 0x7, [], []⟩,
  ⟨0x0E0, 0, 1, 0xFF, 0, 0, 0, 0, 0, 0, [0x18], [(0, 8, 1, 168)]⟩,
  ⟨0x0E4, 0, 1, 0, 0, 0, 0, 0, 0, 0xFFFFFF07, [], []⟩,
  ⟨0x0F0, 0, 1, 0, 0, 0, 0, 0, 0, 0xFFFFFFFF, [], []⟩,
  ⟨0x0F8, 0, 1, 0, 0, 0, 0, 0, 0, 0xFFFFFFFF, [], []⟩,
  ⟨0x400, 0, 1, 0, 0, 0, 0, 0, 0x1, 0, [], []⟩]

/-! ### SAFL page (R250) -/

/-- Offset of the SAFL page in the page window (R36). -/
def SAFL.page : Nat := 0x51000
def SAFL.ev_HL_FAULT : Nat := 0
def SAFL.ev_CRC_MISMATCH : Nat := 1
def SAFL.ev_HEARTBEAT : Nat := 2
def SAFL.HL_STAT : Nat := SAFL.page + 0x040
def SAFL.HL_STAT_ALIVE : Fld := ⟨SAFL.HL_STAT, 0, 1⟩
def SAFL.HL_STAT_CLK_OK : Fld := ⟨SAFL.HL_STAT, 1, 1⟩
def SAFL.HL_STAT_IN_SERVICE : Fld := ⟨SAFL.HL_STAT, 2, 1⟩
def SAFL.HL_STAT_PROOF_RUN : Fld := ⟨SAFL.HL_STAT, 3, 1⟩
def SAFL.HL_STAT_PERMIT : Fld := ⟨SAFL.HL_STAT, 4, 4⟩
def SAFL.HL_CRC : Nat := SAFL.page + 0x044
def SAFL.HL_SI : Nat := SAFL.page + 0x048
def SAFL.HL_SI_RAW : Fld := ⟨SAFL.HL_SI, 0, 16⟩
def SAFL.HL_RCD : Nat := SAFL.page + 0x04C
def SAFL.HL_RCD_TRIP_B : Fld := ⟨SAFL.HL_RCD, 0, 4⟩
def SAFL.HL_TEMP : Nat := SAFL.page + 0x050
def SAFL.HL_TEMP_CMP : Fld := ⟨SAFL.HL_TEMP, 0, 16⟩
def SAFL.HL_CP : Nat := SAFL.page + 0x054
def SAFL.HL_CP_FAULT : Fld := ⟨SAFL.HL_CP, 0, 4⟩
def SAFL.HL_SNET : Nat := SAFL.page + 0x058
def SAFL.HL_SNET_REMAIN : Fld := ⟨SAFL.HL_SNET, 0, 10⟩
def SAFL.HL_SNET_ACTIVE : Fld := ⟨SAFL.HL_SNET, 12, 4⟩
def SAFL.HL_FAULT : Nat := SAFL.page + 0x05C
def SAFL.HL_FAULT_CAUSE : Fld := ⟨SAFL.HL_FAULT, 0, 8⟩
def SAFL.HL_CNT : Nat := SAFL.page + 0x060
def SAFL.HL_CNT_LOSSES : Fld := ⟨SAFL.HL_CNT, 0, 16⟩
/-- The register table of the SAFL page (R250). -/
def SAFL.table : List RegRow := [
  ⟨0x040, 0, 1, 0, 0, 0, 0, 0, 0, 0xFF, [], []⟩,
  ⟨0x044, 0, 1, 0, 0, 0, 0, 0, 0, 0xFFFFFFFF, [], []⟩,
  ⟨0x048, 0, 1, 0, 0, 0, 0, 0, 0, 0xFFFF, [], []⟩,
  ⟨0x04C, 0, 1, 0, 0, 0, 0, 0, 0, 0xF, [], []⟩,
  ⟨0x050, 0, 1, 0, 0, 0, 0, 0, 0, 0xFFFF, [], []⟩,
  ⟨0x054, 0, 1, 0, 0, 0, 0, 0, 0, 0xF, [], []⟩,
  ⟨0x058, 0, 1, 0, 0, 0, 0, 0, 0, 0xF3FF, [], []⟩,
  ⟨0x05C, 0, 1, 0, 0, 0, 0, 0, 0, 0xFF, [], []⟩,
  ⟨0x060, 0, 1, 0, 0, 0, 0, 0, 0, 0xFFFF, [], []⟩]

/-! ### LGL page (R323) -/

/-- Offset of the LGL page in the page window (R36). -/
def LGL.page : Nat := 0x60000
def LGL.ev_SEAL : Nat := 0
def LGL.ev_RECEIPT : Nat := 1
def LGL.ev_HELD : Nat := 2
def LGL.ev_TAMPER : Nat := 3
def LGL.ev_SLEW_DONE : Nat := 4
def LGL.ev_CI : Nat := 5
def LGL.ev_DISPLAY : Nat := 6
def LGL.STAT : Nat := LGL.page + 0x040
def LGL.STAT_READY : Fld := ⟨LGL.STAT, 0, 1⟩
def LGL.STAT_INFO : Fld := ⟨LGL.STAT, 1, 1⟩
def LGL.STAT_CI : Fld := ⟨LGL.STAT, 2, 1⟩
def LGL.STAT_SLEWING : Fld := ⟨LGL.STAT, 3, 1⟩
def LGL.STAT_VAULT_WAIT : Fld := ⟨LGL.STAT, 4, 1⟩
def LGL.STAT_HELD : Fld := ⟨LGL.STAT, 8, 5⟩
def LGL.IMG_HASH (k : Nat) : Nat := LGL.page + 0x044 + 0x4 * k
def LGL.IMG_VER : Nat := LGL.page + 0x074
def LGL.SEAL_CNT : Nat := LGL.page + 0x078
def LGL.SEAL_TIME : Nat := LGL.page + 0x07C
def LGL.SEAL_OBJ_LO : Nat := LGL.page + 0x080
def LGL.SEAL_OBJ_HI : Nat := LGL.page + 0x084
def LGL.SEAL_OBJ_HI_OBIS : Fld := ⟨LGL.SEAL_OBJ_HI, 0, 16⟩
def LGL.SLEW_REM : Nat := LGL.page + 0x088
def LGL.SLEW_USED : Nat := LGL.page + 0x08C
def LGL.SLEW_USED_MS : Fld := ⟨LGL.SLEW_USED, 0, 16⟩
def LGL.RSEQ : Nat := LGL.page + 0x090
def LGL.RCPT_CNT : Nat := LGL.page + 0x094
def LGL.RCPT_CNT_CNT : Fld := ⟨LGL.RCPT_CNT, 0, 10⟩
def LGL.SESS_STAT (k : Nat) : Nat := LGL.page + 0x0A0 + 0x4 * k
def LGL.SESS_STAT_OPEN (k : Nat) : Fld := ⟨LGL.SESS_STAT k, 0, 1⟩
def LGL.SESS_STAT_AUTH_SET (k : Nat) : Fld := ⟨LGL.SESS_STAT k, 1, 1⟩
def LGL.SESS_STAT_METERING (k : Nat) : Fld := ⟨LGL.SESS_STAT k, 2, 1⟩
def LGL.SESS_STAT_END_WAIT (k : Nat) : Fld := ⟨LGL.SESS_STAT k, 3, 1⟩
def LGL.SESS_NUM (k : Nat) : Nat := LGL.page + 0x0B0 + 0x4 * k
def LGL.TMP_STAT : Nat := LGL.page + 0x0C0
def LGL.TMP_STAT_EN : Fld := ⟨LGL.TMP_STAT, 0, 4⟩
def LGL.TMP_STAT_ACTIVE : Fld := ⟨LGL.TMP_STAT, 4, 4⟩
def LGL.TMP_STAT_UNACK : Fld := ⟨LGL.TMP_STAT, 8, 4⟩
def LGL.TMP_CNT (k : Nat) : Nat := LGL.page + 0x0D0 + 0x4 * k
def LGL.TMP_FIRST (k : Nat) : Nat := LGL.page + 0x0E0 + 0x4 * k
def LGL.TMP_LAST (k : Nat) : Nat := LGL.page + 0x0F0 + 0x4 * k
def LGL.DISP_CRC : Nat := LGL.page + 0x100
def LGL.DISP_TIME : Nat := LGL.page + 0x104
/-- The register table of the LGL page (R323). -/
def LGL.table : List RegRow := [
  ⟨0x040, 0, 1, 0, 0, 0, 0, 0, 0, 0x1F1F, [], []⟩,
  ⟨0x044, 0x4, 12, 0, 0, 0, 0, 0, 0, 0xFFFFFFFF, [], []⟩,
  ⟨0x074, 0, 1, 0, 0, 0, 0, 0, 0, 0xFFFFFFFF, [], []⟩,
  ⟨0x078, 0, 1, 0, 0, 0, 0, 0, 0, 0xFFFFFFFF, [], []⟩,
  ⟨0x07C, 0, 1, 0, 0, 0, 0, 0, 0, 0xFFFFFFFF, [], []⟩,
  ⟨0x080, 0, 1, 0, 0, 0, 0, 0, 0, 0xFFFFFFFF, [], []⟩,
  ⟨0x084, 0, 1, 0, 0, 0, 0, 0, 0, 0xFFFF, [], []⟩,
  ⟨0x088, 0, 1, 0, 0, 0, 0, 0, 0, 0xFFFFFFFF, [], []⟩,
  ⟨0x08C, 0, 1, 0, 0, 0, 0, 0, 0, 0xFFFF, [], []⟩,
  ⟨0x090, 0, 1, 0, 0, 0, 0, 0, 0, 0xFFFFFFFF, [], []⟩,
  ⟨0x094, 0, 1, 0, 0, 0, 0, 0, 0, 0x3FF, [], []⟩,
  ⟨0x0A0, 0x4, 4, 0, 0, 0, 0, 0, 0, 0xF, [], []⟩,
  ⟨0x0B0, 0x4, 4, 0, 0, 0, 0, 0, 0, 0xFFFFFFFF, [], []⟩,
  ⟨0x0C0, 0, 1, 0, 0, 0, 0, 0, 0, 0xFFF, [0x3], []⟩,
  ⟨0x0D0, 0x4, 4, 0, 0, 0, 0, 0, 0, 0xFFFFFFFF, [], []⟩,
  ⟨0x0E0, 0x4, 4, 0, 0, 0, 0, 0, 0, 0xFFFFFFFF, [], []⟩,
  ⟨0x0F0, 0x4, 4, 0, 0, 0, 0, 0, 0, 0xFFFFFFFF, [], []⟩,
  ⟨0x100, 0, 1, 0, 0, 0, 0, 0, 0, 0xFFFFFFFF, [], []⟩,
  ⟨0x104, 0, 1, 0, 0, 0, 0, 0, 0, 0xFFFFFFFF, [], []⟩]

/-! ### LED page (R276) -/

/-- Offset of the LED page in the page window (R36). -/
def LED.page : Nat := 0x61000
def LED.ev_BOUNDARY_DONE : Nat := 0
def LED.ev_GLOG : Nat := 1
def LED.ev_LLOG : Nat := 2
def LED.ev_LLOG_FULL : Nat := 3
def LED.ev_CLOCK_STEP : Nat := 4
def LED.ev_REPLAY : Nat := 5
def LED.STAT : Nat := LED.page + 0x040
def LED.STAT_READY : Fld := ⟨LED.STAT, 0, 1⟩
def LED.STAT_CI : Fld := ⟨LED.STAT, 1, 1⟩
def LED.STAT_LLOG_FULL : Fld := ⟨LED.STAT, 2, 1⟩
def LED.STAT_REPLAYED : Fld := ⟨LED.STAT, 3, 1⟩
def LED.STAT_RPT_SPAN : Fld := ⟨LED.STAT, 4, 1⟩
def LED.STAT_INFO : Fld := ⟨LED.STAT, 5, 1⟩
def LED.BND_DONE : Nat := LED.page + 0x044
def LED.BND_MIN : Nat := LED.page + 0x048
def LED.TXN_CNT : Nat := LED.page + 0x04C
def LED.RPT_END : Nat := LED.page + 0x050
def LED.GLOG_SEQ : Nat := LED.page + 0x054
def LED.LLOG_SEQ : Nat := LED.page + 0x058
def LED.LLOG_ACK : Nat := LED.page + 0x05C
def LED.LLOG_LOST : Nat := LED.page + 0x060
def LED.LLOG_LOST_LOST : Fld := ⟨LED.LLOG_LOST, 0, 16⟩
def LED.DEM_CFG : Nat := LED.page + 0x064
def LED.DEM_CFG_PERIOD : Fld := ⟨LED.DEM_CFG, 0, 6⟩
def LED.DEM_CFG_SLIDING : Fld := ⟨LED.DEM_CFG, 8, 1⟩
def LED.DEM_CFG_NSUB : Fld := ⟨LED.DEM_CFG, 12, 4⟩
def LED.DIR : Nat := LED.page + 0x068
def LED.DIR_OFS : Fld := ⟨LED.DIR, 0, 16⟩
def LED.DIR_CNT : Fld := ⟨LED.DIR, 16, 16⟩
def LED.ROLES : Nat := LED.page + 0x06C
def LED.ROLES_OPEN : Fld := ⟨LED.ROLES, 0, 8⟩
/-- The register table of the LED page (R276). -/
def LED.table : List RegRow := [
  ⟨0x040, 0, 1, 0, 0, 0, 0, 0, 0, 0x3F, [], []⟩,
  ⟨0x044, 0, 1, 0, 0, 0, 0, 0, 0, 0xFFFFFFFF, [], []⟩,
  ⟨0x048, 0, 1, 0, 0, 0, 0, 0, 0, 0xFFFFFFFF, [], []⟩,
  ⟨0x04C, 0, 1, 0, 0, 0, 0, 0, 0, 0xFFFFFFFF, [], []⟩,
  ⟨0x050, 0, 1, 0, 0, 0, 0, 0, 0, 0xFFFFFFFF, [], []⟩,
  ⟨0x054, 0, 1, 0, 0, 0, 0, 0, 0, 0xFFFFFFFF, [], []⟩,
  ⟨0x058, 0, 1, 0, 0, 0, 0, 0, 0, 0xFFFFFFFF, [], []⟩,
  ⟨0x05C, 0, 1, 0, 0, 0, 0, 0, 0, 0xFFFFFFFF, [], []⟩,
  ⟨0x060, 0, 1, 0, 0, 0, 0, 0, 0, 0xFFFF, [], []⟩,
  ⟨0x064, 0, 1, 0, 0, 0, 0, 0, 0, 0xF13F, [0x100F], []⟩,
  ⟨0x068, 0, 1, 0, 0, 0, 0, 0, 0, 0xFFFFFFFF, [0x4000], []⟩,
  ⟨0x06C, 0, 1, 0, 0, 0, 0, 0, 0, 0xFF, [], []⟩]

/-! ### TTB page (R296) -/

/-- Offset of the TTB page in the page window (R36). -/
def TTB.page : Nat := 0x62000
def TTB.ev_RATE : Nat := 0
def TTB.ev_ACTIVATED : Nat := 1
def TTB.ev_DAYEND : Nat := 2
def TTB.ev_BILLING : Nat := 3
def TTB.ev_FRIENDLY : Nat := 4
def TTB.ev_VAL_FAIL : Nat := 5
def TTB.STAT : Nat := TTB.page + 0x040
def TTB.STAT_ACT_VALID : Fld := ⟨TTB.STAT, 0, 1⟩
def TTB.STAT_PAS_STATE : Fld := ⟨TTB.STAT, 1, 2⟩
def TTB.STAT_FRIENDLY : Fld := ⟨TTB.STAT, 3, 1⟩
def TTB.STAT_SPECIAL : Fld := ⟨TTB.STAT, 4, 1⟩
def TTB.CUR : Nat := TTB.page + 0x044
def TTB.CUR_RATE : Fld := ⟨TTB.CUR, 0, 4⟩
def TTB.CUR_SEASON : Fld := ⟨TTB.CUR, 4, 3⟩
def TTB.CUR_WEEK : Fld := ⟨TTB.CUR, 8, 3⟩
def TTB.CUR_DAYPROF : Fld := ⟨TTB.CUR, 12, 4⟩
def TTB.CUR_SPEC : Fld := ⟨TTB.CUR, 16, 6⟩
def TTB.CUR_OFFSET : Fld := ⟨TTB.CUR, 24, 8⟩
def TTB.ACT_ID : Nat := TTB.page + 0x048
def TTB.PAS_ID : Nat := TTB.page + 0x04C
def TTB.PREV_ID : Nat := TTB.page + 0x050
def TTB.PAS_TIME : Nat := TTB.page + 0x054
def TTB.NEXT_SW : Nat := TTB.page + 0x058
def TTB.NEXT_DAYEND : Nat := TTB.page + 0x05C
def TTB.BILL_CNT : Nat := TTB.page + 0x060
def TTB.CURRENCY : Nat := TTB.page + 0x064
def TTB.CURRENCY_CODE : Fld := ⟨TTB.CURRENCY, 0, 16⟩
def TTB.CURRENCY_MINOR_EXP : Fld := ⟨TTB.CURRENCY, 16, 2⟩
def TTB.VAL_CAUSE : Nat := TTB.page + 0x068
def TTB.VAL_CAUSE_CAUSE : Fld := ⟨TTB.VAL_CAUSE, 0, 4⟩
def TTB.EPRICE (k : Nat) : Nat := TTB.page + 0x080 + 0x4 * k
def TTB.CHG_MIN : Nat := TTB.page + 0x0A0
def TTB.IDLE_MIN : Nat := TTB.page + 0x0A4
def TTB.FEE : Nat := TTB.page + 0x0A8
/-- The register table of the TTB page (R296). -/
def TTB.table : List RegRow := [
  ⟨0x040, 0, 1, 0, 0, 0, 0, 0, 0, 0x1F, [], []⟩,
  ⟨0x044, 0, 1, 0, 0, 0, 0, 0, 0, 0xFF3FF77F, [0x1], []⟩,
  ⟨0x048, 0, 1, 0, 0, 0, 0, 0, 0, 0xFFFFFFFF, [], []⟩,
  ⟨0x04C, 0, 1, 0, 0, 0, 0, 0, 0, 0xFFFFFFFF, [], []⟩,
  ⟨0x050, 0, 1, 0, 0, 0, 0, 0, 0, 0xFFFFFFFF, [], []⟩,
  ⟨0x054, 0, 1, 0, 0, 0, 0, 0, 0, 0xFFFFFFFF, [], []⟩,
  ⟨0x058, 0, 1, 0, 0, 0, 0, 0, 0, 0xFFFFFFFF, [], []⟩,
  ⟨0x05C, 0, 1, 0, 0, 0, 0, 0, 0, 0xFFFFFFFF, [], []⟩,
  ⟨0x060, 0, 1, 0, 0, 0, 0, 0, 0, 0xFFFFFFFF, [], []⟩,
  ⟨0x064, 0, 1, 0, 0, 0, 0, 0, 0, 0x3FFFF, [], []⟩,
  ⟨0x068, 0, 1, 0, 0, 0, 0, 0, 0, 0xF, [], []⟩,
  ⟨0x080, 0x4, 8, 0, 0, 0, 0, 0, 0, 0xFFFFFFFF, [], []⟩,
  ⟨0x0A0, 0, 1, 0, 0, 0, 0, 0, 0, 0xFFFFFFFF, [], []⟩,
  ⟨0x0A4, 0, 1, 0, 0, 0, 0, 0, 0, 0xFFFFFFFF, [], []⟩,
  ⟨0x0A8, 0, 1, 0, 0, 0, 0, 0, 0, 0xFFFFFFFF, [], []⟩]

/-! ### PPY page (R297) -/

/-- Offset of the PPY page in the page window (R36). -/
def PPY.page : Nat := 0x63000
def PPY.ev_LOW1 : Nat := 0
def PPY.ev_LOW2 : Nat := 1
def PPY.ev_EC_GRANT : Nat := 2
def PPY.ev_EXHAUSTED : Nat := 3
def PPY.ev_FALLBACK : Nat := 4
def PPY.ev_FB_FAIL : Nat := 5
def PPY.ev_LOADED : Nat := 6
def PPY.ev_RECONNECT_READY : Nat := 7
def PPY.PCFG (k : Nat) : Nat := PPY.page + 0x040 + 0x4 * k
def PPY.PCFG_T_OBEY (k : Nat) : Fld := ⟨PPY.PCFG k, 0, 13⟩
def PPY.PCFG_T_FB (k : Nat) : Fld := ⟨PPY.PCFG k, 16, 10⟩
def PPY.PCFG_RECONNECT (k : Nat) : Fld := ⟨PPY.PCFG k, 31, 1⟩
def PPY.ASTAT (k : Nat) : Nat := PPY.page + 0x100 + 0x20 * k
def PPY.ASTAT_STATE (k : Nat) : Fld := ⟨PPY.ASTAT k, 0, 3⟩
def PPY.ASTAT_PREPAID (k : Nat) : Fld := ⟨PPY.ASTAT k, 8, 1⟩
def PPY.ASTAT_EC_USED (k : Nat) : Fld := ⟨PPY.ASTAT k, 9, 1⟩
def PPY.ASTAT_FALLBACK (k : Nat) : Fld := ⟨PPY.ASTAT k, 10, 1⟩
def PPY.ASTAT_FB_FAIL (k : Nat) : Fld := ⟨PPY.ASTAT k, 11, 1⟩
def PPY.CREDIT_LO (k : Nat) : Nat := PPY.page + 0x104 + 0x20 * k
def PPY.CREDIT_HI (k : Nat) : Nat := PPY.page + 0x108 + 0x20 * k
def PPY.SCOST_LO (k : Nat) : Nat := PPY.page + 0x10C + 0x20 * k
def PPY.SCOST_HI (k : Nat) : Nat := PPY.page + 0x110 + 0x20 * k
def PPY.ECG (k : Nat) : Nat := PPY.page + 0x114 + 0x20 * k
def PPY.LOADED_LO (k : Nat) : Nat := PPY.page + 0x118 + 0x20 * k
def PPY.OBEY (k : Nat) : Nat := PPY.page + 0x11C + 0x20 * k
def PPY.OBEY_REMAIN (k : Nat) : Fld := ⟨PPY.OBEY k, 0, 13⟩
def PPY.THR_EC (k : Nat) : Nat := PPY.page + 0x180 + 0x10 * k
def PPY.THR_WARN1 (k : Nat) : Nat := PPY.page + 0x184 + 0x10 * k
def PPY.THR_WARN2 (k : Nat) : Nat := PPY.page + 0x188 + 0x10 * k
def PPY.LOADED_HI (k : Nat) : Nat := PPY.page + 0x1C0 + 0x4 * k
/-- The register table of the PPY page (R297). -/
def PPY.table : List RegRow := [
  ⟨0x040, 0x4, 4, 0, 0, 0, 0, 0, 0, 0x83FF1FFF, [0x641388], []⟩,
  ⟨0x100, 0x20, 4, 0, 0, 0, 0, 0, 0, 0xF07, [], []⟩,
  ⟨0x104, 0x20, 4, 0, 0, 0, 0, 0, 0, 0xFFFFFFFF, [], []⟩,
  ⟨0x108, 0x20, 4, 0, 0, 0, 0, 0, 0, 0xFFFFFFFF, [], []⟩,
  ⟨0x10C, 0x20, 4, 0, 0, 0, 0, 0, 0, 0xFFFFFFFF, [], []⟩,
  ⟨0x110, 0x20, 4, 0, 0, 0, 0, 0, 0, 0xFFFFFFFF, [], []⟩,
  ⟨0x114, 0x20, 4, 0, 0, 0, 0, 0, 0, 0xFFFFFFFF, [], []⟩,
  ⟨0x118, 0x20, 4, 0, 0, 0, 0, 0, 0, 0xFFFFFFFF, [], []⟩,
  ⟨0x11C, 0x20, 4, 0, 0, 0, 0, 0, 0, 0x1FFF, [], []⟩,
  ⟨0x180, 0x10, 4, 0, 0, 0, 0, 0, 0, 0xFFFFFFFF, [], []⟩,
  ⟨0x184, 0x10, 4, 0, 0, 0, 0, 0, 0, 0xFFFFFFFF, [], []⟩,
  ⟨0x188, 0x10, 4, 0, 0, 0, 0, 0, 0, 0xFFFFFFFF, [], []⟩,
  ⟨0x1C0, 0x4, 4, 0, 0, 0, 0, 0, 0, 0xFFFFFFFF, [], []⟩]

/-! ### LPR page (R276) -/

/-- Offset of the LPR page in the page window (R36). -/
def LPR.page : Nat := 0x64000
def LPR.ev_P1_ROW : Nat := 0
def LPR.ev_P2_ROW : Nat := 1
def LPR.ev_EMPTIED : Nat := 2
def LPR.P1_CFG : Nat := LPR.page + 0x040
def LPR.P1_CFG_PERIOD : Fld := ⟨LPR.P1_CFG, 0, 6⟩
def LPR.P1_CFG_NCH : Fld := ⟨LPR.P1_CFG, 8, 5⟩
def LPR.P1_CAP : Nat := LPR.page + 0x044
def LPR.P1_CAP_N : Fld := ⟨LPR.P1_CAP, 0, 18⟩
def LPR.P1_HEAD : Nat := LPR.page + 0x048
def LPR.P1_HEAD_INDEX : Fld := ⟨LPR.P1_HEAD, 0, 18⟩
def LPR.P1_OLD : Nat := LPR.page + 0x04C
def LPR.P1_OLD_INDEX : Fld := ⟨LPR.P1_OLD, 0, 18⟩
def LPR.P1_SEQ : Nat := LPR.page + 0x050
def LPR.P1_SEQ_SEQ : Fld := ⟨LPR.P1_SEQ, 0, 24⟩
def LPR.P1_ROWS : Nat := LPR.page + 0x054
def LPR.P1_ROWS_ROWS : Fld := ⟨LPR.P1_ROWS, 0, 18⟩
def LPR.P1_DEF (k : Nat) : Nat := LPR.page + 0x080 + 0x4 * k
def LPR.P2_CFG : Nat := LPR.page + 0x100
def LPR.P2_CFG_NCH : Fld := ⟨LPR.P2_CFG, 0, 7⟩
def LPR.P2_CAP : Nat := LPR.page + 0x104
def LPR.P2_CAP_N : Fld := ⟨LPR.P2_CAP, 0, 14⟩
def LPR.P2_HEAD : Nat := LPR.page + 0x108
def LPR.P2_HEAD_INDEX : Fld := ⟨LPR.P2_HEAD, 0, 14⟩
def LPR.P2_OLD : Nat := LPR.page + 0x10C
def LPR.P2_OLD_INDEX : Fld := ⟨LPR.P2_OLD, 0, 14⟩
def LPR.P2_SEQ : Nat := LPR.page + 0x110
def LPR.P2_SEQ_SEQ : Fld := ⟨LPR.P2_SEQ, 0, 24⟩
def LPR.P2_ROWS : Nat := LPR.page + 0x114
def LPR.P2_ROWS_ROWS : Fld := ⟨LPR.P2_ROWS, 0, 14⟩
def LPR.P2_DEF (k : Nat) : Nat := LPR.page + 0x200 + 0x4 * k
/-- The register table of the LPR page (R276). -/
def LPR.table : List RegRow := [
  ⟨0x040, 0, 1, 0, 0, 0, 0, 0, 0, 0x1F3F, [0x80F], []⟩,
  ⟨0x044, 0, 1, 0, 0, 0, 0, 0, 0, 0x3FFFF, [0xEDB6], []⟩,
  ⟨0x048, 0, 1, 0, 0, 0, 0, 0, 0, 0x3FFFF, [], []⟩,
  ⟨0x04C, 0, 1, 0, 0, 0, 0, 0, 0, 0x3FFFF, [], []⟩,
  ⟨0x050, 0, 1, 0, 0, 0, 0, 0, 0, 0xFFFFFF, [], []⟩,
  ⟨0x054, 0, 1, 0, 0, 0, 0, 0, 0, 0x3FFFF, [], []⟩,
  ⟨0x080, 0x4, 32, 0, 0, 0, 0, 0, 0, 0xFFFFFFFF, [], []⟩,
  ⟨0x100, 0, 1, 0, 0, 0, 0, 0, 0, 0x7F, [0x14], []⟩,
  ⟨0x104, 0, 1, 0, 0, 0, 0, 0, 0, 0x3FFF, [0x600], []⟩,
  ⟨0x108, 0, 1, 0, 0, 0, 0, 0, 0, 0x3FFF, [], []⟩,
  ⟨0x10C, 0, 1, 0, 0, 0, 0, 0, 0, 0x3FFF, [], []⟩,
  ⟨0x110, 0, 1, 0, 0, 0, 0, 0, 0, 0xFFFFFF, [], []⟩,
  ⟨0x114, 0, 1, 0, 0, 0, 0, 0, 0, 0x3FFF, [], []⟩,
  ⟨0x200, 0x4, 128, 0, 0, 0, 0, 0, 0, 0xFFFFFFFF, [], []⟩]

/-! ### VLT page (R351) -/

/-- Offset of the VLT page in the page window (R36). -/
def VLT.page : Nat := 0x70000
def VLT.ev_SLOT_BAD : Nat := 0
def VLT.ev_TRNG_FAIL : Nat := 1
def VLT.ev_SESSION : Nat := 2
def VLT.ev_LIFECYCLE : Nat := 3
def VLT.ev_DEBUG : Nat := 4
def VLT.ev_ZEROISED : Nat := 5
def VLT.LC : Nat := VLT.page + 0x040
def VLT.LC_STATE : Fld := ⟨VLT.LC, 0, 3⟩
def VLT.LC_DBG_SCOPE : Fld := ⟨VLT.LC, 8, 3⟩
def VLT.STAT : Nat := VLT.page + 0x044
def VLT.STAT_READY : Fld := ⟨VLT.STAT, 0, 1⟩
def VLT.STAT_TRNG_OK : Fld := ⟨VLT.STAT, 1, 1⟩
def VLT.STAT_DRBG_OK : Fld := ⟨VLT.STAT, 2, 1⟩
def VLT.STAT_ROOT_OK : Fld := ⟨VLT.STAT, 3, 1⟩
def VLT.STAT_MESH_OK : Fld := ⟨VLT.STAT, 4, 1⟩
def VLT.STAT_QUEUE : Fld := ⟨VLT.STAT, 8, 5⟩
def VLT.ZCAUSE : Nat := VLT.page + 0x048
def VLT.ZCAUSE_CAUSE : Fld := ⟨VLT.ZCAUSE, 0, 8⟩
def VLT.ZTIME : Nat := VLT.page + 0x04C
def VLT.ROOT_GEN : Nat := VLT.page + 0x050
def VLT.SLOT_USED : Nat := VLT.page + 0x054
def VLT.SLOT_BAD : Nat := VLT.page + 0x058
def VLT.ARB (k : Nat) : Nat := VLT.page + 0x060 + 0x4 * k
def VLT.ARB_CNT (k : Nat) : Fld := ⟨VLT.ARB k, 0, 16⟩
def VLT.SESS : Nat := VLT.page + 0x074
def VLT.SESS_SPI : Fld := ⟨VLT.SESS, 0, 8⟩
def VLT.SESS_RMII : Fld := ⟨VLT.SESS, 8, 8⟩
def VLT.SESS_CFG : Nat := VLT.page + 0x078
def VLT.SESS_CFG_IDLE : Fld := ⟨VLT.SESS_CFG, 0, 8⟩
def VLT.TAMPER_CFG : Nat := VLT.page + 0x07C
def VLT.TAMPER_CFG_MESH_EN : Fld := ⟨VLT.TAMPER_CFG, 0, 1⟩
def VLT.CNT_OPS : Nat := VLT.page + 0x080
def VLT.CNT_FAIL : Nat := VLT.page + 0x084
def VLT.CNT_FAIL_CMAC : Fld := ⟨VLT.CNT_FAIL, 0, 16⟩
def VLT.CNT_FAIL_TRNG : Fld := ⟨VLT.CNT_FAIL, 16, 16⟩
def VLT.SLOT (k : Nat) : Nat := VLT.page + 0x100 + 0x8 * k
def VLT.SLOT_ALG (k : Nat) : Fld := ⟨VLT.SLOT k, 0, 8⟩
def VLT.SLOT_USAGE (k : Nat) : Fld := ⟨VLT.SLOT k, 8, 8⟩
def VLT.SLOT_ROLES (k : Nat) : Fld := ⟨VLT.SLOT k, 16, 8⟩
def VLT.SLOT_DOMAINS (k : Nat) : Fld := ⟨VLT.SLOT k, 24, 8⟩
def VLT.KEY_ID (k : Nat) : Nat := VLT.page + 0x104 + 0x8 * k
/-- The register table of the VLT page (R351). -/
def VLT.table : List RegRow := [
  ⟨0x040, 0, 1, 0, 0, 0, 0, 0, 0, 0x707, [0x2], []⟩,
  ⟨0x044, 0, 1, 0, 0, 0, 0, 0, 0, 0x1F1F, [], []⟩,
  ⟨0x048, 0, 1, 0, 0, 0, 0, 0, 0, 0xFF, [], []⟩,
  ⟨0x04C, 0, 1, 0, 0, 0, 0, 0, 0, 0xFFFFFFFF, [], []⟩,
  ⟨0x050, 0, 1, 0, 0, 0, 0, 0, 0, 0xFFFFFFFF, [0x1], []⟩,
  ⟨0x054, 0, 1, 0, 0, 0, 0, 0, 0, 0xFFFFFFFF, [0x7], []⟩,
  ⟨0x058, 0, 1, 0, 0, 0, 0, 0, 0, 0xFFFFFFFF, [], []⟩,
  ⟨0x060, 0x4, 5, 0, 0, 0, 0, 0, 0, 0xFFFF, [], []⟩,
  ⟨0x074, 0, 1, 0, 0, 0, 0, 0, 0, 0xFFFF, [], []⟩,
  ⟨0x078, 0, 1, 0xFF, 0, 0, 0, 0, 0, 0, [0xF], [(0, 8, 1, 240)]⟩,
  ⟨0x07C, 0, 1, 0, 0, 0, 0, 0, 0, 0x1, [], []⟩,
  ⟨0x080, 0, 1, 0, 0, 0, 0, 0, 0, 0xFFFFFFFF, [], []⟩,
  ⟨0x084, 0, 1, 0, 0, 0, 0, 0, 0, 0xFFFFFFFF, [], []⟩,
  ⟨0x100, 0x8, 32, 0, 0, 0, 0, 0, 0, 0xFFFFFFFF, [], []⟩,
  ⟨0x104, 0x8, 32, 0, 0, 0, 0, 0, 0, 0xFFFFFFFF, [], []⟩]

/-! ### NFR page (R373) -/

/-- Offset of the NFR page in the page window (R36). -/
def NFR.page : Nat := 0x80000
def NFR.ev_CARD_DET : Nat := 0
def NFR.ev_RX_DONE : Nat := 1
def NFR.ev_TIMEOUT : Nat := 2
def NFR.ev_ERROR : Nat := 3
def NFR.ev_LISTED : Nat := 4
def NFR.ev_NOT_LISTED : Nat := 5
def NFR.ev_SHED_OFF : Nat := 6
def NFR.CFG : Nat := NFR.page + 0x040
def NFR.CFG_PROTO : Fld := ⟨NFR.CFG, 0, 2⟩
def NFR.CFG_RATE : Fld := ⟨NFR.CFG, 4, 2⟩
def NFR.CFG_TXPWR : Fld := ⟨NFR.CFG, 8, 5⟩
def NFR.CTL : Nat := NFR.page + 0x044
def NFR.CTL_FIELD : Fld := ⟨NFR.CTL, 0, 1⟩
def NFR.CTL_LPCD : Fld := ⟨NFR.CTL, 1, 1⟩
def NFR.CTL_TRANSCEIVE : Fld := ⟨NFR.CTL, 8, 1⟩
def NFR.CTL_ANTICOLL : Fld := ⟨NFR.CTL, 9, 1⟩
def NFR.CTL_ABORT : Fld := ⟨NFR.CTL, 10, 1⟩
def NFR.TXLEN : Nat := NFR.page + 0x048
def NFR.TXLEN_BYTES : Fld := ⟨NFR.TXLEN, 0, 9⟩
def NFR.TXLEN_LASTBITS : Fld := ⟨NFR.TXLEN, 16, 3⟩
def NFR.TMO : Nat := NFR.page + 0x04C
def NFR.TMO_TMO : Fld := ⟨NFR.TMO, 0, 24⟩
def NFR.STAT : Nat := NFR.page + 0x050
def NFR.STAT_FIELD_ON : Fld := ⟨NFR.STAT, 0, 1⟩
def NFR.STAT_BUSY : Fld := ⟨NFR.STAT, 1, 1⟩
def NFR.STAT_LPCD_ARMED : Fld := ⟨NFR.STAT, 2, 1⟩
def NFR.STAT_CARD_DET : Fld := ⟨NFR.STAT, 3, 1⟩
def NFR.STAT_RX_DONE : Fld := ⟨NFR.STAT, 4, 1⟩
def NFR.STAT_TIMEOUT : Fld := ⟨NFR.STAT, 5, 1⟩
def NFR.STAT_CRC_ERR : Fld := ⟨NFR.STAT, 6, 1⟩
def NFR.STAT_COLL : Fld := ⟨NFR.STAT, 7, 1⟩
def NFR.STAT_LISTED : Fld := ⟨NFR.STAT, 8, 1⟩
def NFR.STAT_RXLEN : Fld := ⟨NFR.STAT, 16, 9⟩
def NFR.UID0 : Nat := NFR.page + 0x054
def NFR.UID1 : Nat := NFR.page + 0x058
def NFR.UIDLEN : Nat := NFR.page + 0x05C
def NFR.UIDLEN_LEN : Fld := ⟨NFR.UIDLEN, 0, 4⟩
def NFR.LPCD_CFG : Nat := NFR.page + 0x060
def NFR.LPCD_CFG_THRESH : Fld := ⟨NFR.LPCD_CFG, 0, 8⟩
def NFR.LPCD_CFG_PERIOD : Fld := ⟨NFR.LPCD_CFG, 8, 8⟩
def NFR.LPCD_CFG_PULSE : Fld := ⟨NFR.LPCD_CFG, 16, 8⟩
def NFR.LPCD_REF : Nat := NFR.page + 0x064
def NFR.LPCD_REF_AMP : Fld := ⟨NFR.LPCD_REF, 0, 16⟩
def NFR.LPCD_MEAS : Nat := NFR.page + 0x068
def NFR.LPCD_MEAS_AMP : Fld := ⟨NFR.LPCD_MEAS, 0, 16⟩
def NFR.LIST_CFG : Nat := NFR.page + 0x070
def NFR.LIST_CFG_COUNT : Fld := ⟨NFR.LIST_CFG, 0, 13⟩
def NFR.LIST_CFG_VALID : Fld := ⟨NFR.LIST_CFG, 31, 1⟩
def NFR.LIST_SALT (k : Nat) : Nat := NFR.page + 0x074 + 0x4 * k
def NFR.LIST_DATA : Nat := NFR.page + 0x084
def NFR.LIST_CTL : Nat := NFR.page + 0x088
def NFR.LIST_CTL_CLEAR : Fld := ⟨NFR.LIST_CTL, 0, 1⟩
def NFR.LIST_CTL_LOAD_DONE : Fld := ⟨NFR.LIST_CTL, 1, 1⟩
def NFR.TX_CUR : Nat := NFR.page + 0x08C
def NFR.TX_CUR_MA : Fld := ⟨NFR.TX_CUR, 0, 10⟩
def NFR.TXBUF (k : Nat) : Nat := NFR.page + 0x100 + 0x4 * k
def NFR.RXBUF (k : Nat) : Nat := NFR.page + 0x200 + 0x4 * k
/-- The register table of the NFR page (R373). -/
def NFR.table : List RegRow := [
  ⟨0x040, 0, 1, 0x1F33, 0, 0, 0, 0, 0, 0, [0x900], [(0, 2, 0, 2)]⟩,
  ⟨0x044, 0, 1, 0x3, 0, 0x700, 0, 0, 0, 0, [], []⟩,
  ⟨0x048, 0, 1, 0x701FF, 0, 0, 0, 0, 0, 0, [], [(0, 9, 0, 256)]⟩,
  ⟨0x04C, 0, 1, 0xFFFFFF, 0, 0, 0, 0, 0, 0, [0x1388], []⟩,
  ⟨0x050, 0, 1, 0, 0, 0, 0, 0, 0, 0x1FF01FF, [], []⟩,
  ⟨0x054, 0, 1, 0, 0, 0, 0, 0, 0, 0xFFFFFFFF, [], []⟩,
  ⟨0x058, 0, 1, 0, 0, 0, 0, 0, 0, 0xFFFFFFFF, [], []⟩,
  ⟨0x05C, 0, 1, 0, 0, 0, 0, 0, 0, 0xF, [], []⟩,
  ⟨0x060, 0, 1, 0xFFFFFF, 0, 0, 0, 0, 0, 0, [0xA0A14], []⟩,
  ⟨0x064, 0, 1, 0, 0, 0, 0, 0, 0, 0xFFFF, [], []⟩,
  ⟨0x068, 0, 1, 0, 0, 0, 0, 0, 0, 0xFFFF, [], []⟩,
  ⟨0x070, 0, 1, 0, 0, 0, 0, 0, 0, 0x80001FFF, [], []⟩,
  ⟨0x074, 0x4, 4, 0xFFFFFFFF, 0, 0, 0, 0, 0, 0, [], []⟩,
  ⟨0x084, 0, 1, 0, 0, 0, 0xFFFFFFFF, 0, 0, 0, [], []⟩,
  ⟨0x088, 0, 1, 0, 0, 0x3, 0, 0, 0, 0, [], []⟩,
  ⟨0x08C, 0, 1, 0, 0, 0, 0, 0, 0, 0x3FF, [], []⟩,
  ⟨0x100, 0x4, 64, 0, 0, 0, 0xFFFFFFFF, 0, 0, 0, [], []⟩,
  ⟨0x200, 0x4, 64, 0, 0, 0, 0, 0, 0, 0xFFFFFFFF, [], []⟩]

/-! ### WTG page (R374) -/

/-- Offset of the WTG page in the page window (R36). -/
def WTG.page : Nat := 0x81000
def WTG.ev_FIELD_ON : Nat := 0
def WTG.ev_FIELD_OFF : Nat := 1
def WTG.ev_WRITE : Nat := 2
def WTG.ev_AUTH : Nat := 3
def WTG.ev_AUTH_FAIL : Nat := 4
def WTG.ev_HOST_DONE : Nat := 5
def WTG.ev_ROLLBACK : Nat := 6
def WTG.STAT : Nat := WTG.page + 0x040
def WTG.STAT_FIELD : Fld := ⟨WTG.STAT, 0, 1⟩
def WTG.STAT_STATE : Fld := ⟨WTG.STAT, 1, 3⟩
def WTG.STAT_RF_CMD : Fld := ⟨WTG.STAT, 4, 1⟩
def WTG.STAT_MUTED : Fld := ⟨WTG.STAT, 5, 1⟩
def WTG.STAT_BLOCKED : Fld := ⟨WTG.STAT, 6, 1⟩
def WTG.STAT_KEY_VER : Fld := ⟨WTG.STAT, 8, 8⟩
def WTG.CFG : Nat := WTG.page + 0x044
def WTG.CFG_MUTE_ON_OWN_FIELD : Fld := ⟨WTG.CFG, 0, 1⟩
def WTG.CFG_EXT_EN : Fld := ⟨WTG.CFG, 1, 1⟩
def WTG.CFG_AFI : Fld := ⟨WTG.CFG, 8, 8⟩
def WTG.HOST_ADDR : Nat := WTG.page + 0x048
def WTG.HOST_ADDR_ADDR : Fld := ⟨WTG.HOST_ADDR, 0, 14⟩
def WTG.HOST_DATA : Nat := WTG.page + 0x04C
def WTG.WBUF (k : Nat) : Nat := WTG.page + 0x080 + 0x4 * k
def WTG.WCMD : Nat := WTG.page + 0x0C0
def WTG.WCMD_RECORD : Fld := ⟨WTG.WCMD, 0, 8⟩
def WTG.WCMD_GO : Fld := ⟨WTG.WCMD, 8, 1⟩
def WTG.WSTAT : Nat := WTG.page + 0x0C4
def WTG.WSTAT_PENDING : Fld := ⟨WTG.WSTAT, 0, 1⟩
def WTG.WSTAT_DONE : Fld := ⟨WTG.WSTAT, 1, 1⟩
def WTG.WSTAT_FAIL : Fld := ⟨WTG.WSTAT, 2, 1⟩
def WTG.PWD_LO : Nat := WTG.page + 0x0C8
def WTG.PWD_HI : Nat := WTG.page + 0x0CC
def WTG.SNAP_SEQ : Nat := WTG.page + 0x0D0
def WTG.LOG_SEQ : Nat := WTG.page + 0x0D4
def WTG.FIELD_CNT : Nat := WTG.page + 0x0D8
def WTG.AUTH_FAIL : Nat := WTG.page + 0x0DC
def WTG.AUTH_FAIL_CNT : Fld := ⟨WTG.AUTH_FAIL, 0, 16⟩
/-- The register table of the WTG page (R374). -/
def WTG.table : List RegRow := [
  ⟨0x040, 0, 1, 0, 0, 0, 0, 0, 0, 0xFF7F, [], []⟩,
  ⟨0x044, 0, 1, 0xFF03, 0, 0, 0, 0, 0, 0, [0x3], []⟩,
  ⟨0x048, 0, 1, 0x3FFF, 0, 0, 0, 0, 0, 0, [], []⟩,
  ⟨0x04C, 0, 1, 0, 0, 0, 0, 0, 0, 0xFFFFFFFF, [], []⟩,
  ⟨0x080, 0x4, 16, 0xFFFFFFFF, 0, 0, 0, 0, 0, 0, [], []⟩,
  ⟨0x0C0, 0, 1, 0xFF, 0, 0x100, 0, 0, 0, 0, [0xC0], [(0, 8, 192, 239)]⟩,
  ⟨0x0C4, 0, 1, 0, 0, 0, 0, 0, 0, 0x7, [], []⟩,
  ⟨0x0C8, 0, 1, 0, 0, 0, 0xFFFFFFFF, 0, 0, 0, [], []⟩,
  ⟨0x0CC, 0, 1, 0, 0, 0, 0xFFFFFFFF, 0, 0, 0, [], []⟩,
  ⟨0x0D0, 0, 1, 0, 0, 0, 0, 0, 0, 0xFFFFFFFF, [], []⟩,
  ⟨0x0D4, 0, 1, 0, 0, 0, 0, 0, 0, 0xFFFFFFFF, [], []⟩,
  ⟨0x0D8, 0, 1, 0, 0, 0, 0, 0, 0, 0xFFFFFFFF, [], []⟩,
  ⟨0x0DC, 0, 1, 0, 0, 0, 0, 0, 0, 0xFFFF, [], []⟩]

/-! ### EPD page (R392) -/

/-- Offset of the EPD page in the page window (R36). -/
def EPD.page : Nat := 0x90000
def EPD.ev_DONE : Nat := 0
def EPD.ev_TEMP_SHIFT : Nat := 1
def EPD.ev_UNDERRUN : Nat := 2
def EPD.ev_RAIL_FAULT : Nat := 3
def EPD.ev_WF_BAD : Nat := 4
def EPD.ev_CLEAN_DONE : Nat := 5
def EPD.ev_BLINK : Nat := 6
def EPD.PANEL : Nat := EPD.page + 0x040
def EPD.PANEL_W : Fld := ⟨EPD.PANEL, 0, 11⟩
def EPD.PANEL_H : Fld := ⟨EPD.PANEL, 16, 11⟩
def EPD.TIMING : Nat := EPD.page + 0x044
def EPD.TIMING_DIV : Fld := ⟨EPD.TIMING, 0, 7⟩
def EPD.TIMING_HBLANK : Fld := ⟨EPD.TIMING, 8, 8⟩
def EPD.TIMING_VBLANK : Fld := ⟨EPD.TIMING, 16, 8⟩
def EPD.TIMING_FRAME_HZ : Fld := ⟨EPD.TIMING, 24, 7⟩
def EPD.PS_BASE : Nat := EPD.page + 0x048
def EPD.PS_STRIDE : Nat := EPD.page + 0x04C
def EPD.PS_STRIDE_STRIDE : Fld := ⟨EPD.PS_STRIDE, 0, 12⟩
def EPD.DMA : Nat := EPD.page + 0x050
def EPD.DMA_DMA_RD : Fld := ⟨EPD.DMA, 0, 4⟩
def EPD.DMA_DMA_WR : Fld := ⟨EPD.DMA, 4, 4⟩
def EPD.CFG : Nat := EPD.page + 0x054
def EPD.CFG_AUTO_REDO : Fld := ⟨EPD.CFG, 0, 1⟩
def EPD.CFG_IDLE_OFF : Fld := ⟨EPD.CFG, 8, 8⟩
def EPD.TEMP : Nat := EPD.page + 0x058
def EPD.TEMP_TEMP : Fld := ⟨EPD.TEMP, 0, 12⟩
def EPD.TEMPCFG : Nat := EPD.page + 0x05C
def EPD.TEMPCFG_MAX_AGE : Fld := ⟨EPD.TEMPCFG, 0, 12⟩
def EPD.STAT : Nat := EPD.page + 0x060
def EPD.STAT_RAILS_ON : Fld := ⟨EPD.STAT, 0, 1⟩
def EPD.STAT_PG : Fld := ⟨EPD.STAT, 1, 1⟩
def EPD.STAT_TEMP_SHIFT : Fld := ⟨EPD.STAT, 2, 1⟩
def EPD.STAT_TEMP_STALE : Fld := ⟨EPD.STAT, 3, 1⟩
def EPD.STAT_TEMP_RANGE : Fld := ⟨EPD.STAT, 4, 1⟩
def EPD.STAT_UNDERRUN : Fld := ⟨EPD.STAT, 5, 1⟩
def EPD.STAT_RAIL_FAULT : Fld := ⟨EPD.STAT, 6, 1⟩
def EPD.STAT_CLEANING : Fld := ⟨EPD.STAT, 7, 1⟩
def EPD.STAT_DEFERRED : Fld := ⟨EPD.STAT, 8, 1⟩
def EPD.STAT_BAND : Fld := ⟨EPD.STAT, 12, 4⟩
def EPD.UPD_XY : Nat := EPD.page + 0x064
def EPD.UPD_XY_X : Fld := ⟨EPD.UPD_XY, 0, 11⟩
def EPD.UPD_XY_Y : Fld := ⟨EPD.UPD_XY, 16, 11⟩
def EPD.UPD_WH : Nat := EPD.page + 0x068
def EPD.UPD_WH_W : Fld := ⟨EPD.UPD_WH, 0, 11⟩
def EPD.UPD_WH_H : Fld := ⟨EPD.UPD_WH, 16, 11⟩
def EPD.UPD_CTL : Nat := EPD.page + 0x06C
def EPD.UPD_CTL_MODE : Fld := ⟨EPD.UPD_CTL, 0, 3⟩
def EPD.UPD_CTL_GO : Fld := ⟨EPD.UPD_CTL, 8, 1⟩
def EPD.UPD_RES : Nat := EPD.page + 0x070
def EPD.UPD_RES_ID : Fld := ⟨EPD.UPD_RES, 0, 4⟩
def EPD.UPD_RES_QUEUED : Fld := ⟨EPD.UPD_RES, 7, 1⟩
def EPD.REG_ACT : Nat := EPD.page + 0x074
def EPD.REG_ACT_RUN : Fld := ⟨EPD.REG_ACT, 0, 16⟩
def EPD.REG_ACT_QUEUE : Fld := ⟨EPD.REG_ACT, 16, 16⟩
def EPD.REG_DONE : Nat := EPD.page + 0x078
def EPD.REG_DONE_DONE : Fld := ⟨EPD.REG_DONE, 0, 16⟩
def EPD.WF_SEL : Nat := EPD.page + 0x080
def EPD.WF_SEL_OFFSET : Fld := ⟨EPD.WF_SEL, 0, 20⟩
def EPD.WF_SEL_LOAD : Fld := ⟨EPD.WF_SEL, 31, 1⟩
def EPD.WF_STAT : Nat := EPD.page + 0x084
def EPD.WF_STAT_LOADED : Fld := ⟨EPD.WF_STAT, 0, 1⟩
def EPD.WF_STAT_BAD : Fld := ⟨EPD.WF_STAT, 1, 1⟩
def EPD.WF_STAT_CAUSE : Fld := ⟨EPD.WF_STAT, 4, 4⟩
def EPD.WF_ID : Nat := EPD.page + 0x088
def EPD.NFRAMES (k : Nat) : Nat := EPD.page + 0x08C + 0x4 * k
def EPD.NFRAMES_N0 (k : Nat) : Fld := ⟨EPD.NFRAMES k, 0, 8⟩
def EPD.NFRAMES_N1 (k : Nat) : Fld := ⟨EPD.NFRAMES k, 8, 8⟩
def EPD.NFRAMES_N2 (k : Nat) : Fld := ⟨EPD.NFRAMES k, 16, 8⟩
def EPD.NFRAMES_N3 (k : Nat) : Fld := ⟨EPD.NFRAMES k, 24, 8⟩
def EPD.BLINK_XY (k : Nat) : Nat := EPD.page + 0x0A0 + 0x10 * k
def EPD.BLINK_XY_X (k : Nat) : Fld := ⟨EPD.BLINK_XY k, 0, 11⟩
def EPD.BLINK_XY_Y (k : Nat) : Fld := ⟨EPD.BLINK_XY k, 16, 11⟩
def EPD.BLINK_WH (k : Nat) : Nat := EPD.page + 0x0A4 + 0x10 * k
def EPD.BLINK_WH_W (k : Nat) : Fld := ⟨EPD.BLINK_WH k, 0, 11⟩
def EPD.BLINK_WH_H (k : Nat) : Fld := ⟨EPD.BLINK_WH k, 16, 11⟩
def EPD.BLINK_CTL (k : Nat) : Nat := EPD.page + 0x0A8 + 0x10 * k
def EPD.BLINK_CTL_PER (k : Nat) : Fld := ⟨EPD.BLINK_CTL k, 0, 10⟩
def EPD.BLINK_CTL_EN (k : Nat) : Fld := ⟨EPD.BLINK_CTL k, 12, 1⟩
def EPD.BLINK_CTL_SHOW_B (k : Nat) : Fld := ⟨EPD.BLINK_CTL k, 13, 1⟩
def EPD.BLINK_BASE (k : Nat) : Nat := EPD.page + 0x0AC + 0x10 * k
def EPD.BLINK_BASE_BASE (k : Nat) : Fld := ⟨EPD.BLINK_BASE k, 0, 12⟩
def EPD.BL_ADDR : Nat := EPD.page + 0x0E0
def EPD.BL_ADDR_ADDR : Fld := ⟨EPD.BL_ADDR, 0, 17⟩
def EPD.BL_DATA : Nat := EPD.page + 0x0E4
def EPD.DIRTY_CNT : Nat := EPD.page + 0x0F0
def EPD.DIRTY_CNT_CNT : Fld := ⟨EPD.DIRTY_CNT, 0, 5⟩
def EPD.DIRTY_XY (k : Nat) : Nat := EPD.page + 0x100 + 0x8 * k
def EPD.DIRTY_XY_X (k : Nat) : Fld := ⟨EPD.DIRTY_XY k, 0, 11⟩
def EPD.DIRTY_XY_Y (k : Nat) : Fld := ⟨EPD.DIRTY_XY k, 16, 11⟩
def EPD.DIRTY_WH (k : Nat) : Nat := EPD.page + 0x104 + 0x8 * k
def EPD.DIRTY_WH_W (k : Nat) : Fld := ⟨EPD.DIRTY_WH k, 0, 11⟩
def EPD.DIRTY_WH_H (k : Nat) : Fld := ⟨EPD.DIRTY_WH k, 16, 11⟩
def EPD.RSEQ_ON (k : Nat) : Nat := EPD.page + 0x400 + 0x4 * k
def EPD.RSEQ_ON_STEP (k : Nat) : Fld := ⟨EPD.RSEQ_ON k, 0, 16⟩
def EPD.RSEQ_OFF (k : Nat) : Nat := EPD.page + 0x420 + 0x4 * k
def EPD.RSEQ_OFF_STEP (k : Nat) : Fld := ⟨EPD.RSEQ_OFF k, 0, 16⟩
def EPD.VCOM : Nat := EPD.page + 0x440
def EPD.VCOM_CODE : Fld := ⟨EPD.VCOM, 0, 12⟩
def EPD.VCOM_SNS : Fld := ⟨EPD.VCOM, 16, 12⟩
def EPD.PG_TMO : Nat := EPD.page + 0x444
def EPD.PG_TMO_TMO : Fld := ⟨EPD.PG_TMO, 0, 8⟩
/-- The register table of the EPD page (R392). -/
def EPD.table : List RegRow := [
  ⟨0x040, 0, 1, 0x7FF07FF, 0, 0, 0, 0, 0, 0, [], []⟩,
  ⟨0x044, 0, 1, 0x7FFFFF7F, 0, 0, 0, 0, 0, 0, [0x55041014], [(8, 8, 4, 255), (16, 8, 1, 255), (24, 7, 50, 100)]⟩,
  ⟨0x048, 0, 1, 0xFFFFFFFF, 0, 0, 0, 0, 0, 0, [0x20000000], []⟩,
  ⟨0x04C, 0, 1, 0xFFF, 0, 0, 0, 0, 0, 0, [], []⟩,
  ⟨0x050, 0, 1, 0xFF, 0, 0, 0, 0, 0, 0, [], []⟩,
  ⟨0x054, 0, 1, 0xFF01, 0, 0, 0, 0, 0, 0, [0xA01], [(8, 8, 1, 255)]⟩,
  ⟨0x058, 0, 1, 0xFFF, 0, 0, 0, 0, 0, 0, [0xFA], []⟩,
  ⟨0x05C, 0, 1, 0xFFF, 0, 0, 0, 0, 0, 0, [0x258], [(0, 12, 10, 3600)]⟩,
  ⟨0x060, 0, 1, 0, 0x24, 0, 0, 0, 0, 0xF1DB, [], []⟩,
  ⟨0x064, 0, 1, 0x7FF07FF, 0, 0, 0, 0, 0, 0, [], []⟩,
  ⟨0x068, 0, 1, 0x7FF07FF, 0, 0, 0, 0, 0, 0, [], []⟩,
  ⟨0x06C, 0, 1, 0x7, 0, 0x100, 0, 0, 0, 0, [], []⟩,
  ⟨0x070, 0, 1, 0, 0, 0, 0, 0, 0, 0x8F, [], []⟩,
  ⟨0x074, 0, 1, 0, 0, 0, 0, 0, 0, 0xFFFFFFFF, [], []⟩,
  ⟨0x078, 0, 1, 0, 0xFFFF, 0, 0, 0, 0, 0, [], []⟩,
  ⟨0x080, 0, 1, 0xFFFFF, 0, 0x80000000, 0, 0, 0, 0, [], []⟩,
  ⟨0x084, 0, 1, 0, 0, 0, 0, 0, 0, 0xF3, [], []⟩,
  ⟨0x088, 0, 1, 0, 0, 0, 0, 0, 0, 0xFFFFFFFF, [], []⟩,
  ⟨0x08C, 0x4, 2, 0, 0, 0, 0, 0, 0, 0xFFFFFFFF, [], []⟩,
  ⟨0x0A0, 0x10, 4, 0x7FF07FF, 0, 0, 0, 0, 0, 0, [], []⟩,
  ⟨0x0A4, 0x10, 4, 0x7FF07FF, 0, 0, 0, 0, 0, 0, [], []⟩,
  ⟨0x0A8, 0x10, 4, 0x13FF, 0, 0, 0, 0, 0, 0x2000, [0x14], [(0, 10, 10, 600)]⟩,
  ⟨0x0AC, 0x10, 4, 0xFFF, 0, 0, 0, 0, 0, 0, [], []⟩,
  ⟨0x0E0, 0, 1, 0x1FFFF, 0, 0, 0, 0, 0, 0, [], []⟩,
  ⟨0x0E4, 0, 1, 0, 0, 0, 0xFFFFFFFF, 0, 0, 0, [], []⟩,
  ⟨0x0F0, 0, 1, 0, 0, 0, 0, 0, 0, 0x1F, [], []⟩,
  ⟨0x100, 0x8, 20, 0, 0, 0, 0, 0, 0, 0x7FF07FF, [], []⟩,
  ⟨0x104, 0x8, 20, 0, 0, 0, 0, 0, 0, 0x7FF07FF, [], []⟩,
  ⟨0x400, 0x4, 8, 0, 0, 0, 0, 0, 0xFFFF, 0, [0xA01, 0xA11, 0xA21, 0xA31, 0xA03, 0x5, 0, 0], []⟩,
  ⟨0x420, 0x4, 8, 0, 0, 0, 0, 0, 0xFFFF, 0, [0xA04, 0xA32, 0xA22, 0xA12, 0xA02, 0, 0, 0], []⟩,
  ⟨0x440, 0, 1, 0, 0, 0, 0, 0, 0xFFF, 0xFFF0000, [0x800], []⟩,
  ⟨0x444, 0, 1, 0, 0, 0, 0, 0, 0xFF, 0, [0x32], [(0, 8, 1, 255)]⟩]

/-! ### EPDR page (R393) -/

/-- Offset of the EPDR page in the page window (R36). -/
def EPDR.page : Nat := 0x91000
def EPDR.ev_DONE : Nat := 0
def EPDR.ev_TEMP_SHIFT : Nat := 1
def EPDR.ev_WB_REQ : Nat := 2
def EPDR.RECT_XY : Nat := EPDR.page + 0x040
def EPDR.RECT_XY_X : Fld := ⟨EPDR.RECT_XY, 0, 11⟩
def EPDR.RECT_XY_Y : Fld := ⟨EPDR.RECT_XY, 16, 11⟩
def EPDR.RECT_WH : Nat := EPDR.page + 0x044
def EPDR.RECT_WH_W : Fld := ⟨EPDR.RECT_WH, 0, 11⟩
def EPDR.RECT_WH_H : Fld := ⟨EPDR.RECT_WH, 16, 11⟩
def EPDR.LS_BASE : Nat := EPDR.page + 0x048
def EPDR.CTL : Nat := EPDR.page + 0x04C
def EPDR.CTL_MODE : Fld := ⟨EPDR.CTL, 0, 3⟩
def EPDR.CTL_GO : Fld := ⟨EPDR.CTL, 8, 1⟩
def EPDR.CTL_WB_ACK : Fld := ⟨EPDR.CTL, 9, 1⟩
def EPDR.STAT : Nat := EPDR.page + 0x050
def EPDR.STAT_RUNNING : Fld := ⟨EPDR.STAT, 0, 1⟩
def EPDR.STAT_QUEUED : Fld := ⟨EPDR.STAT, 1, 1⟩
def EPDR.STAT_WB_REQ : Fld := ⟨EPDR.STAT, 2, 1⟩
def EPDR.STAT_WB_INIT : Fld := ⟨EPDR.STAT, 3, 1⟩
def EPDR.STAT_TEMP_SHIFT : Fld := ⟨EPDR.STAT, 4, 1⟩
/-- The register table of the EPDR page (R393). -/
def EPDR.table : List RegRow := [
  ⟨0x040, 0, 1, 0x7FF07FF, 0, 0, 0, 0, 0, 0, [], []⟩,
  ⟨0x044, 0, 1, 0x7FF07FF, 0, 0, 0, 0, 0, 0, [], []⟩,
  ⟨0x048, 0, 1, 0, 0, 0, 0, 0, 0, 0xFFFFFFFF, [0x20780000], []⟩,
  ⟨0x04C, 0, 1, 0x7, 0, 0x300, 0, 0, 0, 0, [], []⟩,
  ⟨0x050, 0, 1, 0, 0, 0, 0, 0, 0, 0x1F, [], []⟩]

/-! ### LSW page (R414) -/

/-- Offset of the LSW page in the page window (R36). -/
def LSW.page : Nat := 0xA0000
def LSW.ev_OVERCUR : Nat := 0
def LSW.ev_THERM : Nat := 1
def LSW.ev_RETRY_OUT : Nat := 2
def LSW.ev_LATCH : Nat := 3
def LSW.ev_OPEN_LOAD : Nat := 4
def LSW.ev_HM_EXPIRED : Nat := 5
def LSW.ev_BUDGET : Nat := 6
def LSW.ev_GATED : Nat := 7
def LSW.ev_SHED : Nat := 8
def LSW.CMD_ON : Nat := LSW.page + 0x040
def LSW.CMD_ON_ON : Fld := ⟨LSW.CMD_ON, 0, 12⟩
def LSW.CMD_OFF : Nat := LSW.page + 0x044
def LSW.CMD_OFF_OFF : Fld := ⟨LSW.CMD_OFF, 0, 12⟩
def LSW.CMD_STATE : Nat := LSW.page + 0x048
def LSW.CMD_STATE_CMD : Fld := ⟨LSW.CMD_STATE, 0, 12⟩
def LSW.OUT_STATE : Nat := LSW.page + 0x04C
def LSW.OUT_STATE_OUT : Fld := ⟨LSW.OUT_STATE, 0, 12⟩
def LSW.CH_CFG (k : Nat) : Nat := LSW.page + 0x080 + 0x4 * k
def LSW.CH_CFG_SRC (k : Nat) : Fld := ⟨LSW.CH_CFG k, 0, 2⟩
def LSW.CH_CFG_PORT (k : Nat) : Fld := ⟨LSW.CH_CFG k, 2, 1⟩
def LSW.CH_CFG_CLASS (k : Nat) : Fld := ⟨LSW.CH_CFG k, 3, 1⟩
def LSW.CH_CFG_FS (k : Nat) : Fld := ⟨LSW.CH_CFG k, 4, 1⟩
def LSW.CH_CFG_SHED_LVL (k : Nat) : Fld := ⟨LSW.CH_CFG k, 5, 3⟩
def LSW.CH_CFG_LOOP (k : Nat) : Fld := ⟨LSW.CH_CFG k, 8, 1⟩
def LSW.CH_CFG_OL_EN (k : Nat) : Fld := ⟨LSW.CH_CFG k, 9, 1⟩
def LSW.CH_CFG_TSEL (k : Nat) : Fld := ⟨LSW.CH_CFG k, 10, 2⟩
def LSW.CH_STAT (k : Nat) : Nat := LSW.page + 0x0C0 + 0x4 * k
def LSW.CH_STAT_STATE (k : Nat) : Fld := ⟨LSW.CH_STAT k, 0, 3⟩
def LSW.CH_STAT_RETRIES (k : Nat) : Fld := ⟨LSW.CH_STAT k, 4, 4⟩
def LSW.CH_STAT_THERM (k : Nat) : Fld := ⟨LSW.CH_STAT k, 8, 4⟩
def LSW.CH_STAT_OL_ON (k : Nat) : Fld := ⟨LSW.CH_STAT k, 12, 1⟩
def LSW.CH_STAT_OL_OFF (k : Nat) : Fld := ⟨LSW.CH_STAT k, 13, 1⟩
def LSW.CH_STAT_GATED (k : Nat) : Fld := ⟨LSW.CH_STAT k, 14, 1⟩
def LSW.CH_STAT_SHED (k : Nat) : Fld := ⟨LSW.CH_STAT k, 15, 1⟩
def LSW.CH_STAT_FAILSAFE (k : Nat) : Fld := ⟨LSW.CH_STAT k, 16, 1⟩
def LSW.CH_MEAS (k : Nat) : Nat := LSW.page + 0x100 + 0x4 * k
def LSW.CH_MEAS_I (k : Nat) : Fld := ⟨LSW.CH_MEAS k, 0, 16⟩
def LSW.CH_MEAS_T (k : Nat) : Fld := ⟨LSW.CH_MEAS k, 16, 12⟩
def LSW.RETRY : Nat := LSW.page + 0x140
def LSW.RETRY_RETRY_N : Fld := ⟨LSW.RETRY, 0, 4⟩
def LSW.RETRY_RETRY_GAP : Fld := ⟨LSW.RETRY, 4, 6⟩
def LSW.RETRY_WINDOW : Fld := ⟨LSW.RETRY, 10, 11⟩
def LSW.RETRY_THERM_MAX : Fld := ⟨LSW.RETRY, 24, 4⟩
def LSW.LATCH_CLR : Nat := LSW.page + 0x144
def LSW.LATCH_CLR_CLR : Fld := ⟨LSW.LATCH_CLR, 0, 12⟩
def LSW.HM_CFG : Nat := LSW.page + 0x148
def LSW.HM_CFG_T_INT : Fld := ⟨LSW.HM_CFG, 0, 10⟩
def LSW.HM_CFG_EN_INT : Fld := ⟨LSW.HM_CFG, 15, 1⟩
def LSW.HM_CFG_T_EXT : Fld := ⟨LSW.HM_CFG, 16, 10⟩
def LSW.HM_CFG_EN_EXT : Fld := ⟨LSW.HM_CFG, 31, 1⟩
def LSW.HM_KICK : Nat := LSW.page + 0x14C
def LSW.HM_KICK_KICK : Fld := ⟨LSW.HM_KICK, 0, 1⟩
def LSW.HM_STAT : Nat := LSW.page + 0x150
def LSW.HM_STAT_EXP_INT : Fld := ⟨LSW.HM_STAT, 0, 1⟩
def LSW.HM_STAT_EXP_EXT : Fld := ⟨LSW.HM_STAT, 1, 1⟩
def LSW.HM_STAT_CNT_INT : Fld := ⟨LSW.HM_STAT, 8, 8⟩
def LSW.HM_STAT_CNT_EXT : Fld := ⟨LSW.HM_STAT, 16, 8⟩
def LSW.BUDGET : Nat := LSW.page + 0x154
def LSW.BUDGET_P : Fld := ⟨LSW.BUDGET, 0, 12⟩
def LSW.BUDGET_CUTTING : Fld := ⟨LSW.BUDGET, 16, 1⟩
def LSW.FS_STORE : Nat := LSW.page + 0x158
def LSW.FS_STORE_STORE : Fld := ⟨LSW.FS_STORE, 0, 1⟩
def LSW.FS_STORE_BUSY : Fld := ⟨LSW.FS_STORE, 8, 1⟩
def LSW.FS_STORE_DONE : Fld := ⟨LSW.FS_STORE, 9, 1⟩
def LSW.SPI_STAT : Nat := LSW.page + 0x15C
def LSW.SPI_STAT_FRAMES : Fld := ⟨LSW.SPI_STAT, 0, 16⟩
def LSW.SPI_STAT_CRC_ERR : Fld := ⟨LSW.SPI_STAT, 16, 16⟩
def LSW.LTMR (k : Nat) : Nat := LSW.page + 0x160 + 0x4 * k
def LSW.LTMR_PERIOD (k : Nat) : Fld := ⟨LSW.LTMR k, 0, 20⟩
def LSW.LTMR_DUTY (k : Nat) : Fld := ⟨LSW.LTMR k, 20, 8⟩
def LSW.BUDGET_CFG : Nat := LSW.page + 0x400
def LSW.BUDGET_CFG_LIMIT : Fld := ⟨LSW.BUDGET_CFG, 0, 12⟩
/-- The register table of the LSW page (R414). -/
def LSW.table : List RegRow := [
  ⟨0x040, 0, 1, 0, 0, 0xFFF, 0, 0, 0, 0, [], []⟩,
  ⟨0x044, 0, 1, 0, 0, 0xFFF, 0, 0, 0, 0, [], []⟩,
  ⟨0x048, 0, 1, 0, 0, 0, 0, 0, 0, 0xFFF, [], []⟩,
  ⟨0x04C, 0, 1, 0, 0, 0, 0, 0, 0, 0xFFF, [], []⟩,
  ⟨0x080, 0x4, 12, 0xFFF, 0, 0, 0, 0, 0, 0, [0x248], []⟩,
  ⟨0x0C0, 0x4, 12, 0, 0, 0, 0, 0, 0, 0x1FFF7, [], []⟩,
  ⟨0x100, 0x4, 12, 0, 0, 0, 0, 0, 0, 0xFFFFFFF, [], []⟩,
  ⟨0x140, 0, 1, 0xF1FFFFF, 0, 0, 0, 0, 0, 0, [0x3032047], [(0, 4, 0, 15), (4, 6, 1, 32), (10, 11, 16, 1024), (24, 4, 1, 15)]⟩,
  ⟨0x144, 0, 1, 0, 0, 0xFFF, 0, 0, 0, 0, [], []⟩,
  ⟨0x148, 0, 1, 0x83FF83FF, 0, 0, 0, 0, 0, 0, [0x648064], [(0, 10, 10, 1000), (16, 10, 10, 1000)]⟩,
  ⟨0x14C, 0, 1, 0, 0, 0x1, 0, 0, 0, 0, [], []⟩,
  ⟨0x150, 0, 1, 0, 0, 0, 0, 0, 0, 0xFFFF03, [], []⟩,
  ⟨0x154, 0, 1, 0, 0, 0, 0, 0, 0, 0x10FFF, [], []⟩,
  ⟨0x158, 0, 1, 0, 0, 0x1, 0, 0, 0, 0x300, [], []⟩,
  ⟨0x15C, 0, 1, 0, 0, 0, 0, 0, 0, 0xFFFFFFFF, [], []⟩,
  ⟨0x160, 0x4, 4, 0xFFFFFFF, 0, 0, 0, 0, 0, 0, [], []⟩,
  ⟨0x400, 0, 1, 0, 0, 0, 0, 0, 0xFFF, 0, [0x640], [(0, 12, 200, 1600)]⟩]

/-! ### YLR page (R444) -/

/-- Offset of the YLR page in the page window (R36). -/
def YLR.page : Nat := 0xB0000
def YLR.ev_ROLLCALL_DONE : Nat := 0
def YLR.ev_ROUTE_CHANGE : Nat := 1
def YLR.ev_RX : Nat := 2
def YLR.ev_AUTH_FAIL : Nat := 3
def YLR.ev_SHARE : Nat := 4
def YLR.ev_SHARE_LOST : Nat := 5
def YLR.ev_TX_SPACE : Nat := 6
def YLR.CFG : Nat := YLR.page + 0x040
def YLR.CFG_ROOT_CAND : Fld := ⟨YLR.CFG, 0, 1⟩
def YLR.CFG_SHARE_EN : Fld := ⟨YLR.CFG, 1, 1⟩
def YLR.CFG_SITE_SRC : Fld := ⟨YLR.CFG, 2, 1⟩
def YLR.CFG_SHARE_AUTH : Fld := ⟨YLR.CFG, 3, 1⟩
def YLR.CFG_ADDR_REQ : Fld := ⟨YLR.CFG, 8, 8⟩
def YLR.STAT : Nat := YLR.page + 0x044
def YLR.STAT_RINGMASTER : Fld := ⟨YLR.STAT, 0, 1⟩
def YLR.STAT_ADMITTED : Fld := ⟨YLR.STAT, 1, 1⟩
def YLR.STAT_KEY_OK : Fld := ⟨YLR.STAT, 2, 1⟩
def YLR.STAT_SHARE_OK : Fld := ⟨YLR.STAT, 3, 1⟩
def YLR.STAT_FALLBACK : Fld := ⟨YLR.STAT, 4, 1⟩
def YLR.STAT_RM_FW : Fld := ⟨YLR.STAT, 5, 1⟩
def YLR.STAT_ADDR : Fld := ⟨YLR.STAT, 8, 8⟩
def YLR.STAT_RM_ADDR : Fld := ⟨YLR.STAT, 16, 8⟩
def YLR.EPOCH : Nat := YLR.page + 0x048
def YLR.RC_CTL : Nat := YLR.page + 0x04C
def YLR.RC_CTL_START : Fld := ⟨YLR.RC_CTL, 0, 1⟩
def YLR.KEY : Nat := YLR.page + 0x050
def YLR.KEY_SLOT : Fld := ⟨YLR.KEY, 0, 5⟩
def YLR.KEY_VALID : Fld := ⟨YLR.KEY, 8, 1⟩
def YLR.SYNC_OFS : Nat := YLR.page + 0x054
def YLR.ROUTE (k : Nat) : Nat := YLR.page + 0x080 + 0x4 * k
def YLR.TXQ_BASE : Nat := YLR.page + 0x100
def YLR.TXQ_CTL : Nat := YLR.page + 0x104
def YLR.TXQ_CTL_LOG2 : Fld := ⟨YLR.TXQ_CTL, 0, 4⟩
def YLR.TXQ_WR : Nat := YLR.page + 0x108
def YLR.TXQ_WR_WR : Fld := ⟨YLR.TXQ_WR, 0, 10⟩
def YLR.TXQ_RD : Nat := YLR.page + 0x10C
def YLR.TXQ_RD_RD : Fld := ⟨YLR.TXQ_RD, 0, 10⟩
def YLR.RXQ_BASE : Nat := YLR.page + 0x110
def YLR.RXQ_CTL : Nat := YLR.page + 0x114
def YLR.RXQ_CTL_LOG2 : Fld := ⟨YLR.RXQ_CTL, 0, 4⟩
def YLR.RXQ_WR : Nat := YLR.page + 0x118
def YLR.RXQ_WR_WR : Fld := ⟨YLR.RXQ_WR, 0, 10⟩
def YLR.RXQ_RD : Nat := YLR.page + 0x11C
def YLR.RXQ_RD_RD : Fld := ⟨YLR.RXQ_RD, 0, 10⟩
def YLR.SHARE_LIMIT : Nat := YLR.page + 0x120
def YLR.SHARE_LIMIT_V : Fld := ⟨YLR.SHARE_LIMIT, 0, 16⟩
def YLR.SHARE_BASE : Nat := YLR.page + 0x124
def YLR.SHARE_BASE_V : Fld := ⟨YLR.SHARE_BASE, 0, 16⟩
def YLR.SHARE_HEAD : Nat := YLR.page + 0x128
def YLR.SHARE_HEAD_V : Fld := ⟨YLR.SHARE_HEAD, 0, 16⟩
def YLR.SHARE_FB (k : Nat) : Nat := YLR.page + 0x130 + 0x4 * k
def YLR.SHARE_STAT : Nat := YLR.page + 0x140
def YLR.SHARE_STAT_AGE : Fld := ⟨YLR.SHARE_STAT, 0, 8⟩
def YLR.SHARE_STAT_LATE : Fld := ⟨YLR.SHARE_STAT, 8, 8⟩
def YLR.SHARE_STAT_COUNT : Fld := ⟨YLR.SHARE_STAT, 16, 16⟩
def YLR.CNT0 : Nat := YLR.page + 0x148
def YLR.CNT0_AUTH_FAIL : Fld := ⟨YLR.CNT0, 0, 16⟩
def YLR.CNT0_REPLAY : Fld := ⟨YLR.CNT0, 16, 16⟩
def YLR.CNT1 : Nat := YLR.page + 0x14C
def YLR.CNT1_TTL : Fld := ⟨YLR.CNT1, 0, 8⟩
def YLR.CNT1_NOROUTE : Fld := ⟨YLR.CNT1, 8, 8⟩
def YLR.CNT1_BADTX : Fld := ⟨YLR.CNT1, 16, 8⟩
def YLR.CNT1_RXFULL : Fld := ⟨YLR.CNT1, 24, 8⟩
def YLR.RC_TIMING : Nat := YLR.page + 0x400
def YLR.RC_TIMING_ELECT_WAIT : Fld := ⟨YLR.RC_TIMING, 0, 10⟩
def YLR.RC_TIMING_RC_WAIT : Fld := ⟨YLR.RC_TIMING, 10, 10⟩
def YLR.RC_TIMING_RC_HOLD : Fld := ⟨YLR.RC_TIMING, 20, 10⟩
/-- The register table of the YLR page (R444). -/
def YLR.table : List RegRow := [
  ⟨0x040, 0, 1, 0xFF0F, 0, 0, 0, 0, 0, 0, [0x8], [(8, 8, 0, 250)]⟩,
  ⟨0x044, 0, 1, 0, 0, 0, 0, 0, 0, 0xFFFF3F, [], []⟩,
  ⟨0x048, 0, 1, 0, 0, 0, 0, 0, 0, 0xFFFFFFFF, [], []⟩,
  ⟨0x04C, 0, 1, 0, 0, 0x1, 0, 0, 0, 0, [], []⟩,
  ⟨0x050, 0, 1, 0x1F, 0, 0, 0, 0, 0, 0x100, [], []⟩,
  ⟨0x054, 0, 1, 0, 0, 0, 0, 0, 0, 0xFFFFFFFF, [], []⟩,
  ⟨0x080, 0x4, 32, 0, 0, 0, 0, 0, 0, 0xFFFFFFFF, [0xFFFFFFFF], []⟩,
  ⟨0x100, 0, 1, 0xFFFFFFFF, 0, 0, 0, 0, 0, 0, [], []⟩,
  ⟨0x104, 0, 1, 0xF, 0, 0, 0, 0, 0, 0, [0x4], [(0, 4, 2, 10)]⟩,
  ⟨0x108, 0, 1, 0x3FF, 0, 0, 0, 0, 0, 0, [], []⟩,
  ⟨0x10C, 0, 1, 0, 0, 0, 0, 0, 0, 0x3FF, [], []⟩,
  ⟨0x110, 0, 1, 0xFFFFFFFF, 0, 0, 0, 0, 0, 0, [], []⟩,
  ⟨0x114, 0, 1, 0xF, 0, 0, 0, 0, 0, 0, [0x4], [(0, 4, 2, 10)]⟩,
  ⟨0x118, 0, 1, 0, 0, 0, 0, 0, 0, 0x3FF, [], []⟩,
  ⟨0x11C, 0, 1, 0x3FF, 0, 0, 0, 0, 0, 0, [], []⟩,
  ⟨0x120, 0, 1, 0xFFFF, 0, 0, 0, 0, 0, 0, [], []⟩,
  ⟨0x124, 0, 1, 0xFFFF, 0, 0, 0, 0, 0, 0, [], []⟩,
  ⟨0x128, 0, 1, 0xFFFF, 0, 0, 0, 0, 0, 0, [0x64], []⟩,
  ⟨0x130, 0x4, 4, 0xFFFFFFFF, 0, 0, 0, 0, 0, 0, [0x3CFFFF], []⟩,
  ⟨0x140, 0, 1, 0, 0, 0, 0, 0, 0, 0xFFFFFFFF, [], []⟩,
  ⟨0x148, 0, 1, 0, 0, 0, 0, 0, 0, 0xFFFFFFFF, [], []⟩,
  ⟨0x14C, 0, 1, 0, 0, 0, 0, 0, 0, 0xFFFFFFFF, [], []⟩,
  ⟨0x400, 0, 1, 0, 0, 0, 0, 0, 0x3FFFFFFF, 0, [0x3E80C8C8], []⟩]

/-! ### YL page (R445) -/

/-- Offset of the YL page in the page window (R36). -/
def YL.page (n : Fin 3) : Nat := 0xB1000 + 0x1000 * n.val
def YL.ev_LINK_UP : Nat := 0
def YL.ev_LINK_DOWN : Nat := 1
def YL.ev_ERR : Nat := 2
def YL.STAT (n : Fin 3) : Nat := YL.page n + 0x040
def YL.STAT_SYNC (n : Fin 3) : Fld := ⟨YL.STAT n, 0, 1⟩
def YL.STAT_LINK_UP (n : Fin 3) : Fld := ⟨YL.STAT n, 1, 1⟩
def YL.STAT_PAIR (n : Fin 3) : Fld := ⟨YL.STAT n, 2, 1⟩
def YL.NEIGH_UID_LO (n : Fin 3) : Nat := YL.page n + 0x044
def YL.NEIGH_UID_HI (n : Fin 3) : Nat := YL.page n + 0x048
def YL.NEIGH (n : Fin 3) : Nat := YL.page n + 0x04C
def YL.NEIGH_ADDR (n : Fin 3) : Fld := ⟨YL.NEIGH n, 0, 8⟩
def YL.ERR (n : Fin 3) : Nat := YL.page n + 0x050
def YL.ERR_CODE_ERR (n : Fin 3) : Fld := ⟨YL.ERR n, 0, 16⟩
def YL.ERR_CRC_ERR (n : Fin 3) : Fld := ⟨YL.ERR n, 16, 16⟩
def YL.CNT (n : Fin 3) : Nat := YL.page n + 0x054
def YL.CNT_PREEMPT (n : Fin 3) : Fld := ⟨YL.CNT n, 0, 16⟩
def YL.CNT_DROP (n : Fin 3) : Fld := ⟨YL.CNT n, 16, 16⟩
def YL.DRV (n : Fin 3) : Nat := YL.page n + 0x400
def YL.DRV_SWING (n : Fin 3) : Fld := ⟨YL.DRV n, 0, 2⟩
def YL.DRV_TERM_EN (n : Fin 3) : Fld := ⟨YL.DRV n, 4, 1⟩
/-- The register table of the YL page (R445). -/
def YL.table : List RegRow := [
  ⟨0x040, 0, 1, 0, 0, 0, 0, 0, 0, 0x7, [], []⟩,
  ⟨0x044, 0, 1, 0, 0, 0, 0, 0, 0, 0xFFFFFFFF, [], []⟩,
  ⟨0x048, 0, 1, 0, 0, 0, 0, 0, 0, 0xFFFFFFFF, [], []⟩,
  ⟨0x04C, 0, 1, 0, 0, 0, 0, 0, 0, 0xFF, [], []⟩,
  ⟨0x050, 0, 1, 0, 0, 0, 0, 0, 0, 0xFFFFFFFF, [], []⟩,
  ⟨0x054, 0, 1, 0, 0, 0, 0, 0, 0, 0xFFFFFFFF, [], []⟩,
  ⟨0x400, 0, 1, 0, 0, 0, 0, 0, 0x13, 0, [0x11], [(0, 2, 0, 2)]⟩]

/-! ### PAIR page (R469) -/

/-- Offset of the PAIR page in the page window (R36). -/
def PAIR.page : Nat := 0xB4000
def PAIR.ev_TAKEOVER : Nat := 0
def PAIR.ev_RESIGN : Nat := 1
def PAIR.ev_PEER_LOST : Nat := 2
def PAIR.ev_XCHK_FAIL : Nat := 3
def PAIR.ev_CARD : Nat := 4
def PAIR.ev_LINK_SPLIT : Nat := 5
def PAIR.ev_ROLE_CLASH : Nat := 6
def PAIR.ev_STATE : Nat := 7
def PAIR.CFG : Nat := PAIR.page + 0x040
def PAIR.CFG_START_WAIT : Fld := ⟨PAIR.CFG, 0, 10⟩
def PAIR.CFG_DEFER_MAX : Fld := ⟨PAIR.CFG, 16, 5⟩
def PAIR.CTL : Nat := PAIR.page + 0x044
def PAIR.CTL_HANDOVER : Fld := ⟨PAIR.CTL, 0, 1⟩
def PAIR.CTL_REJOIN : Fld := ⟨PAIR.CTL, 1, 1⟩
def PAIR.STAT : Nat := PAIR.page + 0x048
def PAIR.STAT_STATE : Fld := ⟨PAIR.STAT, 0, 3⟩
def PAIR.STAT_UNIT : Fld := ⟨PAIR.STAT, 3, 1⟩
def PAIR.STAT_TOKEN : Fld := ⟨PAIR.STAT, 4, 1⟩
def PAIR.STAT_TOK_I : Fld := ⟨PAIR.STAT, 5, 1⟩
def PAIR.STAT_PEER_OK : Fld := ⟨PAIR.STAT, 6, 1⟩
def PAIR.STAT_ELIGIBLE : Fld := ⟨PAIR.STAT, 7, 1⟩
def PAIR.STAT_LINK_SPLIT : Fld := ⟨PAIR.STAT, 8, 1⟩
def PAIR.STAT_ROLE_CLASH : Fld := ⟨PAIR.STAT, 9, 1⟩
def PAIR.STAT_DEFER : Fld := ⟨PAIR.STAT, 10, 1⟩
def PAIR.STAT_PEER_STATE : Fld := ⟨PAIR.STAT, 12, 3⟩
def PAIR.RESIGN : Nat := PAIR.page + 0x04C
def PAIR.RESIGN_CAUSE : Fld := ⟨PAIR.RESIGN, 0, 8⟩
def PAIR.RESIGN_PEER_CAUSE : Fld := ⟨PAIR.RESIGN, 8, 8⟩
def PAIR.RESIGN_COUNT : Fld := ⟨PAIR.RESIGN, 16, 16⟩
def PAIR.TAKEOVER : Nat := PAIR.page + 0x050
def PAIR.TAKEOVER_COUNT : Fld := ⟨PAIR.TAKEOVER, 0, 16⟩
def PAIR.TAKEOVER_GAP : Fld := ⟨PAIR.TAKEOVER, 16, 16⟩
def PAIR.HB : Nat := PAIR.page + 0x054
def PAIR.HB_MISSED : Fld := ⟨PAIR.HB, 0, 16⟩
def PAIR.HB_RUN : Fld := ⟨PAIR.HB, 16, 8⟩
def PAIR.WOFS : Nat := PAIR.page + 0x058
def PAIR.PWM_ERR : Nat := PAIR.page + 0x05C
def PAIR.PWM_ERR_ERR : Fld := ⟨PAIR.PWM_ERR, 0, 16⟩
def PAIR.XCHK : Nat := PAIR.page + 0x060
def PAIR.XCHK_RUN : Fld := ⟨PAIR.XCHK, 0, 8⟩
def PAIR.XCHK_PAGES : Fld := ⟨PAIR.XCHK, 8, 5⟩
def PAIR.XCHK_FAILS : Fld := ⟨PAIR.XCHK, 16, 16⟩
def PAIR.XCHK_MIN : Nat := PAIR.page + 0x064
def PAIR.ALIGN_MAX : Nat := PAIR.page + 0x068
def PAIR.SYNC : Nat := PAIR.page + 0x06C
def PAIR.SYNC_PROGRESS : Fld := ⟨PAIR.SYNC, 0, 7⟩
def PAIR.CARD (k : Nat) : Nat := PAIR.page + 0x080 + 0x4 * k
def PAIR.CARD_RESULT (k : Nat) : Fld := ⟨PAIR.CARD k, 0, 2⟩
def PAIR.CARD_AGE (k : Nat) : Fld := ⟨PAIR.CARD k, 8, 24⟩
def PAIR.PCARD (k : Nat) : Nat := PAIR.page + 0x0C0 + 0x4 * k
def PAIR.PCARD_RESULT (k : Nat) : Fld := ⟨PAIR.PCARD k, 0, 2⟩
def PAIR.PCARD_AGE (k : Nat) : Fld := ⟨PAIR.PCARD k, 8, 24⟩
def PAIR.XCHK_CFG : Nat := PAIR.page + 0x400
def PAIR.XCHK_CFG_TOL_R : Fld := ⟨PAIR.XCHK_CFG, 0, 16⟩
def PAIR.XCHK_CFG_TOL_F : Fld := ⟨PAIR.XCHK_CFG, 16, 16⟩
def PAIR.XCHK_LIM : Nat := PAIR.page + 0x404
def PAIR.XCHK_LIM_LIM : Fld := ⟨PAIR.XCHK_LIM, 0, 4⟩
/-- The register table of the PAIR page (R469). -/
def PAIR.table : List RegRow := [
  ⟨0x040, 0, 1, 0x1F03FF, 0, 0, 0, 0, 0, 0, [0x401F4], [(0, 10, 100, 1000), (16, 5, 1, 24)]⟩,
  ⟨0x044, 0, 1, 0, 0, 0x3, 0, 0, 0, 0, [], []⟩,
  ⟨0x048, 0, 1, 0, 0, 0, 0, 0, 0, 0x77FF, [], []⟩,
  ⟨0x04C, 0, 1, 0, 0, 0, 0, 0, 0, 0xFFFFFFFF, [], []⟩,
  ⟨0x050, 0, 1, 0, 0, 0, 0, 0, 0, 0xFFFFFFFF, [], []⟩,
  ⟨0x054, 0, 1, 0, 0, 0, 0, 0, 0, 0xFFFFFF, [], []⟩,
  ⟨0x058, 0, 1, 0, 0, 0, 0, 0, 0, 0xFFFFFFFF, [], []⟩,
  ⟨0x05C, 0, 1, 0, 0, 0, 0, 0, 0, 0xFFFF, [], []⟩,
  ⟨0x060, 0, 1, 0, 0, 0, 0, 0, 0, 0xFFFF1FFF, [], []⟩,
  ⟨0x064, 0, 1, 0, 0, 0, 0, 0, 0, 0xFFFFFFFF, [], []⟩,
  ⟨0x068, 0, 1, 0, 0, 0, 0, 0, 0, 0xFFFFFFFF, [], []⟩,
  ⟨0x06C, 0, 1, 0, 0, 0, 0, 0, 0, 0x7F, [], []⟩,
  ⟨0x080, 0x4, 16, 0, 0, 0, 0, 0, 0, 0xFFFFFF03, [0xFFFFFF00], []⟩,
  ⟨0x0C0, 0x4, 16, 0, 0, 0, 0, 0, 0, 0xFFFFFF03, [0xFFFFFF00], []⟩,
  ⟨0x400, 0, 1, 0, 0, 0, 0, 0, 0xFFFFFFFF, 0, [0x3E800C8], []⟩,
  ⟨0x404, 0, 1, 0, 0, 0, 0, 0, 0xF, 0, [0x3], [(0, 4, 1, 15)]⟩]

/-! ### CAN page (R174) -/

/-- Offset of the CAN page in the page window (R36). -/
def CAN.page (n : Fin 4) : Nat := 0xC0000 + 0x1000 * n.val
def CAN.BTN (n : Fin 4) : Nat := CAN.page n + 0x040
def CAN.BTN_BRP (n : Fin 4) : Fld := ⟨CAN.BTN n, 0, 10⟩
def CAN.BTN_TSEG1 (n : Fin 4) : Fld := ⟨CAN.BTN n, 10, 8⟩
def CAN.BTN_TSEG2 (n : Fin 4) : Fld := ⟨CAN.BTN n, 18, 6⟩
def CAN.BTN_SJW (n : Fin 4) : Fld := ⟨CAN.BTN n, 24, 6⟩
def CAN.BTD (n : Fin 4) : Nat := CAN.page n + 0x044
def CAN.BTD_BRP (n : Fin 4) : Fld := ⟨CAN.BTD n, 0, 10⟩
def CAN.BTD_TSEG1 (n : Fin 4) : Fld := ⟨CAN.BTD n, 10, 8⟩
def CAN.BTD_TSEG2 (n : Fin 4) : Fld := ⟨CAN.BTD n, 18, 6⟩
def CAN.BTD_SJW (n : Fin 4) : Fld := ⟨CAN.BTD n, 24, 6⟩
def CAN.BTD_TDC_EN (n : Fin 4) : Fld := ⟨CAN.BTD n, 31, 1⟩
def CAN.MODE (n : Fin 4) : Nat := CAN.page n + 0x048
def CAN.MODE_MODE (n : Fin 4) : Fld := ⟨CAN.MODE n, 0, 2⟩
def CAN.MODE_FD_EN (n : Fin 4) : Fld := ⟨CAN.MODE n, 4, 1⟩
def CAN.MODE_BRS_EN (n : Fin 4) : Fld := ⟨CAN.MODE n, 5, 1⟩
def CAN.STAT (n : Fin 4) : Nat := CAN.page n + 0x04C
def CAN.STAT_BUS (n : Fin 4) : Fld := ⟨CAN.STAT n, 0, 2⟩
def CAN.STAT_TEC (n : Fin 4) : Fld := ⟨CAN.STAT n, 8, 8⟩
def CAN.STAT_REC (n : Fin 4) : Fld := ⟨CAN.STAT n, 16, 8⟩
def CAN.TX_DATA (n : Fin 4) : Nat := CAN.page n + 0x060
def CAN.RX_DATA (n : Fin 4) : Nat := CAN.page n + 0x064
def CAN.FIFO_STAT (n : Fin 4) : Nat := CAN.page n + 0x068
def CAN.FIFO_STAT_TX_FREE (n : Fin 4) : Fld := ⟨CAN.FIFO_STAT n, 0, 5⟩
def CAN.FIFO_STAT_RX_FRAMES (n : Fin 4) : Fld := ⟨CAN.FIFO_STAT n, 16, 6⟩
def CAN.FILT (n : Fin 4) (k : Nat) : Nat := CAN.page n + 0x100 + 0x4 * k
def CAN.FILT_ID (n : Fin 4) (k : Nat) : Fld := ⟨CAN.FILT n k, 0, 29⟩
def CAN.FILT_EN (n : Fin 4) (k : Nat) : Fld := ⟨CAN.FILT n k, 31, 1⟩
def CAN.MASK (n : Fin 4) (k : Nat) : Nat := CAN.page n + 0x200 + 0x4 * k
def CAN.MASK_MASK (n : Fin 4) (k : Nat) : Fld := ⟨CAN.MASK n k, 0, 29⟩
/-- The register table of the CAN page (R174). -/
def CAN.table : List RegRow := [
  ⟨0x040, 0, 1, 0x3FFFFFFF, 0, 0, 0, 0, 0, 0, [], []⟩,
  ⟨0x044, 0, 1, 0xBFFFFFFF, 0, 0, 0, 0, 0, 0, [], []⟩,
  ⟨0x048, 0, 1, 0x33, 0, 0, 0, 0, 0, 0, [], []⟩,
  ⟨0x04C, 0, 1, 0, 0, 0, 0, 0, 0, 0xFFFF03, [], []⟩,
  ⟨0x060, 0, 1, 0, 0, 0, 0xFFFFFFFF, 0, 0, 0, [], []⟩,
  ⟨0x064, 0, 1, 0, 0, 0, 0, 0, 0, 0xFFFFFFFF, [], []⟩,
  ⟨0x068, 0, 1, 0, 0, 0, 0, 0, 0, 0x3F001F, [0x10], []⟩,
  ⟨0x100, 0x4, 32, 0x9FFFFFFF, 0, 0, 0, 0, 0, 0, [], []⟩,
  ⟨0x200, 0x4, 32, 0x1FFFFFFF, 0, 0, 0, 0, 0, 0, [0x1FFFFFFF], []⟩]

/-! ### UART page (R545) -/

/-- Offset of the UART page in the page window (R36). -/
def UART.page (n : Fin 4) : Nat := 0xC4000 + 0x1000 * n.val
def UART.ev_RX : Nat := 0
def UART.ev_TX : Nat := 1
def UART.ev_RX_TMO : Nat := 2
def UART.ev_ERR : Nat := 3
def UART.CFG (n : Fin 4) : Nat := UART.page n + 0x040
def UART.CFG_DIV (n : Fin 4) : Fld := ⟨UART.CFG n, 0, 16⟩
def UART.CFG_FRAC (n : Fin 4) : Fld := ⟨UART.CFG n, 16, 4⟩
def UART.CFG_BITS (n : Fin 4) : Fld := ⟨UART.CFG n, 20, 2⟩
def UART.CFG_PARITY (n : Fin 4) : Fld := ⟨UART.CFG n, 22, 2⟩
def UART.CFG_STOP2 (n : Fin 4) : Fld := ⟨UART.CFG n, 24, 1⟩
def UART.TX_DATA (n : Fin 4) : Nat := UART.page n + 0x044
def UART.TX_DATA_DATA (n : Fin 4) : Fld := ⟨UART.TX_DATA n, 0, 8⟩
def UART.RX_DATA (n : Fin 4) : Nat := UART.page n + 0x048
def UART.RX_DATA_DATA (n : Fin 4) : Fld := ⟨UART.RX_DATA n, 0, 8⟩
def UART.RX_DATA_PE (n : Fin 4) : Fld := ⟨UART.RX_DATA n, 8, 1⟩
def UART.RX_DATA_FE (n : Fin 4) : Fld := ⟨UART.RX_DATA n, 9, 1⟩
def UART.RX_DATA_BREAK (n : Fin 4) : Fld := ⟨UART.RX_DATA n, 10, 1⟩
def UART.RX_DATA_EMPTY (n : Fin 4) : Fld := ⟨UART.RX_DATA n, 31, 1⟩
def UART.FIFO_STAT (n : Fin 4) : Nat := UART.page n + 0x04C
def UART.FIFO_STAT_TX_FREE (n : Fin 4) : Fld := ⟨UART.FIFO_STAT n, 0, 6⟩
def UART.FIFO_STAT_RX_COUNT (n : Fin 4) : Fld := ⟨UART.FIFO_STAT n, 16, 6⟩
def UART.THR (n : Fin 4) : Nat := UART.page n + 0x050
def UART.THR_RX_THR (n : Fin 4) : Fld := ⟨UART.THR n, 0, 6⟩
def UART.THR_TX_THR (n : Fin 4) : Fld := ⟨UART.THR n, 8, 6⟩
def UART.RXTMO (n : Fin 4) : Nat := UART.page n + 0x054
def UART.RXTMO_TMO (n : Fin 4) : Fld := ⟨UART.RXTMO n, 0, 8⟩
def UART.STAT (n : Fin 4) : Nat := UART.page n + 0x058
def UART.STAT_TX_IDLE (n : Fin 4) : Fld := ⟨UART.STAT n, 0, 1⟩
def UART.STAT_OVR (n : Fin 4) : Fld := ⟨UART.STAT n, 1, 1⟩
def UART.STAT_BREAK_RX (n : Fin 4) : Fld := ⟨UART.STAT n, 2, 1⟩
def UART.CTL (n : Fin 4) : Nat := UART.page n + 0x05C
def UART.CTL_BREAK (n : Fin 4) : Fld := ⟨UART.CTL n, 0, 1⟩
def UART.CTL_TX_FLUSH (n : Fin 4) : Fld := ⟨UART.CTL n, 1, 1⟩
def UART.CTL_RX_FLUSH (n : Fin 4) : Fld := ⟨UART.CTL n, 2, 1⟩
/-- The register table of the UART page (R545). -/
def UART.table : List RegRow := [
  ⟨0x040, 0, 1, 0x1FFFFFF, 0, 0, 0, 0, 0, 0, [0x340036], [(0, 16, 1, 65535), (22, 2, 0, 2)]⟩,
  ⟨0x044, 0, 1, 0, 0, 0, 0xFF, 0, 0, 0, [], []⟩,
  ⟨0x048, 0, 1, 0, 0, 0, 0, 0, 0, 0x800007FF, [0x80000000], []⟩,
  ⟨0x04C, 0, 1, 0, 0, 0, 0, 0, 0, 0x3F003F, [0x20], []⟩,
  ⟨0x050, 0, 1, 0x3F3F, 0, 0, 0, 0, 0, 0, [0x1001], [(0, 6, 1, 32), (8, 6, 1, 32)]⟩,
  ⟨0x054, 0, 1, 0xFF, 0, 0, 0, 0, 0, 0, [0x4], []⟩,
  ⟨0x058, 0, 1, 0, 0x6, 0, 0, 0, 0, 0x1, [0x1], []⟩,
  ⟨0x05C, 0, 1, 0x1, 0, 0x6, 0, 0, 0, 0, [], []⟩]

/-! ### I2C page (R547) -/

/-- Offset of the I2C page in the page window (R36). -/
def I2C.page (n : Fin 2) : Nat := 0xC8000 + 0x1000 * n.val
def I2C.ev_DONE : Nat := 0
def I2C.ev_ERR : Nat := 1
def I2C.CFG (n : Fin 2) : Nat := I2C.page n + 0x040
def I2C.CFG_SPEED (n : Fin 2) : Fld := ⟨I2C.CFG n, 0, 2⟩
def I2C.CMD (n : Fin 2) : Nat := I2C.page n + 0x044
def I2C.CMD_ADDR (n : Fin 2) : Fld := ⟨I2C.CMD n, 0, 10⟩
def I2C.CMD_TEN (n : Fin 2) : Fld := ⟨I2C.CMD n, 10, 1⟩
def I2C.CMD_READ (n : Fin 2) : Fld := ⟨I2C.CMD n, 11, 1⟩
def I2C.CMD_LEN (n : Fin 2) : Fld := ⟨I2C.CMD n, 16, 8⟩
def I2C.CMD_STOP (n : Fin 2) : Fld := ⟨I2C.CMD n, 24, 1⟩
def I2C.CMD_GO (n : Fin 2) : Fld := ⟨I2C.CMD n, 31, 1⟩
def I2C.TXDATA (n : Fin 2) : Nat := I2C.page n + 0x048
def I2C.TXDATA_DATA (n : Fin 2) : Fld := ⟨I2C.TXDATA n, 0, 8⟩
def I2C.RXDATA (n : Fin 2) : Nat := I2C.page n + 0x04C
def I2C.RXDATA_DATA (n : Fin 2) : Fld := ⟨I2C.RXDATA n, 0, 8⟩
def I2C.RXDATA_EMPTY (n : Fin 2) : Fld := ⟨I2C.RXDATA n, 31, 1⟩
def I2C.STAT (n : Fin 2) : Nat := I2C.page n + 0x050
def I2C.STAT_BUSY (n : Fin 2) : Fld := ⟨I2C.STAT n, 0, 1⟩
def I2C.STAT_DONE (n : Fin 2) : Fld := ⟨I2C.STAT n, 1, 1⟩
def I2C.STAT_NACK_ADDR (n : Fin 2) : Fld := ⟨I2C.STAT n, 2, 1⟩
def I2C.STAT_NACK_DATA (n : Fin 2) : Fld := ⟨I2C.STAT n, 3, 1⟩
def I2C.STAT_ARB_LOST (n : Fin 2) : Fld := ⟨I2C.STAT n, 4, 1⟩
def I2C.STAT_TIMEOUT (n : Fin 2) : Fld := ⟨I2C.STAT n, 5, 1⟩
def I2C.STAT_HELD (n : Fin 2) : Fld := ⟨I2C.STAT n, 6, 1⟩
def I2C.STAT_COUNT (n : Fin 2) : Fld := ⟨I2C.STAT n, 8, 8⟩
def I2C.STAT_TX_FILL (n : Fin 2) : Fld := ⟨I2C.STAT n, 16, 5⟩
def I2C.STAT_RX_FILL (n : Fin 2) : Fld := ⟨I2C.STAT n, 24, 5⟩
def I2C.TMO (n : Fin 2) : Nat := I2C.page n + 0x054
def I2C.TMO_TMO (n : Fin 2) : Fld := ⟨I2C.TMO n, 0, 10⟩
def I2C.CTL (n : Fin 2) : Nat := I2C.page n + 0x058
def I2C.CTL_RECOVER (n : Fin 2) : Fld := ⟨I2C.CTL n, 0, 1⟩
/-- The register table of the I2C page (R547). -/
def I2C.table : List RegRow := [
  ⟨0x040, 0, 1, 0x3, 0, 0, 0, 0, 0, 0, [], [(0, 2, 0, 2)]⟩,
  ⟨0x044, 0, 1, 0x1FF0FFF, 0, 0x80000000, 0, 0, 0, 0, [0x1000000], []⟩,
  ⟨0x048, 0, 1, 0, 0, 0, 0xFF, 0, 0, 0, [], []⟩,
  ⟨0x04C, 0, 1, 0, 0, 0, 0, 0, 0, 0x800000FF, [0x80000000], []⟩,
  ⟨0x050, 0, 1, 0, 0x3E, 0, 0, 0, 0, 0x1F1FFF41, [], []⟩,
  ⟨0x054, 0, 1, 0x3FF, 0, 0, 0, 0, 0, 0, [0x19], [(0, 10, 1, 1000)]⟩,
  ⟨0x058, 0, 1, 0, 0, 0x1, 0, 0, 0, 0, [], []⟩]

/-! ### GPIO page (R541) -/

/-- Offset of the GPIO page in the page window (R36). -/
def GPIO.page : Nat := 0xCA000
def GPIO.ev_E0 : Nat := 0
def GPIO.ev_E1 : Nat := 1
def GPIO.ev_E2 : Nat := 2
def GPIO.ev_E3 : Nat := 3
def GPIO.ev_E4 : Nat := 4
def GPIO.ev_E5 : Nat := 5
def GPIO.ev_E6 : Nat := 6
def GPIO.ev_E7 : Nat := 7
def GPIO.ev_E8 : Nat := 8
def GPIO.ev_E9 : Nat := 9
def GPIO.ev_E10 : Nat := 10
def GPIO.ev_E11 : Nat := 11
def GPIO.ev_E12 : Nat := 12
def GPIO.ev_E13 : Nat := 13
def GPIO.ev_E14 : Nat := 14
def GPIO.ev_E15 : Nat := 15
def GPIO.ev_SEAT_DROP : Nat := 16
def GPIO.DIR : Nat := GPIO.page + 0x040
def GPIO.DIR_DIR : Fld := ⟨GPIO.DIR, 0, 16⟩
def GPIO.OUT : Nat := GPIO.page + 0x044
def GPIO.OUT_OUT : Fld := ⟨GPIO.OUT, 0, 16⟩
def GPIO.SET : Nat := GPIO.page + 0x048
def GPIO.SET_SET : Fld := ⟨GPIO.SET, 0, 16⟩
def GPIO.CLR : Nat := GPIO.page + 0x04C
def GPIO.CLR_CLR : Fld := ⟨GPIO.CLR, 0, 16⟩
def GPIO.TGL : Nat := GPIO.page + 0x050
def GPIO.TGL_TGL : Fld := ⟨GPIO.TGL, 0, 16⟩
def GPIO.IN : Nat := GPIO.page + 0x054
def GPIO.IN_IN : Fld := ⟨GPIO.IN, 0, 16⟩
def GPIO.PULL : Nat := GPIO.page + 0x058
def GPIO.IEDGE : Nat := GPIO.page + 0x05C
def GPIO.DRV : Nat := GPIO.page + 0x060
def GPIO.DRV_DRV : Fld := ⟨GPIO.DRV, 0, 16⟩
def GPIO.ALT : Nat := GPIO.page + 0x064
def GPIO.ALT_ALT : Fld := ⟨GPIO.ALT, 0, 16⟩
def GPIO.STAT : Nat := GPIO.page + 0x068
def GPIO.STAT_SEAT_DROP : Fld := ⟨GPIO.STAT, 0, 16⟩
/-- The register table of the GPIO page (R541). -/
def GPIO.table : List RegRow := [
  ⟨0x040, 0, 1, 0xFFFF, 0, 0, 0, 0, 0, 0, [], []⟩,
  ⟨0x044, 0, 1, 0xFFFF, 0, 0, 0, 0, 0, 0, [], []⟩,
  ⟨0x048, 0, 1, 0, 0, 0, 0xFFFF, 0, 0, 0, [], []⟩,
  ⟨0x04C, 0, 1, 0, 0, 0, 0xFFFF, 0, 0, 0, [], []⟩,
  ⟨0x050, 0, 1, 0, 0, 0, 0xFFFF, 0, 0, 0, [], []⟩,
  ⟨0x054, 0, 1, 0, 0, 0, 0, 0, 0, 0xFFFF, [], []⟩,
  ⟨0x058, 0, 1, 0xFFFFFFFF, 0, 0, 0, 0, 0, 0, [0x55555555], []⟩,
  ⟨0x05C, 0, 1, 0xFFFFFFFF, 0, 0, 0, 0, 0, 0, [], []⟩,
  ⟨0x060, 0, 1, 0xFFFF, 0, 0, 0, 0, 0, 0, [], []⟩,
  ⟨0x064, 0, 1, 0, 0, 0, 0, 0, 0, 0xFFFF, [], []⟩,
  ⟨0x068, 0, 1, 0, 0, 0, 0, 0, 0, 0xFFFF, [], []⟩]

/-! ### SAR page (R543) -/

/-- Offset of the SAR page in the page window (R36). -/
def SAR.page : Nat := 0xCB000
def SAR.ev_SEQ_DONE : Nat := 0
def SAR.ev_OVR : Nat := 1
def SAR.ev_START_LOST : Nat := 2
def SAR.CFG : Nat := SAR.page + 0x040
def SAR.CFG_AVG : Fld := ⟨SAR.CFG, 0, 3⟩
def SAR.SEQ_LO (k : Nat) : Nat := SAR.page + 0x044 + 0x8 * k
def SAR.SEQ_LO_CH0 (k : Nat) : Fld := ⟨SAR.SEQ_LO k, 0, 5⟩
def SAR.SEQ_LO_EN0 (k : Nat) : Fld := ⟨SAR.SEQ_LO k, 7, 1⟩
def SAR.SEQ_LO_CH1 (k : Nat) : Fld := ⟨SAR.SEQ_LO k, 8, 5⟩
def SAR.SEQ_LO_EN1 (k : Nat) : Fld := ⟨SAR.SEQ_LO k, 15, 1⟩
def SAR.SEQ_LO_CH2 (k : Nat) : Fld := ⟨SAR.SEQ_LO k, 16, 5⟩
def SAR.SEQ_LO_EN2 (k : Nat) : Fld := ⟨SAR.SEQ_LO k, 23, 1⟩
def SAR.SEQ_LO_CH3 (k : Nat) : Fld := ⟨SAR.SEQ_LO k, 24, 5⟩
def SAR.SEQ_LO_EN3 (k : Nat) : Fld := ⟨SAR.SEQ_LO k, 31, 1⟩
def SAR.SEQ_HI (k : Nat) : Nat := SAR.page + 0x048 + 0x8 * k
def SAR.SEQ_HI_CH0 (k : Nat) : Fld := ⟨SAR.SEQ_HI k, 0, 5⟩
def SAR.SEQ_HI_EN0 (k : Nat) : Fld := ⟨SAR.SEQ_HI k, 7, 1⟩
def SAR.SEQ_HI_CH1 (k : Nat) : Fld := ⟨SAR.SEQ_HI k, 8, 5⟩
def SAR.SEQ_HI_EN1 (k : Nat) : Fld := ⟨SAR.SEQ_HI k, 15, 1⟩
def SAR.SEQ_HI_CH2 (k : Nat) : Fld := ⟨SAR.SEQ_HI k, 16, 5⟩
def SAR.SEQ_HI_EN2 (k : Nat) : Fld := ⟨SAR.SEQ_HI k, 23, 1⟩
def SAR.SEQ_HI_CH3 (k : Nat) : Fld := ⟨SAR.SEQ_HI k, 24, 5⟩
def SAR.SEQ_HI_EN3 (k : Nat) : Fld := ⟨SAR.SEQ_HI k, 31, 1⟩
def SAR.SEQ_CTL : Nat := SAR.page + 0x064
def SAR.SEQ_CTL_START : Fld := ⟨SAR.SEQ_CTL, 0, 4⟩
def SAR.STAT : Nat := SAR.page + 0x068
def SAR.STAT_WAITING : Fld := ⟨SAR.STAT, 0, 4⟩
def SAR.STAT_RUNNING : Fld := ⟨SAR.STAT, 4, 4⟩
def SAR.STAT_DONE : Fld := ⟨SAR.STAT, 8, 4⟩
def SAR.STAT_OVR : Fld := ⟨SAR.STAT, 16, 1⟩
def SAR.STAT_START_LOST : Fld := ⟨SAR.STAT, 24, 8⟩
def SAR.RESULT (k : Nat) : Nat := SAR.page + 0x080 + 0x4 * k
def SAR.RESULT_VALUE (k : Nat) : Fld := ⟨SAR.RESULT k, 0, 12⟩
def SAR.RESULT_NEW (k : Nat) : Fld := ⟨SAR.RESULT k, 15, 1⟩
def SAR.RESULT_ANGLE (k : Nat) : Fld := ⟨SAR.RESULT k, 16, 16⟩
/-- The register table of the SAR page (R543). -/
def SAR.table : List RegRow := [
  ⟨0x040, 0, 1, 0x7, 0, 0, 0, 0, 0, 0, [], [(0, 3, 0, 4)]⟩,
  ⟨0x044, 0x8, 4, 0x9F9F9F9F, 0, 0, 0, 0, 0, 0, [], []⟩,
  ⟨0x048, 0x8, 4, 0x9F9F9F9F, 0, 0, 0, 0, 0, 0, [], []⟩,
  ⟨0x064, 0, 1, 0, 0, 0xF, 0, 0, 0, 0, [], []⟩,
  ⟨0x068, 0, 1, 0, 0x10F00, 0, 0, 0, 0, 0xFF0000FF, [], []⟩,
  ⟨0x080, 0x4, 18, 0, 0, 0, 0, 0, 0, 0xFFFF8FFF, [], []⟩]

/-! ### OSPI page (R550) -/

/-- Offset of the OSPI page in the page window (R36). -/
def OSPI.page : Nat := 0xCC000
def OSPI.ev_CMD_DONE : Nat := 0
def OSPI.ev_PROG_DONE : Nat := 1
def OSPI.ev_ERR : Nat := 2
def OSPI.CFG : Nat := OSPI.page + 0x040
def OSPI.CFG_MODE : Fld := ⟨OSPI.CFG, 0, 2⟩
def OSPI.CFG_DQS_EN : Fld := ⟨OSPI.CFG, 2, 1⟩
def OSPI.CFG_DEV : Fld := ⟨OSPI.CFG, 3, 1⟩
def OSPI.CFG_DIV : Fld := ⟨OSPI.CFG, 4, 3⟩
def OSPI.CFG_SIZE : Fld := ⟨OSPI.CFG, 8, 5⟩
def OSPI.XIP_RD : Nat := OSPI.page + 0x044
def OSPI.XIP_RD_OPC : Fld := ⟨OSPI.XIP_RD, 0, 16⟩
def OSPI.XIP_RD_DUMMY : Fld := ⟨OSPI.XIP_RD, 16, 5⟩
def OSPI.XIP_RD_ADDR4 : Fld := ⟨OSPI.XIP_RD, 21, 1⟩
def OSPI.XIP_WR : Nat := OSPI.page + 0x048
def OSPI.XIP_WR_OPC : Fld := ⟨OSPI.XIP_WR, 0, 16⟩
def OSPI.XIP_WR_DUMMY : Fld := ⟨OSPI.XIP_WR, 16, 5⟩
def OSPI.XIP_WR_ADDR4 : Fld := ⟨OSPI.XIP_WR, 21, 1⟩
def OSPI.FLASH : Nat := OSPI.page + 0x04C
def OSPI.FLASH_WREN_OPC : Fld := ⟨OSPI.FLASH, 0, 8⟩
def OSPI.FLASH_SR_OPC : Fld := ⟨OSPI.FLASH, 8, 8⟩
def OSPI.FLASH_SR_MASK : Fld := ⟨OSPI.FLASH, 16, 8⟩
def OSPI.FLASH_ERASE_OPC : Fld := ⟨OSPI.FLASH, 24, 8⟩
def OSPI.PROG : Nat := OSPI.page + 0x050
def OSPI.PROG_PROG_TMO : Fld := ⟨OSPI.PROG, 0, 7⟩
def OSPI.PROG_ERASE : Fld := ⟨OSPI.PROG, 8, 5⟩
def OSPI.PROG_FLUSH : Fld := ⟨OSPI.PROG, 16, 1⟩
def OSPI.CMD : Nat := OSPI.page + 0x054
def OSPI.CMD_OPC : Fld := ⟨OSPI.CMD, 0, 16⟩
def OSPI.CMD_ADDR : Nat := OSPI.page + 0x058
def OSPI.CMD_CTL : Nat := OSPI.page + 0x05C
def OSPI.CMD_CTL_LEN : Fld := ⟨OSPI.CMD_CTL, 0, 9⟩
def OSPI.CMD_CTL_WRITE : Fld := ⟨OSPI.CMD_CTL, 9, 1⟩
def OSPI.CMD_CTL_ADDR_EN : Fld := ⟨OSPI.CMD_CTL, 10, 1⟩
def OSPI.CMD_CTL_ADDR4 : Fld := ⟨OSPI.CMD_CTL, 11, 1⟩
def OSPI.CMD_CTL_DUMMY : Fld := ⟨OSPI.CMD_CTL, 12, 5⟩
def OSPI.CMD_CTL_GO : Fld := ⟨OSPI.CMD_CTL, 31, 1⟩
def OSPI.STAT : Nat := OSPI.page + 0x060
def OSPI.STAT_BUSY : Fld := ⟨OSPI.STAT, 0, 1⟩
def OSPI.STAT_PROGRAMMING : Fld := ⟨OSPI.STAT, 1, 1⟩
def OSPI.STAT_PTMO : Fld := ⟨OSPI.STAT, 2, 1⟩
def OSPI.STAT_RANGE : Fld := ⟨OSPI.STAT, 3, 1⟩
def OSPI.CTL : Nat := OSPI.page + 0x064
def OSPI.CTL_RST : Fld := ⟨OSPI.CTL, 0, 1⟩
def OSPI.CMD_DATA (k : Nat) : Nat := OSPI.page + 0x100 + 0x4 * k
/-- The register table of the OSPI page (R550). -/
def OSPI.table : List RegRow := [
  ⟨0x040, 0, 1, 0x1F7F, 0, 0, 0, 0, 0, 0, [0x1830], [(8, 5, 20, 28)]⟩,
  ⟨0x044, 0, 1, 0x3FFFFF, 0, 0, 0, 0, 0, 0, [0x3], []⟩,
  ⟨0x048, 0, 1, 0x3FFFFF, 0, 0, 0, 0, 0, 0, [0x2], []⟩,
  ⟨0x04C, 0, 1, 0xFFFFFFFF, 0, 0, 0, 0, 0, 0, [0x20010506], []⟩,
  ⟨0x050, 0, 1, 0x1F7F, 0, 0x10000, 0, 0, 0, 0, [0xC0A], [(0, 7, 1, 100), (8, 5, 12, 18)]⟩,
  ⟨0x054, 0, 1, 0xFFFF, 0, 0, 0, 0, 0, 0, [], []⟩,
  ⟨0x058, 0, 1, 0xFFFFFFFF, 0, 0, 0, 0, 0, 0, [], []⟩,
  ⟨0x05C, 0, 1, 0x1FFFF, 0, 0x80000000, 0, 0, 0, 0, [], [(0, 9, 0, 256)]⟩,
  ⟨0x060, 0, 1, 0, 0xC, 0, 0, 0, 0, 0x3, [], []⟩,
  ⟨0x064, 0, 1, 0x1, 0, 0, 0, 0, 0, 0, [], []⟩,
  ⟨0x100, 0x4, 64, 0xFFFFFFFF, 0, 0, 0, 0, 0, 0, [], []⟩]

/-! ### ETH page (R484) -/

/-- Offset of the ETH page in the page window (R36). -/
def ETH.page : Nat := 0xCD000
def ETH.ev_LINK_CHG : Nat := 0
def ETH.ev_MDIO_DONE : Nat := 1
def ETH.ev_RX_ERR : Nat := 2
def ETH.CFG : Nat := ETH.page + 0x040
def ETH.CFG_REFCLK_OUT : Fld := ⟨ETH.CFG, 0, 1⟩
def ETH.CFG_POLL_EN : Fld := ⟨ETH.CFG, 1, 1⟩
def ETH.CFG_PHY_ADDR : Fld := ⟨ETH.CFG, 8, 5⟩
def ETH.MAC_LO : Nat := ETH.page + 0x044
def ETH.MAC_HI : Nat := ETH.page + 0x048
def ETH.MAC_HI_MAC : Fld := ⟨ETH.MAC_HI, 0, 16⟩
def ETH.MDIO_CTL : Nat := ETH.page + 0x04C
def ETH.MDIO_CTL_PHY : Fld := ⟨ETH.MDIO_CTL, 0, 5⟩
def ETH.MDIO_CTL_REG : Fld := ⟨ETH.MDIO_CTL, 5, 5⟩
def ETH.MDIO_CTL_READ : Fld := ⟨ETH.MDIO_CTL, 10, 1⟩
def ETH.MDIO_CTL_BUSY : Fld := ⟨ETH.MDIO_CTL, 30, 1⟩
def ETH.MDIO_CTL_GO : Fld := ⟨ETH.MDIO_CTL, 31, 1⟩
def ETH.MDIO_DATA : Nat := ETH.page + 0x050
def ETH.MDIO_DATA_DATA : Fld := ⟨ETH.MDIO_DATA, 0, 16⟩
def ETH.STAT : Nat := ETH.page + 0x054
def ETH.STAT_LINK : Fld := ⟨ETH.STAT, 0, 1⟩
def ETH.STAT_REFCLK_OK : Fld := ⟨ETH.STAT, 1, 1⟩
def ETH.CNT_RX : Nat := ETH.page + 0x058
def ETH.CNT_TX : Nat := ETH.page + 0x05C
def ETH.CNT_ERR : Nat := ETH.page + 0x060
def ETH.CNT_ERR_RX_CRC : Fld := ⟨ETH.CNT_ERR, 0, 16⟩
def ETH.CNT_ERR_RX_DROP : Fld := ⟨ETH.CNT_ERR, 16, 16⟩
/-- The register table of the ETH page (R484). -/
def ETH.table : List RegRow := [
  ⟨0x040, 0, 1, 0x1F03, 0, 0, 0, 0, 0, 0, [0x2], []⟩,
  ⟨0x044, 0, 1, 0, 0, 0, 0, 0, 0, 0xFFFFFFFF, [], []⟩,
  ⟨0x048, 0, 1, 0, 0, 0, 0, 0, 0, 0xFFFF, [], []⟩,
  ⟨0x04C, 0, 1, 0x7FF, 0, 0x80000000, 0, 0, 0, 0x40000000, [], []⟩,
  ⟨0x050, 0, 1, 0xFFFF, 0, 0, 0, 0, 0, 0, [], []⟩,
  ⟨0x054, 0, 1, 0, 0, 0, 0, 0, 0, 0x3, [], []⟩,
  ⟨0x058, 0, 1, 0, 0, 0, 0, 0, 0, 0xFFFFFFFF, [], []⟩,
  ⟨0x05C, 0, 1, 0, 0, 0, 0, 0, 0, 0xFFFFFFFF, [], []⟩,
  ⟨0x060, 0, 1, 0, 0, 0, 0, 0, 0, 0xFFFFFFFF, [], []⟩]

end Sys2Proof.Machine
end

