-- ==== Sys2Proof/Machine/Pages.lean ====
section
/-!
DEFINITION. The page map (R36): which pages there are, where they lie, their block type and version (R37 and each
chapter's BLKID), their owner and EN after reset, and the register table of each.
-/
namespace Sys2Proof.Machine

/-- A register page (R36). -/
inductive PageId where
  | SYS
  | CLK
  | PWR
  | TSEN
  | RTC
  | TMP
  | CAR
  | TST
  | DMA
  | UPD
  | HIF
  | MPL
  | MET (n : Fin 5)
  | WAV
  | BAY (n : Fin 4)
  | PLC (n : Fin 4)
  | T1S (n : Fin 4)
  | CTC (n : Fin 4)
  | RCD (n : Fin 4)
  | IMD (n : Fin 4)
  | EXI
  | SAF
  | SAFL
  | LGL
  | LED
  | TTB
  | PPY
  | LPR
  | VLT
  | NFR
  | WTG
  | EPD
  | EPDR
  | LSW
  | YLR
  | YL (n : Fin 3)
  | PAIR
  | CAN (n : Fin 4)
  | UART (n : Fin 4)
  | I2C (n : Fin 2)
  | GPIO
  | SAR
  | OSPI
  | ETH
deriving DecidableEq, Repr

/-- Offset of the page in the window at 0x4000_0000 (R36). -/
def PageId.base : PageId → Nat
  | .SYS => SYS.page
  | .CLK => CLK.page
  | .PWR => PWR.page
  | .TSEN => TSEN.page
  | .RTC => RTC.page
  | .TMP => TMP.page
  | .CAR => CAR.page
  | .TST => TST.page
  | .DMA => DMA.page
  | .UPD => UPD.page
  | .HIF => HIF.page
  | .MPL => MPL.page
  | .MET n => MET.page n
  | .WAV => WAV.page
  | .BAY n => BAY.page n
  | .PLC n => PLC.page n
  | .T1S n => T1S.page n
  | .CTC n => CTC.page n
  | .RCD n => RCD.page n
  | .IMD n => IMD.page n
  | .EXI => EXI.page
  | .SAF => SAF.page
  | .SAFL => SAFL.page
  | .LGL => LGL.page
  | .LED => LED.page
  | .TTB => TTB.page
  | .PPY => PPY.page
  | .LPR => LPR.page
  | .VLT => VLT.page
  | .NFR => NFR.page
  | .WTG => WTG.page
  | .EPD => EPD.page
  | .EPDR => EPDR.page
  | .LSW => LSW.page
  | .YLR => YLR.page
  | .YL n => YL.page n
  | .PAIR => PAIR.page
  | .CAN n => CAN.page n
  | .UART n => UART.page n
  | .I2C n => I2C.page n
  | .GPIO => GPIO.page
  | .SAR => SAR.page
  | .OSPI => OSPI.page
  | .ETH => ETH.page

/-- Block type (R36). -/
def PageId.type : PageId → Nat
  | .SYS => 0x0001
  | .CLK => 0x0002
  | .PWR => 0x0003
  | .TSEN => 0x0004
  | .RTC => 0x0005
  | .TMP => 0x0006
  | .CAR => 0x0010
  | .TST => 0x0007
  | .DMA => 0x0008
  | .UPD => 0x0009
  | .HIF => 0x000A
  | .MPL => 0x0020
  | .MET _ => 0x0021
  | .WAV => 0x0022
  | .BAY _ => 0x0030
  | .PLC _ => 0x0031
  | .T1S _ => 0x0032
  | .CTC _ => 0x0033
  | .RCD _ => 0x0034
  | .IMD _ => 0x0035
  | .EXI => 0x0036
  | .SAF => 0x0040
  | .SAFL => 0x0041
  | .LGL => 0x0050
  | .LED => 0x0051
  | .TTB => 0x0052
  | .PPY => 0x0053
  | .LPR => 0x0054
  | .VLT => 0x0060
  | .NFR => 0x0070
  | .WTG => 0x0071
  | .EPD => 0x0080
  | .EPDR => 0x0081
  | .LSW => 0x0090
  | .YLR => 0x00A0
  | .YL _ => 0x00A1
  | .PAIR => 0x00A2
  | .CAN _ => 0x00B0
  | .UART _ => 0x00B1
  | .I2C _ => 0x00B2
  | .GPIO => 0x00B3
  | .SAR => 0x00B4
  | .OSPI => 0x00C5
  | .ETH => 0x00C6

/-- Page version, BLKID[7:0], from each chapter. -/
def PageId.ver : PageId → Nat
  | .SYS => 1
  | .CLK => 1
  | .PWR => 1
  | .TSEN => 1
  | .RTC => 1
  | .TMP => 1
  | .CAR => 2
  | .TST => 1
  | .DMA => 1
  | .UPD => 1
  | .HIF => 1
  | .MPL => 1
  | .MET _ => 1
  | .WAV => 1
  | .BAY _ => 3
  | .PLC _ => 1
  | .T1S _ => 1
  | .CTC _ => 1
  | .RCD _ => 1
  | .IMD _ => 1
  | .EXI => 1
  | .SAF => 1
  | .SAFL => 1
  | .LGL => 1
  | .LED => 1
  | .TTB => 1
  | .PPY => 1
  | .LPR => 1
  | .VLT => 1
  | .NFR => 1
  | .WTG => 1
  | .EPD => 1
  | .EPDR => 1
  | .LSW => 1
  | .YLR => 1
  | .YL _ => 1
  | .PAIR => 1
  | .CAN _ => 1
  | .UART _ => 1
  | .I2C _ => 1
  | .GPIO => 1
  | .SAR => 1
  | .OSPI => 1
  | .ETH => 1

/-- Instance, BLKID[15:8] (R37). -/
def PageId.inst : PageId → Nat
  | .SYS => 0
  | .CLK => 0
  | .PWR => 0
  | .TSEN => 0
  | .RTC => 0
  | .TMP => 0
  | .CAR => 0
  | .TST => 0
  | .DMA => 0
  | .UPD => 0
  | .HIF => 0
  | .MPL => 0
  | .MET n => n.val
  | .WAV => 0
  | .BAY n => n.val
  | .PLC n => n.val
  | .T1S n => n.val
  | .CTC n => n.val
  | .RCD n => n.val
  | .IMD n => n.val
  | .EXI => 0
  | .SAF => 0
  | .SAFL => 0
  | .LGL => 0
  | .LED => 0
  | .TTB => 0
  | .PPY => 0
  | .LPR => 0
  | .VLT => 0
  | .NFR => 0
  | .WTG => 0
  | .EPD => 0
  | .EPDR => 0
  | .LSW => 0
  | .YLR => 0
  | .YL n => n.val
  | .PAIR => 0
  | .CAN n => n.val
  | .UART n => n.val
  | .I2C n => n.val
  | .GPIO => 0
  | .SAR => 0
  | .OSPI => 0
  | .ETH => 0

/-- Pages whose EN always reads 1 (R36, 'Fixed'). -/
def PageId.fixed : PageId → Bool
  | .SYS => true
  | .CLK => true
  | .PWR => true
  | .TSEN => true
  | .RTC => true
  | .TMP => true
  | .CAR => false
  | .TST => true
  | .DMA => false
  | .UPD => false
  | .HIF => true
  | .MPL => false
  | .MET _ => false
  | .WAV => false
  | .BAY _ => false
  | .PLC _ => false
  | .T1S _ => false
  | .CTC _ => false
  | .RCD _ => false
  | .IMD _ => false
  | .EXI => false
  | .SAF => true
  | .SAFL => true
  | .LGL => true
  | .LED => true
  | .TTB => true
  | .PPY => true
  | .LPR => true
  | .VLT => true
  | .NFR => false
  | .WTG => true
  | .EPD => false
  | .EPDR => true
  | .LSW => false
  | .YLR => false
  | .YL _ => false
  | .PAIR => false
  | .CAN _ => false
  | .UART _ => false
  | .I2C _ => false
  | .GPIO => false
  | .SAR => false
  | .OSPI => false
  | .ETH => false

/-- BLKCTL.EN after chip reset (R36). -/
def PageId.enReset : PageId → Bool
  | .SYS => true
  | .CLK => true
  | .PWR => true
  | .TSEN => true
  | .RTC => true
  | .TMP => true
  | .CAR => true
  | .TST => true
  | .DMA => false
  | .UPD => false
  | .HIF => true
  | .MPL => true
  | .MET _ => true
  | .WAV => false
  | .BAY _ => false
  | .PLC _ => false
  | .T1S _ => false
  | .CTC _ => false
  | .RCD _ => false
  | .IMD _ => false
  | .EXI => false
  | .SAF => true
  | .SAFL => true
  | .LGL => true
  | .LED => true
  | .TTB => true
  | .PPY => true
  | .LPR => true
  | .VLT => true
  | .NFR => false
  | .WTG => true
  | .EPD => false
  | .EPDR => true
  | .LSW => true
  | .YLR => false
  | .YL _ => false
  | .PAIR => false
  | .CAN _ => false
  | .UART _ => false
  | .I2C _ => false
  | .GPIO => true
  | .SAR => false
  | .OSPI => false
  | .ETH => false

/-- BLKCTL.OWNER after chip reset: 0 APP, 2 SAF, 3 LGL (R36). -/
def PageId.ownerReset : PageId → Nat
  | .SYS => 0
  | .CLK => 0
  | .PWR => 0
  | .TSEN => 0
  | .RTC => 0
  | .TMP => 0
  | .CAR => 0
  | .TST => 0
  | .DMA => 0
  | .UPD => 0
  | .HIF => 0
  | .MPL => 0
  | .MET _ => 0
  | .WAV => 0
  | .BAY _ => 0
  | .PLC _ => 0
  | .T1S _ => 0
  | .CTC _ => 0
  | .RCD _ => 0
  | .IMD _ => 0
  | .EXI => 0
  | .SAF => 2
  | .SAFL => 2
  | .LGL => 3
  | .LED => 3
  | .TTB => 3
  | .PPY => 3
  | .LPR => 3
  | .VLT => 0
  | .NFR => 0
  | .WTG => 0
  | .EPD => 0
  | .EPDR => 3
  | .LSW => 0
  | .YLR => 0
  | .YL _ => 0
  | .PAIR => 0
  | .CAN _ => 0
  | .UART _ => 0
  | .I2C _ => 0
  | .GPIO => 0
  | .SAR => 0
  | .OSPI => 0
  | .ETH => 0

/-- The register table of a page. -/
def PageId.table : PageId → List RegRow
  | .SYS => SYS.table
  | .CLK => CLK.table
  | .PWR => PWR.table
  | .TSEN => TSEN.table
  | .RTC => RTC.table
  | .TMP => TMP.table
  | .CAR => CAR.table
  | .TST => TST.table
  | .DMA => DMA.table
  | .UPD => UPD.table
  | .HIF => HIF.table
  | .MPL => MPL.table
  | .MET _ => MET.table
  | .WAV => WAV.table
  | .BAY _ => BAY.table
  | .PLC _ => PLC.table
  | .T1S _ => T1S.table
  | .CTC _ => CTC.table
  | .RCD _ => RCD.table
  | .IMD _ => IMD.table
  | .EXI => EXI.table
  | .SAF => SAF.table
  | .SAFL => SAFL.table
  | .LGL => LGL.table
  | .LED => LED.table
  | .TTB => TTB.table
  | .PPY => PPY.table
  | .LPR => LPR.table
  | .VLT => VLT.table
  | .NFR => NFR.table
  | .WTG => WTG.table
  | .EPD => EPD.table
  | .EPDR => EPDR.table
  | .LSW => LSW.table
  | .YLR => YLR.table
  | .YL _ => YL.table
  | .PAIR => PAIR.table
  | .CAN _ => CAN.table
  | .UART _ => UART.table
  | .I2C _ => I2C.table
  | .GPIO => GPIO.table
  | .SAR => SAR.table
  | .OSPI => OSPI.table
  | .ETH => ETH.table

/-- Every page of the window, in the order of R36. -/
def allPages : List PageId :=
  [.SYS, .CLK, .PWR, .TSEN, .RTC, .TMP, .CAR, .TST,
   .DMA, .UPD, .HIF, .MPL, .MET 0, .MET 1, .MET 2, .MET 3,
   .MET 4, .WAV, .BAY 0, .BAY 1, .BAY 2, .BAY 3, .PLC 0, .PLC 1,
   .PLC 2, .PLC 3, .T1S 0, .T1S 1, .T1S 2, .T1S 3, .CTC 0, .CTC 1,
   .CTC 2, .CTC 3, .RCD 0, .RCD 1, .RCD 2, .RCD 3, .IMD 0, .IMD 1,
   .IMD 2, .IMD 3, .EXI, .SAF, .SAFL, .LGL, .LED, .TTB,
   .PPY, .LPR, .VLT, .NFR, .WTG, .EPD, .EPDR, .LSW,
   .YLR, .YL 0, .YL 1, .YL 2, .PAIR, .CAN 0, .CAN 1, .CAN 2,
   .CAN 3, .UART 0, .UART 1, .UART 2, .UART 3, .I2C 0, .I2C 1, .GPIO,
   .SAR, .OSPI, .ETH]

/-- The page at an offset of the window; offsets outside the table of R36 hold none. -/
def pageAt (off : Nat) : Option PageId :=
  match off / 0x1000 with
  | 0x00 => some (.SYS)
  | 0x01 => some (.CLK)
  | 0x02 => some (.PWR)
  | 0x03 => some (.TSEN)
  | 0x04 => some (.RTC)
  | 0x05 => some (.TMP)
  | 0x06 => some (.CAR)
  | 0x07 => some (.TST)
  | 0x08 => some (.DMA)
  | 0x0A => some (.UPD)
  | 0x0B => some (.HIF)
  | 0x10 => some (.MPL)
  | 0x11 => some (.MET 0)
  | 0x12 => some (.MET 1)
  | 0x13 => some (.MET 2)
  | 0x14 => some (.MET 3)
  | 0x15 => some (.MET 4)
  | 0x16 => some (.WAV)
  | 0x20 => some (.BAY 0)
  | 0x21 => some (.PLC 0)
  | 0x22 => some (.T1S 0)
  | 0x23 => some (.CTC 0)
  | 0x24 => some (.RCD 0)
  | 0x25 => some (.IMD 0)
  | 0x28 => some (.BAY 1)
  | 0x29 => some (.PLC 1)
  | 0x2A => some (.T1S 1)
  | 0x2B => some (.CTC 1)
  | 0x2C => some (.RCD 1)
  | 0x2D => some (.IMD 1)
  | 0x30 => some (.BAY 2)
  | 0x31 => some (.PLC 2)
  | 0x32 => some (.T1S 2)
  | 0x33 => some (.CTC 2)
  | 0x34 => some (.RCD 2)
  | 0x35 => some (.IMD 2)
  | 0x38 => some (.BAY 3)
  | 0x39 => some (.PLC 3)
  | 0x3A => some (.T1S 3)
  | 0x3B => some (.CTC 3)
  | 0x3C => some (.RCD 3)
  | 0x3D => some (.IMD 3)
  | 0x40 => some (.EXI)
  | 0x50 => some (.SAF)
  | 0x51 => some (.SAFL)
  | 0x60 => some (.LGL)
  | 0x61 => some (.LED)
  | 0x62 => some (.TTB)
  | 0x63 => some (.PPY)
  | 0x64 => some (.LPR)
  | 0x70 => some (.VLT)
  | 0x80 => some (.NFR)
  | 0x81 => some (.WTG)
  | 0x90 => some (.EPD)
  | 0x91 => some (.EPDR)
  | 0xA0 => some (.LSW)
  | 0xB0 => some (.YLR)
  | 0xB1 => some (.YL 0)
  | 0xB2 => some (.YL 1)
  | 0xB3 => some (.YL 2)
  | 0xB4 => some (.PAIR)
  | 0xC0 => some (.CAN 0)
  | 0xC1 => some (.CAN 1)
  | 0xC2 => some (.CAN 2)
  | 0xC3 => some (.CAN 3)
  | 0xC4 => some (.UART 0)
  | 0xC5 => some (.UART 1)
  | 0xC6 => some (.UART 2)
  | 0xC7 => some (.UART 3)
  | 0xC8 => some (.I2C 0)
  | 0xC9 => some (.I2C 1)
  | 0xCA => some (.GPIO)
  | 0xCB => some (.SAR)
  | 0xCC => some (.OSPI)
  | 0xCD => some (.ETH)
  | _ => none

/-- The row of a table that holds the register at a page offset, with the register's index in its array. -/
def findRow : List RegRow → Nat → Option (RegRow × Nat)
  | [], _ => none
  | r :: rs, o =>
    if r.off ≤ o ∧ (if r.stride = 0 then o = r.off else (o - r.off) % r.stride = 0 ∧ (o - r.off) / r.stride < r.count) then
      some (r, if r.stride = 0 then 0 else (o - r.off) / r.stride)
    else findRow rs o

/-- The reset word of a register in its row. -/
def RegRow.resetAt (r : RegRow) (k : Nat) : Nat :=
  match r.reset with
  | [] => 0
  | [v] => v
  | vs => vs.getD k 0

/-- The word a register holds after chip reset (R37 for the header, the register tables for the rest). -/
def resetWord (off : Nat) : Word :=
  match pageAt off with
  | none => 0
  | some p =>
    let o := off % 0x1000
    if o = 0x008 then BitVec.ofNat 32 ((if p.enReset then 1 else 0) + p.ownerReset * 16)
    else if o = 0x00C then (if p.enReset then 1 else 0)
    else if o < 0x040 then 0
    else match findRow p.table o with
      | none => 0
      | some (r, k) => BitVec.ofNat 32 (r.resetAt k)

end Sys2Proof.Machine
end

