-- ==== Sys2Proof/Machine/Sparse.lean ====
section
/-!
DEFINITION. Sparse tables: a list of (key, value) pairs, keys strictly rising, no entry equal to what an unlisted key
reads as. Registers and byte memories are held so; equal tables are equal lists.
-/
namespace Sys2Proof.Machine

variable {α : Type}

/-- What the table holds at a key: the listed value, or the default of that key. -/
def Sparse.get (d : Nat → α) : List (Nat × α) → Nat → α
  | [], a => d a
  | (k, v) :: m, a => if k = a then v else Sparse.get d m a

/-- Remove a key. -/
def Sparse.del (m : List (Nat × α)) (a : Nat) : List (Nat × α) := m.filter (fun e => decide (e.1 ≠ a))

/-- Insert or replace a key, keeping the keys rising. -/
def Sparse.ins : List (Nat × α) → Nat → α → List (Nat × α)
  | [], a, x => [(a, x)]
  | (k, v) :: m, a, x =>
    if k = a then (a, x) :: m else if a < k then (a, x) :: (k, v) :: m else (k, v) :: Sparse.ins m a x

/-- Write a key: writing what an unlisted key reads as removes the entry. -/
def Sparse.set [DecidableEq α] (d : Nat → α) (m : List (Nat × α)) (a : Nat) (x : α) : List (Nat × α) :=
  if x = d a then Sparse.del m a else Sparse.ins m a x

/-- Keys strictly above a bound, rising. -/
def Sparse.sortedAbove : Option Nat → List (Nat × α) → Bool
  | _, [] => true
  | none, (k, _) :: m => Sparse.sortedAbove (some k) m
  | some b, (k, _) :: m => decide (b < k) && Sparse.sortedAbove (some k) m

/-- The canonical form: keys rising, no entry equal to its default. -/
def Sparse.wf [DecidableEq α] (d : Nat → α) (m : List (Nat × α)) : Bool :=
  Sparse.sortedAbove none m && m.all (fun e => decide (e.2 ≠ d e.1))

end Sys2Proof.Machine
end

