-- ==== Sys2Proof/Machine/State.lean ====
section
/-!
DEFINITION. The state of the block: every register, memory, queue, counter, mode and pin the spec gives it, as plain
data. Software-visible registers live in one sparse table (`Dev.regs`, keyed by the offset in the page window); the
state behind them that the spec names, and that no register shows, is held in one structure per block. The queue of
waiting commands stands beside the device (`State.pending`).
-/
namespace Sys2Proof.Machine

/-- Why the machine stops with a fault. No command of this model raises one: an access the spec forbids is answered
with a bus error (R20), which is an effect. Safe. -/
inductive Fault where
  /-- Raised by no command; kept so that the type has a value. Safe. -/
  | stopped
deriving DecidableEq, Repr

/-- Why a command has no meaning. -/
inductive Refusal where
  /-- Raised by an arm of `exec` whose command has no meaning yet. Safe. -/
  | notModelled (mnemonic : String)
deriving DecidableEq, Repr

/-- The twelve variants (R2). -/
inductive Variant where
  | D4LR | D4L | D4N | A4L | A4N | D2LR | D2L | A2L | A2N | D1L | A1L | A1N
deriving DecidableEq, Repr

/-- The lifecycle (R13). -/
inductive Lifecycle where
  | manufacture | provisioned | field | returned | dead
deriving DecidableEq, Repr

/-- Fuses and identity (R2, R5, R13, R329). -/
structure Chip where
  variant : Variant := .D4LR
  uid : BitVec 64 := 0
  lifecycle : Lifecycle := .field
  /-- The DEAD fuse (R329). -/
  deadFuse : Bool := false
  /-- PAIR_ROLE and TEST_MODE as latched when chip reset ended (R537). -/
  pairRole : Bool := false
  testMode : Bool := false
deriving DecidableEq, Repr

/-- A message the GX4 sends to the host (R472): link, type, tag, status byte, notice or response, and the body as the
values the message's table lists, in its order. -/
structure HostMsg where
  link : Link
  typ : Nat
  tag : Nat := 0
  status : Nat := 0
  notify : Bool := false
  role : Nat := 0
  seq : Nat := 0
  body : List Nat := []
  /-- Source of the request that an answer on the RMII link goes back to (R471). -/
  peer : Option EthPeer := none
deriving DecidableEq, Repr

/-- A mailbox message of one domain's firmware to another (R28): sender, receiver, type and payload values. -/
structure MboxMsg where
  src : Domain
  dst : Domain
  typ : Nat
  body : List Nat := []
deriving DecidableEq, Repr

/-! ### Bay engine (ch. 6) -/

/-- A session table in the bay's private table RAM (R137–R140): header fields, cells (index s × N_EVENTS + e, word; the
cells not listed are 0) and action lists (opcode, argument). -/
structure BayTable where
  nStates : Nat := 0
  nEvents : Nat := 0
  initState : Nat := 0
  failState : Nat := 0
  idleMask : Nat := 0
  timerDef : List Nat := []
  tableId : Nat := 0
  crc : Word := 0
  cells : List (Nat × Nat) := []
  lists : List (List (Nat × Nat)) := []
deriving DecidableEq, Repr

/-- The bay engine behind BAYn's registers. -/
structure BayInt where
  /-- Duty in 0.1 % and mode to take effect at the next PWM period (R128). -/
  pendDuty : Option Nat := none
  pendMode : Option Nat := none
  /-- Current classification of the plateau and how many periods it has held (R131). -/
  cls : Nat := 6
  clsCnt : Nat := 0
  /-- Consecutive periods with the negative plateau above, and at or below, −10.5 V in X2 (R133). -/
  dioBad : Nat := 0
  dioGood : Nat := 0
  /-- A control-pilot fault from DIODE_FAIL lasts (R133). -/
  dioFault : Bool := false
  /-- PP code candidate and how many samples it has held (R134, three-sample debounce). -/
  ppCand : Nat := 0
  ppCnt : Nat := 0
  /-- A LIMIT_LOW was posted and no LIMIT_OK since (R136). -/
  limitLow : Bool := false
  /-- A TBL_SEL.LOAD is being validated (R137). -/
  loading : Bool := false
  table : BayTable := {}
  /-- Event queue, oldest first, at most 16, and the pending map as rising event numbers (R143). -/
  queue : List Nat := []
  pendMap : List Nat := []
  /-- Entries at the end of the queue that came in the carousel tick named first (R143), and the stop posted in one (R146). -/
  tail : Nat × Nat := (0, 0)
  stopTick : Option (Nat × Nat) := none
  /-- Events of POST_EVENT, handled after the current one (R140 0x14). -/
  postQ : List Nat := []
  /-- The list being run: state to enter and the primitives left (blocked while the request queue is full). -/
  running : Option (Nat × List (Nat × Nat)) := none
  /-- Duration in ms last given to each timer (R144). -/
  tmrMs : List Nat := [0, 0, 0, 0, 0, 0, 0, 0]
  /-- Request queue, oldest first, at most 16 (code, argument). -/
  reqs : List (Nat × Nat) := []
  /-- Precedence of the stop being handled (R146): index of its STOPSRC bit. -/
  stopHeld : Option Nat := none
  /-- START_METERING has run in this session. -/
  metered : Bool := false
  /-- END_SESSION waits for OPEN or WELD (R147). -/
  endWait : Bool := false
  /-- Boundary at which METERING cleared (R106, R309 T_END). -/
  endWt : Nat := 0
  /-- The bay engine stops the session itself and enters INIT_STATE once CP reads A (R148). -/
  selfStop : Bool := false
  /-- A session table runs: EN has been written 1 and a table is entered (R137, R151). -/
  live : Bool := false
deriving DecidableEq, Repr

/-! ### Power path (ch. 8) -/

/-- What the power path does at the next carousel tick. -/
inductive TickAct where
  | none | closeMain (timed : Bool) | release (timed : Bool)
deriving DecidableEq, Repr

/-- The power path behind CTCn's registers. -/
structure CtcInt where
  /-- Requests collected over the tick (R185), oldest first: the arguments of the CLOSEs and of the OPENs. -/
  reqClose : List Nat := []
  reqOpen : List Nat := []
  /-- CT_DRV of each pole high (bit 0 A; ganged and DC drive bit 0) (R181). -/
  drv : Nat := 0
  /-- The coil command of the current operation has fired. -/
  fired : Bool := false
  /-- Its operation was timed in LOCKED (R191). -/
  timed : Bool := false
  /-- An OPEN arrived after the close seat had fired and waits for the make (R187). -/
  openPend : Bool := false
  /-- Poles broken in the current opening. -/
  broke : Nat := 0
  /-- Resolved observations of the current operation in µs, per pole. -/
  obs : List (Option Nat) := [none, none, none]
  /-- Outlier runs of MAKE_A–C and BREAK_A–C (R191). -/
  outRun : List Int := [0, 0, 0, 0, 0, 0]
  /-- A CLOSE waits for LOCKED (R195). -/
  fwWait : Bool := false
  /-- The running opening is the prepayment fallback's (R197, R292). -/
  fallback : Bool := false
  /-- Precharge: PRE_DV reached; a main CLOSE was requested (R194). -/
  dvOk : Bool := false
  mainReq : Bool := false
  /-- The check of R199 that falls due at chip reset has not passed yet. -/
  resetCheck : Bool := true
  /-- The voltage part of that check has not run yet. -/
  resetVolt : Bool := true
  /-- CT_FB is high (R184). -/
  fbHigh : Bool := false
  /-- The opening follows a command: CT_OPENED is posted on entry into OPEN (R200). -/
  cmd : Bool := false
  atTick : TickAct := .none
  /-- Advance of the current close in AU, per pole (R188). -/
  adv : List Nat := [0, 0, 0]
  /-- Zero crossings of the across-contact voltage and of the pole currents in the last complete cycle: (pole, angle)
  (R189, R192). -/
  vxZero : List (Nat × Nat) := []
  izZero : List (Nat × Nat) := []
deriving DecidableEq, Repr

/-! ### Earth fault (ch. 9) -/

/-- Who waits for an RCD self-test (R211). -/
structure RcdReq where
  bay : Bool := false
  clr : Bool := false
  periodic : Bool := false
  ctl : Bool := false
deriving DecidableEq, Repr

/-- RCDn behind its registers. -/
structure RcdInt where
  /-- The adopted trip curve and T_CT (R208). -/
  curve : List Nat := [0x2710403C, 0x012C4258, 0x006447D0, 0x012C812C, 0x00968258, 0, 0, 0]
  tct : Nat := 40
  /-- Requesters whose test waits for CTCn to be OPEN, and those the running test answers. -/
  want : RcdReq := {}
  running : RcdReq := {}
  /-- A latched SF2 fault of a failed self-test (R212). -/
  testFault : Bool := false
  /-- The last self-test passed (R218); none has run since chip reset. -/
  lastPass : Bool := false
  /-- The channels have agreed for 1 s and a self-test has still to pass (R210). -/
  agreed : Bool := false
  /-- Channel B's I_AC in µA (R205), which no register shows. -/
  bAc : Nat := 0
  /-- A drain waits for the measurement to complete (R47). -/
  finish : Bool := false
deriving DecidableEq, Repr

/-- IMDn behind its registers. -/
structure ImdInt where
  /-- The first full period after a start has been discarded (R215). -/
  primed : Bool := false
  /-- Conductances (1/kΩ) of the last results, newest first (R215 AVG). -/
  hist : List Rat := []
  /-- Results at or above 125 % of the warning threshold in a row (R217). -/
  warnOk : Nat := 0
  /-- IMD_OK has been posted in this run. -/
  okPosted : Bool := false
  /-- IMD_INJ level applied (R213). -/
  level : Nat := 0
  /-- A drain waits for the period to complete (R47, R219). -/
  finish : Bool := false
deriving DecidableEq, Repr

/-! ### Safety island (ch. 10) -/

/-- Contact pair of an SI input as the island last sampled it: closed or not (R233). -/
structure SiInput where
  a : Bool := false
  b : Bool := false
  /-- One contact has changed and the other has not followed yet (R234). -/
  half : Bool := false
  /-- Consecutive pulses that broke the rule of R235. -/
  breaches : Nat := 0
deriving DecidableEq, Repr

/-- The island's per-bay state that no register shows. -/
structure SafBay where
  /-- ms left of the safety-net timer (R238). -/
  netMs : Nat := 0
  /-- The over-current guard has tripped in this session (R232). -/
  ocg : Bool := false
  /-- The hard logic's fixed ceiling has tripped in this session (R232). -/
  hlOcg : Bool := false
  /-- Non-resumable causes outside a session, as CAUSE bits 0–6 (R240): a latched fault of DENY 5. -/
  lfault : Nat := 0
  /-- The hard logic sees its own SF4 condition (R230). -/
  hlWeld : Bool := false
  /-- A cause of the channel's own input path withholds its permit: processor, hard logic (R224). -/
  ownProc : Bool := false
  ownHl : Bool := false
  /-- The session opened under SINGLE_START with LIM_SAFETY at the net limit (R226). -/
  single : Bool := false
  /-- A duplicated feed path has been lost: cause [21] lasts until chip reset (R240). -/
  feedLost : Bool := false
  /-- ms since LIM_EFF fell last (R232). -/
  sinceFall : Nat := 0xFFFFFFFF
deriving DecidableEq, Repr

/-- The safety island behind SAF and SAFL. -/
structure SafInt where
  si : Vector SiInput 8 := Vector.replicate 8 {}
  bay : Vector SafBay 4 := Vector.replicate 4 {}
  /-- Inputs whose last continuous-shadow visit found a mismatch (R226, R240). -/
  shadowBad : Nat := 0
  /-- Staged configuration writes (page offset, value) (R243). -/
  staged : List (Nat × Nat) := []
  /-- A SAIN reading lies beyond TRIP or outside the sensor range (R236), per input; for how many half ms it has, and for how many it
  has lain below TRIP - HYST (R230). -/
  hot : Nat := 0
  hotFor : Vector Nat 16 := Vector.replicate 16 0
  coolFor : Vector Nat 16 := Vector.replicate 16 0
  /-- ms since the processor channel came into service (R232), and since the hard-logic channel was lost or last tried (R228). -/
  procMs : Nat := 0
  retryMs : Nat := 0
  /-- The CRC of the hard logic's copy where a fault has changed it (R223). -/
  hlCrc : Option Word := none
  /-- Trip pulses running: SAFE_TRIP_L, SAFE_TRIP_P (R241). -/
  pulseL : Bool := false
  pulseP : Bool := false
  /-- A trip output stays asserted until TRIP_CLR (R241 LATCH). -/
  heldL : Bool := false
  heldP : Bool := false
  /-- Load-switch channels the island cuts (R249 LSW_GATE). -/
  gateMask : Nat := 0
  /-- Heartbeats missed in a row, from the hard logic and from the processor (R223). -/
  missHl : Nat := 0
  missProc : Nat := 0
  /-- Proof-test attempts since the hard-logic channel was lost (R228). -/
  attempts : Nat := 0
  /-- A periodic proof test is due, and is 24 h overdue (R244). -/
  proofDue : Bool := true
  overdue : Bool := false
  /-- Seconds since the last passing proof test. -/
  proofSec : Nat := 0
deriving DecidableEq, Repr


/-! ### Clock and logs (ch. 11, 13) -/

/-- The VBAT-domain clock (R305, R307, R324). -/
structure RtcInt where
  sec : Nat := 0
  ms : Nat := 0
  /-- Clock invalid (R307). -/
  ci : Bool := true
  xt32 : Bool := true
  vbatRun : Bool := false
  /-- ms still to work off (R305). -/
  slewRem : Int := 0
  /-- Steps of OPERATOR slews in the trailing 24 h: (second, ms) (R305). -/
  slewUsed : List (Nat × Nat) := []
  /-- A step waits for the next second tick: target UTC in ms and the role that asked for it (R306, R270). -/
  stepTo : Option (Nat × Nat) := none
deriving DecidableEq, Repr

/-- Sequence counters of the event logs and the session number last given out (R272, R273), kept in the ledger MRAM. -/
structure LogInt where
  glogSeq : Nat := 0
  llogSeq : Nat := 0
  llogAck : Nat := 0
  llogLost : Nat := 0
  /-- The seal counter (R303), which every legal entry carries. -/
  sealCnt : Nat := 0
  /-- The session number last given out (R140 0x0F). -/
  sessNum : Nat := 0
deriving DecidableEq, Repr


/-! ### Load switches (ch. 17) -/

/-- One load-switch channel behind CHn_CFG, CHn_STAT and CHn_MEAS. -/
structure LswCh where
  /-- Level of DINn (R396). -/
  din : Bool := false
  /-- The inrush window is open (R400), and the counts of the current or last window. -/
  win : Bool := false
  retries : Nat := 0
  therm : Nat := 0
  /-- RETRY_N and THERM_MAX as the window took them (R400). -/
  retryN : Nat := 7
  thermMax : Nat := 3
  /-- The counts go into the window that the next switch-on opens: the last window was closed in COOL, or the trip came outside any
  window (R400, R401). -/
  carry : Bool := false
  /-- In COOL after a budget cut; its last dissipation estimate in mW (R402). -/
  cut : Bool := false
  cutMw : Nat := 0
  /-- Its latch was cleared: the next switch-on waits for 155 °C (R401). -/
  waitCool : Bool := false
deriving DecidableEq, Repr

/-- The LSW block behind its page. -/
structure LswInt where
  ch : Vector LswCh 12 := Vector.replicate 12 {}
  /-- The fail-safe record in the block's MRAM: CHn_CFG words and HM_CFG (R410). -/
  recCfg : Vector Nat 12 := Vector.replicate 12 0x248
  recHm : Nat := 0x00648064
  /-- The SPI response to be shifted out during the next frame (R405). -/
  spiResp : Word := 0
  /-- Hold-up or a forced disable has switched every channel off (R412, R47). -/
  allOff : Bool := false
  /-- Milliseconds for which the dissipation sum has exceeded LIMIT, and those left of the 100 ms after a cut (R402). -/
  overMs : Nat := 0
  cutLeft : Nat := 0
deriving DecidableEq, Repr


/-! ### Carousel, pool, metrology, capture (ch. 3–5) -/

/-- An interval boundary (R63, R64): sequence number, wheel time, UTC second of the whole minute. -/
structure Boundary where
  seq : Nat
  wt : Nat
  sec : Nat
  /-- The wheel time carries FW (R59). -/
  fw : Bool := false
deriving DecidableEq, Repr

/-- The carousel behind CAR. -/
structure CarInt where
  /-- The last cycle whose boundary strobe has been given (R53). -/
  cyc : Nat := 0
  /-- Valid crossings in a row (R56); cycles in a row within the lock criterion (R57). -/
  validRun : Nat := 0
  lockRun : Nat := 0
  /-- The acquisition slews (R58). -/
  slew : Bool := false
  /-- Length of the present wheel cycle in ns, and of the last source period (R57, R58). -/
  periodNs : Nat := 20000000
  srcNs : Nat := 0
  /-- Positive-going crossing of the source in the last cycle, 2^-32 turn after angle 0 (R60). -/
  theta : Option Nat := none
  /-- ns of the last sample's period that lie in the present cycle (R107). -/
  strad : Nat := 0
  /-- Poles (4 × bay + pole) that a seat has opened, and closed, in the carousel tick named first (R71). -/
  opened : Nat × List Nat := (0, [])
  closed : Nat × List Nat := (0, [])
  /-- Seats cancelled in this bridge cycle: seat, bridge cycle, the instant it was due (R70). -/
  cut : List (Nat × Nat × Nat) := []
  /-- The boundary due took effect outside LOCKED (R59). -/
  bndFw : Bool := false
  /-- The wheel cycle in which the drain of the block began (R47). -/
  drainCyc : Option Nat := none
  /-- The last cycle periods in ns, newest first, at most 8 (R60). -/
  periods : List Nat := []
  /-- A part of the present cycle ran outside LOCKED (R59). -/
  fwSeen : Bool := true
  /-- Earliest instant at which a periodic seat may next fire (R69). -/
  seatMin : Vector Nat 64 := Vector.replicate 64 0
  /-- A whole-minute capture whose boundary has not taken effect: second and cycle (R63). -/
  bndDue : Option (Nat × Nat) := none
  /-- Boundaries latched for the legal domain, oldest first, at most 16, and those missed after (R64). -/
  latched : List Boundary := []
  missed : List Boundary := []
  /-- The last boundary latched before the first missed one; missed ones that have been rebuilt and wait (R64). -/
  missBase : Option Boundary := none
  rebuilt : List Boundary := []
  /-- Holding registers: the master, the offset of the high part, the held word (R74). -/
  hold : List ((Master × Nat) × Word) := []
deriving DecidableEq, Repr

/-- An entry of an increment FIFO (R118). -/
structure MetEntry where
  wt : Nat
  flags : Nat
  cycles : Nat := 1
  /-- AP, AN, RQ1–RQ4, I2T. -/
  inc : List Nat
deriving DecidableEq, Repr

/-- A harmonic window (R113): its cycles so far, whether one carried FW, the sums of |X_h|²/2 (VA, VB, VC, IA, IB, IC, 40 each) in
V² and A², and for the selected slot the phase of each harmonic in the first cycle and the sum of the later deviations from it, in
2^-32 turn. -/
structure HarmWin where
  n : Nat := 0
  fw : Bool := false
  mag : List Rat := []
  ph0 : List Nat := []
  dev : List Int := []
deriving DecidableEq, Repr

/-- A meter page behind METm. -/
structure MetInt where
  /-- The increment FIFO, oldest first, at most 256 entries (R34). -/
  fifo : List MetEntry := []
  /-- Remainders below 2^-32 of AP, AN, RQ1–RQ4, I2T in 2^-64 units (R120). -/
  rem : List Nat := [0, 0, 0, 0, 0, 0, 0]
  /-- Sensor parameters loaded and not in effect yet: register, word (R104). -/
  params : List (Nat × Word) := []
  /-- The cycle is the first under newly loaded sensor parameters (R104). -/
  parm : Bool := false
  /-- The CFG word in effect: a write of CFG takes effect at the next boundary (R125). -/
  cfgEff : Nat := 0x70
  /-- A required slot was remapped in this cycle (R125). -/
  remap : Bool := false
  /-- A forced handover fell in this cycle (R93). -/
  calStep : Bool := false
  /-- Informational A+ and A− since ECLR in 2^-32 Wh (R127). -/
  eimp : Nat := 0
  eexp : Nat := 0
  /-- Hold-up has pushed the PF entry: no further entries (R126). -/
  ended : Bool := false
  /-- Energy over the current minute and the OR of its flags, for the pair's cross-check (R457). -/
  minAp : Nat := 0
  minAn : Nat := 0
  minFlags : Nat := 0
  /-- Physical values of the last sample of slots 0–15 in V and A (R107); not listed: 0. -/
  tail : List Rat := []
  /-- The page's own frequency: last crossing of slot 0 in 2^-32 turn, valid crossings in a row, last 8 periods in ns (R114). -/
  theta : Option Nat := none
  freqRun : Nat := 0
  freqPer : List Nat := []
  /-- The harmonic window that runs, and the one that has ended and is to be published (R113). -/
  win : HarmWin := {}
  winDone : Option HarmWin := none
  /-- A drain waits for the page's final entry (R47). -/
  finalDue : Bool := false
deriving DecidableEq, Repr

/-- One converter group of the pool (R90). -/
structure MplGroup where
  /-- The comparison of this step has failed once (R93): its gain and offset in ppm. -/
  failed : Option (Int × Int) := none
  /-- A continuous shadow is granted (R95). -/
  shadow : Bool := false
  /-- The input from which on the next visit of the continuous shadow takes its turn (R226). -/
  visit : Nat := 0
  /-- The input whose last handover cross-fades (R90 phase 4), and the wheel time at which that ends. -/
  fadeIn : Option Nat := none
  fadeEnd : Nat := 0
deriving DecidableEq, Repr

/-- The pool behind MPL. -/
structure MplInt where
  grp : Vector MplGroup 4 := Vector.replicate 4 {}
  /-- Inputs without a converter (R94); MDAT inputs marked INVALID for a stuck stream or a lost clock (R83). -/
  noConv : Nat := 0
  stuck : Nat := 0
  ckLost : Nat := 0
  /-- The injection check: target while it runs, and a queued one (R96). -/
  rinj : Option Nat := none
  rinjQueued : Bool := false
  /-- The fingerprint stored among the legal parameters (R88, R301), the MAP_CRC last compared since the legal domain
  started, and whether it differed. -/
  fingerprint : Nat := 0x0BA41EC0
  compared : Option Nat := none
  mismatch : Bool := false
  /-- A mismatch has been found since the legal domain started (R88). -/
  seen : Bool := false
  /-- The clock fault of R32 lasts. -/
  clockFault : Bool := false
  /-- The last 64 samples of each source, in counts before clipping (R84, R103, R109); a source not listed: zeros. -/
  hist : List (Nat × List Int) := []
  /-- Sources that have carried INVALID in the present wheel cycle, as bits of their codes (R119). -/
  badSeen : Nat := 0
  /-- A drain waits for the end of the cycle (R47). -/
  finalDue : Bool := false
deriving DecidableEq, Repr

/-! ### Pair (ch. 20), as the other chapters see it -/

/-- A message on a fabric link: port, type, destination, send counter (R431), body as the values its table lists. -/
structure LinkMsg where
  port : Nat
  typ : Nat
  dst : Nat := 0
  seq : Nat := 0
  body : List Nat := []
deriving DecidableEq, Repr


/-- PAIR behind its page (R450–R466). -/
structure PairInt where
  /-- The deferred cause that DEFER waits on (R462). -/
  deferCause : Option Nat := none
  /-- Seconds since that cause (R462). -/
  deferSec : Nat := 0
  /-- Sequence of the heartbeats sent. -/
  hbSeq : Nat := 0
  /-- Three heartbeats missed: the 2 ms guard runs (R453). -/
  guard : Bool := false
  /-- The token is to be asserted at the next period start (R453). A planned handover has been asked for (R466). -/
  tokenNext : Bool := false
  handover : Bool := false
  /-- Period starts left until a planned handover swaps the tokens (R466). -/
  swapIn : Option Nat := none
  /-- What the active sent last: SESSION and OUTPUT per bay, replicated records (R452, R456). -/
  sent : Vector (Option PairSess) 4 := Vector.replicate 4 none
  sentOut : Vector (Option (Nat × Bool × Nat × Nat)) 4 := Vector.replicate 4 none
  sentRecs : List PairRec := []
  /-- Sequence of the report cards sent (R459). -/
  cardSeq : Nat := 0
  /-- The minute whose cross-check has been sent (R457). -/
  sentMin : Option Nat := none
  /-- Reason of the coming takeover (R461), 0 for missed heartbeats. -/
  reason : Nat := 0
  /-- Periods since the last heartbeat received, for TAKEOVER.GAP. -/
  gap : Nat := 0
  /-- The peer's wheel runs free, by its last mark (R33). -/
  peerFw : Bool := false
  /-- The FAIL bits of the peer's heartbeat. -/
  peerFail : Nat := 0
  /-- In PARALLEL a boundary has begun the interval that is to be counted whole (R450, R465). -/
  counting : Bool := false
  /-- Session states last received, per bay, and replicated transactions (R452, R456). -/
  sess : Vector (Option PairSess) 4 := Vector.replicate 4 none
  replicas : List PairRec := []
  /-- A token race has been lost by equal straps: the random wait runs (R468). -/
  raceWait : Bool := false
  /-- Peer's card and pages that passed the last comparison: minute, pages (R457, R458). -/
  passed : Nat × List Nat := (0, [])
  /-- A drain of PAIR waits for the resign (R462). -/
  drainWait : Bool := false
  /-- The own sums of the minute just closed: minute, per page in MODE 1 or 2 (page, AP, AN in mWh, flags) (R457). -/
  minute : Option (Nat × List (Nat × Nat × Nat × Nat)) := none
  /-- ms of the random wait after a clash of straps (R468). -/
  waitMs : Nat := 0
deriving DecidableEq, Repr


/-! ### Ledger and legal domain (ch. 11–13), kept in the ledger MRAM and the parameter MRAM -/

/-- An ended sub-period of a sliding demand (R263): energy in 2^-32 mWh, start minute and the rate in force at its start. -/
structure DemandSub where
  e : Nat := 0
  start : Nat := 0
  rate : Nat := 1
deriving DecidableEq, Repr

/-- A DEMAND object and its maxima (R263). Energies in 2^-32 mWh. -/
structure Demand where
  /-- Energy of the running period or sub-period, and the ended sub-periods, newest first. -/
  cur : Nat := 0
  subs : List DemandSub := []
  /-- Last average in W, its STATUS and capture minute; start minute of the running period or sub-period and the rate at its
  start. -/
  last : Nat := 0
  status : Nat := 0
  cap : Nat := 0
  start : Nat := 0
  rate : Nat := 1
  /-- Maxima of the billing period: value in W and capture minute; total, then rates 1–8. -/
  max : List (Nat × Nat) := List.replicate 9 (0, 0)
deriving DecidableEq, Repr

/-- The energy registers of one B (R260, R261): VALUE × 2^32 + FRAC each. -/
structure LedPage where
  /-- 1.8.0–1.8.8 and 2.8.0–2.8.8. -/
  ap : List Nat := List.replicate 9 0
  an : List Nat := List.replicate 9 0
  /-- 3.8.0, 4.8.0 and 5.8.0–8.8.0. -/
  qp : Nat := 0
  qn : Nat := 0
  rq : List Nat := [0, 0, 0, 0]
  /-- Fraction of the cable loss below 2^-32 Wh, in 2^-64 Wh (R260). -/
  loss : Nat := 0
  imp : Demand := {}
  exp : Demand := {}
  /-- Wheel time of the last drained entry. -/
  lastWt : Nat := 0
deriving DecidableEq, Repr

/-- A load profile (R264–R267): definition, rows in use, next index and SEQ, STATUS bits collected for the running row,
and a definition that waits for its boundary. -/
structure Profile where
  period : Nat := 15
  /-- Channel definitions as words 0 and 1 of P1_DEF. -/
  defs : List (Nat × Nat) := []
  rows : Nat := 0
  idx : Nat := 0
  seq : Nat := 0
  status : Nat := 0
  next : Option (Nat × List (Nat × Nat)) := none
deriving DecidableEq, Repr

/-- An open-session record (R308–R311). -/
structure SessRec where
  num : Nat
  metering : Bool := false
  /-- First 16 bytes of the hash, none without SESSION_AUTH. -/
  auth : Option (List Byte) := none
  tariff : Nat := 0
  flags : Nat := 0
  /-- Cable loss deducted, in 2^-32 Wh. -/
  loss : Nat := 0
  /-- Boundary that begins the first cycle, and its UTC ms. -/
  startWt : Nat := 0
  tStart : Nat := 0
  impStart : Nat := 0
  expStart : Nat := 0
  impEnd : Nat := 0
  expEnd : Nat := 0
  tEnd : Nat := 0
  calId : Nat := 0
  signer : Nat := 0
  /-- At the handover: STOPSRC, forced, and the boundary that ends its last cycle. -/
  src : Nat := 0
  endWt : Nat := 0
deriving DecidableEq, Repr

/-- A committed receipt that is not signed yet (R313, R314): the clock at the commit, whether the vault has kept silent for 1 s, its
payload fields as (key, encoding) but for FLAGS. -/
structure RcptRec where
  rseq : Nat
  bay : Nat
  ms : Nat
  late : Bool := false
  flags : Nat
  fields : List (Nat × List Byte)
deriving DecidableEq, Repr

/-- A prepayment account and the session cost of a bay (R286–R294). Costs in minor units × 10^-4. -/
structure Account where
  prepaid : Bool := false
  state : Nat := 0
  credit : Int := 0
  loaded : Nat := 0
  ecG : Nat := 0
  ecUsed : Bool := false
  /-- Settled cost of the sessions a held account has been carried over from (R294). -/
  debt : Nat := 0
  ids : List Nat := []
  /-- CREDIT_STOP has been raised, and its check at T_OBEY is to come (R292). -/
  stop : Bool := false
  obeyDue : Bool := false
  fallback : Bool := false
  fbFail : Bool := false
  /-- Interrupts re-armed: LOW1, LOW2, EXHAUSTED (R291). -/
  armed : List Bool := [true, true, true]
  /-- OPEN_SESSION to END_SESSION; START_METERING to END_SESSION. -/
  opened : Bool := false
  costing : Bool := false
  ec : Nat := 0
  warn1 : Nat := 0
  warn2 : Nat := 0
  tObey : Nat := 5000
  tFb : Nat := 100
  reconnect : Nat := 0
  /-- Attribute writes that wait for the next drained entry (R288). -/
  pend : List (Nat × Nat) := []
  /-- Session costs: energy per rate 1–8, charging time, idle time, fee; cumulative cost (R287). -/
  energy : List Rat := List.replicate 8 0
  chg : Rat := 0
  idle : Rat := 0
  fee : Rat := 0
  cum : Nat := 0
deriving DecidableEq, Repr

/-- A tamper record kept in the VBAT domain (R319), and the COUNT last logged (R320). -/
structure TamperRec where
  count : Nat := 0
  first : Nat := 0
  last : Nat := 0
  logged : Nat := 0
  unack : Bool := false
deriving DecidableEq, Repr

/-- Default channels of P1 (R276). -/
def p1Defs : List (Nat × Nat) :=
  [0x08010101, 0x08010201, 0x08010301, 0x08010401, 0x08010501, 0x08020501, 0x08030501, 0x08040501].map fun w =>
    (w, 0xFD02FF00)

/-- Default channels of P2 (R276). -/
def p2Defs : List (Nat × Nat) :=
  [1, 2, 3, 4, 5].flatMap fun b =>
    [(0x08010001 + 256 * b, 0xFD02FF00), (0x08020001 + 256 * b, 0xFD02FF00), (0x08010001 + 256 * b, 0xFD02FF01),
     (0x08010001 + 256 * b, 0xFD02FF02)]

/-- What is in force in a minute (R279): rate, friendly, season, week, day profile, special day, offset. -/
structure InForce where
  rate : Nat := 1
  friendly : Bool := false
  season : Nat := 0
  week : Nat := 0
  dayProf : Nat := 0
  special : Option Nat := none
  offset : Int := 0
deriving DecidableEq, Repr

/-- A measurement of a page's slots (R304): cycles left; what the cycles so far gave: their length in ns and their number, samples,
per slot the sum of counts and of squares, per phase the sum of the products of the voltage's fundamental and the current's conjugate. -/
structure MeasRun where
  left : Nat
  ns : Nat := 0
  cycles : Nat := 0
  n : Nat := 0
  sum : List Int := List.replicate 16 0
  sq : List Int := List.replicate 16 0
  cross : List (Int × Int) := List.replicate 3 (0, 0)
deriving DecidableEq, Repr

/-- The legal domain. -/
structure LedInt where
  ready : Bool := false
  /-- The blob of the operator key that signed a receipt last (R321). -/
  operatorKey : List Byte := []
  /-- The legal processor has run LEGAL_DOMAIN_START since its last reset. -/
  started : Bool := false
  txn : Nat := 0
  /-- Last committed boundary and its minute. -/
  bndDone : Nat := 0
  bndMin : Nat := 0
  pages : Vector LedPage 5 := Vector.replicate 5 {}
  /-- PERIOD, SLIDING, NSUB in force and waiting for 00:00Z (R263). -/
  dem : Nat × Bool × Nat := (15, false, 1)
  demNext : Option (Nat × Bool × Nat) := none
  p1 : Profile := { defs := p1Defs }
  p2 : Profile := { defs := p2Defs }
  /-- State of the passive calendar (R281), cause of the last failed commit, an active calendar has been activated, a
  previous one is held. -/
  pasState : Nat := 0
  valCause : Nat := 0
  actValid : Bool := false
  prevValid : Bool := false
  bill : Nat := 0
  inForce : InForce := {}
  /-- The minutes of the highest day end, calendar activation and billing end executed so far (R270). -/
  dayDone : Nat := 0
  /-- The UTC in ms up to which the last repeated span runs (R270). -/
  rptEnd : Nat := 0
  replayed : Bool := false
  /-- Hold-up recorded a power failure (R271), and rows carry PF and CI until LEGAL sets the clock. -/
  powerFail : Bool := false
  pfSec : Nat := 0
  pfCi : Bool := false
  /-- UTC second of the last power good. -/
  pgSec : Nat := 0
  /-- Legal parameters (R301): sensor sets of 172 bytes, cable-loss resistances in µΩ, slew allowance in ms, display layout,
  rights words written (object, attribute or method + 128, word), tamper configuration. -/
  sensors : Vector (List Byte) 5 :=
    Vector.replicate 5 (List.replicate 168 0 ++ [0x32, 0, 5, 0])
  cable : Vector Nat 4 := Vector.replicate 4 0
  slewAllow : Nat := 30000
  layout : Option (List Byte) := none
  rights : List (Obis × Nat × Nat) := []
  tmpCfg : Nat := 3
  sealTime : Nat := 0
  sealObj : Option Obis := none
  /-- The measurement that runs on a page; results, as the bytes of attribute 3 (R304). -/
  measuring : Vector (Option MeasRun) 5 := Vector.replicate 5 none
  measured : Vector (List Nat) 5 := Vector.replicate 5 []
  sess : Vector (Option SessRec) 4 := Vector.replicate 4 none
  acct : Vector Account 4 := Vector.replicate 4 {}
  rseq : Nat := 0
  receipts : Nat := 0
  /-- Unsigned receipts, oldest first (R35, R313). -/
  unsigned : List RcptRec := []
  vaultWait : Bool := false
  /-- SESSION_AUTH messages that wait for the legal domain. -/
  auths : List (Nat × Nat × Nat × List Byte) := []
  tamper : Vector TamperRec 4 := Vector.replicate 4 {}
  /-- Inputs in the tamper state (R326). -/
  tmpLevel : Nat := 0
  dispTime : Nat := 0
  /-- A redraw is deferred by shed level L1 (R318). -/
  redrawDue : Bool := false
  /-- Recent RTC captures, newest first, at most 16: second, wheel time, FW (R61, R62). -/
  caps : List (Nat × Nat × Bool) := []
deriving DecidableEq, Repr

/-- A role session (R343, R344): role, link, sequence numbers received and sent, seconds idle. -/
structure RoleSess where
  role : Nat
  link : Link
  rxSeq : Nat := 0
  txSeq : Nat := 0
  idle : Nat := 0
deriving DecidableEq, Repr



/-! ### Vault (ch. 14) -/

/-- What a key slot may be used for (R334, R335, R337). -/
inductive KeyUse where
  | attest | receipt | identity | blob (usage : Nat)
deriving DecidableEq, Repr

/-- A key slot behind SLOTk: use, POLICY and the blob it was loaded from (none for the derived keys). -/
structure KeySlot where
  use : KeyUse
  policy : Nat := 0
  blob : List Byte := []
deriving DecidableEq, Repr

/-- A challenge given out (R343, R347): link, role or scope, nonce, age in s. -/
structure Challenge where
  link : Link
  what : Nat
  nonce : Nat
  age : Nat := 0
deriving DecidableEq, Repr

/-- The vault behind VLT. -/
structure VltInt where
  slots : Vector (Option KeySlot) 32 := Vector.replicate 32 none
  /-- The root secret is present and matches its check value (R328, R329). -/
  rootOk : Bool := true
  /-- A zeroisation since the last start (R331). -/
  zeroised : Bool := false
  /-- The last mesh check failed (R330). -/
  meshFail : Bool := false
  /-- Role challenges, and the debug challenge. -/
  chals : List Challenge := []
  dbgChal : Option Challenge := none
  /-- Role anchors (R342): role, index, public key. A part in FIELD has been commissioned with OPERATOR and LEGAL. -/
  anchors : List (Nat × Nat × List Byte) := [(1, 0, []), (4, 0, [])]
  /-- Requests for randomness and seconds since the DRBG was reseeded (R341). -/
  drbgReqs : Nat := 0
  drbgSec : Nat := 0
  /-- Seconds since the debug scope was opened (R347). -/
  dbgSec : Nat := 0
deriving DecidableEq, Repr

/-! ### Contactless (ch. 15) -/

/-- What the reader runs: a TRANSCEIVE or an ANTICOLL. -/
inductive NfrJob where
  | transceive | anticoll
deriving DecidableEq, Repr

/-- The reader behind NFR. -/
structure NfrInt where
  job : Option NfrJob := none
  /-- Frames sent by TRANSCEIVE, oldest first: bytes, and the bits of the last byte, 0 for all 8 (R373). -/
  sent : List (List Byte × Nat) := []
  /-- The next detection pulse sets LPCD_REF (R354). -/
  lpcdFirst : Bool := false
  /-- Words written to LIST_DATA since CLEAR, oldest first. -/
  listWords : List Nat := []
deriving DecidableEq, Repr

/-- The witness tag, with its mirror's configuration records; the mirror's other bytes lie in `Dev.mem` (R366). -/
structure TagInt where
  /-- FD_N pulls low (R371). -/
  fdLow : Bool := false
  /-- Slot drawn in the running round (R359). -/
  slot : Nat := 0
  /-- AUTH_BEGIN has been answered (R363). -/
  authPend : Bool := false
  /-- Failed authentications in this field session (R363). -/
  fails : Nat := 0
  /-- Configuration in the mirror (R366): WTG.CFG's bits, password. A key has been written by the vault. -/
  cfg : Nat := 3
  pwd : Nat := 0
  keySet : Bool := false
  /-- TXN of each record's current copy (R368), for the records written from the field. -/
  txns : List (Nat × Nat) := []
  /-- A shadow slot was written and not committed. -/
  shadow : Bool := false
  /-- Host record that waits: record, data (R369). -/
  host : Option (Nat × List Byte) := none
  /-- SEQ of the newest tag log entry, and the snapshot's (R367, R370). -/
  logSeq : Nat := 0
  snapSeq : Nat := 0
  /-- KEY_VER of the key. -/
  keyVer : Nat := 0
  /-- Frames the tag has sent, oldest first. -/
  sent : List (List Byte) := []
deriving DecidableEq, Repr

/-! ### E-paper (ch. 16) -/

/-- A rectangle. -/
structure Rect where
  x : Nat
  y : Nat
  w : Nat
  h : Nat
deriving DecidableEq, Repr

/-- Where a region comes from: the EPD owner, the legal processor, the cleaning of a dirty entry, a blink region's toggle. -/
inductive RegSrc where
  | epd | legal | clean | blink (k : Fin 4)
deriving DecidableEq, Repr

/-- A queued or running region (R385): its frame, its frame count, its latched band; the redo to queue with INIT. -/
structure Region where
  id : Nat
  rect : Rect
  mode : Nat
  src : RegSrc
  frame : Nat := 0
  frames : Nat := 0
  band : Nat := 0
  /-- A line of it was not driven (R377). -/
  under : Bool := false
deriving DecidableEq, Repr

/-- The waveform table in use (R383): modes, band limits, DIR words (index 16 m + b), the address it was loaded from. -/
structure WfTable where
  modes : Nat
  id : Nat
  bandLo : List Int
  dir : List Nat
  addr : Nat
deriving DecidableEq, Repr

/-- The e-paper controller behind EPD and EPDR. -/
structure EpdInt where
  table : Option WfTable := none
  queue : List Region := []
  running : List Region := []
  /-- The LUT SRAM (R384): the frames of modes 0–7 in the loaded band; empty while no band is loaded. -/
  lut : List (List Byte) := []
  /-- EPD_EN balls, VCOM on (R378). -/
  en : Nat := 0
  vcom : Bool := false
  /-- How long the last OFF sequence drove EPD_DSCH high, in 0.1 ms (R380). -/
  dsch : Nat := 0
  /-- The dirty record (R390), kept over every reset. -/
  dirty : List Rect := []
  /-- Hold-up has begun: no further frame (R389); the frame in progress then has not ended. -/
  halted : Bool := false
  lastFrame : Bool := false
  /-- Seconds since TEMP was written (R384). -/
  tempSec : Nat := 0
deriving DecidableEq, Repr

/-! ### Update engine (ch. 22) -/

/-- An image in a slot (R486): version, anti-rollback value, interface version and ranges, session-state layout, size and
SHA-384. The hash is empty for the image the part was made with, whose bytes are not given. -/
structure Img where
  version : Nat := 0
  rollback : Nat := 0
  ifver : Nat := 0
  ranges : List (Nat × Nat) := [(0, 65535), (0, 65535), (0, 65535), (0, 65535), (0, 65535)]
  ssl : Nat := 0
  size : Nat := 0
  hash : List Byte := []
deriving DecidableEq, Repr

/-- An image of the open bundle (R487, R488, R490): header fields, the missing blocks, its staging address. -/
structure UpdImg where
  dom : Nat
  full : Bool
  live : Bool
  img : Img
  size : Nat
  base : List Byte
  delta : List Byte
  index : Nat
  count : Nat
  addr : Nat
  missing : List Nat
  ended : Bool := false
  ready : Bool := false
deriving DecidableEq, Repr

/-- The update engine behind UPD. Slots 0–4 are APP, SAF, VLT, PLCU, TBL (R24). -/
structure UpdInt where
  run : Vector Img 5 := Vector.replicate 5 {}
  other : Vector (Option Img) 5 := Vector.replicate 5 none
  /-- Images of the open bundle, in BEGIN order. -/
  imgs : List UpdImg := []
  /-- Next free staging byte. -/
  used : Nat := 0
  /-- The image being reconstructed, and who waits for the answer. -/
  recon : Option (Nat × Req) := none
  /-- Checkpoint (R491): bundle, image index, output position. -/
  ckpt : Option (Nat × Nat × Nat) := none
  /-- Slots still to be switched, in order; the step in trial. -/
  steps : List Nat := []
  trial : Option Nat := none
  /-- A counter that ROLLBACK_SET has still to raise (R496): slot, value. -/
  raise : Option (Nat × Nat) := none
  /-- Loaders that read the TBL bank which does not run (R497): bays 0–3, EXI 4, EPD 5. -/
  tblOld : List Nat := []
  /-- The other bank of a slot holds an image that was reverted and is never started again (R495). -/
  reverted : Vector Bool 5 := Vector.replicate 5 false
deriving DecidableEq, Repr

/-! ### DMA (ch. 18) and waveform capture (R97–R99) -/

/-- A DMA channel behind its registers: the descriptor in progress (R415, R416) and the pacing requests that wait. -/
structure DmaCh where
  circ : Bool := false
  ctl : Nat := 0
  next : Nat := 0
  cwAddr : Nat := 0
  cwData : Nat := 0
  /-- Address following the last byte written (R421). -/
  last : Nat := 0
  /-- Bursts that a pacing block has let go, oldest first: the bytes a producing block delivers (R418). -/
  reqs : List (List Byte) := []
deriving DecidableEq, Repr

/-- The DMA engine: channels; per priority level the channel last granted, and the bursts granted to others since its own
last grant (R422). -/
structure DmaInt where
  ch : Vector DmaCh 16 := Vector.replicate 16 {}
  lastCh : Vector Nat 4 := Vector.replicate 4 15
  waited : Vector Nat 4 := Vector.replicate 4 0
deriving DecidableEq, Repr

/-- The capture behind WAV: bytes in its FIFO that no burst has been let go for (R99), records left after the trigger (R98). -/
structure WavInt where
  fifo : List Byte := []
  left : Nat := 0
deriving DecidableEq, Repr

/-! ### Vehicle link (ch. 7) -/

/-- A sound slot of one modem (R158): RunID, sums of the group attenuations, the window has closed. -/
structure PlcSlot where
  run : Nat
  sums : List Nat := List.replicate 58 0
  closed : Bool := false
deriving DecidableEq, Repr

/-- A modem behind PLCn. -/
structure PlcInt where
  slots : Vector (Option PlcSlot) 4 := Vector.replicate 4 none
  /-- The network key, which no register shows (R157). -/
  nmk : Nat := 0
  /-- KEY_SET has been written: a station may join. -/
  keyed : Bool := false
  /-- The microcode load runs; the microcode is loaded; it is older than the running PLCU bank (R156). -/
  loading : Bool := false
  loaded : Bool := false
  stale : Bool := false
  /-- RunIDs this bay answered with CM_SLAC_PARM.CNF (R158). -/
  cands : List Nat := []
deriving DecidableEq, Repr

/-- A job of the codec as START takes it (R167): its grammar slot, its direction, its areas and its two channels. -/
structure ExiJob where
  slot : Fin 8
  enc : Bool
  src : Nat
  srcLen : Nat
  dst : Nat
  dstLen : Nat
  val : Nat
  valLen : Nat
  rd : Fin 16
  wr : Fin 16
deriving DecidableEq, Repr

/-- The EXI codec: header of the table in each slot (FLAGS), and the job that runs. -/
structure ExiInt where
  slots : Vector (Option Nat) 8 := Vector.replicate 8 none
  job : Option ExiJob := none
deriving DecidableEq, Repr

/-- A CAN controller: the words pushed to an unfinished frame, complete TX frames and received frames, oldest first; the
words popped from the frame at the front (R173, R174). -/
structure CanInt where
  part : List Nat := []
  tx : List (List Nat) := []
  rx : List (List Nat) := []
deriving DecidableEq, Repr

/-! ### Fabric (ch. 19) -/

/-- A fabric port: HELLO sent and received since SYNC (R426), packets queued, oldest first (R427). -/
structure YlInt where
  sent : Bool := false
  heard : Bool := false
  queue : List Pkt := []
deriving DecidableEq, Repr

/-- The router behind YLR. -/
structure YlrInt where
  port : Vector YlInt 3 := Vector.replicate 3 {}
  /-- Send counters per class, and their stored high parts in MRAM (R431). -/
  sendCnt : Vector Nat 4 := Vector.replicate 4 1048576
  sendMram : Vector Nat 4 := Vector.replicate 4 1
  /-- Last accepted counter per (source, class) with the packets accepted, and its stored high part (R431). -/
  floor : List ((Nat × Nat) × (Nat × Nat)) := []
  floorMram : List ((Nat × Nat) × Nat) := []
  /-- Broadcasts already forwarded: (SRC, SEQ) (R430). -/
  seen : List (Nat × Nat) := []
  /-- An election runs (R433). -/
  electing : Bool := false
  /-- BEACON periods of 20 ms that the election has lasted (R433). -/
  beacons : Nat := 0
  /-- Parent port and the EPOCH it belongs to (R434). -/
  parent : Option (Nat × Nat) := none
  /-- Reports of the running roll call (R434). -/
  reports : List Report := []
  /-- A roll call waits for RC_HOLD (R434). -/
  hold : Bool := false
  /-- The address last held, in MRAM (R435). -/
  addrMram : Nat := 0
  /-- Demands received for the coming division: (address, bays, site power) (R440). -/
  demands : List (Nat × List BayDemand × Option Nat) := []
  /-- Shares that wait for SHARE_APPLY (R441), and whether they apply at the next tick. -/
  shares : Option (List Nat) := none
  late : Bool := false
  /-- An application-domain reset has stopped the rings; they run again with FW_READY (R443, R481). -/
  ringsOff : Bool := false
deriving DecidableEq, Repr

/-! ### Host links (ch. 21) -/

/-- A request that waits to be served (R475). -/
structure HifReq where
  link : Link
  typ : Nat
  tag : Nat
  role : Nat := 0
  payload : List Byte := []
  peer : Option EthPeer := none
deriving DecidableEq, Repr

/-- What leaves on the RMII link (R471): a host message, an ICMPv6 echo answer, a neighbour advertisement. -/
inductive EthOut where
  | msg (dst : EthPeer) (m : HostMsg)
  | echoReply (dst : BitVec 128) (data : List Byte)
  | advert (dst target : BitVec 128)
deriving DecidableEq, Repr

/-- The HIF behind its page. -/
structure HifInt where
  /-- Requests accepted and not answered yet, oldest first (R475). -/
  rx : List HifReq := []
  /-- Last SEQ accepted on each link and role while the session lives is in `RoleSess.rxSeq`. What the last SPI read command
  returned: a message, or a word. -/
  spiMsg : Option HostMsg := none
  spiWord : Word := 0
  /-- The last register access failed (R470, SPI_STAT [18]). -/
  regFail : Bool := false
  /-- What has left on the RMII link, oldest first. -/
  ethOut : List EthOut := []
  /-- Source of the last authenticated request on the RMII link, and of the last of any kind (R471). -/
  peerAuth : Option EthPeer := none
  peerAny : Option EthPeer := none
  /-- Messages a closed loop holds for READ_MSG, oldest first (R521), and the one it returned last. -/
  echo : List HmpMsg := []
  echoed : Option HmpMsg := none
deriving DecidableEq, Repr

/-! ### Bus, power and serial pages (ch. 1, 2, 23, 25) -/

/-- What the crossbar answered last: a bus error (R20), the bytes read. -/
structure BusInt where
  err : Bool := false
  data : List Byte := []
deriving DecidableEq, Repr

/-- The application interrupt controller (R23, R50): sources that are pending, and sources claimed and not completed, as bits.
Priorities, enables and thresholds are bytes of its region. -/
structure PlicInt where
  pend : Nat := 0
  claimed : Nat := 0
deriving DecidableEq, Repr

/-- The power manager behind PWR and the watchdog behind SYS.WDT. -/
structure PwrInt where
  /-- Step 5 has ended: the domains are off (R515). -/
  off : Bool := false
  /-- The hold-up sequence is a thermal shutdown's (R511). -/
  thermal : Bool := false
  /-- Tamper inputs and mesh are armed in the VBAT domain (R514 step 4). -/
  armed : Bool := false
  /-- ms left of SYS.WDT as last restarted. -/
  wdtMs : Nat := 200
  /-- Domains that reset during hold-up and stay off (R516), as bits of R15. -/
  domOff : Nat := 0
deriving DecidableEq, Repr

/-- The SAR converter: sequence running, sequences waiting in the order of their starts (R542). -/
structure SarInt where
  run : Option Nat := none
  wait : List Nat := []
deriving DecidableEq, Repr

/-- A UART: character in the shift register, TX FIFO, RX FIFO entries (bits as in RX_DATA), a character is being received
(R544). -/
structure UartInt where
  shift : Option Byte := none
  tx : List Byte := []
  rx : List Nat := []
deriving DecidableEq, Repr

/-- An I2C controller: its FIFOs; a read whose last bytes wait for room in RXDATA (R546). -/
structure I2cInt where
  tx : List Byte := []
  rx : List Byte := []
  hold : Bool := false
deriving DecidableEq, Repr

/-- An access of the OSPI window that stalls (R548, R549): offset, bytes written or none, length. -/
structure OspiStall where
  ofs : Nat
  data : Option (List Byte)
  len : Nat
deriving DecidableEq, Repr

/-- The OSPI page: the buffered 256-byte page and its bytes (R549), the page being programmed, and the accesses that stall, oldest
first. -/
structure OspiInt where
  page : Option Nat := none
  buf : List (Nat × Byte) := []
  prog : Option (Nat × List (Nat × Byte)) := none
  stall : List OspiStall := []
deriving DecidableEq, Repr

/-- The device: everything but the queue of waiting commands. -/
structure Dev where
  /-- Fuses and identity. -/
  chip : Chip := {}
  /-- Bridge cycles (10 ns) since reset (R38). -/
  now : Nat := 0
  /-- Register pages: offset in the window at 0x4000_0000 → word; unlisted registers read their reset value (R36, R37). -/
  regs : List (Nat × Word) := []
  /-- Events of the current bridge cycle, newest first: (page offset, IRQ bit) (R38). -/
  raw : List (Nat × Nat) := []
  /-- Byte memories: address → byte (R23, R24, R26); an unlisted byte reads 0. -/
  mem : List Host.Cell := []
  /-- Messages the GX4 has sent to the host, oldest first (R472). -/
  hostOut : List HostMsg := []
  /-- Messages committed by one domain's firmware to another, oldest first (R28). -/
  mbox : List MboxMsg := []
  /-- Counter of the free values used so far: the model's own field. -/
  fresh : Nat := 0
  bay : Vector BayInt 4 := Vector.replicate 4 {}
  ctc : Vector CtcInt 4 := Vector.replicate 4 {}
  rcd : Vector RcdInt 4 := Vector.replicate 4 {}
  imd : Vector ImdInt 4 := Vector.replicate 4 {}
  saf : SafInt := {}
  rtc : RtcInt := {}
  log : LogInt := {}
  lsw : LswInt := {}
  car : CarInt := {}
  mpl : MplInt := {}
  met : Vector MetInt 5 := Vector.replicate 5 {}
  /-- Messages sent on the fabric links, oldest first (R426–R452). -/
  linkOut : List LinkMsg := []
  pair : PairInt := {}
  led : LedInt := {}
  /-- Open role sessions (R344). -/
  roles : List RoleSess := []
  /-- Host links that have carried a request, oldest first: notices go to them, or to SPI while there is none (R471). -/
  links : List Link := []
  vlt : VltInt := {}
  nfr : NfrInt := {}
  tag : TagInt := {}
  epd : EpdInt := {}
  upd : UpdInt := {}
  dma : DmaInt := {}
  wav : WavInt := {}
  plc : Vector PlcInt 4 := Vector.replicate 4 {}
  exi : ExiInt := {}
  can : Vector CanInt 4 := Vector.replicate 4 {}
  ylr : YlrInt := {}
  hif : HifInt := {}
  bus : BusInt := {}
  /-- First word of an expert unlock written: page offset and bridge cycle (R42). -/
  expKey : Option (Nat × Nat) := none
  /-- Mailbox interrupts of the current bridge cycle, newest first: receiver, sender, kind (0 message, 1 space, 2 status; R50). -/
  mboxIrq : List (Domain × Domain × Nat) := []
  /-- Pages whose loop the host closed through the register window (R522). -/
  loopHost : List Nat := []
  pwr : PwrInt := {}
  sar : SarInt := {}
  uart : Vector UartInt 4 := Vector.replicate 4 {}
  i2c : Vector I2cInt 2 := Vector.replicate 2 {}
  ospi : OspiInt := {}
  plic : PlicInt := {}
  /-- Seconds since a test was queued, by page offset (R527). -/
  testAge : List (Nat × Nat) := []
deriving DecidableEq, Repr

/-- The state of the block: the device and the commands that wait, first in first out. -/
structure State where
  dev : Dev := {}
  pending : List Instr := []
deriving DecidableEq, Repr

/-- The block right after a chip reset with no command waiting: every register at its reset value, the memories blank,
the non-volatile stores as the assumption log names them. -/
def State.reset : State := {}

/-- The outcome of a command. -/
abbrev Out := Host.Outcome State Fault Refusal

/-- Apply an effect to the device, leaving the queue: what works on VBAT, on the field, or ends the off state. -/
def State.vbat (s : State) (f : Dev → Dev) : Out := .next { s with dev := f s.dev }

/-- Apply an effect to the device, leaving the queue. After hold-up step 5 the domains are off and nothing happens (R515). -/
def State.on (s : State) (f : Dev → Dev) : Out := s.vbat fun d => if d.pwr.off then d else f d

end Sys2Proof.Machine
end

