-- ==== Sys2Proof/Machine/Ops.lean ====
section
/-!
DEFINITION. The named operations over registers and memories. Every access to a register or a byte goes through these.
-/
namespace Sys2Proof.Machine

/-! ### Register words and fields -/

/-- A field of a word, as a number. -/
def Fld.get (f : Fld) (w : Word) : Nat := (w.toNat >>> f.lo) % 2 ^ f.w

/-- A word with a field replaced by a number (taken modulo the field's width). -/
def Fld.put (f : Fld) (w : Word) (v : Nat) : Word :=
  BitVec.ofNat 32 (w.toNat - (f.get w) <<< f.lo + (v % 2 ^ f.w) <<< f.lo)

/-- The word a register holds. -/
def Dev.rd (d : Dev) (a : Nat) : Word := Sparse.get resetWord d.regs a

/-- The word a register holds, as a number. -/
def Dev.rdN (d : Dev) (a : Nat) : Nat := (d.rd a).toNat

/-- Give a register a word. -/
def Dev.wr (d : Dev) (a : Nat) (w : Word) : Dev := { d with regs := Sparse.set resetWord d.regs a w }

/-- Give a register a number (modulo 2^32). -/
def Dev.wrN (d : Dev) (a : Nat) (n : Nat) : Dev := d.wr a (BitVec.ofNat 32 n)

/-- Read a field. -/
def Dev.get (d : Dev) (f : Fld) : Nat := f.get (d.rd f.reg)

/-- Write a field. -/
def Dev.set (d : Dev) (f : Fld) (v : Nat) : Dev := d.wr f.reg (f.put (d.rd f.reg) v)

/-- Read a one-bit field. -/
def Dev.bit (d : Dev) (f : Fld) : Bool := d.get f != 0

/-- Write a one-bit field. -/
def Dev.setBit (d : Dev) (f : Fld) (b : Bool) : Dev := d.set f (if b then 1 else 0)

/-- Add to a counter field that stops at its greatest value. -/
def Dev.bump (d : Dev) (f : Fld) : Dev := d.set f (satInc (2 ^ f.w - 1) (d.get f))

/-- Bit `i` of a field of flags. -/
def Dev.flag (d : Dev) (f : Fld) (i : Nat) : Bool := (d.get f).testBit i

/-- Set or clear bit `i` of a number. -/
def setBitN (n i : Nat) (b : Bool) : Nat :=
  if b then n ||| 2 ^ i else if n.testBit i then n - 2 ^ i else n

/-- Set or clear bit `i` of a field of flags. -/
def Dev.setFlag (d : Dev) (f : Fld) (i : Nat) (b : Bool) : Dev := d.set f (setBitN (d.get f) i b)

/-! ### Byte memories -/

/-- What a byte that nothing has written reads as: 0 (DESIGN CHOICE, assumption 2). -/
def blankByte (_ : Nat) : Byte := 0

/-- The canonical form of the byte memories. -/
def Memory.wf (m : List Host.Cell) : Bool := Sparse.wf blankByte m

/-- Read a byte. -/
def Dev.rdByte (d : Dev) (a : Nat) : Byte := Sparse.get blankByte d.mem a

/-- Write a byte. -/
def Dev.wrByte (d : Dev) (a : Nat) (b : Byte) : Dev := { d with mem := Sparse.set blankByte d.mem a b }

/-- Read `n` bytes. -/
def Dev.rdBytes (d : Dev) (a : Nat) : Nat → List Byte
  | 0 => []
  | n + 1 => d.rdByte a :: d.rdBytes (a + 1) n

/-- Write a list of bytes from an address up. -/
def Dev.wrBytes (d : Dev) (a : Nat) : List Byte → Dev
  | [] => d
  | b :: bs => (d.wrByte a b).wrBytes (a + 1) bs

/-- The `n` bytes of a number, least significant first (R10). -/
def leBytes : Nat → Nat → List Byte
  | 0, _ => []
  | n + 1, v => BitVec.ofNat 8 v :: leBytes n (v / 256)

/-- The number a list of bytes spells, least significant first (R10). -/
def ofLe : List Byte → Nat
  | [] => 0
  | b :: bs => b.toNat + 256 * ofLe bs

/-- Read a little-endian number of `n` bytes. -/
def Dev.rdLe (d : Dev) (a n : Nat) : Nat := ofLe (d.rdBytes a n)

/-- Write a little-endian number of `n` bytes. -/
def Dev.wrLe (d : Dev) (a n v : Nat) : Dev := d.wrBytes a (leBytes n v)

/-! ### CRCs -/

/-- One bit of CRC-32 (IEEE 802.3, reflected). -/
def crc32Bit (c : Nat) : Nat := if c % 2 = 1 then (c / 2) ^^^ 0xEDB88320 else c / 2

/-- One byte of CRC-32. -/
def crc32Byte (c : Nat) (b : Byte) : Nat :=
  crc32Bit (crc32Bit (crc32Bit (crc32Bit (crc32Bit (crc32Bit (crc32Bit (crc32Bit (c ^^^ b.toNat))))))))

/-- CRC-32 (IEEE 802.3) of a list of bytes. -/
def crc32 (bs : List Byte) : Nat := (bs.foldl crc32Byte 0xFFFFFFFF) ^^^ 0xFFFFFFFF

/-! ### Variant -/

/-- DC bays, IMD and 10BASE-T1S are present (R1, R2). -/
def Variant.dc : Variant → Bool
  | .D4LR | .D4L | .D4N | .D2LR | .D2L | .D1L => true
  | .A4L | .A4N | .A2L | .A2N | .A1L | .A1N => false

/-- Number of bays (R2). -/
def Variant.bays : Variant → Nat
  | .D4LR | .D4L | .D4N | .A4L | .A4N => 4
  | .D2LR | .D2L | .A2L | .A2N => 2
  | .D1L | .A1L | .A1N => 1

/-- The legal domain is active (R1). -/
def Variant.legal : Variant → Bool
  | .D4N | .A4N | .A2N | .A1N => false
  | _ => true

/-- Pairing is enabled (R1). -/
def Variant.pairing : Variant → Bool
  | .D4LR | .D2LR => true
  | _ => false

/-- Package B (R2). -/
def Variant.pkgB : Variant → Bool
  | .D4LR | .D4L | .D4N | .A4L | .A4N => true
  | _ => false

/-- The contactless subsystem is full (R2, R9). -/
def Variant.fullTag : Variant → Bool
  | .D1L | .A1L | .A1N => false
  | _ => true

/-- The variant code of SYS.VARIANT (R5). -/
def Variant.code : Variant → Nat
  | .D4LR => 0x524C3444 | .D4L => 0x204C3444 | .D4N => 0x204E3444 | .A4L => 0x204C3441 | .A4N => 0x204E3441
  | .D2LR => 0x524C3244 | .D2L => 0x204C3244 | .A2L => 0x204C3241 | .A2N => 0x204E3241
  | .D1L => 0x204C3144 | .A1L => 0x204C3141 | .A1N => 0x204E3141

/-- A bay is present (R2, R36). -/
def Dev.hasBay (d : Dev) (n : Bay) : Bool := decide (n.val < d.chip.variant.bays)

/-- The legal domain runs: an L variant whose DEAD fuse is not blown (R6, R14). -/
def Dev.legalPart (d : Dev) : Bool := d.chip.variant.legal && !d.chip.deadFuse

/-! ### Vectors of blocks -/

/-- Change bay `n`'s engine. -/
def Dev.modBay (d : Dev) (n : Bay) (f : BayInt → BayInt) : Dev := { d with bay := d.bay.set n (f d.bay[n]) }
/-- Change bay `n`'s power path. -/
def Dev.modCtc (d : Dev) (n : Bay) (f : CtcInt → CtcInt) : Dev := { d with ctc := d.ctc.set n (f d.ctc[n]) }
/-- Change bay `n`'s RCD. -/
def Dev.modRcd (d : Dev) (n : Bay) (f : RcdInt → RcdInt) : Dev := { d with rcd := d.rcd.set n (f d.rcd[n]) }
/-- Change bay `n`'s IMD. -/
def Dev.modImd (d : Dev) (n : Bay) (f : ImdInt → ImdInt) : Dev := { d with imd := d.imd.set n (f d.imd[n]) }
/-- Change the safety island. -/
def Dev.modSaf (d : Dev) (f : SafInt → SafInt) : Dev := { d with saf := f d.saf }
/-- Change the island's state of bay `n`. -/
def Dev.modSafBay (d : Dev) (n : Bay) (f : SafBay → SafBay) : Dev :=
  d.modSaf fun s => { s with bay := s.bay.set n (f s.bay[n]) }

/-- The bays, in order. -/
def allBays : List Bay := [0, 1, 2, 3]

/-- Apply an effect to every bay, in order. -/
def Dev.forBays (d : Dev) (f : Bay → Dev → Dev) : Dev := f 3 (f 2 (f 1 (f 0 d)))

/-- The meter page of a bay. -/
def Bay.met (n : Bay) : Fin 5 := ⟨n.val, by omega⟩

/-- The bytes of a CAN frame (R173): DLC 9 to 15 are 12 to 64 bytes in an FD frame, 8 in a classical one. -/
def canBytes (fdf : Bool) (dlc : Fin 16) : Nat :=
  if dlc.val ≤ 8 then dlc.val else if fdf then (([12, 16, 20, 24, 32, 48, 64] : List Nat)[dlc.val - 9]?).getD 8 else 8

/-- Clear the bits of a mask. -/
def clearBits (v k : Nat) : Nat := v - (v &&& k)

end Sys2Proof.Machine
end

