-- ==== Sys2Proof/Machine/Flags.lean ====
section
/-!
DEFINITION. The common header's fields (R37), events and interrupts (R38), rejections (R39, R40).
-/
namespace Sys2Proof.Machine

/-! ### Header fields; the argument is the page's offset -/

def Hdr.EN (p : Nat) : Fld := ⟨p + 0x008, 0, 1⟩
def Hdr.DRAIN (p : Nat) : Fld := ⟨p + 0x008, 1, 1⟩
def Hdr.OWNER (p : Nat) : Fld := ⟨p + 0x008, 4, 2⟩
def Hdr.READY (p : Nat) : Fld := ⟨p + 0x00C, 0, 1⟩
def Hdr.BUSY (p : Nat) : Fld := ⟨p + 0x00C, 1, 1⟩
def Hdr.DRAINING (p : Nat) : Fld := ⟨p + 0x00C, 2, 1⟩
def Hdr.FAULT (p : Nat) : Fld := ⟨p + 0x00C, 3, 1⟩
def Hdr.LOCKED (p : Nat) : Fld := ⟨p + 0x00C, 4, 1⟩
def Hdr.EXPERT_OPEN (p : Nat) : Fld := ⟨p + 0x00C, 5, 1⟩
def Hdr.irqEn (p : Nat) : Nat := p + 0x014
def Hdr.irqStat (p : Nat) : Nat := p + 0x018
def Hdr.CODE (p : Nat) : Fld := ⟨p + 0x020, 0, 8⟩
def Hdr.COUNT (p : Nat) : Fld := ⟨p + 0x020, 16, 16⟩
def Hdr.LOOP_DEPTH (p : Nat) : Fld := ⟨p + 0x028, 0, 3⟩
def Hdr.LOOP_ENABLE (p : Nat) : Fld := ⟨p + 0x028, 8, 1⟩
def Hdr.TEST_ID (p : Nat) : Fld := ⟨p + 0x02C, 0, 8⟩
def Hdr.TEST_NOW (p : Nat) : Fld := ⟨p + 0x02C, 8, 1⟩
def Hdr.TEST_QUEUED (p : Nat) : Fld := ⟨p + 0x02C, 16, 1⟩
def Hdr.TEST_RUNNING (p : Nat) : Fld := ⟨p + 0x02C, 17, 1⟩
def Hdr.TEST_PASS (p : Nat) : Fld := ⟨p + 0x02C, 18, 1⟩
def Hdr.TEST_FAIL (p : Nat) : Fld := ⟨p + 0x02C, 19, 1⟩

/-! ### ERRCODE codes (R39) -/

def Err.NONE : Nat := 0x00
def Err.NOT_OWNER : Nat := 0x01
def Err.LOCKED : Nat := 0x02
def Err.EXPERT_CLOSED : Nat := 0x03
def Err.BUSY : Nat := 0x04
def Err.RANGE : Nat := 0x05
def Err.DRAINING : Nat := 0x06
def Err.NOT_FUSED : Nat := 0x07
def Err.SAFETY_DENIED : Nat := 0x08
def Err.LEGAL_DENIED : Nat := 0x09
def Err.ROLE_DENIED : Nat := 0x0A
def Err.SEQUENCE : Nat := 0x0B

/-- Post an event of a page (R38): it reads 1 in IRQ_RAW for this bridge cycle, and sets its IRQ_STAT bit if its
IRQ_EN bit is 1. -/
def Dev.raise (d : Dev) (page ev : Nat) : Dev :=
  let d := { d with raw := (page, ev) :: d.raw }
  if (d.rdN (Hdr.irqEn page)).testBit ev then
    d.wr (Hdr.irqStat page) (d.rd (Hdr.irqStat page) ||| BitVec.ofNat 32 (2 ^ ev))
  else d

/-- Reject a write or a request on a page (R39): store the code, count, post ERR. -/
def Dev.reject (d : Dev) (page code : Nat) : Dev :=
  (((d.set (Hdr.CODE page) code).bump (Hdr.COUNT page)).raise page 31)

/-- The page's block is on: EN = 1 (a fixed page is always on, R36), or its drain runs (R46). -/
def Dev.enabled (d : Dev) (p : PageId) : Bool := p.fixed || d.bit (Hdr.EN p.base) || d.bit (Hdr.DRAINING p.base)

/-- A drain runs, or DRAIN = 1 (R37, R46). -/
def Dev.draining (d : Dev) (p : PageId) : Bool := d.bit (Hdr.DRAINING p.base) || d.bit (Hdr.DRAIN p.base)

/-- The block takes new work: on and not draining. -/
def Dev.takesWork (d : Dev) (p : PageId) : Bool := d.enabled p && !d.draining p

end Sys2Proof.Machine
end

