-- ==== Sys2Proof/Machine/Operands.lean ====
section
/-!
DEFINITION. Who may write which page and area (R4, R11, R21, R41, R44), and the presence of pages in the variants (R36).
-/
namespace Sys2Proof.Machine

/-- A page is fused in and bonded (R2, R4, R36). -/
def Dev.present (d : Dev) : PageId → Bool
  | .MET n => if h : n.val < 4 then d.hasBay ⟨n.val, h⟩ else true
  | .BAY n | .PLC n | .CTC n | .RCD n => d.hasBay n
  | .T1S n | .IMD n => d.hasBay n && d.chip.variant.dc
  | .YL k => decide (k.val < 2) || d.chip.variant.pkgB
  | .PAIR => d.chip.variant.pairing
  | .CAN k | .UART k => decide (k.val < 2) || d.chip.variant.pkgB
  | _ => true

/-- The pages only the legal processor writes (R21, R36). -/
def PageId.legal : PageId → Bool
  | .LGL | .LED | .TTB | .PPY | .LPR | .EPDR => true
  | _ => false

/-- The pages only the safety processor writes (R21). -/
def PageId.safety : PageId → Bool
  | .SAF | .SAFL => true
  | _ => false

/-- The application cores and the DMA engine write as APP (R44). -/
def isApp : Master → Bool
  | .app0 | .app1 | .dma => true
  | _ => false

/-- The OWNER code a master writes as (R44). -/
def ownerCode : Master → Option Nat
  | .app0 | .app1 | .dma => some 0
  | .hif => some 1
  | .saf => some 2
  | .lgl => some 3
  | .vlt | .upd | .ylr | .dbg => none

/-- The master writes as the page's current owner (R44; debug-port writes count as the owner). -/
def Dev.owns (d : Dev) (m : Master) (p : PageId) : Bool :=
  match m with
  | .dbg => true
  | m => ownerCode m == some (d.get (Hdr.OWNER p.base))

/-- Why a write to a page at offset `o` by this master is rejected, if it is (R4, R21, R44; R321: in an N variant the application
writes the legal pages). The header of an absent page takes writes, but for the unlock, loopback and test registers (assumption 143). -/
def Dev.writerError (d : Dev) (m : Master) (p : PageId) (o : Nat) : Option Nat :=
  if !d.present p && (decide (0x40 ≤ o) || o == 0x024 || o == 0x028 || o == 0x02C) then some Err.NOT_FUSED
  else if p.legal then
    if m = .lgl ∨ m = .dbg ∨ (isApp m ∧ !d.legalPart) then none else some Err.LEGAL_DENIED
  else if p.safety then (if m = .saf ∨ m = .dbg then none else some Err.NOT_OWNER)
  else match p with
    | .VLT =>
      if 0x40 ≤ o ∧ o < 0x400 then (if m = .vlt ∨ isApp m ∨ m = .dbg then none else some Err.ROLE_DENIED)
      else if d.owns m .VLT then none else some Err.NOT_OWNER
    | _ => if d.owns m p then none else some Err.NOT_OWNER

/-- The debug areas are open: MANUFACTURE, RETURNED, or FIELD with a debug scope (R41). -/
def Dev.debugOpen (d : Dev) : Bool :=
  match d.chip.lifecycle with
  | .manufacture | .returned => true
  | .field => d.get VLT.LC_DBG_SCOPE != 0
  | _ => false

/-- The area of a page offset is writable (R41). -/
def Dev.areaOpen (d : Dev) (p : PageId) (o : Nat) : Bool :=
  if o < 0x400 then true
  else if o < 0xF00 then d.bit (Hdr.EXPERT_OPEN p.base)
  else d.debugOpen

/-- The device with no unlock sequence open: a write of any master breaks one (R42). -/
def Dev.noKey (d : Dev) : Dev := { d with expKey := none }

/-- A write to a page's register at page offset `o` by `m` that passes the owner and area rules runs `k`; another is
rejected with its code and changes nothing (R40). A write of any master breaks an unlock sequence (R42). -/
def Dev.guard (d : Dev) (m : Master) (p : PageId) (o : Nat) (k : Dev → Dev) : Dev :=
  let d := d.noKey
  match d.writerError m p o with
  | some e => d.reject p.base e
  | none => if d.areaOpen p o then k d else d.reject p.base Err.EXPERT_CLOSED

/-- Why a block takes no new work, if it does not: it drains, or it is off (R37, R46). -/
def Dev.workError (d : Dev) (p : PageId) : Option Nat :=
  if d.draining p then some Err.DRAINING else if !d.enabled p then some Err.SEQUENCE else none

/-- A start that a page's owner writes: rejected by the page rules, by a block that takes no work, or by `e`; else run. -/
def Dev.startWork (d : Dev) (m : Master) (p : PageId) (o : Nat) (e : Dev → Option Nat) (k : Dev → Dev) : Dev :=
  d.guard m p o fun d =>
    match d.workError p with
    | some c => d.reject p.base c
    | none => match e d with
      | some c => d.reject p.base c
      | none => k d

/-- Every field of a word that the table gives a range lies in it (R40 RANGE). -/
def RegRow.rangeOk (r : RegRow) (v : Nat) : Bool :=
  r.range.all fun g => decide (g.2.2.1 ≤ v / 2 ^ g.1 % 2 ^ g.2.1) && decide (v / 2 ^ g.1 % 2 ^ g.2.1 ≤ g.2.2.2)

/-- The bits of a row that hold values and that software may write: RW, RWL, RWE. -/
def RegRow.plain (r : RegRow) : Nat := r.rw ||| r.rwl ||| r.rwe

/-! ### Numbers -/

/-- The value of an IEEE 754 single (SCALE registers); infinities and NaN, which no table admits, as 0. -/
def floatRat (w : Word) : Rat :=
  let n : Nat := w.toNat
  let e : Nat := n / 2 ^ 23 % 256
  let m : Nat := n % 2 ^ 23
  let big : Nat := (2 ^ 23 + m) * 2 ^ (e - 150)
  let man : Nat := 2 ^ 23 + m
  let a : Rat :=
    if e = 255 then 0
    else if e = 0 then (m : Rat) / 2 ^ 149
    else if 150 ≤ e then (big : Rat)
    else (man : Rat) / 2 ^ (150 - e)
  if n.testBit 31 then -a else a

/-- Round to the nearest integer, halves up. -/
def roundRat (q : Rat) : Int := (q + 1 / 2).floor

/-- The bits of the IEEE 754 single nearest to a ratio, ties to even. -/
def floatOf (q : Rat) : Nat :=
  let a : Rat := (if q < 0 then -q else q) * (2 ^ 149 : Nat)
  let shift := Nat.log2 a.floor.toNat - 23
  let b : Rat := a / (2 ^ shift : Nat)
  let m := b.floor.toNat
  let r : Rat := b - (m : Rat)
  let m := if (1 : Rat) / 2 < r ∨ (r = 1 / 2 ∧ m % 2 = 1) then m + 1 else m
  (if q < 0 then 2 ^ 31 else 0) + min 0x7F800000 (shift * 2 ^ 23 + m)

/-- Square root of a ratio that is not negative, in units of 1/`unit`, rounded down. -/
def rootIn (unit : Nat) (q : Rat) : Nat := Nat.sqrt (q * (unit * unit : Nat)).floor.toNat

/-- Mean of the counts of a window. -/
def windowMean (l : List Int) : Rat := ((l.sum : Int) : Rat) / (max 1 l.length : Nat)

/-- Mean square of the counts of a window about a value. -/
def windowSq (l : List Int) (m : Rat) : Rat := (l.map fun (x : Int) => ((x : Rat) - m) * ((x : Rat) - m)).sum / (max 1 l.length : Nat)

end Sys2Proof.Machine
end

