-- ==== Sys2Proof/Machine/Shared.lean ====
section
/-!
DEFINITION. Services every chapter uses: free values, wheel time, the event logs (R272–R274), notices to the host and
mailbox messages.
-/
namespace Sys2Proof.Machine

/-- Take the next free value: a value the spec leaves open (assumption 5). -/
def Dev.free (d : Dev) : Nat × Dev := (Config.freeValue d.fresh, { d with fresh := d.fresh + 1 })

/-- A bundle is open (R485, R500): it holds images and has not failed. -/
def Dev.bundleOpen (d : Dev) : Bool := !d.upd.imgs.isEmpty && d.get UPD.STAT_STATE != 7

/-- The last checkpoint of a reconstruction that stops (R491): its position, a multiple of 64 KB from where it started on, is a
free value. -/
def Dev.ckptTake (d : Dev) : Option (Nat × Nat × Nat) × Dev :=
  match d.upd.recon, d.upd.ckpt with
  | some (i, _), some (b, j, pos) =>
    if i = j then
      let size := ((d.upd.imgs.find? fun x => x.index == i).map fun x => x.img.size).getD 0
      let (v, d) := d.free
      (some (b, j, pos + v % ((size - pos) / 65536 + 1) * 65536), d)
    else (d.upd.ckpt, d)
  | _, c => (c, d)

/-- Round up to a block of 4,096 bytes. -/
def blocksOf (n : Nat) : Nat := (n + 4095) / 4096

/-- MISSING follows the bundle's bitmaps. -/
def Dev.updShow (d : Dev) : Dev :=
  (d.set UPD.MISSING_CNT (d.upd.imgs.map fun i => i.missing.length).sum).setBit UPD.STAT_TBL_HELD (!d.upd.tblOld.isEmpty)

/-- Angle units of one cycle (R51). -/
def cycleAu : Nat := 65536

/-- Wheel time (R52): 64-bit, cycle × 2^16 + angle. -/
def Dev.wheel (d : Dev) : Nat := d.rdN CAR.WT_LO + 2 ^ 32 * d.rdN CAR.WT_HI

/-- Set wheel time. -/
def Dev.setWheel (d : Dev) (t : Nat) : Dev := (d.wrN CAR.WT_LO (t % 2 ^ 32)).wrN CAR.WT_HI (t / 2 ^ 32 % 2 ^ 32)

/-- The carousel is LOCKED (R57). -/
def Dev.locked (d : Dev) : Bool := d.bit CAR.STAT_LOCKED

/-- Round to nearest: n / q, halves up. -/
def roundDiv (n q : Nat) : Nat := (2 * n + q) / (2 * q)

/-- µs to AU at the current grid frequency (R188). -/
def Dev.usToAu (d : Dev) (us : Nat) : Nat := roundDiv (us * d.get CAR.FREQ_FREQ * 65536) 1000000000

/-- The domain numbers of R15. -/
def domainNo : Domain → Nat
  | .app => 0 | .saf => 1 | .lgl => 2 | .vlt => 3

/-- A domain that was reset in hold-up stays off until the next chip reset (R516). -/
def Dev.domainOff (d : Dev) (x : Domain) : Bool := d.pwr.domOff.testBit (domainNo x)

/-- Flags byte of a log entry (R272): FW while the wheel runs free or the last capture carried FW (R62), CI. -/
def Dev.logFlags (d : Dev) : Nat :=
  let fw := !d.locked || d.led.caps.head?.any fun c => c.2.2
  (if fw then 1 else 0) + (if d.rtc.ci then 2 else 0)

/-- Pad or cut a list of bytes to a length. -/
def padTo (n : Nat) (l : List Byte) : List Byte := (l ++ List.replicate (n - l.length) 0).take n

/-- The number a list of bytes spells, most significant first. -/
def ofBe (l : List Byte) : Nat := l.foldl (fun n b => n * 256 + b.toNat) 0

/-- Seal a list of bytes with its CRC-32. -/
def withCrc (l : List Byte) : List Byte := l ++ leBytes 4 (crc32 l)

/-- Address of the general event log's ring slot of a SEQ (R26; slot SEQ mod 4,096, assumption 17). -/
def glogAddr (seq : Nat) : Nat := 0x30010000 + 32 * (seq % 4096)

/-- Address of the legal event log's ring slot of a SEQ (R26; slot SEQ mod 1,024, assumption 17). -/
def llogAddr (seq : Nat) : Nat := 0x30030000 + 128 * (seq % 1024)

/-- The head common to both entry formats (R272). -/
def Dev.logHead (d : Dev) (seq src code bay : Nat) : List Byte :=
  leBytes 4 seq ++ leBytes 4 d.rtc.sec ++ leBytes 2 d.rtc.ms ++ leBytes 1 d.logFlags ++ leBytes 1 src ++
    leBytes 2 code ++ leBytes 1 bay ++ leBytes 1 0

/-- Remove the first element that satisfies a test. -/
def dropFirst {α : Type} (p : α → Bool) : List α → List α
  | [] => []
  | x :: l => if p x then l else x :: dropFirst p l

/-- Answer a request: the answer takes the next number of its role session, none in role 0 (R474), and the request no longer
waits (R475). On the RMII link it goes back to where the request came from (R471). -/
def Dev.toHost (d : Dev) (m : HostMsg) : Dev :=
  let mine := fun (r : RoleSess) => r.role == m.role && r.link == m.link && m.role != 0
  let seq := match d.roles.find? mine with
    | some r => r.txSeq + 1
    | none => 0
  let roles := d.roles.map fun r => if mine r then { r with txSeq := seq } else r
  let this := fun (r : HifReq) => r.link == m.link && r.typ == m.typ && r.tag == m.tag
  let peer := m.peer.or ((d.hif.rx.find? this).bind (·.peer))
  let rx := dropFirst this d.hif.rx
  { d with hostOut := d.hostOut ++ [{ m with seq := seq, peer := peer }], roles := roles, hif := { d.hif with rx := rx } }

/-- Commit a mailbox message. -/
def Dev.mail (d : Dev) (m : MboxMsg) : Dev := { d with mbox := d.mbox ++ [m] }

/-- Send a notice on every link that has carried a request, or on SPI while there is none (R471). -/
def Dev.notice (d : Dev) (typ : Nat) (body : List Nat) : Dev :=
  { d with hostOut := d.hostOut ++ (if d.links.isEmpty then [.spi] else d.links).map fun l =>
      { link := l, typ := typ, notify := true, body := body } }

/-- LEDGER_NOTIFY of a buffer that gained an entry (R257): OBIS A, B, C, D, E, F, attribute 2, sequence number. -/
def Dev.ledNotify (d : Dev) (o : Obis) (attr seq : Nat) : Dev :=
  d.notice 0x0204 [o.a, o.b, o.c, o.d, o.e, o.f, attr, seq]

/-- Write an entry of the general event log: source domain, code, bay (0xFF none), data (R272, R273). -/
def Dev.glog (d : Dev) (src : Domain) (code bay : Nat) (data : List Byte) : Dev :=
  let seq := d.log.glogSeq + 1
  let d := { d with log := { d.log with glogSeq := seq } }
  (d.wrBytes (glogAddr seq) (withCrc (d.logHead seq (domainNo src) code bay ++ padTo 12 data))).raise LED.page LED.ev_GLOG
    |>.ledNotify { a := 0, b := 0, c := 99, d := 98, e := 0 } 2 seq

/-- 1,024 legal entries are unacknowledged (R273). -/
def Dev.llogFull (d : Dev) : Bool := decide (1024 ≤ d.log.llogSeq - d.log.llogAck)

/-- Write an entry of the legal event log, or count it lost while the log is full (R272, R273). -/
def Dev.llog (d : Dev) (role code bay : Nat) (data : List Byte) : Dev :=
  if d.llogFull then { d with log := { d.log with llogLost := satInc 0xFFFF d.log.llogLost } }
  else
    let seq := d.log.llogSeq + 1
    let d := { d with log := { d.log with llogSeq := seq } }
    let e := d.logHead seq role code bay ++ leBytes 4 (d.rdN CAR.BND_SEQ) ++ leBytes 4 d.log.sealCnt ++ padTo 100 data
    let d := (d.wrBytes (llogAddr seq) (withCrc e)).raise LED.page LED.ev_LLOG
    let d := d.ledNotify { a := 0, b := 0, c := 99, d := 98, e := 1 } 2 seq
    if d.llogFull then d.raise LED.page LED.ev_LLOG_FULL else d


end Sys2Proof.Machine
end

