-- ==== Sys2Proof/Machine/Lsw.lean ====
section
/-!
DEFINITION. The protected load switches (ch. 17): channel states (R401), what drives and denies an output (R396, R398),
inrush windows and retries (R400), the dissipation budget (R402), the two command ports (R404, R405), hall monitors
(R407–R409) and the fail-safe record (R410).
-/
namespace Sys2Proof.Machine

open Sys2Proof

/-- Channel states (R401). -/
def Lsw.OFF : Nat := 0
def Lsw.ON : Nat := 1
def Lsw.LIMIT : Nat := 2
def Lsw.COOL : Nat := 3
def Lsw.LATCHED : Nat := 4
def Lsw.EXHAUSTED : Nat := 5
def Lsw.GATED : Nat := 6
def Lsw.SHED : Nat := 7

/-- Channels present (R3, R414): all in package B, 0–3 and 6–9 in package C. -/
def Dev.lswPresent (d : Dev) : Nat := if d.chip.variant.pkgB then 0xFFF else 0x3CF

/-- Change a channel's hidden state. -/
def Dev.modLsw (d : Dev) (c : Fin 12) (f : LswCh → LswCh) : Dev :=
  { d with lsw := { d.lsw with ch := d.lsw.ch.set c (f d.lsw.ch[c]) } }

/-- State of a channel. -/
def Dev.lswState (d : Dev) (c : Fin 12) : Nat := d.get (LSW.CH_STAT_STATE c.val)

/-- Enter a state; OUT_STATE follows (the output is on in ON and LIMIT). -/
def Dev.lswEnter (d : Dev) (c : Fin 12) (st : Nat) : Dev :=
  (d.set (LSW.CH_STAT_STATE c.val) st).setFlag LSW.OUT_STATE_OUT c.val (st == Lsw.ON || st == Lsw.LIMIT)

/-- Show the counts of the window in CHn_STAT (four bits each). -/
def Dev.lswShowCounts (d : Dev) (c : Fin 12) : Dev :=
  (d.set (LSW.CH_STAT_RETRIES c.val) (satAt 15 d.lsw.ch[c].retries)).set (LSW.CH_STAT_THERM c.val)
    (satAt 15 d.lsw.ch[c].therm)

/-- Open a new inrush window with the RETRY values of now, and with fresh counts unless they carry over (R400). -/
def Dev.lswOpenWindow (d : Dev) (c : Fin 12) : Dev :=
  (d.modLsw c fun x =>
    { x with win := true, carry := false, retries := if x.carry then x.retries else 0, therm := if x.carry then x.therm else 0,
             retryN := d.get LSW.RETRY_RETRY_N, thermMax := d.get LSW.RETRY_THERM_MAX }).lswShowCounts c

/-- Close the window; CHn_STAT keeps showing the counts of the last window. From COOL they are kept for one window length, within which a
switch-on goes on counting from them (R401; assumption 180). -/
def Dev.lswCloseWindow (d : Dev) (c : Fin 12) : Dev :=
  let cool := d.lswState c == Lsw.COOL
  d.modLsw c fun x => { x with win := false, carry := cool }

/-- The source, or the fail-safe state ON, enables the output (R396, R398 point 1, R409). -/
def Dev.lswWanted (d : Dev) (c : Fin 12) : Bool :=
  if d.bit (LSW.CH_STAT_FAILSAFE c.val) then d.bit (LSW.CH_CFG_FS c.val)
  else match d.get (LSW.CH_CFG_SRC c.val) with
    | 0 => d.flag LSW.CMD_STATE_CMD c.val
    | 1 => d.lsw.ch[c].din
    | _ => d.flag LSW.CMD_STATE_CMD c.val && d.lsw.ch[c].din

/-- The block drives outputs: EN = 1, or the drain holds the channel at a fail-safe ON state (R398 point 5, R47). -/
def Dev.lswDriven (d : Dev) (c : Fin 12) : Bool :=
  d.lswPresent.testBit c.val && !d.lsw.allOff &&
    (d.bit (Hdr.EN LSW.page) || (d.bit (LSW.CH_STAT_FAILSAFE c.val) && d.bit (LSW.CH_CFG_FS c.val)))

/-- Switch a channel on: a window opens unless one is open (R400). -/
def Dev.lswOn (d : Dev) (c : Fin 12) : Dev :=
  (if d.lsw.ch[c].win then d else d.lswOpenWindow c).lswEnter c Lsw.ON

/-- Apply the rows of R401 that need no event: denials, source on and off. -/
def Dev.lswEval (d : Dev) (c : Fin 12) : Dev :=
  let st := d.lswState c
  let gated := d.bit (LSW.CH_STAT_GATED c.val)
  let shed := d.bit (LSW.CH_STAT_SHED c.val)
  let want := d.lswWanted c && d.lswDriven c
  if st = Lsw.LATCHED then d
  else if gated then
    if st = Lsw.GATED then d else ((d.lswCloseWindow c).lswEnter c Lsw.GATED).raise LSW.page LSW.ev_GATED
  else if shed then
    if st = Lsw.SHED then d else ((d.lswCloseWindow c).lswEnter c Lsw.SHED).raise LSW.page LSW.ev_SHED
  else if st = Lsw.OFF ∨ st = Lsw.GATED ∨ st = Lsw.SHED then
    if want then
      if d.lsw.ch[c].waitCool ∧ 1550 ≤ signed 12 (d.get (LSW.CH_MEAS_T c.val)) then d.lswEnter c Lsw.COOL
      else (d.modLsw c fun x => { x with waitCool := false }).lswOn c
    else d.lswEnter c Lsw.OFF
  else if st = Lsw.EXHAUSTED then d
  else if want then d
  else (d.lswCloseWindow c).lswEnter c Lsw.OFF

/-- The channel numbers in a mask. -/
def lswChans : List (Fin 12) := [0, 1, 2, 3, 4, 5, 6, 7, 8, 9, 10, 11]

/-- Apply an effect to every channel of a mask, in ascending order. -/
def Dev.forLsw (d : Dev) (mask : Nat) (f : Fin 12 → Dev → Dev) : Dev :=
  lswChans.foldl (fun d c => if mask.testBit c.val then f c d else d) d

/-- The safety island's gate of the load switches changes to a mask (R411). -/
def Dev.lswGate (d : Dev) (mask : Nat) : Dev :=
  d.forLsw 0xFFF fun c d => (d.setBit (LSW.CH_STAT_GATED c.val) (mask.testBit c.val)).lswEval c

/-- The shed level changes (R411): levels 1–4 shed the channels at or below them. -/
def Dev.lswShed (d : Dev) (level : Nat) : Dev :=
  d.forLsw 0xFFF fun c d =>
    let l := d.get (LSW.CH_CFG_SHED_LVL c.val)
    (d.setBit (LSW.CH_STAT_SHED c.val) (decide (1 ≤ l ∧ l ≤ level))).lswEval c

/-- Every channel off (R47 FORCE, hold-up step 5). -/
def Dev.lswAllOff (d : Dev) : Dev :=
  ({ d with lsw := { d.lsw with allOff := true } }).forLsw 0xFFF fun c d =>
    if d.lswState c = Lsw.LATCHED then d else (d.lswCloseWindow c).lswEnter c Lsw.OFF

/-- The channels go to their fail-safe states (R47 drain). -/
def Dev.lswFailSafe (d : Dev) (mask : Nat) : Dev :=
  d.forLsw mask fun c d => (d.setBit (LSW.CH_STAT_FAILSAFE c.val) true).lswEval c

/-- A retry or thermal count has been added: what the trip or cut leads to (R400, R401). -/
def Dev.lswTripped (d : Dev) (c : Fin 12) : Dev :=
  let x := d.lsw.ch[c]
  if x.thermMax < x.therm then (d.lswEnter c Lsw.LATCHED).raise LSW.page LSW.ev_LATCH
  else if x.retryN < x.retries then
    (((d.lswEnter c Lsw.EXHAUSTED).setFlag LSW.CMD_STATE_CMD c.val false).lswCloseWindow c).raise LSW.page LSW.ev_RETRY_OUT
  else d.lswEnter c Lsw.COOL

/-- Count a trip (thermal) or a cut (not thermal); outside any window it is the first of the window that opens when the channel restarts
(R400). -/
def Dev.lswCount (d : Dev) (c : Fin 12) (thermal : Bool) : Dev :=
  let d := if d.lsw.ch[c].win then d else (d.lswOpenWindow c).modLsw c fun x => { x with win := false, carry := true }
  (d.modLsw c fun x =>
    { x with retries := x.retries + 1, therm := x.therm + (if thermal then 1 else 0), cut := !thermal }).lswShowCounts c

/-! ### Port 0 -/

/-- Why a command of a port on a mask of channels is rejected, if it is (R404, R412; R401 for ON of a latched one). -/
def Dev.lswPortError (d : Dev) (port mask : Nat) (on : Bool) : Option Nat :=
  if mask &&& d.lswPresent ≠ mask then some Err.NOT_FUSED
  else if d.draining .LSW then some Err.DRAINING
  else if !d.bit (Hdr.EN LSW.page) then some Err.SEQUENCE
  else if lswChans.any (fun c => mask.testBit c.val && d.get (LSW.CH_CFG_PORT c.val) != port) then some Err.NOT_OWNER
  else if on && lswChans.any (fun c => mask.testBit c.val && d.lswState c == Lsw.LATCHED) then some Err.SEQUENCE
  else none

/-- Command channels on or off (R404): the fail-safe state ends, an exhausted channel takes a new ON (R409, R401). -/
def Dev.lswCommand (d : Dev) (mask : Nat) (on : Bool) : Dev :=
  d.forLsw mask fun c d =>
    let d := (d.setFlag LSW.CMD_STATE_CMD c.val on).setBit (LSW.CH_STAT_FAILSAFE c.val) false
    let d := if on && d.lswState c == Lsw.EXHAUSTED then d.lswEnter c Lsw.OFF else d
    d.lswEval c

/-- Clear latches (R414): LATCHED to OFF, counts cleared, commanded state OFF until a new ON (R401). -/
def Dev.lswLatchClear (d : Dev) (mask : Nat) : Dev :=
  d.forLsw mask fun c d =>
    if d.lswState c = Lsw.LATCHED then
      (((((d.modLsw c fun x => { x with retries := 0, therm := 0, win := false, waitCool := true }).lswShowCounts c).setFlag
        LSW.CMD_STATE_CMD c.val false).lswEnter c Lsw.OFF).lswEval c)
    else d

/-- A hall monitor restarts (R407). -/
def Dev.hmRestart (d : Dev) (port : Nat) : Dev :=
  d.setBit (if port = 0 then LSW.HM_STAT_EXP_INT else LSW.HM_STAT_EXP_EXT) false

/-- CMD_ON, CMD_OFF (R404): the page owner's command on port 0. -/
def Dev.lswCmd0 (d : Dev) (m : Master) (mask : Nat) (on : Bool) : Dev :=
  d.guard m .LSW (if on then 0x040 else 0x044) fun d =>
    match d.lswPortError 0 mask on with
    | some e => d.reject LSW.page e
    | none => (d.lswCommand mask on).hmRestart 0

/-- CMD_ON (R404). -/
def execCmdOn (m : Master) (mask : BitVec 12) (s : State) : Out := s.on fun d => d.lswCmd0 m mask.toNat true

/-- CMD_OFF (R404). -/
def execCmdOff (m : Master) (mask : BitVec 12) (s : State) : Out := s.on fun d => d.lswCmd0 m mask.toNat false

/-- LATCH_CLR (R414): port 0 clears the latches of its own channels. -/
def execLatchClr (m : Master) (mask : BitVec 12) (s : State) : Out :=
  s.on fun d => d.guard m .LSW 0x144 fun d =>
    match d.lswPortError 0 mask.toNat false with
    | some e => d.reject LSW.page e
    | none => d.lswLatchClear mask.toNat

/-- HM_KICK (R407): port 0's monitor restarts. -/
def execHmKick (m : Master) (s : State) : Out :=
  s.on fun d => d.guard m .LSW 0x14C fun d => d.hmRestart 0

/-! ### Port 1: SPI frames (R405) -/

/-- One bit of the CRC-8 with polynomial 0x1D. -/
def crc8Bit (c : Nat) : Nat := if 128 ≤ c then ((2 * c) % 256) ^^^ 0x1D else 2 * c

/-- One byte of the CRC-8. -/
def crc8Byte (c b : Nat) : Nat := crc8Bit (crc8Bit (crc8Bit (crc8Bit (crc8Bit (crc8Bit (crc8Bit (crc8Bit (c ^^^ b))))))))

/-- CRC-8 of bits [31:8] of a frame, initial value 0xFF (R405). -/
def crc8Of (hi24 : Nat) : Nat :=
  crc8Byte (crc8Byte (crc8Byte 0xFF (hi24 / 65536 % 256)) (hi24 / 256 % 256)) (hi24 % 256)

/-- DATA and ARG of a frame. -/
def spiData (f : Word) : Nat := f.toNat / 256 % 65536
def spiArg (f : Word) : Nat := f.toNat / 2 ^ 24 % 16

/-- Latch the response to a frame: command, code (0: no error) and data. -/
def Dev.spiAnswer (d : Dev) (cmd code data : Nat) : Dev :=
  let hi := cmd * 2 ^ 20 + (if code = 0 then 0 else 2 ^ 19) + code * 2 ^ 16 + data % 65536
  { d with lsw := { d.lsw with spiResp := BitVec.ofNat 32 (hi * 256 + crc8Of hi) } }

/-- The SPI code of an ERRCODE code (R405); a channel that is not bonded answers RANGE. -/
def spiCode (e : Nat) : Nat :=
  if e = Err.NOT_OWNER then 1 else if e = Err.SEQUENCE then 4 else if e = Err.DRAINING then 5 else 3

/-- CMD of a frame. -/
def spiCmd (f : Word) : Nat := f.toNat / 2 ^ 28

/-- A frame's CRC-8 is right (R405). -/
def spiCrcOk (f : Word) : Bool := f.toNat % 256 == crc8Of (f.toNat / 256)

/-- A frame of wrong CRC or length (R405): discarded and counted; it feeds no monitor; the next response carries CRC. -/
def Dev.spiBad (d : Dev) : Dev := (d.bump LSW.SPI_STAT_CRC_ERR).spiAnswer 0 2 0

/-- Reject a frame: ERR and its code in the next response, ERRCODE on the page. -/
def Dev.spiReject (d : Dev) (cmd e : Nat) : Dev := (d.reject LSW.page e).spiAnswer cmd (spiCode e) 0

/-- NOP (R405): the output states. -/
def Dev.spiNop (d : Dev) : Dev := d.spiAnswer 0 0 (d.get LSW.OUT_STATE_OUT)

/-- SET_ON and SET_OFF (R405). -/
def Dev.spiSet (d : Dev) (frame : Word) (on : Bool) : Dev :=
  let cmd := if on then 1 else 2
  let mask := spiData frame % 4096
  match d.lswPortError 1 mask on with
  | some e => d.spiReject cmd e
  | none => let d := d.lswCommand mask on; d.spiAnswer cmd 0 (d.get LSW.CMD_STATE_CMD)

/-- READ_STAT (R405): CHn_STAT[15:0]; there are twelve channels. -/
def Dev.spiStat (d : Dev) (frame : Word) : Dev :=
  if 12 ≤ spiArg frame then d.spiReject 3 Err.RANGE else d.spiAnswer 3 0 (d.rdN (LSW.CH_STAT (spiArg frame)) % 65536)

/-- READ_CUR (R405): the channel's current in mA. -/
def Dev.spiCur (d : Dev) (frame : Word) : Dev :=
  if 12 ≤ spiArg frame then d.spiReject 4 Err.RANGE else d.spiAnswer 4 0 (d.get (LSW.CH_MEAS_I (spiArg frame)))

/-- The channels still latched. -/
def Dev.lswLatched (d : Dev) : Nat :=
  lswChans.foldl (fun n c => if d.lswState c = Lsw.LATCHED then n + 2 ^ c.val else n) 0

/-- LATCH_CLR of port 1 (R405). -/
def Dev.spiLatch (d : Dev) (frame : Word) : Dev :=
  let mask := spiData frame % 4096
  match d.lswPortError 1 mask false with
  | some e => d.spiReject 5 e
  | none => let d := d.lswLatchClear mask; d.spiAnswer 5 0 d.lswLatched

/-- What a good frame's CMD asks (R405). -/
def Dev.spiDo (d : Dev) (frame : Word) : Dev :=
  match spiCmd frame with
  | 0 => d.spiNop
  | 1 => d.spiSet frame true
  | 2 => d.spiSet frame false
  | 3 => d.spiStat frame
  | 4 => d.spiCur frame
  | 5 => d.spiLatch frame
  | c => d.spiReject c Err.RANGE

/-- The closed loop's echo (R413): depth 1 the frame, depth 2 the frame with the CRC generated. -/
def Dev.spiEcho (d : Dev) (frame : Word) : Dev :=
  let hi := frame.toNat / 256
  let f := if d.get (Hdr.LOOP_DEPTH LSW.page) = 2 then BitVec.ofNat 32 (hi * 256 + crc8Of hi) else frame
  { d with lsw := { d.lsw with spiResp := f } }

/-- A frame of 32 bits on the external port: echoed in a loop; discarded with a wrong CRC; else counted, it feeds port 1's hall monitor
(R407), and its CMD is done. -/
def Dev.spiFrame (d : Dev) (frame : Word) : Dev :=
  if d.bit (Hdr.LOOP_ENABLE LSW.page) then d.spiEcho frame
  else if !spiCrcOk frame then d.spiBad
  else ((d.bump LSW.SPI_STAT_FRAMES).hmRestart 1).spiDo frame

/-- NOP (R405). -/
def execNop (frame : Word) (s : State) : Out := s.on fun d => d.spiFrame frame

/-- SET_ON (R405). -/
def execSetOn (frame : Word) (s : State) : Out := s.on fun d => d.spiFrame frame

/-- SET_OFF (R405). -/
def execSetOff (frame : Word) (s : State) : Out := s.on fun d => d.spiFrame frame

/-- READ_STAT (R405). -/
def execReadStat (frame : Word) (s : State) : Out := s.on fun d => d.spiFrame frame

/-- READ_CUR (R405). -/
def execReadCur (frame : Word) (s : State) : Out := s.on fun d => d.spiFrame frame

/-- SPI LATCH_CLR (R405). -/
def execSpiLatchClr (frame : Word) (s : State) : Out := s.on fun d => d.spiFrame frame

/-- SPI_FRAME_ERROR (R405): a frame of another length; in a loop the port answers nothing else (R413). -/
def execSpiFrameError (s : State) : Out := s.on fun d => if d.bit (Hdr.LOOP_ENABLE LSW.page) then d else d.spiBad

/-! ### Channel events -/

/-- DINn changes (R396). -/
def execDinInputChange (c : Fin 12) (level : Bool) (s : State) : Out :=
  s.on fun d => (d.modLsw c fun x => { x with din := level }).lswEval c

/-- The current reaches the limit (R399): ON to LIMIT. -/
def execLswCurrentLimit (c : Fin 12) (ma : BitVec 16) (s : State) : Out :=
  s.on fun d =>
    if d.lswState c = Lsw.ON then
      ((d.set (LSW.CH_MEAS_I c.val) ma.toNat).lswEnter c Lsw.LIMIT).raise LSW.page LSW.ev_OVERCUR
    else d

/-- The current has stayed below the limit for 1 ms (R401): LIMIT to ON. -/
def execLimitRecover (c : Fin 12) (ma : BitVec 16) (s : State) : Out :=
  s.on fun d =>
    if d.lswState c = Lsw.LIMIT then (d.set (LSW.CH_MEAS_I c.val) ma.toNat).lswEnter c Lsw.ON else d

/-- A channel sensor reaches 175 °C (R399, R400). -/
def execThermalTrip (c : Fin 12) (s : State) : Out :=
  s.on fun d =>
    if d.lswState c = Lsw.ON ∨ d.lswState c = Lsw.LIMIT then
      (((d.set (LSW.CH_MEAS_T c.val) 1750).lswCount c true).lswTripped c).raise LSW.page LSW.ev_THERM
    else d

/-- RETRY_GAP has passed in COOL and the sensor reads `dC` (0.1 °C): the channel restarts if R400 lets it. -/
def execLswRestart (c : Fin 12) (dC : BitVec 12) (s : State) : Out :=
  s.on fun d =>
    let d := d.set (LSW.CH_MEAS_T c.val) dC.toNat
    let x := d.lsw.ch[c]
    if d.lswState c = Lsw.COOL ∧ d.lswWanted c ∧ d.lswDriven c ∧ signed 12 dC.toNat < 1550 ∧ x.retries ≤ x.retryN ∧
        (x.cut → (d.get LSW.BUDGET_P + x.cutMw) * 10 ≤ 9 * d.get LSW.BUDGET_CFG_LIMIT) then
      (d.modLsw c fun x => { x with cut := false, waitCool := false }).lswOn c
    else d

/-- The channel to cut (R402): in LIMIT the highest dissipation; else in ON by ascending SHED_LVL, 0 last, the highest
channel number first within a level. Among equal dissipations in LIMIT the highest channel (assumption 19). -/
def Dev.lswVictim (d : Dev) (mw : Vector Nat 12) : Option (Fin 12) :=
  let lim := lswChans.filter fun c => d.lswState c == Lsw.LIMIT
  let on := lswChans.filter fun c => d.lswState c == Lsw.ON
  let rank := fun c : Fin 12 => let l := d.get (LSW.CH_CFG_SHED_LVL c.val); if l = 0 then 8 else l
  match lim with
  | c :: cs => some (cs.foldl (fun b x => if mw[b] ≤ mw[x] then x else b) c)
  | [] => match on with
    | c :: cs => some (cs.foldl (fun b x => if rank x ≤ rank b then x else b) c)
    | [] => none

/-- A channel's estimate in mW (R402): in ON I² × RDS(on), in LIMIT (VLS − V_OUT) × I. -/
def Dev.lswMw (d : Dev) (c : Fin 12) (m : ChMeas) : Nat :=
  if d.lswState c = Lsw.ON then m.ma.toNat ^ 2 * Config.rdsOn c.val m.dC.toInt / 10 ^ 9
  else if d.lswState c = Lsw.LIMIT then m.dropMv.toNat * m.ma.toNat / 1000
  else 0

/-- CHn_MEAS shows what was measured. -/
def Dev.lswMeasure (d : Dev) (meas : Vector ChMeas 12) : Dev :=
  d.forLsw d.lswPresent fun c d => (d.set (LSW.CH_MEAS_I c.val) meas[c].ma.toNat).set (LSW.CH_MEAS_T c.val) meas[c].dC.toNat

/-- One channel is cut (R402). -/
def Dev.lswCut (d : Dev) (mw : Vector Nat 12) (c : Fin 12) : Dev :=
  let d : Dev := { d with lsw := { d.lsw with overMs := 0, cutLeft := 100 } }
  (((d.lswCount c false).modLsw c fun x => { x with cutMw := mw[c] }).lswTripped c |>.setBit LSW.BUDGET_CUTTING true).raise
    LSW.page LSW.ev_BUDGET

/-- BUDGET_CUT (R402): the thermal manager's estimate of one millisecond, from each channel's measurement; in the tenth that runs above
LIMIT it cuts one channel. -/
def execBudgetCut (meas : Vector ChMeas 12) (s : State) : Out :=
  s.on fun d =>
    let mw := Vector.ofFn fun c : Fin 12 => d.lswMw c meas[c]
    let sum := mw.toList.sum
    let d := (d.lswMeasure meas).set LSW.BUDGET_P (satAt 4095 sum)
    let above := if sum ≤ d.get LSW.BUDGET_CFG_LIMIT then 0 else d.lsw.overMs + 1
    let d : Dev := { d with lsw := { d.lsw with overMs := above, cutLeft := d.lsw.cutLeft - 1 } }
    let d := d.setBit LSW.BUDGET_CUTTING (d.lsw.cutLeft != 0)
    if above < 10 then d
    else match d.lswVictim mw with
      | none => d
      | some c => d.lswCut mw c

/-- A channel's inrush window ends (R400), or the window length for which the counts of a channel switched off in COOL are kept (R401). -/
def execInrushWindowEnd (c : Fin 12) (s : State) : Out :=
  s.on fun d =>
    let x := d.lsw.ch[c]
    if x.win then d.modLsw c fun x => { x with win := false }
    else if x.carry && d.lswState c != Lsw.COOL then
      (d.modLsw c fun x => { x with carry := false, retries := 0, therm := 0 }).lswShowCounts c
    else d

/-- The open-load threshold in the on state in mA (R394). -/
def openLoadMa (c : Fin 12) : Nat := if c.val < 6 then 20 else 5

/-- OPEN_LOAD_DETECT (R403): the check of the channel's state senses an open load, or its absence. -/
def execOpenLoadDetect (c : Fin 12) (sense : OlSense) (s : State) : Out :=
  s.on fun d =>
    let on := d.lswState c == Lsw.ON || d.lswState c == Lsw.LIMIT
    let off := d.lswState c == Lsw.OFF && d.get (LSW.CH_CFG_SRC c.val) != 1
    let en := d.bit (LSW.CH_CFG_OL_EN c.val) && d.lswPresent.testBit c.val
    let (f, runs, present) := match sense with
      | .onState ma => (LSW.CH_STAT_OL_ON c.val, en && on, decide (ma.toNat < openLoadMa c))
      | .offState mv => (LSW.CH_STAT_OL_OFF c.val, en && off, decide (2000 < mv.toNat))
    if !present then d.setBit f false
    else if runs && !d.bit f then (d.setBit f true).raise LSW.page LSW.ev_OPEN_LOAD
    else d

/-- A running hall monitor's timeout passes (R407–R409); one that has expired runs again from its next restart: GUARD channels of its port go to their fail-safe state. -/
def execHallMonitorExpiry (port : Fin 2) (s : State) : Out :=
  s.on fun d =>
    let en := if port = 0 then LSW.HM_CFG_EN_INT else LSW.HM_CFG_EN_EXT
    let ex := if port = 0 then LSW.HM_STAT_EXP_INT else LSW.HM_STAT_EXP_EXT
    let cnt := if port = 0 then LSW.HM_STAT_CNT_INT else LSW.HM_STAT_CNT_EXT
    if d.bit en && d.takesWork .LSW && !d.bit ex then
      let d := ((d.setBit ex true).bump cnt).raise LSW.page LSW.ev_HM_EXPIRED
      d.forLsw 0xFFF fun c d =>
        if d.get (LSW.CH_CFG_PORT c.val) = port.val ∧ d.bit (LSW.CH_CFG_CLASS c.val) then
          (d.setBit (LSW.CH_STAT_FAILSAFE c.val) true).lswEval c
        else d
    else d

/-! ### Fail-safe record (R410) -/

/-- FS_STORE.STORE: a store of CHn_CFG and HM_CFG begins. -/
def execFsStore (m : Master) (s : State) : Out :=
  s.on fun d => d.guard m .LSW 0x158 fun d =>
    if d.bit LSW.FS_STORE_BUSY then d.reject LSW.page Err.BUSY
    else (d.setBit LSW.FS_STORE_BUSY true).setBit LSW.FS_STORE_DONE false

/-- The store completes: the record holds the current values. -/
def execFsStoreDone (s : State) : Out :=
  s.on fun d =>
    if d.bit LSW.FS_STORE_BUSY then
      let d := { d with lsw := { d.lsw with recCfg := Vector.ofFn fun c : Fin 12 => d.rdN (LSW.CH_CFG c.val),
                                            recHm := d.rdN LSW.HM_CFG } }
      (d.setBit LSW.FS_STORE_BUSY false).setBit LSW.FS_STORE_DONE true
    else d

/-- Load the fail-safe record into CHn_CFG and HM_CFG (chip reset, R410). -/
def Dev.lswLoadRecord (d : Dev) : Dev :=
  (lswChans.foldl (fun d c => d.wrN (LSW.CH_CFG c.val) d.lsw.recCfg[c]) d).wrN LSW.HM_CFG d.lsw.recHm

end Sys2Proof.Machine
end

