-- ==== Sys2Proof/Machine/PairCore.lean ====
section
/-!
DEFINITION. What the other chapters report to PAIR: results on the report card (R459) and the causes of a resign
(R461, R462).
-/
namespace Sys2Proof.Machine

open Sys2Proof

/-- Unit states (R450). -/
def Pr.DISABLED : Nat := 0
def Pr.START : Nat := 1
def Pr.LISTEN : Nat := 2
def Pr.SYNC : Nat := 3
def Pr.PARALLEL : Nat := 4
def Pr.STANDBY : Nat := 5
def Pr.ACTIVE : Nat := 6
def Pr.OUT : Nat := 7

/-- State of the unit. -/
def Dev.pairState (d : Dev) : Nat := d.get PAIR.STAT_STATE

/-- No item of the own report card reads FAIL. -/
def Dev.cardClean (d : Dev) : Bool := (List.range 16).all fun k => d.get (PAIR.CARD_RESULT k) != 2

/-- STAT.ELIGIBLE of the own unit (R460): in STANDBY with a clean card and no SAF or VLT step in trial (R498). The active shows its peer's. -/
def Dev.eligShow (d : Dev) : Dev :=
  let trial := d.upd.trial == some 1 || d.upd.trial == some 2
  if d.pairState = Pr.ACTIVE then d
  else d.setBit PAIR.STAT_ELIGIBLE (d.pairState == Pr.STANDBY && d.cardClean && !trial)

/-- Enter a unit state. -/
def Dev.pairEnter (d : Dev) (st : Nat) : Dev :=
  if d.pairState = st then d else (((d.set PAIR.STAT_STATE st).raise PAIR.page PAIR.ev_STATE).setBit PAIR.STAT_ELIGIBLE
    false).eligShow

/-- Every running unit logs a token change (R464): reason, peer unit, bays with a session, wheel time. -/
def Dev.pairLog (d : Dev) (reason : Nat) : Dev :=
  let bays := ([0, 1, 2, 3] : List Bay).foldl (fun (a : Nat) n => if d.bit (BAY.STATE_SESSION n) then a + 2 ^ n.val else a) 0
  d.llog 0 0x010F 0xFF (leBytes 1 reason ++ leBytes 1 (if d.bit PAIR.STAT_UNIT then 0 else 1) ++ leBytes 1 bays ++ leBytes 1 0 ++
    leBytes 8 d.wheel)

/-! ### Sending on the fabric (R426–R431) -/

/-- Class of a packet type (R428). -/
def typeClass (typ : Nat) : Fin 4 :=
  if 0x80 ≤ typ then 3 else if 0x30 ≤ typ then 0 else if 0x20 ≤ typ then 2 else 1

/-- Take the next value of a class's send counter; its high part is stored every 2^20 packets (R431). -/
def Dev.sendNext (d : Dev) (c : Fin 4) : Nat × Dev :=
  let n := d.ylr.sendCnt[c]
  let d : Dev := { d with ylr := { d.ylr with sendCnt := d.ylr.sendCnt.set c (n + 1) } }
  (n, if (n + 1) % 2 ^ 20 = 0 then { d with ylr := { d.ylr with sendMram := d.ylr.sendMram.set c ((n + 1) / 2 ^ 20) } } else d)

/-- A second of a pair: not the token holder (R353). -/
def Dev.isStandby (d : Dev) : Bool := d.present .PAIR && d.pairState != Pr.DISABLED && !d.bit PAIR.STAT_TOKEN

/-- The port's loop is closed: nothing of it reaches the link (R522). -/
def Dev.portLooped (d : Dev) (p : Nat) : Bool := if h : p < 3 then d.bit (Hdr.LOOP_ENABLE (YL.page ⟨p, h⟩)) else false

/-- Put messages on the links of the ports whose loop is open. -/
def Dev.linkPut (d : Dev) (l : List LinkMsg) : Dev :=
  { d with linkOut := d.linkOut ++ l.filter fun m => !d.portLooped m.port }

/-- Send a message on one port. -/
def Dev.link (d : Dev) (m : LinkMsg) : Dev :=
  let (n, d) := d.sendNext (typeClass m.typ)
  d.linkPut [{ m with seq := n }]

/-- YL0 is the pair link (R438). -/
def Dev.pairLink (d : Dev) : Bool := d.present .PAIR && d.enabled .PAIR

/-- The ports. -/
def ylPorts : List (Fin 3) := [0, 1, 2]

/-- The ports a flooded packet goes out on: in LINK_UP, the pair link apart (R430, R438). -/
def Dev.floodPorts (d : Dev) : List (Fin 3) := ylPorts.filter fun p => d.bit (YL.STAT_LINK_UP p) && !(p == 0 && d.pairLink)

/-- A broadcast of the unit's own is noted: it goes on no second time when it comes back (R430). -/
def Dev.floodNote (d : Dev) (n : Nat) : Dev :=
  { d with ylr := { d.ylr with seen := (d.get YLR.STAT_ADDR, n % 2 ^ 32) :: d.ylr.seen } }

/-- Flood a message: one packet, a copy on every port (R430). -/
def Dev.flood (d : Dev) (typ : Nat) (body : List Nat) : Dev :=
  let (n, d) := d.sendNext (typeClass typ)
  (d.floodNote n).linkPut (d.floodPorts.map fun p => { port := p.val, typ := typ, dst := 255, seq := n, body := body })

/-- The ringmaster floods SYNC at angle 0 of every cycle (R439): wheel time, FW, hop count 0. -/
def Dev.syncSend (d : Dev) : Dev :=
  if d.enabled .YLR && d.bit YLR.STAT_RINGMASTER then d.flood 0x10 [d.wheel, if d.locked then 0 else 1, 0] else d

/-- The slot in YLR.KEY holds a usable FABRIC_MAC key: STAT.KEY_OK (R431, R432). -/
def Dev.keyOk (d : Dev) : Bool :=
  let k := d.get YLR.KEY_SLOT
  d.bit YLR.KEY_VALID && !(d.rdN VLT.SLOT_BAD).testBit k &&
    (if h : k < 32 then (match d.vlt.slots[k] with | some s => s.use == .blob 0x04 | none => false) else false)

/-- Send a pair message on YL0 (R452): class 0, which needs the key (R432, R449). -/
def Dev.pairSend (d : Dev) (typ : Nat) (body : List Nat) : Dev :=
  if d.keyOk then d.link { port := 0, typ := typ, body := body } else d

/-- The active resigns (R461): the token drops, RESIGN is sent, the unit is OUT. -/
def Dev.pairResign (d : Dev) (cause : Nat) : Dev :=
  if d.pairState = Pr.ACTIVE then
    let item := if 0x10 ≤ cause ∧ cause < 0x20 then cause - 0x10 else 0xFF
    let d := (((d.setBit PAIR.STAT_TOKEN false).set PAIR.RESIGN_CAUSE cause).bump PAIR.RESIGN_COUNT).setBit PAIR.STAT_DEFER
      false
    let d := { d with pair := { d.pair with deferCause := none, handover := false, swapIn := none, tokenNext := false } }
    (((d.pairSend 0x31 [cause, item]).raise PAIR.page PAIR.ev_RESIGN).pairEnter Pr.OUT).pairLog cause
  else d

/-- The resign code of an immediate card item (R459, R461). -/
def immediateCause (item : Nat) : Option Nat :=
  match item with
  | 0 => some 0x01 | 1 => some 0x02 | 2 => some 0x03 | 3 => some 0x04 | 4 => some 0x04
  | _ => none

/-- The first FAIL among items 6–15 of the own card, as a cause of R461. -/
def Dev.deferItem (d : Dev) : Option Nat :=
  ((List.range 10).find? fun k => d.get (PAIR.CARD_RESULT (k + 6)) == 2).map fun k => 0x16 + k

/-- DEFER follows the card (R462): a cause stands while its item fails, another takes its place; a new one needs an eligible peer. -/
def Dev.deferShow (d : Dev) : Dev :=
  let stands := match d.pair.deferCause with
    | some c => d.get (PAIR.CARD_RESULT (c - 0x10)) == 2
    | none => false
  if stands then d
  else
    let c := if d.pair.deferCause.isSome || (d.pairState == Pr.ACTIVE && d.bit PAIR.STAT_ELIGIBLE) then d.deferItem else none
    let sec := if d.pair.deferCause.isSome then d.pair.deferSec else 0
    ({ d with pair := { d.pair with deferCause := c, deferSec := sec } }).setBit PAIR.STAT_DEFER c.isSome

/-- A result for an item of the own report card (R459): 1 pass, 2 fail; what a FAIL does on the active. -/
def Dev.card (d : Dev) (item result : Nat) : Dev :=
  if !d.present .PAIR then d
  else
    let d := ((d.wrN (PAIR.CARD item) result).raise PAIR.page PAIR.ev_CARD).eligShow
    match (if result = 2 ∧ d.pairState = Pr.ACTIVE then immediateCause item else none) with
    | some c => d.pairResign c
    | none => d.deferShow

/-- A monitor of the own card: FAIL as it fails, pass as it passes (R459). -/
def Dev.cardOf (d : Dev) (item : Nat) (fail pass : Bool) : Dev :=
  let r := d.get (PAIR.CARD_RESULT item)
  if fail then (if r = 2 then d else d.card item 2) else if pass && r != 1 then d.card item 1 else d

/-- An interval boundary as PARALLEL counts it (R450, R465): the first complete P1 interval that begins after SYNC. -/
def Dev.pairBoundary (d : Dev) (p1End : Bool) : Dev :=
  if d.pairState = Pr.PARALLEL ∧ p1End then
    if d.pair.counting then ({ d with pair := { d.pair with counting := false } }).pairEnter Pr.STANDBY
    else { d with pair := { d.pair with counting := true } }
  else d

end Sys2Proof.Machine
end

