-- ==== Sys2Proof/Machine/BayCore.lean ====
section
/-!
DEFINITION. What the bay engine, the power path, the earth-fault blocks and the safety island do to each other: events
and requests of a bay (R142–R146), the drive of its contactor (R182, R187–R200), its permit (R218, R222–R229), the
safety functions (R230), the trip outputs (R241) and the safety net (R237–R240).
-/
namespace Sys2Proof.Machine

open Sys2Proof

/-! ### Bay events (R142) -/

def Ev.CP_A : Nat := 0
def Ev.CP_INVALID : Nat := 46
def Ev.DIODE_FAIL : Nat := 6
def Ev.PP_CHANGE : Nat := 7
def Ev.PP_INVALID : Nat := 8
def Ev.TIMER0 : Nat := 9
def Ev.HLC_STOP : Nat := 22
def Ev.CT_CLOSED : Nat := 24
def Ev.CT_OPENED : Nat := 25
def Ev.CT_FAIL : Nat := 26
def Ev.RCD_TEST_OK : Nat := 27
def Ev.RCD_TEST_FAIL : Nat := 28
def Ev.IMD_OK : Nat := 29
def Ev.IMD_FAIL : Nat := 30
def Ev.START_DENIED : Nat := 33
def Ev.LIMIT_LOW : Nat := 34
def Ev.LIMIT_OK : Nat := 35
def Ev.APP_LOST : Nat := 43
def Ev.PAIR_TAKEOVER : Nat := 45

/-- CP events: 0–5 and 46. -/
def isCpEvent (e : Nat) : Bool := e ≤ 5 || e == 46

/-- Put a number into a rising list without repeats. -/
def insertRising (x : Nat) : List Nat → List Nat
  | [] => [x]
  | y :: l => if x < y then x :: y :: l else if x = y then y :: l else y :: insertRising x l

/-- A session is open on the bay. -/
def Dev.inSession (d : Dev) (n : Bay) : Bool := d.bit (BAY.STATE_SESSION n)

/-- The bay is idle (STATE.IDLE). -/
def Dev.bayIdle (d : Dev) (n : Bay) : Bool := d.bit (BAY.STATE_IDLE n)

/-- The carousel tick that runs. -/
def Dev.tickNo (d : Dev) : Nat := d.wheel / 1024

/-- Put a number into a rising list, behind its equals. -/
def insertSorted (x : Nat) : List Nat → List Nat
  | [] => [x]
  | y :: l => if x < y then x :: y :: l else y :: insertSorted x l

/-- How many entries at the end of a bay's queue came in the tick that runs. -/
def BayInt.tailNow (b : BayInt) (tick : Nat) : Nat := if b.tail.1 = tick then min b.tail.2 b.queue.length else 0

/-- Queue an event, in ascending number among those of the same tick (R143). -/
def BayInt.enqueue (b : BayInt) (tick e : Nat) : BayInt :=
  let k := b.queue.length - b.tailNow tick
  { b with queue := b.queue.take k ++ insertSorted e (b.queue.drop k), tail := (tick, b.tailNow tick + 1) }

/-- A CP event replaces the one that is queued (R143), in its place unless both came in the same tick. -/
def BayInt.replaceCp (b : BayInt) (tick e : Nat) : BayInt :=
  let k := b.queue.length - b.tailNow tick
  if (b.queue.drop k).any isCpEvent then
    ({ b with queue := b.queue.filter fun x => !isCpEvent x, tail := (tick, b.tailNow tick - 1) } : BayInt).enqueue tick e
  else { b with queue := b.queue.map fun x => if isCpEvent x then e else x }

/-- Pending events enter the queue in ascending number while it has room (R143). -/
def BayInt.fill (b : BayInt) : BayInt :=
  let k := 16 - b.queue.length
  if k = 0 ∨ b.pendMap.isEmpty then b
  else { b with queue := b.queue ++ b.pendMap.take k, pendMap := b.pendMap.drop k, tail := (0, 0) }

/-- Events leave a bay's queue and pending map. -/
def BayInt.without (b : BayInt) (tick : Nat) (p : Nat → Bool) : BayInt :=
  let k := b.queue.length - b.tailNow tick
  let t := (b.queue.drop k).filter fun e => !p e
  ({ b with queue := (b.queue.take k).filter (fun e => !p e) ++ t, pendMap := b.pendMap.filter fun e => !p e,
            tail := (tick, t.length) } : BayInt).fill

/-- Post an event into a bay's queue (R143). A bay engine that runs no table takes none; a pair standby's does not run
(R152). -/
def Dev.bayPost (d : Dev) (n : Bay) (e : Nat) : Dev :=
  let b := d.bay[n]
  if !b.live || d.isStandby then d
  else if isCpEvent e && b.queue.any isCpEvent then d.modBay n fun b => b.replaceCp d.tickNo e
  else if b.queue.length < 16 then d.modBay n fun b => b.enqueue d.tickNo e
  else if b.pendMap.contains e then (d.bump (BAY.EVT_STAT_MERGED n)).raise (BAY.page n) BAY.ev_MERGED
  else d.modBay n fun b => { b with pendMap := insertRising e b.pendMap }

/-- Queue a request to the application (R140, R153). -/
def Dev.bayReq (d : Dev) (n : Bay) (code arg : Nat) : Dev :=
  (d.modBay n fun b => { b with reqs := b.reqs ++ [(code, arg)] }).raise (BAY.page n) BAY.ev_REQ

/-- The request queue is full: primitives that need a place wait (R153). -/
def Dev.reqFull (d : Dev) (n : Bay) : Bool := decide (16 ≤ d.bay[n].reqs.length)

/-- The stop event of a STOPSRC bit (R146). -/
def stopEvent : Nat → Option Nat
  | 0 => some 36 | 2 => some 37 | 3 => some 38 | 4 => some 39 | 5 => some 40 | 6 => some 41 | 7 => some 42
  | _ => none

/-- The lowest set bit among the first ten of a mask: the highest precedence (R146). -/
def lowestBit (mask : Nat) : Option Nat := (List.range 10).find? fun i => mask.testBit i

/-- No stop of precedence `i` or higher is being handled on the bay (R146). -/
def Dev.stopBelow (d : Dev) (n : Bay) (i : Nat) : Bool :=
  match d.bay[n].stopHeld with
  | none => true
  | some h => decide (i < h)

/-- Handle a stop of STOPSRC bit `i`: its event, if it has one, is posted; that of a lower precedence, posted in the same tick and not
yet handled, gives way to it (R146). -/
def Dev.stopPost (d : Dev) (n : Bay) (i : Nat) : Dev :=
  let t := d.tickNo
  let d := d.modBay n fun b => match b.stopTick with
    | some (t', j) => if t' = t then b.without t fun e => stopEvent j == some e else b
    | none => b
  let d := (d.modBay n fun b => { b with stopHeld := some i, stopTick := some (t, i) }).raise (BAY.page n) BAY.ev_STOP
  match stopEvent i with
  | some e => d.bayPost n e
  | none => d

/-- Stop requests of one tick on a bay with a session (R146): each sets its bit; the event of the highest precedence is
posted if no stop of the same or a higher precedence is being handled. -/
def Dev.stopRequest (d : Dev) (n : Bay) (mask : Nat) : Dev :=
  if !d.inSession n then d
  else
    let d := d.set (BAY.STOPSRC_SRC n) (d.get (BAY.STOPSRC_SRC n) ||| mask)
    match lowestBit mask with
    | none => d
    | some i => if d.stopBelow n i then d.stopPost n i else d

/-! ### Sound slots of a modem (R158, R159) -/

/-- Change modem `n`. -/
def Dev.modPlc (d : Dev) (n : Bay) (f : PlcInt → PlcInt) : Dev := { d with plc := d.plc.set n (f d.plc[n]) }

/-- A sound slot of a modem becomes invalid (R159). -/
def Dev.soundDrop (d : Dev) (n : Bay) (k : Fin 4) : Dev :=
  let d := d.modPlc n fun p => { p with slots := p.slots.set k none }
  (d.setBit (PLC.SND_STAT_VALID n k) false).set (PLC.SND_STAT_RESULT n k) 0

/-- The four slots. -/
def fourSlots : List (Fin 4) := [0, 1, 2, 3]

/-- Every sound slot of a modem becomes invalid. -/
def Dev.soundsDrop (d : Dev) (n : Bay) : Dev := fourSlots.foldl (fun d k => d.soundDrop n k) d

/-- The modem of an idle bay powers down (R176). -/
def Dev.plcShed1 (d : Dev) (n : Bay) : Dev :=
  if d.enabled (.PLC n) && d.bayIdle n && !d.bit (PLC.STAT_SHED n) then
    ((d.setBit (PLC.STAT_SHED n) true).setBit (PLC.STAT_AFE_ON n) false).raise (PLC.page n) PLC.ev_SHED
  else d

/-- Shed level L1 or a deeper one stands: the modem of an idle bay powers down (R176). -/
def Dev.plcLevel (d : Dev) (n : Bay) : Dev := if 1 ≤ d.get PWR.STAT_LEVEL then d.plcShed1 n else d

/-- STATE.IDLE of a bay: as it becomes 1 the modem's sound slots become invalid (R159), and the modem powers down where a shed
level stands (R176). -/
def Dev.idleSet (d : Dev) (n : Bay) (b : Bool) : Dev :=
  let d := if b && !d.bayIdle n then d.soundsDrop n else d
  let d := d.setBit (BAY.STATE_IDLE n) b
  if b then d.plcLevel n else d

/-! ### Control pilot output (R128) -/

/-- Set the CP mode: 1 X1, 2 X2, 3 NEG; it takes effect at the next PWM period (R128). In hold-up the pilot is held in X1, and a bay
engine that is off leaves its output as it is (R151). -/
def Dev.cpMode (d : Dev) (n : Bay) (m : Nat) : Dev :=
  if !d.enabled (.BAY n) then d
  else d.modBay n fun b => { b with pendMode := some (if d.bit PWR.STAT_HOLDUP then 1 else m) }

/-! ### Seats of the bay hardware (R65–R70) -/

/-- Seat `k` is armed. -/
def Dev.seatArmed (d : Dev) (k : Nat) : Bool := (d.rdN (CAR.SEAT_ACT (k / 32))).testBit (k % 32)

/-- Set or clear a bit of a seat bitmap pair. -/
def Dev.seatBit (d : Dev) (r : Nat → Nat) (k : Nat) (b : Bool) : Dev :=
  d.wrN (r (k / 32)) (setBitN (d.rdN (r (k / 32))) (k % 32) b)

/-- 2 µs in AU at the current frequency, rounded up (R69). -/
def Dev.au2us (d : Dev) : Nat := (2 * d.get CAR.FREQ_FREQ * 65536 + 999999999) / 1000000000

/-- Write a seat's words: fire instant in wheel time, action, instance, series (R66). -/
def Dev.seatWords (d : Dev) (k fire action inst every : Nat) : Dev :=
  ((d.wrN (CAR.SEAT_CTL k) (fire % 65536 + inst % 256 * 65536 + action % 64 * 2 ^ 24)).wrN
    (CAR.SEAT_START k) (fire / 65536 % 2 ^ 32)).wrN (CAR.SEAT_SCHED k)
      (fire / 2 ^ 48 % 65536 + every % 65536 * 65536)

/-- The hardware of a bay arms one of its seats (R65, R69): true if the seat is armed, false if it is late. -/
def Dev.hwSeat (d : Dev) (k fire action inst every : Nat) : Bool × Dev :=
  let d := d.seatWords k fire action inst every
  if every = 0 ∧ fire < d.wheel + d.au2us then
    (false, (d.seatBit CAR.SEAT_LATE k true).raise CAR.page CAR.ev_LATE)
  else
    let t := d.wheel + d.au2us
    let d := { d with car := { d.car with seatMin := if h : k < 64 then d.car.seatMin.set k t else d.car.seatMin } }
    (true, d.seatBit CAR.SEAT_ACT k true)

/-- Disarm a seat. -/
def Dev.seatCancel (d : Dev) (k : Nat) : Dev := d.seatBit CAR.SEAT_ACT k false

/-- Disarm the pole and precharge seats of a bay. -/
def Dev.ctcSeatsOff (d : Dev) (n : Bay) : Dev :=
  (((d.seatCancel (8 * n.val)).seatCancel (8 * n.val + 1)).seatCancel (8 * n.val + 2)).seatCancel (8 * n.val + 3)

/-! ### Power path drive (R182–R200) -/

/-- Power-path states (R203). -/
def Ct.OPEN : Nat := 0
def Ct.PRECHARGE : Nat := 1
def Ct.CLOSING : Nat := 2
def Ct.CLOSED : Nat := 3
def Ct.OPEN_WAIT : Nat := 4
def Ct.OPENING : Nat := 5
def Ct.WELD : Nat := 6

/-- State of a bay's power path. -/
def Dev.ctState (d : Dev) (n : Bay) : Nat := d.get (CTC.STATE_ST n)

/-- DC power path. -/
def Dev.ctDc (d : Dev) (n : Bay) : Bool := d.get (CTC.CFG_MODE n) == 2

/-- Enabled poles: CFG.POLES, pole A alone in DC (R203). -/
def Dev.ctPoles (d : Dev) (n : Bay) : Nat := if d.ctDc n then 1 else d.get (CTC.CFG_POLES n)

/-- Enter a state. CT_PRE of an AC bay with CFG.AUX = 1 follows CLOSING and CLOSED (R183). -/
def Dev.ctEnter (d : Dev) (n : Bay) (st : Nat) : Dev :=
  let d := d.set (CTC.STATE_ST n) st
  if !d.ctDc n && d.bit (CTC.CFG_AUX n) then d.setBit (CTC.STATE_PRE n) (st == Ct.CLOSING || st == Ct.CLOSED) else d

/-- Mark the operation untimed, in AC modes (R195). -/
def Dev.ctUntimed (d : Dev) (n : Bay) : Dev :=
  if d.ctDc n then d
  else ((d.setBit (CTC.STAT_UNTIMED n) true).bump (CTC.CNT_A_UNTIMED n)).raise (CTC.page n) CTC.ev_UNTIMED

/-- Set the coil drive of a bay's poles; the economiser ends with the drive (R183). -/
def Dev.ctDrive (d : Dev) (n : Bay) (drv : Nat) : Dev :=
  let d := d.modCtc n fun c => { c with drv := drv }
  if drv = 0 then d.setBit (CTC.STATE_ECO n) false else d

/-- Every output of a bay's power path goes low (R182). -/
def Dev.ctLow (d : Dev) (n : Bay) : Dev := (d.ctDrive n 0).setBit (CTC.STATE_PRE n) false

/-- Release the coils of some poles; an opening begins (R200). -/
def Dev.ctRelease (d : Dev) (n : Bay) (poles : Nat) : Dev :=
  let start := d.ctState n != Ct.OPENING
  let d := if start then (d.modCtc n fun c => { c with broke := 0, obs := [none, none, none] }) else d
  let d := (d.ctDrive n (d.ctc[n].drv &&& (7 ^^^ poles))).modCtc n fun c =>
    { c with fired := false, atTick := .none, fwWait := false, openPend := false }
  d.ctEnter n Ct.OPENING

/-- An opening that does not wait: gate, hold-up's end (R182, R187, R200). Every output goes low at once, in any state; what still
was driven opens untimed (R195). -/
def Dev.ctCut (d : Dev) (n : Bay) : Dev :=
  let st := d.ctState n
  if st = Ct.OPEN ∨ st = Ct.WELD then d.ctLow n
  else if st = Ct.OPENING then
    if d.ctc[n].drv = 0 then d.ctLow n
    else (((d.ctcSeatsOff n).modCtc n fun c => { c with timed := false }).ctLow n).ctUntimed n
  else
    ((((d.ctcSeatsOff n).modCtc n fun c => { c with timed := false, cmd := true }).ctRelease n 7).ctLow n).ctUntimed n

/-- Refuse or fail a CLOSE (R186): cause, code, CT_FAIL to the bay engine. -/
def Dev.ctFail (d : Dev) (n : Bay) (cause : Nat) : Dev :=
  ((d.set (CTC.FAIL_CAUSE n) cause).raise (CTC.page n) CTC.ev_FAIL).bayPost n Ev.CT_FAIL

/-! ### Permits and safety functions (R218–R230) -/

/-- Earth-fault conditions of the permit (R218); a standing RCD discrepancy outside a session is a latched fault of
the bay (R210). -/
def Dev.earthOk (d : Dev) (n : Bay) : Bool :=
  let rcd := d.bit (Hdr.EN (RCD.page n))
  let dc := d.bit (BAY.CFG_DC n)
  let r := d.rcd[n]
  let rcdOk := !d.bit (RCD.STAT_TRIP n) && !d.bit (RCD.STAT_EXC_FAULT n) && !r.testFault && r.lastPass &&
    !(d.saf.bay[n].lfault.testBit 2) && d.rdN (RCD.SCALE_A n) != 0 && d.rdN (RCD.SCALE_B n) != 0
  (!rcd || rcdOk) && (dc || rcd) &&
    (!dc || (d.bit (IMD.STAT_RUNNING n) && d.bit (IMD.STAT_VALID n) && !d.bit (IMD.STAT_FAULT n)))

/-- No safety function of the bay is active or latched (R224). -/
def Dev.sfClear (d : Dev) (n : Bay) : Bool := d.get (SAF.SF_BAY_ACT n.val) == 0 && d.get (SAF.SF_BAY_LATCH n.val) == 0

/-- What both channels ask for a permit (R224). -/
def Dev.permitBase (d : Dev) (n : Bay) : Bool :=
  d.hasBay n && d.sfClear n && d.earthOk n && !d.bit (RCD.STAT_TEST_RUN n)

/-- Channel modes (R225). -/
def Dev.chMode (d : Dev) : Nat := d.get SAF.MODE_CHMODE

/-- The processor channel's permit for a bay would be granted. -/
def Dev.procOk (d : Dev) (n : Bay) : Bool :=
  d.permitBase n && !d.saf.bay[n].ocg && !d.saf.bay[n].ownProc && decide (d.chMode ≤ 3)

/-- The hard-logic channel's permit for a bay would be granted. -/
def Dev.hlOk (d : Dev) (n : Bay) : Bool :=
  d.permitBase n && !d.saf.bay[n].hlWeld && !d.saf.bay[n].hlOcg && !d.saf.bay[n].ownHl && (d.chMode == 0 || d.chMode == 4)

/-- The effective permit of a bay from the two channel permits and the mode (R222, R225, R229). -/
def effOf (mode : Nat) (proc hl : Bool) : Bool :=
  if mode = 0 then proc && hl else if mode ≤ 3 then proc else if mode = 4 then hl else false

/-- One bay's permits follow their conditions: withdrawn at once, granted only at a channel heartbeat (`grant`, R223). A
withdrawal cuts the bay's outputs, and raises PERMIT_LOST where its power path is not OPEN (R146, R182). -/
def Dev.permitBay (grant : Bool) (n : Bay) (d : Dev) : Dev :=
  let was := d.flag SAF.PERMIT_EFF n.val
  let proc := d.procOk n && (grant || d.flag SAF.PERMIT_PROC n.val)
  let hl := d.hlOk n && (grant || d.flag SAF.PERMIT_HL n.val)
  let eff := effOf d.chMode proc hl
  let d := (((d.setFlag SAF.PERMIT_PROC n.val proc).setFlag SAF.PERMIT_HL n.val hl).setFlag SAF.PERMIT_EFF n.val eff).setFlag
    SAFL.HL_STAT_PERMIT n.val hl
  let d := d.setBit (CTC.STAT_PERMIT n) eff
  let d := if was == eff then d else d.raise SAF.page SAF.ev_PERMIT
  if !was || eff then d else if d.ctState n = Ct.OPEN then d.ctCut n else (d.stopRequest n 1).ctCut n

/-- An emergency-stop input is safe, whatever bays it names (R230, R249). -/
def Dev.stopInput (d : Dev) : Bool := (List.range 8).any fun k =>
  d.bit (SAF.SI_CFG_EN k) && d.get (SAF.SI_CFG_FUNC k) == 1 && d.flag SAF.SI_STAT_SAFE k

/-- Every safety function active or latched on a bay present, as bits SF1–SF7. -/
def Dev.sfAll (d : Dev) : Nat :=
  (allBays.filter d.hasBay).foldl (fun m n => m ||| d.get (SAF.SF_BAY_ACT n.val) ||| d.get (SAF.SF_BAY_LATCH n.val))
    (if d.stopInput then 1 else 0)

/-- A trigger cause of the waveform capture is enabled (R98, R102). -/
def Dev.wavEnabled (d : Dev) (cause : Nat) : Bool :=
  if cause < 4 then d.flag WAV.TRIG_IN_EN cause
  else if cause = 4 then true
  else if cause = 5 then d.bit WAV.TRIG_LVL_EN
  else d.bit WAV.TRIG_SAF_EN

/-- A trigger (R98): the first after ARM; of several on one record the lowest cause. -/
def Dev.wavTrig (d : Dev) (cause : Nat) : Dev :=
  if !d.bit WAV.STAT_ARMED || !d.wavEnabled cause then d
  else if d.bit WAV.STAT_TRIGGERED then
    (if d.rdN WAV.REC_CNT = d.rdN WAV.TRIG_IDX ∧ cause < d.get WAV.STAT_CAUSE then d.set WAV.STAT_CAUSE cause else d)
  else
    let t := d.wheel
    let d := ((d.wrN WAV.TRIG_WT_LO t).wrN WAV.TRIG_WT_HI (t / 2 ^ 32)).wrN WAV.TRIG_IDX (d.rdN WAV.REC_CNT)
    let d : Dev := { d with wav := { d.wav with left := d.get WAV.POST_POST } }
    ((d.setBit WAV.STAT_TRIGGERED true).set WAV.STAT_CAUSE cause).raise WAV.page WAV.ev_TRIGGERED

/-- The trip outputs follow their causes (R241, R229): asserted while a function of the mask is active, while the pulse
runs, and while latched; on a pair standby both stay low (R242). An output newly asserted is a safety trip to WAV
(R98, assumption 152). -/
def Dev.tripUpdate (d : Dev) : Dev :=
  let sf := d.sfAll
  let act := !d.isStandby
  let cl := act && (sf &&& d.get SAF.TRIP_CFG_MASK_L) != 0
  let cp := act && ((sf &&& d.get SAF.TRIP_CFG_MASK_P) != 0 || d.chMode == 5)
  let lat := d.bit SAF.TRIP_CFG_LATCH
  let newL := cl && !d.bit SAF.TRIP_STAT_TRIP_L
  let newP := cp && !d.bit SAF.TRIP_STAT_TRIP_P
  let d := d.modSaf fun s => { s with pulseL := s.pulseL || newL, pulseP := s.pulseP || newP,
                                      heldL := s.heldL || (newL && lat), heldP := s.heldP || (newP && lat) }
  let d := (d.setBit SAF.TRIP_STAT_TRIP_L (cl || act && (d.saf.pulseL || lat && d.saf.heldL))).setBit SAF.TRIP_STAT_TRIP_P
    (cp || act && (d.saf.pulseP || lat && d.saf.heldP))
  if newL || newP then (d.raise SAF.page SAF.ev_TRIP).wavTrig 6 else d

/-- An input feeds an active map slot of the bay (R85). -/
def Dev.feedsBay (d : Dev) (n : Bay) (src : Nat) : Bool :=
  (List.range 16).any fun s => d.bit (MPL.MAP_EN (16 * n.val + s)) && d.get (MPL.MAP_SRC (16 * n.val + s)) == src

/-- A shadow mismatch stands on an input of the bay (R226, R240). -/
def Dev.shadowFault (d : Dev) (n : Bay) : Bool :=
  (List.range 24).any fun i => d.saf.shadowBad.testBit i && d.feedsBay n i

/-- A latched safety fault stands on a bay: a latched function, a cause of R240, or a discrepancy or cross-short of an SF1
or SF7 input of the bay (R234, R235). -/
def Dev.latchedFault (d : Dev) (n : Bay) : Bool :=
  d.saf.bay[n].lfault != 0 || (!d.inSession n && d.shadowFault n) || d.get (SAF.SF_BAY_LATCH n.val) != 0 || (List.range 8).any fun k =>
    (d.get (SAF.SI_CFG_FUNC k) == 1 || d.get (SAF.SI_CFG_FUNC k) == 2) && d.flag (SAF.SI_CFG_BAYMASK k) n.val &&
      (d.flag SAF.SI_STAT_DISC_FAULT k || d.flag SAF.SI_STAT_XSHORT k)

/-- SAFE_OK (R242). -/
def Dev.safeOkUpdate (d : Dev) : Dev :=
  let latched := allBays.any fun n => d.hasBay n && d.latchedFault n
  d.setBit SAF.TRIP_STAT_SAFE_OK (d.chMode == 0 && !d.bit SAF.TRIP_STAT_TRIP_L && !d.bit SAF.TRIP_STAT_TRIP_P && !latched)

/-- The load switches the island cuts: LSW_GATE.CH while an SF1 is active or no channel serves (R249). -/
def Dev.gateUpdate (d : Dev) : Dev :=
  let sf1 := allBays.any fun n => d.hasBay n && (d.get (SAF.SF_BAY_ACT n.val)).testBit 0
  let m := if sf1 || d.stopInput || d.chMode == 5 then d.get SAF.LSW_GATE_CH else 0
  if m = d.saf.gateMask then d else (d.modSaf fun s => { s with gateMask := m }).lswGate m

/-- The island evaluates its functions, outputs and permits. -/
def Dev.safEval (d : Dev) (grant : Bool := false) : Dev :=
  ((d.tripUpdate).forBays (Dev.permitBay grant)).safeOkUpdate.gateUpdate

/-- Safety functions, as bit numbers of ACT and LATCH (R230). -/
def Sf.STOP : Nat := 0
def Sf.RCD : Nat := 1
def Sf.IMD : Nat := 2
def Sf.WELD : Nat := 3
def Sf.TEMP : Nat := 4
def Sf.CP : Nat := 5
def Sf.LOCK : Nat := 6

/-- A safety function of a bay becomes active; SF2, SF3 and SF4 latch (R230). -/
def Dev.sfRaise (d : Dev) (n : Bay) (k : Nat) : Dev :=
  let d := d.setFlag (SAF.SF_BAY_ACT n.val) k true
  let d := if k = Sf.RCD ∨ k = Sf.IMD ∨ k = Sf.WELD then d.setFlag (SAF.SF_BAY_LATCH n.val) k true else d
  d.safEval

/-- A safety function of a bay ends, its latch with it. -/
def Dev.sfDrop (d : Dev) (n : Bay) (k : Nat) : Dev :=
  ((d.setFlag (SAF.SF_BAY_ACT n.val) k false).setFlag (SAF.SF_BAY_LATCH n.val) k false).safEval

/-! ### The safety net (R237–R240) -/

/-- Net causes as bits of CAUSE: [17] to [23] of SNET_STATn. -/
def Net.PROC : Nat := 0
def Net.HL : Nat := 1
def Net.RCD : Nat := 2
def Net.DCRED : Nat := 3
def Net.METRO : Nat := 4
def Net.APP : Nat := 5
def Net.PAIR : Nat := 6

/-- The net limit of a bay (R238). -/
def Dev.netLimit (d : Dev) (n : Bay) : Nat × Nat :=
  if d.bit (BAY.CFG_DC n) then
    let pct := d.get SAF.SNET_CFG_DC_PCT
    let part := fun x => if x = 0xFFFF then x else x * pct / 100
    (part (d.get (BAY.LIM_EFF_I n)), part (d.get (BAY.LIM_EFF_P n)))
  else (min (d.get SAF.SNET_CFG_I_AC) (d.get (BAY.LIM_I n 0) / 2), 0xFFFF)

/-- Write LIM_SAFETY (R135 index 2). -/
def Dev.limSafety (d : Dev) (n : Bay) (l : Nat × Nat) : Dev := d.wrN (BAY.LIM n 2) (l.1 + l.2 * 65536)

/-- A net cause arises on a bay (R237–R240). -/
def Dev.netCause (d : Dev) (n : Bay) (c : Nat) : Dev :=
  if !d.hasBay n then d
  else if !d.inSession n then
    if c = Net.APP ∨ c = Net.PAIR then d
    else d.modSafBay n fun b => { b with lfault := b.lfault ||| 2 ^ c }
  else if d.bit (SAF.SNET_STAT_ACTIVE n.val) then d.setFlag (SAF.SNET_STAT_CAUSE n.val) c true
  else if d.bit (SAF.SNET_STAT_USED n.val) then d.stopRequest n (2 ^ 6)
  else
    let t := d.get SAF.SNET_TIME_TIME
    let d := d.limSafety n (d.netLimit n)
    let d := d.modSafBay n fun b => { b with netMs := t * 1000 }
    let d := ((d.set (SAF.SNET_STAT_REMAIN n.val) t).setBit (SAF.SNET_STAT_ACTIVE n.val) true).setBit
      (SAF.SNET_STAT_USED n.val) true
    ((d.setFlag (SAF.SNET_STAT_CAUSE n.val) c true).bump SAF.SNET_CNT_ENTRIES).raise SAF.page SAF.ev_SNET_ENTER

/-- SNET_RESUME (R238): the resumable causes clear; with none left the net ends. -/
def Dev.netResume (d : Dev) (n : Bay) : Dev :=
  if d.bit (SAF.SNET_STAT_ACTIVE n.val) then
    let d := (d.setFlag (SAF.SNET_STAT_CAUSE n.val) Net.APP false).setFlag (SAF.SNET_STAT_CAUSE n.val) Net.PAIR false
    if d.get (SAF.SNET_STAT_CAUSE n.val) = 0 then
      (((d.setBit (SAF.SNET_STAT_ACTIVE n.val) false).set (SAF.SNET_STAT_REMAIN n.val) 0).modSafBay n fun b =>
        { b with netMs := 0 }).limSafety n (0xFFFF, 0xFFFF)
    else d
  else d

/-- The causes whose condition lasts at the end of a session stay as latched faults (R240). -/
def Dev.netLasting (d : Dev) (n : Bay) : Nat :=
  (if d.chMode = 4 ∨ d.chMode = 5 then 1 else 0) + (if d.chMode = 3 then 2 else 0) +
  (if d.bit (RCD.STAT_DISCREP n) then 4 else 0) + (if d.bit (MET.STAT_REDERR (Bay.met n)) then 8 else 0) +
  (if d.saf.bay[n].feedLost then 16 else 0)

/-- The island's part when the bay engine closes a session (R232, R239, R240). -/
def Dev.safSessionClosed (d : Dev) (n : Bay) : Dev :=
  let l := d.netLasting n
  let d := (d.wrN (SAF.SNET_STAT n.val) 0).limSafety n (0xFFFF, 0xFFFF)
  (d.modSafBay n fun b => { b with netMs := 0, ocg := false, hlOcg := false, single := false, lfault := b.lfault ||| l }).safEval

/-- Change the channel mode (R225); IRQ MODE. A unit in START goes to LISTEN as mode 0 is reached (R450). -/
def Dev.setMode (d : Dev) (m : Nat) : Dev :=
  if d.chMode = m then d
  else
    let d := (d.set SAF.MODE_CHMODE m).raise SAF.page SAF.ev_MODE
    if m = 0 ∧ d.pairState = Pr.START then d.pairEnter Pr.LISTEN else d

/-- Mode 0 returns (R226, R240): latched faults of lost channels end; the limit of a SINGLE_START session is lifted. -/
def Dev.modeTwo (d : Dev) : Dev :=
  let d := d.setMode 0
  d.forBays fun n d =>
    let d := if d.saf.bay[n].single && !d.bit (SAF.SNET_STAT_ACTIVE n.val) then d.limSafety n (0xFFFF, 0xFFFF) else d
    d.modSafBay n fun b => { b with single := false, lfault := setBitN (setBitN b.lfault 0 false) 1 false }

/-! ### Welds (R198) -/

/-- A general log entry of hardware outside the processor domains: the spec names no source domain for it, so that byte
is a free value. -/
def Dev.glogHw (d : Dev) (code bay : Nat) (data : List Byte) : Dev :=
  let (v, d) := d.free
  let src := match v % 4 with
    | 0 => Domain.app | 1 => Domain.saf | 2 => Domain.lgl | _ => Domain.vlt
  d.glog src code bay data

/-- A pole is declared welded (R198); after the prepayment fallback this is the failed check of R292. -/
def Dev.ctWeld (d : Dev) (n : Bay) (pole : Nat) : Dev :=
  let d := (((d.ctcSeatsOff n).modCtc n fun c => { c with atTick := .none }).ctEnter n Ct.WELD).ctLow n
  let d := (d.setBit (CTC.STAT_WELD n) true).raise (CTC.page n) CTC.ev_WELD
  let d := ((d.glogHw 0x0006 n.val (leBytes 1 pole)).sfRaise n Sf.WELD).ctFail n 4
  if d.ctc[n].fallback then
    let d := (d.setBit (PPY.ASTAT_FB_FAIL n.val) true).raise PPY.page PPY.ev_FB_FAIL
    { d with led := { d.led with acct := d.led.acct.set n { d.led.acct[n] with fbFail := true } } }
  else d

end Sys2Proof.Machine
end

