-- ==== Sys2Proof/Machine/PowerPath.lean ====
section
/-!
DEFINITION. The power path CTCn (ch. 8): requests and arbitration (R185–R187), point-on-wave closing and opening
(R188–R193), precharge (R194), free-wheel (R195), feedback checks and weld (R196–R199), learning (R191).
-/
namespace Sys2Proof.Machine

open Sys2Proof

/-! ### Candidates and seats (R188, R189, R192) -/

/-- The first wheel time at or after `base` whose angle is `a`. -/
def nextAngle (base a : Nat) : Nat := base + (a % 65536 + 65536 - base % 65536) % 65536

/-- The earliest of the next instants of a list of angles. -/
def firstCandidate (base : Nat) : List Nat → Option Nat
  | [] => none
  | a :: l =>
    match firstCandidate base l with
    | none => some (nextAngle base a)
    | some t => some (min (nextAngle base a) t)

/-- The poles of a mask. -/
def polesOf (mask : Nat) : List Nat := [0, 1, 2].filter fun p => mask.testBit p

/-- Mean of the learned times of the enabled poles, rounded (R188). -/
def Dev.ctMean (d : Dev) (n : Bay) (time : Nat → Fld) : Nat :=
  let ps := polesOf (d.ctPoles n)
  roundDiv (ps.map fun p => d.get (time p)).sum (max 1 ps.length)

/-- The earliest target of an operation decided now, for an advance: one tick and 2 µs before its fire instant (R188). -/
def Dev.ctBase (d : Dev) (adv : Nat) : Nat := d.wheel + 1024 + d.au2us + adv

/-- The coil command of some poles fires (R188); a close that is not timed is marked (R195). -/
def Dev.ctFire (d : Dev) (n : Bay) (poles : Nat) (timed : Bool) : Dev :=
  if d.ctState n = Ct.CLOSING ∧ d.bit (CTC.STAT_PERMIT n) then
    let d := (d.ctDrive n (d.ctc[n].drv ||| poles)).modCtc n fun c =>
      { c with fired := true, timed := timed && d.locked && !d.ctDc n }
    if timed then d else d.ctUntimed n
  else d

/-- A close fires at the next tick. -/
def Dev.ctAtTick (d : Dev) (n : Bay) (a : TickAct) : Dev := d.modCtc n fun c => { c with atTick := a, fwWait := false }

/-- Arm one pole's seat for an operation with an advance and candidate angles; false if there is none or it is late. -/
def Dev.ctArm (d : Dev) (n : Bay) (pole action adv : Nat) (angles : List Nat) : Bool × Dev :=
  match firstCandidate (d.ctBase adv) angles with
  | none => (false, d)
  | some t => d.hwSeat (8 * n.val + pole) (t - adv) action (4 * n.val + pole) 0

/-- The candidate angles of a pole's close (R189). -/
def Dev.ctCloseAngles (d : Dev) (n : Bay) (pole : Nat) : List Nat :=
  let zs := d.ctc[n].vxZero
  let shift := d.get (CTC.PW_CLOSE_ANGLE n)
  if d.get (CTC.CFG_MODE n) = 0 then
    if d.bit (CTC.PW_CLOSE_AUTO n) then (zs.filter fun z => (d.ctPoles n).testBit z.1).map (·.2)
    else (zs.filter fun z => z.1 == 0).map fun z => (z.2 + shift) % 65536
  else (zs.filter fun z => z.1 == pole).map fun z => (z.2 + shift) % 65536

/-- The seats of an operation: one in ganged mode, one per pole of a mask in per-pole mode. -/
def Dev.ctSeatPoles (d : Dev) (n : Bay) (poles : Nat) : List Nat :=
  if d.get (CTC.CFG_MODE n) = 0 then [0] else polesOf poles

/-- Advance of a pole's operation in AU (R188). -/
def Dev.ctAdv (d : Dev) (n : Bay) (pole : Nat) (time : Nat → Fld) : Nat :=
  d.usToAu (if d.get (CTC.CFG_MODE n) = 0 then d.ctMean n time else d.get (time pole))

/-- Arm all seats of an operation of some poles; if one cannot be armed, cancel them and act at the next tick, untimed (R189). -/
def Dev.ctSchedule (d : Dev) (n : Bay) (poles action : Nat) (time : Nat → Fld) (angles : Nat → List Nat) (late : TickAct) : Dev :=
  let (ok, d) := (d.ctSeatPoles n poles).foldl
    (fun (r : Bool × Dev) p =>
      let a := r.2.ctArm n p action (r.2.ctAdv n p time) (angles p)
      (r.1 && a.1, a.2)) (true, d)
  if ok then d else (d.ctcSeatsOff n).ctAtTick n late

/-- Time a close in LOCKED (R188, R189). -/
def Dev.ctTimeClose (d : Dev) (n : Bay) : Dev :=
  let advs := [0, 1, 2].map fun p => d.ctAdv n p (CTC.MAKE_TIME n)
  let d := d.modCtc n fun c => { c with adv := advs, fwWait := false }
  d.ctSchedule n (d.ctPoles n) 1 (CTC.MAKE_TIME n) (d.ctCloseAngles n) (.closeMain false)

/-! ### Learning (R191) -/

/-- T + round((m − T)/2^K), halves up; a learned time is 1,000 µs or more. -/
def learnStep (t m k : Nat) : Nat := max 1000 ((t : Int) + (2 * ((m : Int) - t) + 2 ^ k) / (2 * 2 ^ k)).toNat

/-- One learned time takes a resolved observation (R191): `i` numbers MAKE_A–C and BREAK_A–C. -/
def Dev.ctLearn (d : Dev) (n : Bay) (i : Nat) (time cnt : Fld) (m : Nat) : Dev :=
  let t := d.get time
  let run := (d.ctc[n].outRun[i]?).getD 0
  let dir : Int := if m < t then -1 else 1
  let run' : Int := if 0 < run * dir then run + dir else dir
  let far := decide (t * d.get (CTC.LEARN_MAXDEV n) < ((m : Int) - t).natAbs * 100)
  let accept := !far || decide (3 ≤ run'.natAbs)
  if d.bit (CTC.LEARN_FREEZE n) then d
  else if accept then
    (((d.modCtc n fun c => { c with outRun := c.outRun.set i 0 }).set time (learnStep t m (d.get (CTC.LEARN_K n)))).bump
      cnt).raise (CTC.page n) CTC.ev_LEARN
  else
    ((d.modCtc n fun c => { c with outRun := c.outRun.set i run' }).bump (CTC.CNT_B_OUTLIER n)).raise (CTC.page n)
      CTC.ev_OUTLIER

/-- The poles' observations of a timed operation in LOCKED update their learned times. -/
def Dev.ctLearnAll (d : Dev) (n : Bay) (first : Nat) (time cnt : Nat → Fld) : Dev :=
  if d.ctc[n].timed && d.locked then
    (polesOf (d.ctPoles n)).foldl (fun d p =>
      match (d.ctc[n].obs[p]?).getD none with
      | some m => d.ctLearn n (first + p) (time p) (cnt p) m
      | none => d) d
  else d

/-! ### Opening (R187, R192, R193) -/

/-- The pole whose current zero a ganged opening takes (R192). -/
def Dev.ctGangPole (d : Dev) (n : Bay) : Nat :=
  match d.get (CTC.PW_OPEN_GANG_PH n) with
  | 0 => (polesOf (d.ctPoles n)).foldl
      (fun b p => if d.rdN (MET.IRMS (Bay.met n) b) < d.rdN (MET.IRMS (Bay.met n) p) then p else b) 0
  | k => k - 1

/-- The angles at which a pole's contact is to separate (R192). -/
def Dev.ctOpenAngles (d : Dev) (n : Bay) (pole : Nat) : List Nat :=
  let p := if d.get (CTC.CFG_MODE n) = 0 then d.ctGangPole n else pole
  (d.ctc[n].izZero.filter fun z => z.1 == p).map fun z => (z.2 + 65536 - d.get (CTC.PW_OPEN_LEAD n)) % 65536

/-- A closed bay begins to open (R192, R193, R195): without load at the next tick, which counts as timed. -/
def Dev.ctStartOpen (d : Dev) (n : Bay) : Dev :=
  let d := ((d.ctEnter n Ct.OPEN_WAIT).setBit (CTC.STAT_UNTIMED n) false).setBit (CTC.STAT_LOADBREAK n) false
  let d := d.modCtc n fun c => { c with openPend := false, cmd := true, fired := false,
                                        obs := [none, none, none], atTick := .none }
  if d.ctDc n then d
  else if d.bit (MET.STAT_NOLOAD (Bay.met n)) then d.ctAtTick n (.release true)
  else if !d.locked then d.ctAtTick n (.release false)
  else d.ctSchedule n d.ctc[n].drv 2 (CTC.BREAK_TIME n) (d.ctOpenAngles n) (.release false)

/-- The contact is open (R200): OPEN, and CT_OPENED if a command asked for it. The precharge relay, where it still is closed, opens
with it (assumption 167). -/
def Dev.ctOpened (d : Dev) (n : Bay) : Dev :=
  let cmd := d.ctc[n].cmd
  let d := ((d.ctEnter n Ct.OPEN).set (CTC.STATE_MADE n) 0).setBit (CTC.STATE_PRE n) false
  let d := d.modCtc n fun c => { c with cmd := false, fallback := false, fired := false, fwWait := false,
                                        openPend := false, atTick := .none, dvOk := false, mainReq := false }
  let d := d.raise (CTC.page n) CTC.ev_OPENED
  if cmd then d.bayPost n Ev.CT_OPENED else d

/-- CT_FB reads closed, where it is used (R184). -/
def Dev.ctFbClosed (d : Dev) (n : Bay) : Bool := d.bit (CTC.CFG_FB_EN n) && d.bit (CTC.STAT_FB n)

/-- An OPEN decided (R185, R187): it cancels the close seats that are still armed; a coil that has been commanded is held until the
make. `arg` 1 opens the precharge relay only, which an AC bay does not have (R183). -/
def Dev.ctOpen (d : Dev) (n : Bay) (arg : Nat) : Dev :=
  let st := d.ctState n
  if st = Ct.OPEN then d.bayPost n Ev.CT_OPENED
  else if st = Ct.PRECHARGE then
    (((d.ctcSeatsOff n).setBit (CTC.STATE_PRE n) false).modCtc n fun c => { c with cmd := true }).ctOpened n
  else if arg = 1 then if d.ctDc n then d.setBit (CTC.STATE_PRE n) false else d
  else if st = Ct.CLOSING then
    if d.ctc[n].fired then (d.ctcSeatsOff n).modCtc n fun c => { c with openPend := true, cmd := true }
    else ((d.ctcSeatsOff n).modCtc n fun c => { c with cmd := true, timed := false }).ctRelease n 7
  else if st = Ct.CLOSED then d.ctStartOpen n
  else if st = Ct.OPENING then d.modCtc n fun c => { c with cmd := true }
  else d

/-! ### Closing (R185, R186, R194) -/

/-- Why a CLOSE is refused, if it is: cause and code, the lowest cause first (R186). -/
def Dev.ctRefusal (d : Dev) (n : Bay) (arg : Nat) : Option (Nat × Nat) :=
  let st := d.ctState n
  let m := Bay.met n
  if !d.bit (CTC.STAT_PERMIT n) then some (1, Err.SAFETY_DENIED)
  else if !d.bit (MET.STAT_SCALE_OK m) || d.bit (MET.STAT_VX_NONE m) || d.bit (MET.STAT_INVALID m) then
    some (2, Err.SEQUENCE)
  else if !(st == Ct.OPEN || (st == Ct.PRECHARGE && d.ctDc n && arg == 0)) then some (3, Err.SEQUENCE)
  else if d.bit (CTC.STAT_WELD n) || d.bit (CTC.STAT_WELD_UNCHK n) then some (4, Err.SAFETY_DENIED)
  else if d.ctFbClosed n then some (5, Err.SAFETY_DENIED)
  else if !d.takesWork (.CTC n) then some (8, Err.DRAINING)
  else none

/-- An accepted CLOSE (R188, R194, R195). -/
def Dev.ctAccept (d : Dev) (n : Bay) (arg : Nat) : Dev :=
  let d := ((d.wrN (CTC.CNT_OPS n) (d.rdN (CTC.CNT_OPS n) + 1)).set (CTC.FAIL_CAUSE n) 0).setBit (CTC.STAT_UNTIMED n) false
  let d := d.setBit (CTC.STAT_LOADBREAK n) false
  if d.ctState n = Ct.PRECHARGE then
    let d := d.modCtc n fun c => { c with mainReq := true }
    if d.ctc[n].dvOk then d.ctAtTick n (.closeMain true) else d
  else
    let d := (d.set (CTC.STATE_MADE n) 0).modCtc n fun c =>
      { c with fired := false, openPend := false, obs := [none, none, none], cmd := true, dvOk := false,
               mainReq := arg == 0, fwWait := false, atTick := .none, fallback := false, resetVolt := false }
    if d.ctDc n then
      let t := (d.wheel / 1024 + 1) * 1024
      (d.ctEnter n Ct.PRECHARGE).hwSeat (8 * n.val + 3) t 3 (4 * n.val) 0 |>.2
    else
      let d := d.ctEnter n Ct.CLOSING
      if d.locked then d.ctTimeClose n
      else if d.get (CTC.CFG_FW_WAIT n) = 0 then d.ctAtTick n (.closeMain false)
      else d.modCtc n fun c => { c with fwWait := true }

/-- A CLOSE decided (R185, R186). -/
def Dev.ctClose (d : Dev) (n : Bay) (arg : Nat) : Dev :=
  if d.ctState n = Ct.CLOSED then d.bayPost n Ev.CT_CLOSED
  else match d.ctRefusal n arg with
    | some (cause, code) => (d.ctFail n cause).reject (CTC.page n) code
    | none => d.ctAccept n arg

/-- An OPEN is requested (R185): it is decided at the end of the tick. -/
def Dev.ctRequestOpen (d : Dev) (n : Bay) (arg : Nat) : Dev :=
  if d.ctState n = Ct.OPEN ∨ d.ctState n = Ct.WELD then d else d.modCtc n fun c => { c with reqOpen := c.reqOpen ++ [arg] }

/-- FORCE and hold-up: an OPEN that does not wait, at the next tick, untimed (R187, R201). -/
def Dev.ctForce (d : Dev) (n : Bay) : Dev :=
  if d.ctState n = Ct.OPEN ∨ d.ctState n = Ct.WELD then d else (d.ctRequestOpen n 0).ctAtTick n (.release false)

/-- What was set for this tick: the main contactor's close command, or the release of the coils. -/
def Dev.ctTickAct (d : Dev) (n : Bay) (a : TickAct) : Dev :=
  match a with
  | .none => d
  | .closeMain timed =>
    let d := if d.ctState n = Ct.PRECHARGE then d.ctEnter n Ct.CLOSING else d
    d.ctFire n (if d.get (CTC.CFG_MODE n) = 1 then d.ctPoles n else 1) timed
  | .release timed =>
    let d := d.modCtc n fun c => { c with timed := timed && d.locked && !d.ctDc n }
    let d := d.ctRelease n 7
    if timed then d else d.ctUntimed n

/-- The requests of a tick (R185): an OPEN, of the main contactor before one of the precharge relay alone, drops every CLOSE, each of
which is counted. -/
def Dev.ctDecide (d : Dev) (n : Bay) (opens closes : List Nat) : Dev :=
  match opens with
  | [] => closes.foldl (fun d a => d.ctClose n a) d
  | _ => (closes.foldl (fun d _ => d.bump (CTC.CNT_B_OVERRULED n)) d).ctOpen n (if opens.contains 0 then 0 else 1)

/-- The end of a carousel tick (R185): what was set for this tick, but for a close command that an OPEN of the tick cancels (R187);
then the requests of the tick. A CLOSE that waits for LOCKED is timed once it is (R195). -/
def Dev.ctTick (n : Bay) (d : Dev) : Dev :=
  let c := d.ctc[n]
  let d := d.modCtc n fun c => { c with atTick := .none, reqClose := [], reqOpen := [] }
  let cancelled := match c.atTick with
    | .closeMain _ => c.reqOpen.contains 0 || (d.ctDc n && !c.reqOpen.isEmpty)
    | _ => false
  let d := if cancelled then d else d.ctTickAct n c.atTick
  let d := (d.ctDecide n c.reqOpen c.reqClose).setBit (CTC.STAT_FW n) (!d.locked)
  if d.ctc[n].fwWait && d.locked then d.ctTimeClose n else d

/-! ### Commands of the power path -/

/-- A permit condition of one channel's own input path lapses: that channel withdraws the bay's permit (R182, R222). -/
def execPermitWithdrawn (n : Bay) (hl : Bool) (s : State) : Out :=
  s.on fun d => (d.modSafBay n fun b => { b with ownProc := b.ownProc || !hl, ownHl := b.ownHl || hl }).safEval

/-- ECO.T_PULL has passed since the close command (R183). -/
def execEconomiserStart (n : Bay) (s : State) : Out :=
  s.on fun d => if d.ctc[n].drv != 0 then d.setBit (CTC.STATE_ECO n) true else d

/-- All enabled poles have made, and CT_FB reads closed where it is used (R196, R200). An OPEN that waits for the make of the poles
already commanded then runs (R187). -/
def Dev.ctMadeCheck (d : Dev) (n : Bay) : Dev :=
  let ps := d.ctPoles n
  let made := d.get (CTC.STATE_MADE n)
  let drv := if d.get (CTC.CFG_MODE n) = 1 then d.ctc[n].drv else ps
  if d.ctState n ≠ Ct.CLOSING ∨ !d.ctc[n].fired then d
  else if d.ctc[n].openPend then
    if made &&& drv = drv then (d.ctLearnAll n 0 (CTC.MAKE_TIME n) (CTC.MAKE_N n)).ctStartOpen n else d
  else if made &&& ps = ps ∧ (d.bit (CTC.CFG_FB_EN n) → d.bit (CTC.STAT_FB n)) then
    let d := d.ctLearnAll n 0 (CTC.MAKE_TIME n) (CTC.MAKE_N n)
    ((d.ctEnter n Ct.CLOSED).raise (CTC.page n) CTC.ev_CLOSED).bayPost n Ev.CT_CLOSED
  else d

/-- All enabled poles have broken, and CT_FB reads open where it is used (R200). -/
def Dev.ctBrokenCheck (d : Dev) (n : Bay) : Dev :=
  let ps := d.ctPoles n
  if d.ctState n = Ct.OPENING ∧ d.ctc[n].broke &&& ps = ps ∧ !d.ctFbClosed n then
    (d.ctLearnAll n 3 (CTC.BREAK_TIME n) (CTC.BREAK_N n)).ctOpened n
  else d

/-- STAT.FB as CT_FB reads, where it is read (R184). -/
def Dev.ctFbShow (d : Dev) (n : Bay) : Dev :=
  if d.bit (CTC.CFG_FB_EN n) then d.setBit (CTC.STAT_FB n) (d.ctc[n].fbHigh != d.bit (CTC.CFG_FB_POL n)) else d

/-- CT_FB keeps a level for its debounce (R184); it decides the check of R199 at chip reset. -/
def execCtFbChange (n : Bay) (high : Bool) (s : State) : Out :=
  s.on fun d =>
    let d := (d.modCtc n fun c => { c with fbHigh := high }).ctFbShow n
    if !d.bit (CTC.CFG_FB_EN n) then d
    else if d.ctc[n].resetCheck ∧ d.ctState n = Ct.OPEN then
      let d := d.modCtc n fun c => { c with resetCheck := false }
      if d.bit (CTC.STAT_FB n) then d.ctWeld n 0 else d
    else (d.ctMadeCheck n).ctBrokenCheck n

/-- A pole's error of make against its target (R190, R203); one that ERR cannot hold is a free value. -/
def Dev.ctErr (d : Dev) (n : Bay) (pole us : Nat) : Dev :=
  let err : Int := (d.usToAu us : Int) - ((d.ctc[n].adv[pole]?).getD 0 : Nat)
  if -32768 ≤ err ∧ err < 32767 then d.set (CTC.LAST_ERR_ERR n pole) (toUnsigned 16 err)
  else
    let (v, d) := d.free
    d.set (CTC.LAST_ERR_ERR n pole) (v % 65536)

/-- A pole's contact `us` after the command (R190): a make where 16 samples of the across-contact voltage (`vx`, in mV) lie within
VX_CLOSED. A make where the supply-side voltage (`sup`, in mV) lies below VX_BLIND is a hit. -/
def execMakeObserved (n : Bay) (pole : Fin 3) (us : BitVec 16) (vx : List Nat) (sup : Nat) (s : State) : Out :=
  s.on fun d =>
    let seen := vx.length == 16 && vx.all fun v => decide (v ≤ 1000 * d.get (CTC.VXCFG_VX_CLOSED n))
    if d.ctState n = Ct.CLOSING ∧ d.ctc[n].fired ∧ seen then
      let d := d.setFlag (CTC.STATE_MADE n) pole.val true
      let d :=
        if sup < 1000 * d.get (CTC.VXCFG_VX_BLIND n) then d.set (CTC.LAST_ERR_ERR n pole.val) 0x7FFF
        else
          let d := if d.ctc[n].timed then d.ctErr n pole.val us.toNat else d
          d.modCtc n fun c => { c with obs := c.obs.set pole.val (some us.toNat) }
      d.ctMadeCheck n
    else d

/-- A pole's contact `us` after the command (R190): a break where 4 samples of the across-contact voltage (`vx`, in mV) exceed
VX_ARC. -/
def execBreakObserved (n : Bay) (pole : Fin 3) (us : BitVec 16) (vx : List Nat) (s : State) : Out :=
  s.on fun d =>
    let seen := vx.length == 4 && vx.all fun v => decide (1000 * d.get (CTC.VXCFG_VX_ARC n) < v)
    if d.ctState n = Ct.OPENING ∧ seen then
      let d := (d.setFlag (CTC.STATE_MADE n) pole.val false).modCtc n fun c =>
        { c with broke := setBitN c.broke pole.val true, obs := c.obs.set pole.val (some us.toNat) }
      d.ctBrokenCheck n
    else d

/-- The window of R196 passes, or the wait of R187 for a make. -/
def execNoMakeTimeout (n : Bay) (s : State) : Out :=
  s.on fun d =>
    if d.ctState n = Ct.CLOSING ∧ d.ctc[n].fired then
      if d.ctc[n].openPend then d.ctStartOpen n
      else (((d.modCtc n fun c => { c with timed := false, cmd := true }).ctRelease n 7).ctUntimed n).ctFail n 6
    else d

/-- Line voltage is present at a pole (R197): half of the nominal voltage (AC), WELD_VMIN (DC). -/
def Dev.ctLine (d : Dev) (n : Bay) (v : PoleVolts) : Bool :=
  if d.ctDc n then decide (1000 * d.get (CTC.FBCFG_WELD_VMIN n) ≤ v.sup)
  else decide (1000 * d.get (MET.NOM_UNOM (Bay.met n)) ≤ 2 * v.sup)

/-- A pole stays within WELD_V (R197). -/
def Dev.ctWithin (d : Dev) (n : Bay) (v : PoleVolts) : Bool := decide (v.vx ≤ 1000 * d.get (CTC.VXCFG_WELD_V n))

/-- The pole that the voltage check of R197 finds welded: of those in `poles`, line voltage present and within WELD_V. -/
def Dev.weldedPole (d : Dev) (n : Bay) (poles : Nat) (v : Vector PoleVolts 3) : Option (Fin 3) :=
  (List.finRange 3).find? fun p => poles.testBit p.val && d.ctLine n v[p] && d.ctWithin n v[p]

/-- Line voltage is present at every pole of a mask. -/
def Dev.ctLines (d : Dev) (n : Bay) (poles : Nat) (v : Vector PoleVolts 3) : Bool :=
  (List.finRange 3).all fun p => !poles.testBit p.val || d.ctLine n v[p]

/-- The window of R197 passes, with the voltages seen at the poles. -/
def execBreakCheckTimeout (n : Bay) (v : Vector PoleVolts 3) (s : State) : Out :=
  s.on fun d =>
    if d.ctState n = Ct.OPENING then
      let still := clearBits (d.ctPoles n) d.ctc[n].broke
      let d := d.ctDrive n 0
      if d.ctFbClosed n then d.ctWeld n 0
      else match d.weldedPole n still v with
        | some p => d.ctWeld n p.val
        | none =>
          let due := !d.ctLines n still v && !d.bit (CTC.CFG_FB_EN n)
          let d := d.ctLearnAll n 3 (CTC.BREAK_TIME n) (CTC.BREAK_N n)
          (if due then d.setBit (CTC.STAT_WELD_UNCHK n) true else d).ctOpened n
    else d

/-- DC: a 1 ms mean of IDC (in mA) lies below OPEN_I (R193): the coil is released at the next tick. -/
def execDcOpenCurrentLow (n : Bay) (i : Int) (s : State) : Out :=
  s.on fun d =>
    if d.ctState n = Ct.OPEN_WAIT ∧ d.ctDc n ∧ i.natAbs < 100 * d.get (CTC.DCCFG_OPEN_I n) then d.ctAtTick n (.release true) else d

/-- DC: T_DCOPEN passes (R193): opened under load. -/
def execDcOpenTimeout (n : Bay) (s : State) : Out :=
  s.on fun d =>
    if d.ctState n = Ct.OPEN_WAIT ∧ d.ctDc n then
      let d := ((d.setBit (CTC.STAT_LOADBREAK n) true).bump (CTC.CNT_A_LOADBREAK n)).raise (CTC.page n) CTC.ev_LOADBREAK
      let i := (signed 32 (d.rdN (MET.IDC (Bay.met n)))).natAbs / 100
      let d := d.modCtc n fun c => { c with timed := false }
      (d.glogHw 0x0005 n.val (leBytes 2 (satAt 0xFFFF i))).ctRelease n 7
    else d

/-- DC: the 1 ms means of the charger's and the vehicle's voltage (in mV) have come within PRE_DV (R194 step 2). -/
def execPrechargeReached (n : Bay) (chg veh : Int) (s : State) : Out :=
  s.on fun d =>
    if d.ctState n = Ct.PRECHARGE ∧ d.bit (CTC.STATE_PRE n) ∧ !d.ctc[n].dvOk ∧
        (chg - veh).natAbs < 100 * d.get (CTC.DCCFG_PRE_DV n) then
      let d := d.modCtc n fun c => { c with dvOk := true }
      if d.ctc[n].mainReq then d.ctAtTick n (.closeMain true)
      else (d.raise (CTC.page n) CTC.ev_CLOSED).bayPost n Ev.CT_CLOSED
    else d

/-- 50 ms after the make: PRE_OPEN, whatever the main contactor does by then (R194 step 5); not of a precharge begun anew. -/
def execPrechargeOverlapEnd (n : Bay) (s : State) : Out :=
  s.on fun d => if d.ctDc n ∧ d.ctState n ≠ Ct.PRECHARGE then d.setBit (CTC.STATE_PRE n) false else d

/-- PRE_TMAX passes before step 2 (R194): PRE_OPEN, CT_FAIL with CAUSE 7. -/
def execPrechargeTimeout (n : Bay) (s : State) : Out :=
  s.on fun d =>
    if d.ctState n = Ct.PRECHARGE ∧ !d.ctc[n].dvOk then
      ((((d.ctcSeatsOff n).setBit (CTC.STATE_PRE n) false).modCtc n fun c => { c with cmd := false }).ctOpened n).ctFail n 7
    else d

/-- FW_WAIT passes without lock (R195): the close fires at the next tick. -/
def execFwWaitExpiry (n : Bay) (s : State) : Out :=
  s.on fun d => if d.ctState n = Ct.CLOSING ∧ d.ctc[n].fwWait then d.ctAtTick n (.closeMain false) else d

/-- Free voltages of the poles, where a write reaches WELD_CLR on the bus. -/
def Dev.freeVolts (d : Dev) : Vector PoleVolts 3 × Dev :=
  let v := fun i => Config.freeValue (d.fresh + i)
  (#v[⟨v 0, v 1⟩, ⟨v 2, v 3⟩, ⟨v 4, v 5⟩], { d with fresh := d.fresh + 6 })

/-- WELD_CLR.CLR (R198): accepted where the voltages seen at the poles, CT_FB and the hard logic show the contact open. -/
def execWeldClr (m : Master) (n : Bay) (v : Vector PoleVolts 3) (s : State) : Out :=
  s.on fun d => d.guard m (.CTC n) 0x0A8 fun d =>
    let ps := d.ctPoles n
    if d.ctLines n ps v && (d.weldedPole n ps v).isNone && !d.ctFbClosed n && !d.saf.bay[n].hlWeld then
      let d := if d.ctState n = Ct.WELD then (d.modCtc n fun c => { c with cmd := false }).ctOpened n else d
      ((d.setBit (CTC.STAT_WELD n) false).setBit (CTC.STAT_WELD_UNCHK n) false).sfDrop n Sf.WELD
    else d.reject (CTC.page n) Err.SAFETY_DENIED

/-- Line voltage returns (R199), with the voltages seen at the poles: the check that was due runs. -/
def execLineVoltageReturn (n : Bay) (v : Vector PoleVolts 3) (s : State) : Out :=
  s.on fun d =>
    if d.ctState n = Ct.OPEN ∧ (d.bit (CTC.STAT_WELD_UNCHK n) ∨ d.ctc[n].resetVolt) then
      match d.weldedPole n (d.ctPoles n) v with
      | some p => ((d.setBit (CTC.STAT_WELD_UNCHK n) false).modCtc n fun c => { c with resetVolt := false }).ctWeld n p.val
      | none =>
        if d.ctLines n (d.ctPoles n) v then
          let d := (d.setBit (CTC.STAT_WELD_UNCHK n) false).modCtc n fun c => { c with resetVolt := false }
          if d.ctFbClosed n then d.ctWeld n 0 else d
        else d
    else d

/-- A write of SEED with APPLY (R191, R203): TIME becomes the learned time of the target poles, N cleared. -/
def execSeedApply (m : Master) (n : Bay) (w : Word) (s : State) : Out :=
  s.on fun d => d.guard m (.CTC n) 0x404 fun d =>
    let v : Word := w &&& 0x000FFFFF
    let t := w.toNat % 65536
    if d.ctState n ≠ Ct.OPEN then d.reject (CTC.page n) Err.BUSY
    else if t < 1000 then d.reject (CTC.page n) Err.RANGE
    else
      let d := d.wr (CTC.SEED n) v
      let brk := w.toNat.testBit 19
      (polesOf (w.toNat / 65536 % 8)).foldl (fun d p =>
        d.wrN (if brk then CTC.BREAK n p else CTC.MAKE n p) t) d

end Sys2Proof.Machine
end

