-- ==== Sys2Proof/Machine/TestCore.lean ====
section
/-!
DEFINITION. How self-tests end, on any page (R525, R527, R529, R530).
-/
namespace Sys2Proof.Machine

/-- How many pages have a header bit set. -/
def Dev.pagesWith (d : Dev) (f : Nat → Fld) : Nat := (allPages.filter fun p => d.bit (f p.base)).length

/-- TST.STAT: tests queued and running and loops closed on all pages (R530). -/
def Dev.tstShow (d : Dev) : Dev :=
  ((d.set TST.STAT_QUEUED (d.pagesWith Hdr.TEST_QUEUED)).set TST.STAT_RUNNING (d.pagesWith Hdr.TEST_RUNNING)).set
    TST.STAT_LOOPS (d.pagesWith Hdr.LOOP_ENABLE)

/-- The loops still closed, and which of them the host closed (R522, R530). -/
def Dev.loopsShow (d : Dev) : Dev :=
  let l := d.loopHost.filter fun p => d.bit (Hdr.LOOP_ENABLE p)
  let hif := if d.bit (Hdr.LOOP_ENABLE HIF.page) then d.hif else { d.hif with echo := [] }
  let d : Dev := { d with loopHost := l, hif := hif }
  d.tstShow

/-- A test is queued on a page or runs. -/
def Dev.testing (d : Dev) (p : PageId) : Bool := d.bit (Hdr.TEST_QUEUED p.base) || d.bit (Hdr.TEST_RUNNING p.base)

/-- The page's test waits no longer. -/
def Dev.testUnaged (d : Dev) (b : Nat) : Dev := { d with testAge := d.testAge.filter fun x => x.1 != b }

/-- The second tick: tests that are queued age (R527). -/
def Dev.testSecond (d : Dev) : Dev := { d with testAge := d.testAge.map fun x => (x.1, x.2 + 1) }

/-- A test is over: `res` 1 passed, 2 failed, 4 abandoned with its cause; `dur` its duration in ms. -/
def Dev.testOver (d : Dev) (p : PageId) (res cause dur : Nat) : Dev :=
  let b := p.base
  let id := d.get (Hdr.TEST_ID b)
  let dur := satAt 0xFFFF dur
  let d := ((d.setBit (Hdr.TEST_QUEUED b) false).setBit (Hdr.TEST_RUNNING b) false).testUnaged b
  let d := match p with
    | .RCD n => d.modRcd n fun r => { r with want := { r.want with ctl := false }, running := { r.running with ctl := false } }
    | _ => d
  let d := if res = 4 then d else (d.setBit (Hdr.TEST_PASS b) (res == 1)).setBit (Hdr.TEST_FAIL b) (res == 2)
  let d := d.wrN TST.LAST0 (p.type + 65536 * p.inst + 16777216 * id)
  let d := d.wrN TST.LAST1 (res + 256 * cause + 65536 * dur)
  let d :=
    if res = 4 then d.raise TST.page TST.ev_ABANDONED
    else
      let d := d.raise TST.page TST.ev_TEST_DONE
      if res = 2 then d.raise TST.page TST.ev_TEST_FAIL else d
  d.tstShow.notice 0x0902 [b, id, res, cause, dur]

/-- Abandon the test of a page, if it has one (R527). One that has not run has lasted 0 ms, one that runs a time the state does not
hold: a free value. -/
def Dev.testAbandon (d : Dev) (p : PageId) (cause : Nat) : Dev :=
  if d.bit (Hdr.TEST_RUNNING p.base) then
    let (ms, d) := d.free
    d.testOver p 4 cause (ms % 65536)
  else if d.testing p then d.testOver p 4 cause 0
  else d

/-- A running test starts: RUNNING set, PASS and FAIL cleared (R525). -/
def Dev.testRun (d : Dev) (p : PageId) : Dev :=
  let b := p.base
  (((((d.testUnaged b).setBit (Hdr.TEST_QUEUED b) false).setBit (Hdr.TEST_RUNNING b) true).setBit (Hdr.TEST_PASS b) false).setBit
    (Hdr.TEST_FAIL b) false).tstShow

/-- A test is queued (R525). -/
def Dev.testQueue (d : Dev) (p : PageId) : Dev :=
  let b := p.base
  let d : Dev := { d.testUnaged b with testAge := (b, 0) :: (d.testUnaged b).testAge }
  (((d.setBit (Hdr.TEST_QUEUED b) true).setBit (Hdr.TEST_PASS b) false).setBit (Hdr.TEST_FAIL b) false).tstShow

end Sys2Proof.Machine
end

