-- ==== Sys2Proof/Machine/EarthFault.lean ====
section
/-!
DEFINITION. Residual current RCDn (R204–R212) and insulation monitoring IMDn (R213–R217).
-/
namespace Sys2Proof.Machine

open Sys2Proof

/-! ### RCD (R205–R212) -/

/-- A point of a trip curve (R206): quantity, threshold in 0.1 mA, time in ms. -/
def curveQty (w : Nat) : Nat := w / 16384 % 4
def curveI (w : Nat) : Nat := w % 16384
def curveT (w : Nat) : Nat := w / 65536 % 65536

/-- The reset curve (R206). -/
def resetCurve : List Nat := [0x2710403C, 0x012C4258, 0x006447D0, 0x012C812C, 0x00968258]

/-- A reset point is covered by a curve (R208). -/
def curveCovers (curve : List Nat) (w : Nat) : Bool :=
  curve.any fun c => (curveQty c == curveQty w || curveQty c == 3) && decide (curveI c ≤ curveI w) &&
    decide (curveT c ≤ curveT w)

/-- The safety processor's check of a curve (R208). -/
def curveGood (curve : List Nat) (tct : Nat) : Bool :=
  curve.all (fun c => curveQty c == 0 || decide (tct + 36 ≤ curveT c)) && resetCurve.all (curveCovers curve)

/-- The curve in CURVE0–7. -/
def Dev.rcdCurve (d : Dev) (n : Bay) : List Nat := (List.range 8).map fun k => d.rdN (RCD.CURVE n k)

/-- The channels of a bay measure: RCDn is on and the unit drives the excitation winding (R204, R219). -/
def Dev.rcdOn (d : Dev) (n : Bay) : Bool := d.bit (Hdr.EN (RCD.page n)) && !d.isStandby

/-- A timer of the adopted curve trips its channel (R207), with the magnitude of its point's quantity at least 0.9 of the
threshold. -/
def Dev.rcdTrips (d : Dev) (n : Bay) (x : RcdOver) : Bool :=
  let w := (d.rcd[n].curve[x.pt.val]?).getD 0
  curveQty w != 0 && decide (90 * curveI w ≤ x.ua) && decide (curveT w ≤ x.ms + d.rcd[n].tct + 26)

/-- A trip (R207, R209): by channel A, channel B or both, of a point of the adopted curve. A channel with a zero SCALE trips nothing
(R205), and no trip reaches the island during a test (R212). TRIP_PT shows channel A's point, where both tripped (assumption 169). -/
def execRcdTrip (n : Bay) (a b : Option RcdOver) (s : State) : Out :=
  s.on fun d =>
    let a := a.filter fun x => d.rcdTrips n x && d.rdN (RCD.SCALE_A n) != 0
    let b := b.filter fun x => d.rcdTrips n x && d.rdN (RCD.SCALE_B n) != 0
    match a.or b with
    | none => d
    | some x =>
      if !d.rcdOn n || d.bit (RCD.STAT_TEST_RUN n) then d
      else
        let d := (d.setBit (RCD.STAT_TRIP n) true).set (RCD.STAT_TRIP_PT n) x.pt.val
        let d := if a.isSome then d.setBit (RCD.STAT_TRIP_A n) true else d
        let d := if b.isSome then (d.setBit (RCD.STAT_TRIP_B n) true).setFlag SAFL.HL_RCD_TRIP_B n.val true else d
        (d.raise (RCD.page n) RCD.ev_TRIP).sfRaise n Sf.RCD

/-- CURVE_APPLY (R208): adopted, or rejected with the adopted copy reloaded. -/
def execCurveApply (m : Master) (n : Bay) (s : State) : Out :=
  s.on fun d => d.guard m (.RCD n) 0x070 fun d =>
    let curve := d.rcdCurve n
    let tct := d.get (RCD.TRIPCFG_T_CT n)
    if curveGood curve tct then d.modRcd n fun r => { r with curve := curve, tct := tct }
    else
      let r := d.rcd[n]
      let d := (List.range 8).foldl (fun d k => d.wrN (RCD.CURVE n k) ((r.curve[k]?).getD 0)) d
      (d.set (RCD.TRIPCFG_T_CT n) r.tct).reject (RCD.page n) Err.SAFETY_DENIED

/-- A measured quantity of a point lies below half its threshold (R209), in µA against 0.1 mA. -/
def Dev.rcdLow (d : Dev) (n : Bay) (w : Nat) : Bool :=
  let lim := curveI w * 100
  let low := fun r => decide (2 * (signed 32 (d.rdN r)).natAbs < lim)
  match curveQty w with
  | 1 => low (RCD.MEAS_DC n) && low (RCD.MEAS_B_DC n)
  | 2 => low (RCD.MEAS_AC n) && decide (2 * d.rcd[n].bAc < lim)
  | 3 => low (RCD.MEAS_TOT n)
  | _ => true

/-- Ask for a self-test: a running one answers, else it waits (R211). -/
def Dev.rcdAsk (d : Dev) (n : Bay) (f : RcdReq → RcdReq) : Dev :=
  if d.bit (RCD.STAT_TEST_RUN n) then d.modRcd n fun r => { r with running := f r.running }
  else d.modRcd n fun r => { r with want := f r.want }

/-- TRIP_CLR (R209): `sound`, the excitation winding and FG_SNS are sound. Accepted, it starts a self-test. -/
def execRcdTripClr (m : Master) (n : Bay) (sound : Bool) (s : State) : Out :=
  s.on fun d => d.guard m (.RCD n) 0x090 fun d =>
    if d.bayIdle n && d.rcd[n].curve.all (d.rcdLow n) && (!d.bit (RCD.STAT_EXC_FAULT n) || sound) then
      d.rcdAsk n fun r => { r with clr := true }
    else d.reject (RCD.page n) Err.SAFETY_DENIED

/-- The channels' 100 ms means of I_DC in µA (R210): a discrepancy beyond PCT of the larger plus MA. -/
def execRcdDiscrepancy (n : Bay) (aDc bDc : BitVec 32) (s : State) : Out :=
  s.on fun d =>
    let a := aDc.toInt
    let b := bDc.toInt
    let lim := d.get (RCD.DISC_PCT n) * max a.natAbs b.natAbs + d.get (RCD.DISC_MA n) * 10000
    let valid := d.rdN (RCD.SCALE_A n) != 0 && d.rdN (RCD.SCALE_B n) != 0 && d.rcdOn n
    if valid && decide (lim < (a - b).natAbs * 100) then
      let d := d.modRcd n fun r => { r with agreed := false }
      if d.bit (RCD.STAT_DISCREP n) then d
      else
        (((d.setBit (RCD.STAT_DISCREP n) true).raise (RCD.page n) RCD.ev_DISCREP).netCause n Net.RCD).safEval.card 9 2
    else d

/-- The channels have agreed for 1 s (R210): a passing self-test will clear DISCREP. -/
def execDiscrepClear (n : Bay) (s : State) : Out :=
  s.on fun d => if d.bit (RCD.STAT_DISCREP n) then d.modRcd n fun r => { r with agreed := true } else d

/-- An open or shorted excitation winding, or FG_SNS out of range (R210): an SF2 trip, which during a test waits for its end (R212). -/
def execExcFault (n : Bay) (s : State) : Out :=
  s.on fun d =>
    if d.rcdOn n then
      let d := (d.setBit (RCD.STAT_EXC_FAULT n) true).raise (RCD.page n) RCD.ev_EXC_FAULT
      if d.bit (RCD.STAT_TEST_RUN n) then d else d.sfRaise n Sf.RCD
    else d

/-- The 24 h timer of the periodic self-test runs out (R211). -/
def execRcdPeriodicTestDue (n : Bay) (s : State) : Out :=
  s.on fun d => if d.bit (RCD.CFG_TST_AUTO n) then d.rcdAsk n fun r => { r with periodic := true } else d

/-- A requested self-test starts once CTCn is OPEN; a periodic one waits for the bay to be idle (R211). The island
withholds the permit while it runs. -/
def Dev.rcdStart (d : Dev) (n : Bay) : Dev :=
  let w := d.rcd[n].want
  if (w.bay || w.clr || w.ctl || (w.periodic && d.bayIdle n)) && d.ctState n == Ct.OPEN &&
      !d.bit (RCD.STAT_TEST_RUN n) && d.rcdOn n then
    let d := d.modRcd n fun r => { r with want := {}, running := r.want }
    let d := if w.ctl then d.testRun (.RCD n) else d
    (d.setBit (RCD.STAT_TEST_RUN n) true).safEval
  else d

/-- RCD_SELF_TEST_START (R211). -/
def execRcdSelfTestStart (n : Bay) (s : State) : Out := s.on fun d => d.rcdStart n

/-- The channels agreed and a self-test has passed: DISCREP clears (R210). -/
def Dev.rcdAgree (d : Dev) (n : Bay) : Dev :=
  if d.bit (RCD.STAT_DISCREP n) && d.rcd[n].agreed then
    ((d.setBit (RCD.STAT_DISCREP n) false).modRcd n fun r => { r with agreed := false }).modSafBay n fun b =>
      { b with lfault := setBitN b.lfault 2 false }
  else d

/-- A self-test passes (R209–R212). -/
def Dev.rcdPass (d : Dev) (n : Bay) : Dev :=
  let q := d.rcd[n].running
  let d := (((d.setBit (RCD.STAT_TEST_PASS n) true).setBit (RCD.STAT_TEST_FAIL n) false).set (RCD.STAT_TEST_STEP n) 0).wrN
    (RCD.TEST_AGE n) 0
  let d := d.modRcd n fun r => { r with lastPass := true, testFault := false }
  let d := if q.clr then
      ((((d.setBit (RCD.STAT_TRIP n) false).setBit (RCD.STAT_TRIP_A n) false).setBit (RCD.STAT_TRIP_B n) false).setBit
        (RCD.STAT_EXC_FAULT n) false).setFlag SAFL.HL_RCD_TRIP_B n.val false
    else d
  let d := d.rcdAgree n
  if d.bit (RCD.STAT_EXC_FAULT n) then d.sfRaise n Sf.RCD else if d.bit (RCD.STAT_TRIP n) then d else d.sfDrop n Sf.RCD

/-- A self-test fails at a step (R212): a latched SF2 fault. -/
def Dev.rcdFail (d : Dev) (n : Bay) (step : Nat) : Dev :=
  let d := ((d.setBit (RCD.STAT_TEST_PASS n) false).setBit (RCD.STAT_TEST_FAIL n) true).set (RCD.STAT_TEST_STEP n) step
  (d.modRcd n fun r => { r with lastPass := false, testFault := true }).sfRaise n Sf.RCD

/-- The step at which a self-test fails (R212), 0 for a pass: 5 where FG_TST could not hold its current; else the first whose condition
fails on either channel. A zero SCALE fails it at step 1 (R205). -/
def Dev.rcdStep (d : Dev) (n : Bay) (r : RcdTest) : Nat :=
  let dc : Int := d.get (RCD.TSTLVL_DC_EQ n) * 100
  let ac : Int := d.get (RCD.TSTLVL_AC_EQ n) * 100
  let near := fun (x : Int × Int) (e : Int) => decide (10 * (x.1 - e).natAbs ≤ e.natAbs ∧ 10 * (x.2 - e).natAbs ≤ e.natAbs)
  if d.rdN (RCD.SCALE_A n) = 0 ∨ d.rdN (RCD.SCALE_B n) = 0 then 1
  else if !r.held then 5
  else if 1000 < r.off.1.natAbs ∨ 1000 < r.off.2.natAbs then 1
  else if !(near r.plus dc && r.respPlus) then 2
  else if !(near r.minus (-dc) && r.respMinus) then 3
  else if !(near r.ac ac && r.respAc) then 4
  else 0

/-- A self-test ends after `ms` (R212): `step` 0 passed, 1–4 the first step that failed, 5 no compliance. -/
def Dev.rcdEnd (d : Dev) (n : Bay) (step ms : Nat) : Dev :=
  if d.bit (RCD.STAT_TEST_RUN n) then
    let q := d.rcd[n].running
    let d := d.setBit (RCD.STAT_TEST_RUN n) false
    let d := (if step = 0 then d.rcdPass n else d.rcdFail n step).raise (RCD.page n) RCD.ev_TEST_DONE
    let d := d.modRcd n fun r => { r with running := {} }
    let d := if q.ctl then d.testOver (.RCD n) (if step = 0 then 1 else 2) 0 ms else d
    let d := d.card 9 (if step = 0 then 1 else 2)
    let d := if q.bay then d.bayPost n (if step = 0 then Ev.RCD_TEST_OK else Ev.RCD_TEST_FAIL) else d
    d.safEval
  else d

/-- RCD_SELF_TEST_END (R212). The spec gives no duration within its bound of 500 ms (R524): a free value. -/
def execRcdSelfTestEnd (n : Bay) (r : RcdTest) (s : State) : Out :=
  s.on fun d =>
    let (ms, d) := d.free
    d.rcdEnd n (d.rcdStep n r) (ms % 501)

/-- The age of the last passing self-test (R220), in whole seconds. -/
def Dev.rcdSecond (d : Dev) : Dev :=
  d.forBays fun n d =>
    let a := d.rdN (RCD.TEST_AGE n)
    if a < 0xFFFFFFFE then d.wrN (RCD.TEST_AGE n) (a + 1) else d

/-! ### IMD (R213–R217) -/

/-- Arm the injection seats for a half-period, from the next cycle (R214). -/
def Dev.imdArm (d : Dev) (n : Bay) (half : Nat) : Dev :=
  let s := d.wheel / 65536 + 1
  let d := (d.hwSeat (8 * n.val + 4) (s * 65536) 5 (4 * n.val + 1) (2 * half)).2
  (d.hwSeat (8 * n.val + 5) ((s + half) * 65536) 5 (4 * n.val + 2) (2 * half)).2

/-- Why a start is refused, if it is (R214). -/
def Dev.imdRefusal (d : Dev) (n : Bay) : Option Nat :=
  let half := d.get (IMD.CFG_HALF n)
  let f := d.get CAR.FREQ_FREQ
  if d.draining (.IMD n) then some Err.DRAINING
  else if !d.bit (Hdr.EN (IMD.page n)) then some Err.SEQUENCE
  else if d.rdN (IMD.SCALE_SP n) = 0 ∨ d.rdN (IMD.SCALE_SN n) = 0 then some Err.SEQUENCE
  else if half = 0 ∨ f < 1000 * half ∨ 10000 * half < f then some Err.RANGE
  else none

/-- Start a run (R214). -/
def Dev.imdStart (d : Dev) (n : Bay) : Dev :=
  let half := d.get (IMD.CFG_HALF n)
  let d := (d.wrN (IMD.STAT n) (1 + half * 65536)).wrN (IMD.RES_CNT n) 0
  ((d.modImd n fun i => { i with primed := false, hist := [], warnOk := 0, okPosted := false }).imdArm n half).safEval

/-- Stop a run (R214, R217): both seats cancelled, level 0 at the next tick, FAULT and SF3 end. -/
def Dev.imdStop (d : Dev) (n : Bay) : Dev :=
  let d := (d.seatCancel (8 * n.val + 4)).seatCancel (8 * n.val + 5)
  let d := (d.hwSeat (8 * n.val + 4) ((d.wheel / 1024 + 1) * 1024) 5 (4 * n.val) 0).2
  ((d.setBit (IMD.STAT_RUNNING n) false).setBit (IMD.STAT_FAULT n) false).sfDrop n Sf.IMD

/-- CTL.START (R214). -/
def execImdStart (m : Master) (n : Bay) (s : State) : Out :=
  s.on fun d => d.guard m (.IMD n) 0x05C fun d =>
    match d.imdRefusal n with
    | some e => d.reject (IMD.page n) e
    | none => d.imdStart n

/-- CTL.STOP (R214). -/
def execImdStop (m : Master) (n : Bay) (s : State) : Out :=
  s.on fun d => d.guard m (.IMD n) 0x05C fun d => d.imdStop n

/-- Parallel conductance of the system and the dividers, 1/kΩ (R215); a shift of 0 or less is a short, one at or above
2·U_INJ no conductance. -/
def imdPar (ri uinj dV : Rat) : Rat :=
  if 2 * uinj - dV ≤ 0 then 0 else if ri * dV ≤ 0 then 1000000 else (2 * uinj - dV) / (ri * dV)

/-- Remove a divider's conductance; nothing left is no conductance. RM 0xFFFF removes nothing (R213). -/
def imdLessRm (rm : Nat) (g : Rat) (k : Rat) : Rat :=
  if rm = 0xFFFF then max 0 g else if rm = 0 then 0 else max 0 (g - k / rm)

/-- A conductance as a resistance in kΩ: clamped to 100–10,000, rounded (R215), with its UNDER and OVER marks. -/
def imdRes (g : Rat) : Nat × Bool × Bool :=
  if g * 10000 < 1 then (10000, false, true)
  else if 1 < g * 100 then (100, true, false)
  else ((1 / g + 1 / 2).floor.toNat, false, false)

/-- A threshold in Ω: Ω/V times NOM, at least 100 kΩ (R217). -/
def Dev.imdThr (d : Dev) (n : Bay) (f : Fld) : Nat := max 100000 (d.get f * d.get (MET.NOM_UNOM (Bay.met n)))

/-- WARN follows a result (R217). -/
def Dev.imdWarn (d : Dev) (n : Bay) (r : Nat) (under : Bool) : Dev :=
  let w := d.imdThr n (IMD.THR_WARN n)
  if under ∨ r * 1000 < w then
    let d := d.modImd n fun i => { i with warnOk := 0 }
    if d.bit (IMD.STAT_WARN n) then d else (d.setBit (IMD.STAT_WARN n) true).raise (IMD.page n) IMD.ev_WARN
  else if d.bit (IMD.STAT_WARN n) then
    let k := if w * 5 ≤ r * 1000 * 4 then d.imd[n].warnOk + 1 else 0
    let d := d.modImd n fun i => { i with warnOk := k }
    if 2 ≤ k then d.setBit (IMD.STAT_WARN n) false else d
  else d

/-- FAULT follows a result (R217): SF3 and IMD_FAIL; the first result without it posts IMD_OK. -/
def Dev.imdFault (d : Dev) (n : Bay) (r : Nat) (under : Bool) : Dev :=
  if under ∨ r * 1000 < d.imdThr n (IMD.THR_FAULT n) then
    if d.bit (IMD.STAT_FAULT n) then d
    else (((d.setBit (IMD.STAT_FAULT n) true).raise (IMD.page n) IMD.ev_FAULT).sfRaise n Sf.IMD).bayPost n Ev.IMD_FAIL
  else if d.bit (IMD.STAT_FAULT n) || d.imd[n].okPosted then d
  else (d.modImd n fun i => { i with okPosted := true }).bayPost n Ev.IMD_OK

/-- Pole voltages in V over the windows of a half-period (R215): the last SETTLE.WIN of it, and the window before. -/
def Dev.imdWindows (d : Dev) (n : Bay) (scale : Nat) (l : List (BitVec 16)) : Rat × Rat :=
  let x := l.map BitVec.toInt
  let w := max 1 (x.length * d.get (IMD.SETTLE_WIN n) / 100)
  let last := x.drop (x.length - w)
  let before := (x.take (x.length - w)).drop (x.length - 2 * w)
  let k := floatRat (d.rd scale)
  (k * windowMean last, k * windowMean (if before.isEmpty then last else before))

/-- The four voltages of a period: positive and negative pole at +U_INJ, then at -U_INJ, each with that of the window before. -/
def Dev.imdVolts (d : Dev) (n : Bay) (plus minus : ImdHalf) : List (Rat × Rat) :=
  [d.imdWindows n (IMD.SCALE_SP n) plus.sp, d.imdWindows n (IMD.SCALE_SN n) plus.sn,
   d.imdWindows n (IMD.SCALE_SP n) minus.sp, d.imdWindows n (IMD.SCALE_SN n) minus.sn]

/-- The injection shift of a period (R215). -/
def imdShift (vpP vnP vpM vnM : Rat) : Rat := ((vpP - vpM) + (vnP - vnM)) / 2

/-- The magnitude of a number. -/
def ratAbs (q : Rat) : Rat := if q < 0 then -q else q

/-- A settled period's result (R215), from voltages in V. -/
def Dev.imdResult (d : Dev) (n : Bay) (vpP vnP vpM vnM : Rat) : Dev :=
  let gpar := imdPar (d.get (IMD.RI_R n)) (d.get (IMD.UINJ_U n) / 10) (imdShift vpP vnP vpM vnM)
  let vp0 := (vpP + vpM) / 2
  let vn0 := (vnP + vnM) / 2
  let u := vp0 - vn0
  let rm := d.get (IMD.RM_R n)
  let res := decide (50 ≤ u)
  let gp := imdLessRm rm (gpar * ratAbs vn0 / u) 1
  let gn := imdLessRm rm (gpar * vp0 / u) 1
  let g := if res then gp + gn else imdLessRm rm gpar 2
  let hist := (g :: d.imd[n].hist).take (max 1 (d.get (IMD.CFG_AVG n)))
  let q := imdRes (hist.sum / hist.length)
  let d := d.modImd n fun i => { i with hist := hist }
  let d := ((d.wrN (IMD.RISO n) q.1).wrN (IMD.RP n) (if res then (imdRes gp).1 else 0xFFFFFFFF)).wrN (IMD.RN n)
    (if res then (imdRes gn).1 else 0xFFFFFFFF)
  let d := (d.set (IMD.ULINK_U n) (satAt 65535 (u * 10 + 1 / 2).floor.toNat)).wrN (IMD.RES_CNT n) (d.rdN (IMD.RES_CNT n) + 1)
  let d := (((d.setBit (IMD.STAT_VALID n) true).setBit (IMD.STAT_UNDER n) q.2.1).setBit (IMD.STAT_OVER n) q.2.2).setBit
    (IMD.STAT_NOUV n) (!res)
  let d := (d.setBit (IMD.STAT_UNSETTLED n) false).raise (IMD.page n) IMD.ev_RESULT
  ((d.imdWarn n q.1 q.2.1).imdFault n q.1 q.2.1).safEval

/-- An unsettled period (R216): no result; with AUTO_SLOW the half-period doubles down to 0.5 Hz. -/
def Dev.imdUnsettled (d : Dev) (n : Bay) : Dev :=
  let d := (d.setBit (IMD.STAT_UNSETTLED n) true).raise (IMD.page n) IMD.ev_UNSETTLED
  let h := 2 * d.get (IMD.STAT_HALF_EFF n)
  if d.bit (IMD.CFG_AUTO_SLOW n) ∧ 1000 * h ≤ d.get CAR.FREQ_FREQ then (d.set (IMD.STAT_HALF_EFF n) h).imdArm n h else d

/-- What a period gives (R215, R216): nothing as the first after a start, nothing where a window differs from the one before by more
than SETTLE.TOL of dV. -/
def Dev.imdPeriod (d : Dev) (n : Bay) (plus minus : ImdHalf) : Dev :=
  if !d.imd[n].primed then d.modImd n fun i => { i with primed := true }
  else
    let v := d.imdVolts n plus minus
    let at' := fun (k : Nat) => ((v[k]?).getD (0, 0)).1
    let dV := imdShift (at' 0) (at' 1) (at' 2) (at' 3)
    if v.any fun w => decide (d.get (IMD.SETTLE_TOL n) * ratAbs dV < 100 * ratAbs (w.1 - w.2)) then d.imdUnsettled n
    else d.imdResult n (at' 0) (at' 1) (at' 2) (at' 3)

/-- A full injection period ends (R215, R216); a drain ends with it (R47, R219). -/
def execImdPeriodResult (n : Bay) (plus minus : ImdHalf) (s : State) : Out :=
  s.on fun d =>
    if d.bit (IMD.STAT_RUNNING n) then
      let d := d.imdPeriod n plus minus
      if d.imd[n].finish then (d.imdStop n).modImd n fun i => { i with finish := false } else d
    else d

/-- No result for IMD_TMAX while running (R216): SF3 with NORESULT. -/
def execImdNoresult (n : Bay) (s : State) : Out :=
  s.on fun d =>
    if d.bit (IMD.STAT_RUNNING n) then (d.setBit (IMD.STAT_NORESULT n) true).sfRaise n Sf.IMD else d

end Sys2Proof.Machine
end

