-- ==== Sys2Proof/Machine/Safety.lean ====
section
/-!
DEFINITION. The safety island (ch. 10): loss and return of its channels (R223–R229), dual-channel inputs (R233–R235),
connector temperature (R236), over-current guard (R232), safety net (R237–R240), trip outputs (R241), configuration
requests (R243) and proof tests (R244).
-/
namespace Sys2Proof.Machine

open Sys2Proof

/-! ### Loss of a channel (R227–R229) -/

/-- The bays that are present and idle. -/
def Dev.allIdle (d : Dev) : Bool := allBays.all fun n => !d.hasBay n || d.bayIdle n

/-- The hard-logic channel is lost (R228): cause as in HL_FAULT. -/
def Dev.hlLost (d : Dev) (cause : Nat) : Dev :=
  let m := d.chMode
  let d := ((d.set SAFL.HL_FAULT_CAUSE cause).bump SAFL.HL_CNT_LOSSES).raise SAFL.page SAFL.ev_HL_FAULT
  let d := (d.setBit SAFL.HL_STAT_IN_SERVICE false).modSaf fun s => { s with attempts := 0, retryMs := 0 }
  let d := if cause = 1 then d.setBit SAFL.HL_STAT_CLK_OK false else d
  let d := d.setMode (if m = 4 ∨ m = 5 then 5 else 3)
  ((d.forBays fun n d => d.netCause n Net.HL).safEval).card 1 2

/-- The processor channel is lost (R227): the hard logic serves alone if it is in service. -/
def Dev.procLost (d : Dev) : Dev :=
  let m := d.chMode
  let d := d.setMode (if m = 0 ∨ m = 4 then 4 else 5)
  ((d.forBays fun n d => d.netCause n Net.PROC).safEval).card 0 2

/-- Words of the adopted safety configuration (R243, R249). -/
def Dev.safConfig (d : Dev) : List Nat :=
  [d.rdN SAF.SNET_CFG, d.rdN SAF.SNET_TIME] ++ (List.range 8).map (fun k => d.rdN (SAF.SI_CFG k)) ++
    (List.range 4).map (fun k => d.rdN (SAF.TLIM k)) ++
    [d.rdN SAF.TFILT, d.rdN SAF.OCG, d.rdN SAF.LSW_GATE, d.rdN SAF.TRIP_CFG, d.rdN SAF.PROOF_CFG, d.rdN SAF.EXPCFG]

/-- What every heartbeat counts and refreshes (R233, R236): missed heartbeats, the channels' own verdicts, the safety nets' time. -/
def Dev.hbTime (d : Dev) (hlMiss procMiss : Bool) (ownProc ownHl : BitVec 4) : Dev :=
  let d := d.modSaf fun s => { s with missHl := if hlMiss then s.missHl + 1 else 0,
                                      missProc := if procMiss then s.missProc + 1 else 0,
                                      procMs := satAt 0xFFFFFFFF (s.procMs + 1), retryMs := satAt 0xFFFFFFFF (s.retryMs + 1) }
  let d := d.forBays fun n d =>
    let ms := d.saf.bay[n].netMs - 1
    let d := d.modSafBay n fun b => { b with ownProc := ownProc.toNat.testBit n.val, ownHl := ownHl.toNat.testBit n.val,
                                             netMs := ms, sinceFall := satAt 0xFFFFFFFF (b.sinceFall + 1) }
    if d.bit (SAF.SNET_STAT_ACTIVE n.val) then d.set (SAF.SNET_STAT_REMAIN n.val) ((ms + 999) / 1000) else d
  let act := allBays.foldl (fun m n => if d.bit (SAF.SNET_STAT_ACTIVE n.val) then m + 2 ^ n.val else m) 0
  let rem := allBays.foldl (fun m n => max m (d.get (SAF.SNET_STAT_REMAIN n.val))) 0
  (d.set SAFL.HL_SNET_ACTIVE act).set SAFL.HL_SNET_REMAIN rem

/-- One exchange of the channels (R223), every ms: heartbeats missed, permit vectors in disagreement for more than 20 ms without
cause, the CRC of the hard logic's copy where a fault has changed it, the bays whose own input path withholds the permit. -/
def execChannelHeartbeat (hlMiss procMiss disagree : Bool) (hlCrc : Option Word) (ownProc ownHl : BitVec 4) (s : State) : Out :=
  s.on fun d =>
    let d := (d.hbTime hlMiss procMiss ownProc ownHl).modSaf fun s => { s with hlCrc := hlCrc }
    let crcOk := hlCrc.all fun c => c == Config.safCfgCrc d.safConfig
    let hlIn := d.bit SAFL.HL_STAT_IN_SERVICE
    let d := ((d.setBit SAFL.HL_STAT_ALIVE (!hlMiss)).setBit SAFL.HL_STAT_CLK_OK true)
    let d := if hlMiss || procMiss then d.raise SAFL.page SAFL.ev_HEARTBEAT else d
    let d := if crcOk then d else d.raise SAFL.page SAFL.ev_CRC_MISMATCH
    let d := if d.chMode = 0 ∧ 2 ≤ d.saf.missProc then d.procLost else d
    let d :=
      if !hlIn then d
      else if 2 ≤ d.saf.missHl then d.hlLost 5
      else if !crcOk then d.hlLost 2
      else if disagree then d.hlLost 3
      else d
    d.safEval true

/-- The hard-logic channel is lost on a cause of its own (R228): one that is out of service already is not lost again. -/
def execHlChannelLost (cause : Fin 8) (s : State) : Out :=
  s.on fun d => if d.bit SAFL.HL_STAT_IN_SERVICE || d.chMode == 1 || d.chMode == 2 then d.hlLost cause.val else d

/-- The restarted safety processor has run its checks (R227, R225): mode 0 if the hard logic serves, else mode 3. A
session that PERMIT_LOST has begun to stop keeps its permit withheld (R232). -/
def execSafetyStartupDone (s : State) : Out :=
  s.on fun d =>
    let m := d.chMode
    if (m = 4 ∨ m = 5) ∧ !d.domainOff .saf then
      let d := d.forBays fun n d => d.modSafBay n fun b =>
        { b with ocg := b.ocg || (d.inSession n && d.flag (BAY.STOPSRC_SRC n) 0) }
      let d := d.modSaf fun s => { s with missProc := 0, procMs := 0 }
      ((if m = 4 then d.modeTwo else d.setMode 3).safEval).card 0 1
    else d

/-! ### Proof test (R228, R244) -/

/-- Start the proof test of the hard logic: in mode 2 the processor alone is in service (R225). -/
def Dev.proofBegin (d : Dev) : Dev :=
  let d := (d.setBit SAF.PROOF_STAT_RUN true).setBit SAFL.HL_STAT_PROOF_RUN true
  (if d.chMode = 0 then (d.setBit SAFL.HL_STAT_IN_SERVICE false).setMode 2 else d).safEval

/-- A proof test may run (R228, R244): none runs, the hard logic is not out for good, every bay idle, a processor
serves. -/
def Dev.proofMayRun (d : Dev) : Bool :=
  !d.bit SAF.MODE_HL_OUT && !d.bit SAF.PROOF_STAT_RUN && d.allIdle && decide (d.chMode ≤ 3)

/-- A due proof test starts (R244): at chip reset, when its interval has passed, or as an attempt in mode 3, 10 s after the loss or the
attempt before (R228). -/
def execProofTestStart (s : State) : Out :=
  s.on fun d =>
    let due := d.chMode == 1 || (if d.chMode = 3 then decide (10000 ≤ d.saf.retryMs) else d.saf.proofDue)
    if d.proofMayRun && due then d.proofBegin else d

/-- The proof test ends (R225, R228, R244): with no processor in service a pass leads to mode 4. -/
def execProofTestEnd (pass : Bool) (s : State) : Out :=
  s.on fun d =>
    if d.bit SAF.PROOF_STAT_RUN then
      let m := d.chMode
      let d := (d.setBit SAF.PROOF_STAT_RUN false).setBit SAFL.HL_STAT_PROOF_RUN false
      let d := ((d.setBit SAF.PROOF_STAT_PASS pass).setBit SAF.PROOF_STAT_FAIL (!pass)).raise SAF.page SAF.ev_PROOF_DONE
      if pass then
        let d := (d.set SAF.PROOF_STAT_FAILS 0).set SAF.PROOF_STAT_AGE 0
        let d := d.modSaf fun s => { s with attempts := 0, proofDue := false, overdue := false, proofSec := 0, missHl := 0 }
        let d := d.setBit SAFL.HL_STAT_IN_SERVICE true
        ((if m = 5 then d.setMode 4 else d.modeTwo).safEval).card 1 1
      else
        let d := d.bump SAF.PROOF_STAT_FAILS
        if m = 3 then
          let d := (d.set SAFL.HL_FAULT_CAUSE 4).modSaf fun s => { s with attempts := s.attempts + 1, retryMs := 0 }
          if 3 ≤ d.saf.attempts then d.setBit SAF.MODE_HL_OUT true else d
        else d.hlLost 4
    else d

/-- A periodic proof test is 24 h overdue (R244). -/
def execProofOverdue (s : State) : Out :=
  s.on fun d =>
    if d.get SAF.PROOF_CFG_INT * 3600 + 86400 ≤ d.saf.proofSec ∧ !d.bit SAF.MODE_HL_OUT then d.modSaf fun s => { s with overdue := true } else d

/-! ### Dual-channel inputs (R233–R235) -/

/-- An input reads safe from its contacts (R233). -/
def siSafe (anti : Bool) (x : SiInput) : Bool := if anti then !x.a || x.b else !x.a || !x.b

/-- Both contacts read safe (R234). -/
def siBothSafe (anti : Bool) (x : SiInput) : Bool := if anti then !x.a && x.b else !x.a && !x.b

/-- Bays named by a safe input with a function: SF1 or SF7 (R230). -/
def Dev.siBays (d : Dev) (func : Nat) : Nat :=
  (List.range 8).foldl (fun m k =>
    if d.bit (SAF.SI_CFG_EN k) && d.get (SAF.SI_CFG_FUNC k) == func && d.flag SAF.SI_STAT_SAFE k then
      m ||| d.get (SAF.SI_CFG_BAYMASK k) else m) 0

/-- SF1 and SF7 follow the inputs. -/
def Dev.siUpdate (d : Dev) : Dev :=
  let e := d.siBays 1
  let l := d.siBays 2
  (d.forBays fun n d => (d.setFlag (SAF.SF_BAY_ACT n.val) Sf.STOP (e.testBit n.val)).setFlag (SAF.SF_BAY_ACT n.val) Sf.LOCK
    (l.testBit n.val)).safEval

/-- SI_STAT of one input follows its contacts and its faults; an input that is off reads SAFE (R233). -/
def Dev.siEval (d : Dev) (k : Fin 8) : Dev :=
  if d.bit (SAF.SI_CFG_EN k.val) then
    let bad := d.flag SAF.SI_STAT_DISC_FAULT k.val || d.flag SAF.SI_STAT_XSHORT k.val
    d.setFlag SAF.SI_STAT_SAFE k.val (bad || siSafe (d.bit (SAF.SI_CFG_ANTI k.val)) d.saf.si[k])
  else
    ((d.setFlag SAF.SI_STAT_SAFE k.val true).setFlag SAF.SI_STAT_DISC_FAULT k.val false).setFlag SAF.SI_STAT_XSHORT k.val
      false

/-- Change an input. -/
def Dev.modSi (d : Dev) (k : Fin 8) (f : SiInput → SiInput) : Dev :=
  d.modSaf fun s => { s with si := s.si.set k (f s.si[k]) }

/-- SIk is bonded (R3). -/
def Dev.hasSi (d : Dev) (k : Nat) : Bool := decide (k < 4) || d.chip.variant.pkgB

/-- SAINi is bonded (R3). -/
def Dev.hasSain (d : Dev) (i : Nat) : Bool := decide (i < 8) || d.chip.variant.pkgB

/-- The contacts of SIk have read these levels for two consecutive samples (R233). -/
def execSiInputChange (k : Fin 8) (a b : Bool) (s : State) : Out :=
  s.on fun d => if !d.hasSi k.val then d else
    let anti := d.bit (SAF.SI_CFG_ANTI k.val)
    let d := (d.setFlag SAFL.HL_SI_RAW (2 * k.val) a).setFlag SAFL.HL_SI_RAW (2 * k.val + 1) b
    let d := d.modSi k fun x =>
      let y := { x with a := a, b := b }
      { y with half := siSafe anti y && !siBothSafe anti y }
    (d.siEval k).siUpdate

/-- The second contact has not followed within DISC (R234). -/
def execSiDiscrepancy (k : Fin 8) (s : State) : Out :=
  s.on fun d =>
    if d.bit (SAF.SI_CFG_EN k.val) ∧ d.saf.si[k].half then
      (((d.setFlag SAF.SI_STAT_DISC_FAULT k.val true).raise SAF.page SAF.ev_SI_FAULT).siEval k).siUpdate
    else d

/-- A test pulse of SITP_A, or of SITP_B, is checked at an input (R235), with the levels its contacts read in it: a closed contact of
that side reads low, the other keeps its level. Two breaches in a row set XSHORT. -/
def execSiTestPulse (k : Fin 8) (onB a b : Bool) (s : State) : Out :=
  s.on fun d =>
    let x := d.saf.si[k]
    let ok := if onB then !(x.b && b) && a == x.a else !(x.a && a) && b == x.b
    if d.bit (SAF.SI_CFG_EN k.val) && d.bit (SAF.SI_CFG_TP_EN k.val) then
      let d := d.modSi k fun x => { x with breaches := if ok then 0 else x.breaches + 1 }
      if 2 ≤ d.saf.si[k].breaches then
        (((d.setFlag SAF.SI_STAT_XSHORT k.val true).raise SAF.page SAF.ev_SI_FAULT).siEval k).siUpdate
      else d
    else d

/-! ### Connector temperature (R236) -/

/-- The bay and the enable of a SAIN input. -/
def sainBay (i : Fin 16) : Bay := ⟨i.val / 4, by omega⟩
def Dev.sainUsed (d : Dev) (i : Fin 16) : Bool := d.hasSain i.val && d.flag (SAF.TLIM_EN (i.val / 4)) (i.val % 4)

/-- A reading lies beyond a limit in the hot direction (R236 DIR). -/
def Dev.sainBeyond (d : Dev) (i : Fin 16) (mv lim : Nat) : Bool :=
  if d.bit (SAF.TLIM_DIR (i.val / 4)) then decide (mv < lim) else decide (lim < mv)

/-- SF5 of a bay follows TSTAT.TRIP. -/
def Dev.tempUpdate (d : Dev) (n : Bay) : Dev :=
  (d.setFlag (SAF.SF_BAY_ACT n.val) Sf.TEMP (d.get SAF.TSTAT_TRIP / 2 ^ (4 * n.val) % 16 != 0)).safEval

/-- A SAIN conversion in mV (R236), every ms, or every half ms in modes 1 to 3 (R226): SF5 ends after 1 s below TRIP − HYST (R230). -/
def execSainSample (i : Fin 16) (mv : BitVec 12) (s : State) : Out :=
  s.on fun d =>
    if d.sainUsed i then
      let v := mv.toNat
      let k := i.val / 4
      let trip := d.get (SAF.TLIM_TRIP_MV k)
      let hyst := 10 * d.get (SAF.TLIM_HYST k)
      let open' := v < 50 || 1750 < v
      let hot := d.sainBeyond i v trip || open'
      let warn := d.sainBeyond i v (d.get (SAF.TLIM_WARN_MV k))
      let cool := !open' && !d.sainBeyond i v (if d.bit (SAF.TLIM_DIR k) then trip + hyst else trip - hyst)
      let step := if 1 ≤ d.chMode ∧ d.chMode ≤ 3 then 1 else 2
      let hotFor := if hot then satAt 10000 (d.saf.hotFor[i] + step) else 0
      let coolFor := if cool then satAt 10000 (d.saf.coolFor[i] + step) else 0
      let d := if warn && !d.flag SAF.TSTAT_WARN i.val then d.raise SAF.page SAF.ev_TEMP_WARN else d
      let d := (d.setFlag SAF.TSTAT_WARN i.val warn).setFlag SAFL.HL_TEMP_CMP i.val hot
      let d := d.modSaf fun s => { s with hot := setBitN s.hot i.val hot, hotFor := s.hotFor.set i hotFor, coolFor := s.coolFor.set i coolFor }
      if 2000 ≤ coolFor ∧ d.flag SAF.TSTAT_TRIP i.val then (d.setFlag SAF.TSTAT_TRIP i.val false).tempUpdate (sainBay i) else d
    else d

/-- A reading beyond TRIP, or outside the sensor range, has lasted TFILT (R236). -/
def execTempTrip (i : Fin 16) (s : State) : Out :=
  s.on fun d =>
    if d.sainUsed i ∧ 2 * d.get SAF.TFILT_TFILT ≤ d.saf.hotFor[i] then (d.setFlag SAF.TSTAT_TRIP i.val true).tempUpdate (sainBay i) else d

/-! ### Over-current guard, hard-logic weld (R230, R232) -/

/-- A current in mA lies above the guard's limit: LIM_EFF and the larger margin, or the hard logic's ceiling (R232). -/
def Dev.ocgAbove (d : Dev) (n : Bay) (hl : Bool) (ma : Nat) : Bool :=
  if hl then
    let l := d.get (BAY.LIM_I n 0)
    l != 0xFFFF && decide (l * 500 < ma * 4)
  else
    let l := d.get (BAY.LIM_EFF_I n)
    l != 0xFFFF && decide (l * 100 + max (l * d.get SAF.OCG_PCT) (d.get SAF.OCG_ABS * 100) < ma)

/-- The guard's timer has run out (R232): OCG.T without a break, counted from OCG.T after the last fall of LIM_EFF, and from the restart
of the processor; the hard logic's, 1 s. -/
def Dev.ocgDue (d : Dev) (n : Bay) (hl : Bool) (ms : Nat) : Bool :=
  let t := d.get SAF.OCG_T
  if hl then decide (1000 ≤ ms)
  else decide (d.chMode ≤ 3 ∧ t ≤ min ms d.saf.procMs) && decide (2 * t ≤ d.saf.bay[n].sinceFall)

/-- A current, the highest of the phases, has exceeded the limit for some ms without a break (R232). -/
def execOcgTrip (n : Bay) (hl : Bool) (ma : BitVec 32) (ms : Nat) (s : State) : Out :=
  s.on fun d =>
    if d.inSession n && d.ocgAbove n hl ma.toNat && d.ocgDue n hl ms then
      (d.modSafBay n fun b => { b with ocg := b.ocg || !hl, hlOcg := b.hlOcg || hl }).safEval
    else d

/-- What the hard logic has seen at the poles for some ms (R230): an across-contact voltage within WELD_V for 200 ms, with the permit
withdrawn and line voltage present, is its SF4. -/
def execHlWeldDetect (n : Bay) (v : Vector PoleVolts 3) (ms : Nat) (s : State) : Out :=
  s.on fun d =>
    if !d.flag SAF.PERMIT_HL n.val && (d.weldedPole n (d.ctPoles n) v).isSome then
      if ms < 200 then d else (d.modSafBay n fun b => { b with hlWeld := true }).sfRaise n Sf.WELD
    else (d.modSafBay n fun b => { b with hlWeld := false }).safEval

/-! ### Safety net (R237–R239) -/

/-- A net cause arises on a bay (R237); cause [21] here is the loss of a duplicated feed path, which lasts until chip reset
(R240). -/
def execSnetEnter (n : Bay) (cause : Fin 7) (s : State) : Out :=
  s.on fun d =>
    let d := if cause.val = Net.METRO ∧ d.hasBay n then d.modSafBay n fun b => { b with feedLost := true } else d
    d.netCause n cause.val

/-- The net timer of a bay expires (R239). -/
def execSnetExpire (n : Bay) (s : State) : Out :=
  s.on fun d =>
    if d.bit (SAF.SNET_STAT_ACTIVE n.val) ∧ d.saf.bay[n].netMs = 0 then
      let d := (d.setBit (SAF.SNET_STAT_ACTIVE n.val) false).set (SAF.SNET_STAT_REMAIN n.val) 0
      ((d.bump SAF.SNET_CNT_EXPIRIES).raise SAF.page SAF.ev_SNET_EXPIRE).stopRequest n (2 ^ 6)
    else d

/-- The minimum pulse of a trip output ends (R241): SAFE_TRIP_P, or SAFE_TRIP_L. -/
def execTripPulseEnd (p : Bool) (s : State) : Out :=
  s.on fun d => (d.modSaf fun s => { s with pulseL := s.pulseL && p, pulseP := s.pulseP && !p }).safEval

/-! ### Configuration requests (R243) -/

/-- The safety processor serves requests: its channel is in service. -/
def Dev.safServes (d : Dev) : Bool := decide (d.chMode ≤ 3)

/-- Answer a request with a status. -/
def Dev.safAnswer (d : Dev) (typ code : Nat) : Dev :=
  d.mail { src := .saf, dst := .app, typ := typ + 0x8000, body := [code] }

/-- The register of the SAF page that CFG_WRITE may stage at an offset: one with writable bits. -/
def safCfgRow (o : Nat) : Option RegRow :=
  match findRow SAF.table o with
  | some (r, _) => if r.plain = 0 then none else some r
  | none => none

/-- A register of an input that package C does not bond (R4): SI_CFG4–7, TLIM2–3. -/
def Dev.safAbsent (d : Dev) (o : Nat) : Bool :=
  !d.chip.variant.pkgB && (decide (0x090 ≤ o ∧ o < 0x0A0) || decide (0x0B8 ≤ o ∧ o < 0x0C0))

/-- CFG_WRITE: staged, or answered RANGE, NOT_FUSED or EXPERT_CLOSED. -/
def execCfgWrite (ofs : BitVec 16) (val : Word) (s : State) : Out :=
  s.on fun d =>
    let o := ofs.toNat
    if !d.safServes then d
    else match safCfgRow o with
      | none => d.safAnswer 0x0101 Err.RANGE
      | some r =>
        if d.safAbsent o then d.safAnswer 0x0101 Err.NOT_FUSED
        else if 0x400 ≤ o ∧ d.chip.lifecycle = .field ∧ !d.bit SYS.EXPERT_EN_EN then d.safAnswer 0x0101 Err.EXPERT_CLOSED
        else
          (d.modSaf fun s => { s with staged := s.staged.filter (fun e => e.1 != o) ++ [(o, val.toNat &&& r.plain)] }).safAnswer
            0x0101 Err.NONE

/-- What a staged value is refused with at the commit: out of range, or SF4 removed from a trip mask (R241). -/
def safCfgError (e : Nat × Nat) : Option Nat :=
  match safCfgRow e.1 with
  | none => some Err.RANGE
  | some r =>
    if !r.rangeOk e.2 then some Err.RANGE
    else if e.1 = 0x0D0 ∧ !(e.2.testBit 3 && e.2.testBit 11) then some Err.SAFETY_DENIED
    else none

/-- The bays whose fields a staged write changes (R243). -/
def Dev.safCfgBays (d : Dev) (e : Nat × Nat) : Nat :=
  let old := d.rdN (SAF.page + e.1)
  if old = e.2 then 0
  else if 0x0B0 ≤ e.1 ∧ e.1 ≤ 0x0BC then 2 ^ ((e.1 - 0x0B0) / 4)
  else if 0x080 ≤ e.1 ∧ e.1 ≤ 0x09C then (old / 256 % 16) ||| (e.2 / 256 % 16)
  else 0

/-- Apply staged writes; the island follows its new configuration. -/
def Dev.safApply (d : Dev) (l : List (Nat × Nat)) : Dev :=
  let d := l.foldl (fun d e => d.wrN (SAF.page + e.1) e.2) d
  let d := ([0, 1, 2, 3, 4, 5, 6, 7] : List (Fin 8)).foldl (fun d k => d.siEval k) d
  let used := (List.range 4).foldl (fun m k => m + d.get (SAF.TLIM_EN k) * 2 ^ (4 * k)) 0
  let d := (d.set SAF.TSTAT_WARN (d.get SAF.TSTAT_WARN &&& used)).set SAF.TSTAT_TRIP (d.get SAF.TSTAT_TRIP &&& used)
  let d := d.modSaf fun s => { s with hot := s.hot &&& used }
  let d := d.forBays fun n d => d.setFlag (SAF.SF_BAY_ACT n.val) Sf.TEMP (d.get SAF.TSTAT_TRIP / 2 ^ (4 * n.val) % 16 != 0)
  d.siUpdate

/-- CFG_COMMIT (R243): all staged writes at one step, or none; the staging is empty afterwards. -/
def execCfgCommit (s : State) : Out :=
  s.on fun d =>
    if !d.safServes then d
    else
      let l := d.saf.staged
      let busy := l.foldl (fun m e => m ||| d.safCfgBays e) 0
      let d := d.modSaf fun s => { s with staged := [] }
      match l.findSome? safCfgError with
      | some e => d.safAnswer 0x0102 e
      | none =>
        if allBays.any (fun n => busy.testBit n.val && d.inSession n) then d.safAnswer 0x0102 Err.BUSY
        else (d.safApply l).safAnswer 0x0102 Err.NONE

/-- SI_CLR (R234, R243). -/
def execSiClr (mask : BitVec 8) (s : State) : Out :=
  s.on fun d =>
    if !d.safServes then d
    else
      let named := ([0, 1, 2, 3, 4, 5, 6, 7] : List (Fin 8)).filter fun k => mask.toNat.testBit k.val
      if named.all fun k => siBothSafe (d.bit (SAF.SI_CFG_ANTI k.val)) d.saf.si[k] then
        let d := named.foldl (fun d k =>
          (((d.setFlag SAF.SI_STAT_DISC_FAULT k.val false).setFlag SAF.SI_STAT_XSHORT k.val false).modSi k fun x =>
            { x with half := false, breaches := 0 }).siEval k) d
        d.siUpdate.safAnswer 0x0103 Err.NONE
      else d.safAnswer 0x0103 Err.SAFETY_DENIED

/-- TRIP_CLR (R241, R243): accepted only with no trip cause active. -/
def execTripClr (s : State) : Out :=
  s.on fun d =>
    if !d.safServes then d
    else
      let sf := d.sfAll
      if sf &&& d.get SAF.TRIP_CFG_MASK_L = 0 ∧ sf &&& d.get SAF.TRIP_CFG_MASK_P = 0 then
        ((d.modSaf fun s => { s with heldL := false, heldP := false }).safEval).safAnswer 0x0104 Err.NONE
      else d.safAnswer 0x0104 Err.SAFETY_DENIED

/-- PROOF_NOW (R243). -/
def execProofNow (s : State) : Out :=
  s.on fun d =>
    if !d.safServes then d
    else if d.bit SAF.MODE_HL_OUT then d.safAnswer 0x0105 Err.SEQUENCE
    else if !d.allIdle || d.bit SAF.PROOF_STAT_RUN then d.safAnswer 0x0105 Err.BUSY
    else d.proofBegin.safAnswer 0x0105 Err.NONE

/-- The island's check of its configuration CRC every 100 ms (R245): the CRC found, where a fault has changed the copy. -/
def execCfgCrcSelfCheck (crc : Option Word) (s : State) : Out :=
  s.on fun d => if crc.all fun c => c == Config.safCfgCrc d.safConfig then d else d.bump SAF.DIAG_CRC_ERR

/-- The island's second (R244): the age of the last passing proof test, and when the next is due. -/
def Dev.safSecond (d : Dev) : Dev :=
  let sec := d.saf.proofSec + 1
  let due := decide (d.get SAF.PROOF_CFG_INT * 3600 ≤ sec) && !d.bit SAF.MODE_HL_OUT
  (d.modSaf fun s => { s with proofSec := sec, proofDue := s.proofDue || due }).set SAF.PROOF_STAT_AGE (satAt 0xFFFF (sec / 3600))

end Sys2Proof.Machine
end

