-- ==== Sys2Proof/Machine/Signal.lean ====
section
/-!
DEFINITION. The samples of a wheel cycle (ch. 4, 5): phasors and angles, the slots' samples as the engine forms them (R84, R86, R87,
R103), sums over a cycle (R107), the fundamental by demodulation (R56), the resampler (R109) and its DFT (R110, R113).
-/
namespace Sys2Proof.Machine

open Sys2Proof

/-! ### Phasors, as pairs (re, im) at scale 2^60, and angles in 2^-32 turn -/

/-- Product of two phasors. -/
def cMul (a b : Int × Int) : Int × Int := ((a.1 * b.1 - a.2 * b.2) / 2 ^ 60, (a.1 * b.2 + a.2 * b.1) / 2 ^ 60)

/-- The unit phasor of half the angle of a unit phasor of at most a quarter turn. -/
def cHalf (z : Int × Int) : Int × Int :=
  let c : Nat := Nat.sqrt ((2 ^ 60 + z.1).toNat * 2 ^ 59)
  (c, z.2 * 2 ^ 59 / c)

/-- A phasor and its halvings, `n` in all. -/
def cHalves : Nat → Int × Int → List (Int × Int)
  | 0, _ => []
  | n + 1, z => z :: cHalves n (cHalf z)

/-- The unit phasors of 1/2, 1/4, … 2^-32 turn. -/
def cUnits : List (Int × Int) := (-(2 ^ 60), 0) :: cHalves 31 (0, 2 ^ 60)

/-- The unit phasor of an angle, bit by bit. -/
def cis (a : Nat) : Int × Int :=
  ((List.range 32).zip cUnits).foldl (fun z u => if a.testBit (31 - u.1) then cMul z u.2 else z) (2 ^ 60, 0)

/-- The angle of a phasor, 0 for the phasor 0: from a half turn down, each bit by a rotation that stays in the upper half plane. -/
def argOf (z : Int × Int) : Nat :=
  if z = (0, 0) then 0
  else
    let low := decide (z.2 < 0) || (decide (z.2 = 0) && decide (z.1 < 0))
    let s : Int := if low then -(2 ^ 64) else 2 ^ 64
    (((List.range 31).zip (cUnits.drop 1)).foldl (fun (r : Nat × (Int × Int)) u =>
      let y := cMul r.2 (u.2.1, -u.2.2)
      if 0 ≤ y.2 then (r.1 + 2 ^ (30 - u.1), y) else r) (if low then 2 ^ 31 else 0, (z.1 * s, z.2 * s))).1

/-- An angle between a half turn back and a half turn on. -/
def turnInt (a : Nat) : Int := if a % 2 ^ 32 < 2 ^ 31 then (a % 2 ^ 32 : Nat) else (a % 2 ^ 32 : Nat) - 2 ^ 32

/-! ### Slots (R85–R87, R105, R106) -/

/-- The map entry of slot `s` of page `m`. -/
def Dev.mapEntry (d : Dev) (m s : Nat) : Nat := d.rdN (MPL.MAP (16 * m + s))

/-- Slots a mode requires (R106). -/
def requiredSlots (cfg : Nat) : List Nat :=
  match cfg % 4 with
  | 1 => [0, 1, 2].flatMap fun p => if cfg.testBit (4 + p) then [p, 3 + p] else []
  | 2 => [10, 12]
  | _ => []

/-- The slot is active (R86). -/
def Dev.slotActive (d : Dev) (m s : Nat) : Bool := (d.mapEntry m s).testBit 7

/-- The samples of a source carry INVALID (R83, R89, R94, R96). -/
def Dev.srcInvalid (d : Dev) (src : Nat) : Bool :=
  !d.bit MPL.STAT_INIT_DONE ||
  (if src < 0x18 then d.mpl.noConv.testBit src
   else if 0x20 ≤ src ∧ src < 0x30 then
     let i := src - 0x20
     d.mpl.stuck.testBit i || d.mpl.ckLost.testBit (d.get (MPL.MDAT_CFG_CLKSEL i)) || d.mpl.rinj == some i
   else true)

/-- The samples of a slot carry INVALID (R87). -/
def Dev.slotInvalid (d : Dev) (m s : Nat) : Bool := !d.slotActive m s || d.srcInvalid (d.mapEntry m s % 128)

/-- A sample of the slot has carried INVALID in the present cycle (R119). -/
def Dev.slotTainted (d : Dev) (m s : Nat) : Bool := d.slotInvalid m s || d.mpl.badSeen.testBit (d.mapEntry m s % 128)

/-- Samples of some sources carry INVALID from now on, or have carried it until now (R119): a mask of source codes. -/
def Dev.taint (d : Dev) (mask : Nat) : Dev := { d with mpl := { d.mpl with badSeen := d.mpl.badSeen ||| mask } }

/-- Every source. -/
def allSources : Nat := 2 ^ 48 - 1

/-- A slot is usable as a frequency reference (R56): its samples are valid, its SCALE is not 0. -/
def Dev.slotUsable (d : Dev) (m : Fin 5) (s : Nat) : Bool := !d.slotInvalid m.val s && d.rdN (MET.SCALE m s) != 0

/-! ### The samples of a cycle -/

/-- The stretch of time that is computed (R107): its length in ns; the part of the last sample's period before it that lies in it;
the length of a whole cycle; the resampled points that fall in it (R109). -/
structure Span where
  ns : Nat
  strad : Nat
  period : Nat
  pts : Nat

/-- The cycle in progress up to an angle, 65,536 for all of it. -/
def Dev.span (d : Dev) (period angle : Nat) : Span :=
  { ns := period * angle / 65536, strad := d.car.strad, period := period, pts := (angle + 255) / 256 }

/-- 16 kS/s instants in a span. -/
def Span.count (sp : Span) : Nat := (sp.ns - sp.strad + 62499) / 62500

/-- ns of the last sample's period that lie behind the span. -/
def Span.rest (sp : Span) : Nat := sp.strad + 62500 * sp.count - sp.ns

/-- A slot over a span: its samples in counts, the 64 before it first, corrected (R103); V or A per count; the physical value of the
last sample before; a sample was beyond full scale. -/
structure SlotSig where
  w : List Int
  k : Rat
  tail : Rat
  sat : Bool

/-- The samples of the span itself. -/
def SlotSig.x (a : SlotSig) : List Int := a.w.drop 64

/-- The list of a source. -/
def srcList (l : List (Nat × List Int)) (src : Nat) : List Int := ((l.find? fun e => e.1 == src).map (·.2)).getD []

/-- The first `n` samples of a list that may be short. -/
def padInt (n : Nat) (l : List Int) : List Int := (l ++ List.replicate (n - l.length) 0).take n

/-- The last 64 samples of a list that may be short. -/
def last64 (l : List Int) : List Int := List.replicate (64 - l.length) 0 ++ l.drop (l.length - 64)

/-- Full scale is ±2^23 (R97). -/
def clip24 (x : Int) : Int := max (-(2 ^ 23)) (min (2 ^ 23 - 1) x)

/-- A delay filter over a list of samples; silence stays silence. -/
def delayed (on : Bool) (f : List Int → Nat → Int) (l : List Int) : List Int :=
  if on && l.any (· != 0) then (List.range l.length).map (f l) else l

/-- The pool samples of a slot over `n` instants, the 64 before first: the source's counts, clipped, with INV and DELAY of the map
entry (R84, R86). An inactive slot delivers zeros (R87). -/
def Dev.poolSamples (d : Dev) (c : CycleData) (n m s : Nat) : List Int :=
  let e := d.mapEntry m s
  if !e.testBit 7 then List.replicate (64 + n) 0
  else
    let raw := padInt n (srcList c.src (e % 128))
    let l := (last64 (srcList d.mpl.hist (e % 128)) ++ raw).map fun x => if e.testBit 11 then clip24 (-(clip24 x)) else clip24 x
    let dly := e / 2 ^ 16 % 256
    delayed (dly != 0) (Config.poolDelay dly) l

/-- A slot over a span of `n` samples: the pool samples less OFS, delayed by PHCOR (R103). -/
def Dev.slotSig (d : Dev) (c : CycleData) (n : Nat) (m : Fin 5) (s : Nat) : SlotSig :=
  let e := d.mapEntry m.val s
  let tail := (d.met[m].tail[s]?).getD 0
  let l := d.poolSamples c n m.val s
  if !e.testBit 7 then { w := l, k := 0, tail := tail, sat := false }
  else
    let ofs := signed 24 (d.rdN (MET.OFS m s))
    let ph := signed 16 (d.rdN (MET.PHCOR m s))
    { w := delayed (ph != 0) (Config.engineDelay ph) (l.map (· - ofs)), k := floatRat (d.rd (MET.SCALE m s)), tail := tail,
      sat := (padInt n (srcList c.src (e % 128))).any fun x => clip24 x != x }

/-- The last of a list of numbers. -/
def lastInt (l : List Int) : Int := l.getLast?.getD 0

/-- Physical value of the last sample. -/
def SlotSig.last (a : SlotSig) : Rat := if a.x.isEmpty then a.tail else a.k * (lastInt a.x : Rat)

/-- A sum over a span in ns (R107): `t`, the value at the straddling sample at its start; `l`, the values of its samples; the last
one counts to the end of the span only. -/
def Span.total (sp : Span) (t k : Rat) (l : List Int) : Rat :=
  (min sp.strad sp.ns : Nat) * t + k * ((62500 * l.sum - sp.rest * lastInt l : Int) : Rat)

/-- Time integral of the product of two slots. -/
def Span.product (sp : Span) (a b : SlotSig) : Rat :=
  sp.total (a.tail * b.tail) (a.k * b.k) ((a.x.zip b.x).map fun p => p.1 * p.2)

/-- Mean of a slot over a span (R115). -/
def Span.mean (sp : Span) (a : SlotSig) : Rat := sp.total a.tail a.k a.x / (max 1 sp.ns : Nat)

/-- The difference of two slots in V, sample by sample (R85, R117). -/
def slotDiff (a b : SlotSig) : List Rat := (a.x.zip b.x).map fun p => a.k * (p.1 : Rat) - b.k * (p.2 : Rat)

/-! ### The fundamental by demodulation (R56) -/

/-- Σ x·exp(−jφ) over the samples of a span, φ their wheel angles. -/
def Span.demod (sp : Span) (x : List Int) : Int × Int :=
  if x.all (· == 0) then (0, 0)
  else ((List.range x.length).zip x).foldl (fun z e =>
    let u := cis ((sp.strad + 62500 * e.1) * 2 ^ 32 / max 1 sp.period % 2 ^ 32)
    (z.1 + e.2 * u.1, z.2 - e.2 * u.2)) (0, 0)

/-- The angle of the positive-going zero crossing of a demodulated fundamental, in 2^-32 turn. -/
def crossingOf (z : Int × Int) : Nat := (2 ^ 33 - 2 ^ 30 - argOf z) % 2 ^ 32

/-- Square of the peak of a demodulated fundamental over `n` samples, in counts. -/
def peakSq (z : Int × Int) (n : Nat) : Rat := ((4 * (z.1 * z.1 + z.2 * z.2) : Int) : Rat) / (max 1 (n * n) * 2 ^ 120 : Nat)

/-- A fundamental of squared peak `a` (counts) reaches SRC_MIN of the nominal voltage of page `m`, as rms (R56, R75). -/
def Dev.reachesMin (d : Dev) (m : Fin 5) (s : Nat) (a : Rat) : Bool :=
  let k := floatRat (d.rd (MET.SCALE m s))
  let v : Rat := ((20 + 5 * d.get CAR.CFG_SRC_MIN) * d.get (MET.NOM_UNOM m) : Nat) / 100
  decide (v * v ≤ a * k * k / 2)

/-- The period of a fundamental that has moved from one angle to another over a cycle of `p` ns. -/
def periodFrom (p old new : Nat) : Nat := (p + (p * turnInt (new + 2 ^ 32 - old)) / 2 ^ 32 : Int).toNat

/-- A period of 40–70 Hz (R56). -/
def periodGood (ns : Nat) : Bool := decide (1000000000 ≤ ns * 70) && decide (ns * 40 ≤ 1000000000)

/-- Mean of a list of periods in ns, as a frequency in mHz. -/
def meanFreq (ps : List Nat) : Nat := roundDiv (1000000000000 * ps.length) (max 1 ps.sum)

/-! ### The resampler (R109) and its spectrum (R110, R113) -/

/-- The resampled value `t` ns into a span, in counts: 64 taps, the coefficients linear between two of the 1,024 phases. -/
def resampleAt (w : List Int) (strad t : Nat) : Rat :=
  let u := t + 64 * 62500 - strad
  let p := u % 62500 * 1024
  let q := p % 62500
  let tap := fun j => (62500 - q : Nat) * Config.resampleTap (p / 62500) j + q * Config.resampleTap (p / 62500 + 1) j
  (((List.range 64).map fun j => tap j * (w[u / 62500 - j]?).getD 0).sum : Int) / (62500 * 2 ^ 30 : Nat)

/-- The resampled values of a slot over a span, in counts. -/
def Span.points (sp : Span) (a : SlotSig) : List Rat :=
  if a.w.all (· == 0) then List.replicate sp.pts 0
  else (List.range sp.pts).map fun k => resampleAt a.w sp.strad (k * sp.period / 256)

/-- A slot resampled: V or A per count, and the points in counts. -/
structure Wave where
  k : Rat
  p : List Rat

/-- A slot over a span, resampled. -/
def Span.wave (sp : Span) (a : SlotSig) : Wave := { k := a.k, p := sp.points a }

/-- Mean square in V² or A² (R110). -/
def Wave.sq (a : Wave) : Rat := a.k * a.k * (a.p.map fun x => x * x).sum / (max 1 a.p.length : Nat)

/-- The unit phasors of the 256 points. -/
def twiddles : List (Int × Int) := (List.range 256).map fun k => cis (k * 2 ^ 24)

/-- Harmonic h of a slot as a peak phasor in V or A (R110, R113). -/
def Wave.bin (a : Wave) (h : Nat) : Rat × Rat :=
  if a.p.all (· == 0) then (0, 0)
  else
    let f : Rat := a.k * 2 / ((max 1 a.p.length * 2 ^ 60 : Nat) : Rat)
    let z := ((List.range 256).zip a.p).foldl (fun (z : Rat × Rat) e =>
      let u := (twiddles[e.1 * h % 256]?).getD (0, 0)
      (z.1 + e.2 * (u.1 : Rat), z.2 - e.2 * (u.2 : Rat))) (0, 0)
    (f * z.1, f * z.2)

/-- The angle of a phasor of ratios. -/
def argRat (z : Rat × Rat) : Nat := argOf ((z.1 * 2 ^ 40).floor, (z.2 * 2 ^ 40).floor)

end Sys2Proof.Machine
end

