-- ==== Sys2Proof/Machine/Metrology.lean ====
section
/-!
DEFINITION. The metrology engine (ch. 5): meter modes (R106), energy, rms, reactive and apparent power of a cycle
(R107–R112), increment entries and their FIFOs (R34, R118–R121), harmonics (R113), the page's frequency (R114), redundant DC
current (R116), sensor parameters (R104), and metrology self-check failures (R32).
-/
namespace Sys2Proof.Machine

open Sys2Proof

/-! ### Parameters and self-check (R32, R105) -/

/-- A page has a SCALE other than 0 for every slot its mode requires (R105). -/
def Dev.scaleOk (d : Dev) (m : Fin 5) : Bool :=
  (requiredSlots d.met[m].cfgEff).all fun s => d.rdN (MET.SCALE m s) != 0

/-- A metrology self-check failure lasts (R32): a clock fault, or the reference monitor disagrees after calibration. -/
def Dev.selfCheckBad (d : Dev) : Bool :=
  d.mpl.clockFault || (d.bit MPL.STAT_INIT_DONE && !d.bit MPL.STAT_REF_OK)

/-- A metrology self-check failure (R32): log entry 0x0003, report card; a unit that is not the active of a pair stops
every session. Items 3 and 4 of the card are clocks and measurement pool (R459). -/
def Dev.selfCheckFail (d : Dev) (page cause input : Nat) : Dev :=
  let wasActive := d.pairState == Pr.ACTIVE
  let d := (d.glogHw 0x0003 0xFF (leBytes 1 page ++ leBytes 1 cause ++ leBytes 1 input)).card (if cause = 1 then 3 else 4) 2
  if wasActive then d else d.forBays fun n d => d.stopRequest n (2 ^ 2)

/-- A source feeds a legally relevant quantity of a bay that meters: the page (R83, R94). -/
def Dev.feedsMetering (d : Dev) (src : Nat) : Option Nat :=
  (List.range 4).find? fun m =>
    if h : m < 5 then
      d.bit (MET.STAT_METERING ⟨m, h⟩) &&
        (requiredSlots d.met[m].cfgEff).any fun s => d.slotActive m s && d.mapEntry m s % 128 == src
    else false

/-! ### The entry of a cycle (R107–R121) -/

/-- Change a meter page. -/
def Dev.modMet (d : Dev) (m : Fin 5) (f : MetInt → MetInt) : Dev := { d with met := d.met.set m (f d.met[m]) }

/-- PGA gain code of a slot; an MDAT has none (R86). -/
def Dev.slotGain (d : Dev) (m s : Nat) : Nat :=
  if d.mapEntry m s % 128 < 0x18 then d.mapEntry m s / 256 % 8 else 0

/-- The current below which a cycle is a no-load cycle, squared, in A² (R121). ISTART = 0: I_FS/5,000 of the active current slot of
the page with the lowest gain, I_FS taken as rms for AC. -/
def Dev.istart2 (d : Dev) (m : Fin 5) : Rat :=
  let i := d.rdN (MET.ISTART m)
  if i ≠ 0 then (i * i : Nat) / 1000000
  else
    let dc := d.met[m].cfgEff % 4 == 2
    match (if dc then [12, 13] else [3, 4, 5, 6]).filter (d.slotActive m.val) with
    | [] => 0
    | s :: l =>
      let b := l.foldl (fun b x => if d.slotGain m.val x < d.slotGain m.val b then x else b) s
      let fs := floatRat (d.rd (MET.SCALE m b)) * 2 ^ 23 / 5000
      if dc then fs * fs else fs * fs / 2

/-- Flags of R119. -/
def Fl.FW : Nat := 0
def Fl.INVALID : Nat := 1
def Fl.SAT : Nat := 2
def Fl.NOLOAD : Nat := 3
def Fl.CALSTEP : Nat := 4
def Fl.MERGED : Nat := 5
def Fl.PF : Nat := 6
def Fl.REDERR : Nat := 7
def Fl.PARAM : Nat := 8
def Fl.DC : Nat := 9
def Fl.CYC_SAT : Nat := 10

/-- One bit of a flags word. -/
def flagIf (b : Bool) (i : Nat) : Nat := if b then 2 ^ i else 0

/-- A time integral in V·A·ns (A²·ns) in units of 2^-64 Wh (A²h) (R107, R120). -/
def energy64 (q : Rat) : Nat := ((if q < 0 then -q else q) * 2 ^ 64 / 3600000000000).floor.toNat

/-- A phase over a cycle: voltage and current as sampled, and for AC resampled, with their fundamentals. -/
structure Phase where
  v : SlotSig
  i : SlotSig
  vw : Wave
  iw : Wave
  v1 : Rat × Rat
  i1 : Rat × Rat

/-- A phase from its two slots. -/
def Span.phase (sp : Span) (v i : SlotSig) : Phase :=
  let vw := sp.wave v
  let iw := sp.wave i
  { v := v, i := i, vw := vw, iw := iw, v1 := vw.bin 1, i1 := iw.bin 1 }

/-- Time integral of v·i (R107). -/
def Phase.energy (ph : Phase) (sp : Span) : Rat := sp.product ph.v ph.i

/-- Fundamental reactive power (R111): V1rms·I1rms·sin(arg V1 − arg I1). -/
def Phase.reactive (ph : Phase) : Rat := (ph.v1.2 * ph.i1.1 - ph.v1.1 * ph.i1.2) / 2

/-- The phases a page computes (R106): those of PH_EN in AC by number, the one pair of slots in DC. -/
def Dev.metPhases (d : Dev) (c : CycleData) (sp : Span) (m : Fin 5) : List (Nat × Phase) :=
  let cfg := d.met[m].cfgEff
  let slot := fun s => d.slotSig c sp.count m s
  match cfg % 4 with
  | 1 => ((List.range 3).filter fun k => cfg.testBit (4 + k)).map fun k => (k, sp.phase (slot k) (slot (3 + k)))
  | 2 => [(0, sp.phase (slot 10) (slot 12))]
  | _ => []

/-- The quadrant, 0–3 for Q1–Q4, by the net energy and the reactive power (R111). -/
def quadrant (e q : Rat) : Nat := if 0 ≤ q then (if 0 ≤ e then 0 else 1) else (if e < 0 then 2 else 3)

/-- The cycle's increments in 2^-64 units: AP, AN, RQ1–RQ4, I2T (R107, R108, R111, R118). -/
def cycleInc (ac sum : Bool) (sp : Span) (ph : List Phase) : List Nat :=
  let es := ph.map fun x => x.energy sp
  let e := es.sum
  let (ap, an) := if sum then
      ((es.map fun x => if 0 ≤ x then energy64 x else 0).sum, (es.map fun x => if x < 0 then energy64 x else 0).sum)
    else if 0 ≤ e then (energy64 e, 0) else (0, energy64 e)
  let q := (ph.map Phase.reactive).sum
  let rq := (List.range 4).map fun k => if ac && k == quadrant e q then energy64 (q * sp.ns) else 0
  [ap, an] ++ rq ++ [energy64 (ph.map fun x => sp.product x.i x.i).sum]

/-- Carry remainders (R120): the 2^-32 counts, and what stays. -/
def carryInc (rem inc : List Nat) : List Nat × List Nat :=
  let t := (rem.zip inc).map fun x => x.1 + x.2
  (t.map (· / 2 ^ 32), t.map (· % 2 ^ 32))

/-- Push an entry into a page's FIFO; a full FIFO merges it into its last entry (R34, R118, R119). -/
def pushEntry (q : List MetEntry) (e : MetEntry) : List MetEntry :=
  if q.length < 256 then q ++ [e]
  else match q.getLast? with
    | none => [e]
    | some l =>
      let c := l.cycles + e.cycles
      q.dropLast ++ [{ wt := e.wt, cycles := satAt 0xFFFF c, inc := (l.inc.zip e.inc).map fun x => x.1 + x.2,
                       flags := l.flags ||| e.flags ||| 2 ^ Fl.MERGED ||| flagIf (decide (0xFFFF < c)) Fl.CYC_SAT }]

/-- Write a signed number into a 32-bit register. -/
def Dev.wrI (d : Dev) (a : Nat) (i : Int) : Dev := d.wrN a (toUnsigned 32 i)

/-- All quantity registers read 0 (R105): voltages to across-contact voltages, the THD registers, the harmonic array. -/
def Dev.noQuantities (d : Dev) (m : Fin 5) : Dev :=
  let d := (List.range 35).foldl (fun d k => d.wrN (MET.page m + 0x054 + 4 * k) 0) d
  (List.range 80).foldl (fun d k => d.wrN (MET.page m + 0x100 + 4 * k) 0) d

/-- An apparent power in VA from mean squares, in units of 2^-32 VA (R112). -/
def apparent (v i : Rat) : Nat := rootIn (2 ^ 32) (v * i)

/-- The power factor in 10^-4 (R112): 0 without apparent power; it saturates at its field. -/
def powerFactor (p : Rat) (s : Nat) : Int :=
  if s = 0 then 0 else max (-32768) (min 32767 (roundRat (p * 10000 * 2 ^ 32 / s)))

/-- The registers of one phase of an AC page (R110–R112, R127); of a phase that is not enabled, 0. -/
def Dev.phaseRegs (d : Dev) (m : Fin 5) (sp : Span) (k : Nat) (ph : Option Phase) : Dev :=
  let f := fun (q : Phase → Rat) => (ph.map q).getD 0
  let d := (d.wrN (MET.VRMS m k) (rootIn 1000 (f fun x => x.vw.sq))).wrN (MET.IRMS m k) (rootIn 1000 (f fun x => x.iw.sq))
  let d := (d.wrI (MET.P m k) (roundRat (f fun x => x.energy sp * 10 / (max 1 sp.ns : Nat)))).wrI (MET.Q m k)
    (roundRat (f fun x => x.reactive * 10))
  d.wrN (MET.S m k) (roundDiv (((ph.map fun x => apparent x.vw.sq x.iw.sq).getD 0) * 10) (2 ^ 32))

/-- The quantity registers of an AC page (R110–R112, R117, R127); those of DC read 0. -/
def Dev.acQuantities (d : Dev) (m : Fin 5) (c : CycleData) (sp : Span) (ph : List (Nat × Phase)) : Dev :=
  let cfg := d.met[m].cfgEff
  let slot := fun s => d.slotSig c sp.count m s
  let vx := (List.range 3).map fun k => if cfg.testBit 8 then slotDiff (slot (7 + k)) (slot k) else []
  let n := if cfg.testBit 7 then rootIn 1000 (sp.wave (slot 6)).sq else 0
  let d := (List.range 3).foldl (fun d k => d.phaseRegs m sp k ((ph.find? fun x => x.1 == k).map (·.2))) d
  let e := (ph.map fun x => x.2.energy sp).sum
  let q := (ph.map fun x => x.2.reactive).sum
  let st := (ph.map fun x => apparent x.2.vw.sq x.2.iw.sq).sum
  let d := ((d.wrN (MET.IRMS m 3) n).wrI (MET.P m 3) (roundRat (e * 10 / (max 1 sp.ns : Nat)))).wrI (MET.Q m 3) (roundRat (q * 10))
  let d := d.wrN (MET.S m 3) (roundDiv (st * 10) (2 ^ 32))
  let d := (d.set (MET.PF_T_PF m) (toUnsigned 16 (powerFactor (e / (max 1 sp.ns : Nat)) st))).set (MET.PF_T_QUAD m) (quadrant e q)
  (List.range 3).foldl (fun d k =>
    let l := (vx[k]?).getD []
    (d.wrN (MET.VX m k) (rootIn 1000 ((l.map fun x => x * x).sum / (max 1 l.length : Nat)))).wrN (MET.VDC_VEH m + 4 * k) 0)
    ((d.wrN (MET.IDC_RED m) 0).wrN (MET.PDC m) 0)

/-- A voltage or current in mV or mA. -/
def milli (q : Rat) : Int := roundRat (q * 1000)

/-- The quantity registers of a DC page (R114, R115, R117); those of AC read 0, but for P_T (assumption 148). -/
def Dev.dcQuantities (d : Dev) (m : Fin 5) (c : CycleData) (sp : Span) (ph : List (Nat × Phase)) : Dev :=
  let cfg := d.met[m].cfgEff
  let mean := fun s => sp.mean (d.slotSig c sp.count m s)
  let veh := mean 10
  let chg := if cfg.testBit 8 then mean 11 else 0
  let i := mean 12
  let red := if cfg.testBit 9 then mean 13 else 0
  let pdc := roundRat ((ph.map fun x => x.2.energy sp).sum * 10 / (max 1 sp.ns : Nat))
  let d := d.noQuantities m
  let d := ((((d.wrI (MET.VDC_VEH m) (milli veh)).wrI (MET.VDC_CHG m) (milli chg)).wrI (MET.IDC m) (milli i)).wrI
    (MET.IDC_RED m) (milli red)).wrI (MET.PDC m) pdc
  (d.wrI (MET.P m 3) pdc).wrI (MET.VX m 0) (if cfg.testBit 8 then milli (chg - veh) else 0)

/-! ### The page's own frequency (R114) -/

/-- FREQ of an AC page: the period of the fundamental of slot 0 from one cycle to the next, its mean over 8, valid while slot 0 meets
R56; a DC page and one without MODE have none. -/
def Dev.pageFreq (d : Dev) (m : Fin 5) (c : CycleData) (sp : Span) : Dev :=
  if d.met[m].cfgEff % 4 = 2 then (d.wrN (MET.FREQ m) 0).modMet m fun x => { x with theta := none, freqRun := 0, freqPer := [] }
  else if d.met[m].cfgEff % 4 ≠ 1 then d.modMet m fun x => { x with theta := none, freqRun := 0, freqPer := [] }
  else
    let z := sp.demod (d.slotSig c sp.count m 0).x
    let a := crossingOf z
    let p := d.met[m].theta.map fun o => periodFrom sp.period o a
    let ok := d.slotUsable m 0 && !d.slotTainted m.val 0 && d.reachesMin m 0 (peakSq z sp.count)
    let good := ok && p.any periodGood
    let run := if good then min 2 (d.met[m].freqRun + 1) else 0
    let per := if good then (p.toList ++ d.met[m].freqPer).take 8 else []
    let d := d.modMet m fun x => { x with theta := if ok then some a else none, freqRun := run, freqPer := per }
    if run = 2 then (d.set (MET.FREQ_FREQ m) (meanFreq per)).setBit (MET.FREQ_VALID m) true
    else d.setBit (MET.FREQ_VALID m) false

/-! ### Harmonics (R113) -/

/-- The six quantities of the harmonics over a cycle: VA, VB, VC, IA, IB, IC; nothing of a phase that is not enabled. -/
def harmWaves (ph : List (Nat × Phase)) : List (Option Wave) :=
  let f := fun k => (ph.find? fun x => x.1 == k).map (·.2)
  ((List.range 3).map fun k => (f k).map (·.vw)) ++ (List.range 3).map fun k => (f k).map (·.iw)

/-- One cycle more of a harmonic window of `lim` cycles; `sel`, the quantity whose phases it keeps. -/
def HarmWin.add (w : HarmWin) (sel : Nat) (fw : Bool) (ph : List (Nat × Phase)) : HarmWin :=
  let ws := harmWaves ph
  let mag := ws.flatMap fun x => (List.range 40).map fun h =>
    match x with
    | some x => let z := x.bin (h + 1); (z.1 * z.1 + z.2 * z.2) / 2
    | none => (0 : Rat)
  let ref := ((ws[0]?).getD none).map fun x => argRat (x.bin 1)
  let at_ := (List.range 40).map fun h =>
    match (ws[sel]?).getD none, ref with
    | some x, some r => (argRat (x.bin (h + 1)) + (h + 1) * (2 ^ 32 - r)) % 2 ^ 32
    | _, _ => 0
  if w.n = 0 then { n := 1, fw := fw, mag := mag, ph0 := at_, dev := at_.map fun _ => 0 }
  else { n := w.n + 1, fw := w.fw || fw, mag := (w.mag.zip mag).map fun p => p.1 + p.2, ph0 := w.ph0,
         dev := (w.dev.zip (w.ph0.zip at_)).map fun p => p.1 + turnInt (p.2.2 + 2 ^ 32 - p.2.1) }

/-- The selected quantity of the harmonic array (R127 HCFG). -/
def Dev.harmSel (d : Dev) (m : Fin 5) : Nat := d.get (MET.HCFG_HQTY m) * 3 + d.get (MET.HCFG_HPH m)

/-- Cycles of a harmonic window: 1–64 (assumption 138). -/
def Dev.harmLen (d : Dev) (m : Fin 5) : Nat := if d.get (MET.HCFG_WIN m) = 0 then 64 else d.get (MET.HCFG_WIN m)

/-- The cycle enters the harmonic window; a full one is ready to be published (R113). Without HARM_EN, AC or SCALE_OK there is none. -/
def Dev.harmCycle (d : Dev) (m : Fin 5) (ph : List (Nat × Phase)) : Dev :=
  if d.met[m].cfgEff % 4 = 1 ∧ d.met[m].cfgEff.testBit 10 ∧ d.scaleOk m ∧ d.bit MPL.STAT_INIT_DONE then
    let w := d.met[m].win.add (d.harmSel m) d.car.fwSeen ph
    d.modMet m fun x => if w.n < d.harmLen m then { x with win := w } else { x with win := {}, winDone := some w }
  else d.modMet m fun x => { x with win := {}, winDone := none }

/-- Loaded sensor parameters and a new CFG take effect (R104, R125). -/
def Dev.metApply (d : Dev) (m : Fin 5) : Dev :=
  let ps := d.met[m].params
  let d := ps.foldl (fun d e => d.wr e.1 e.2) d
  let cfg := d.rdN (MET.CFG m)
  let d := d.modMet m fun x => { x with params := [], parm := !ps.isEmpty, cfgEff := cfg, remap := false, calStep := false }
  let d := (d.setBit (MET.STAT_SCALE_OK m) (d.scaleOk m)).setBit (MET.STAT_VX_NONE m) (!cfg.testBit 8)
  d.setBit (MET.STAT_RUN m) (cfg % 4 != 0 && d.bit MPL.STAT_INIT_DONE)

/-- A cycle whose samples do not count (R105, R119, R125): INVALID. -/
def Dev.metBad (d : Dev) (m : Fin 5) : Bool :=
  let x := d.met[m]
  x.cfgEff % 4 != 0 && (d.selfCheckBad || x.remap || !d.scaleOk m || (requiredSlots x.cfgEff).any (d.slotTainted m.val))

/-- A no-load cycle (R121). -/
def Dev.metNoload (d : Dev) (m : Fin 5) (c : CycleData) (sp : Span) (ph : List (Nat × Phase)) : Bool :=
  let lim := d.istart2 m
  match d.met[m].cfgEff % 4 with
  | 1 => ph.all fun x => decide (x.2.iw.sq < lim)
  | 2 => let i := sp.mean (d.slotSig c sp.count m 12); decide (i * i < lim)
  | _ => false

/-- A page's entry for the samples of a span that ends at wheel time `wt` (R118–R121): its flags and what it adds. `pf`, the partial
cycle at hold-up entry, after which no entry is pushed (R126). -/
def Dev.metPush (d : Dev) (m : Fin 5) (wt : Nat) (pf : Bool) (c : CycleData) (sp : Span) (ph : List (Nat × Phase)) : Dev :=
  let x := d.met[m]
  let mode := x.cfgEff % 4
  let bad := d.metBad m
  let noload := !bad && d.metNoload m c sp ph
  let sat := (requiredSlots x.cfgEff).any fun s => (d.slotSig c sp.count m s).sat
  let none_ := bad || noload || mode == 0
  let zero := [0, 0, 0, 0, 0, 0, 0]
  let (out, rem) := if none_ then (zero, x.rem)
    else carryInc x.rem (cycleInc (mode == 1) (d.bit (MET.LCFG_SUM m)) sp (ph.map (·.2)))
  let flags := flagIf d.car.fwSeen Fl.FW + flagIf bad Fl.INVALID + flagIf sat Fl.SAT +
    flagIf noload Fl.NOLOAD + flagIf x.calStep Fl.CALSTEP + flagIf pf Fl.PF + flagIf (d.bit (MET.STAT_REDERR m)) Fl.REDERR +
    flagIf x.parm Fl.PARAM + flagIf (mode == 2) Fl.DC + m.val * 65536
  if x.ended then d
  else d.modMet m fun x =>
    { x with fifo := pushEntry x.fifo { wt := wt, flags := flags, inc := out }, rem := rem,
             eimp := x.eimp + (out[0]?).getD 0, eexp := x.eexp + (out[1]?).getD 0, ended := pf }

/-- The status of a page after a cycle (R119, R121, R127). -/
def Dev.metStatus (d : Dev) (m : Fin 5) (bad noload sat : Bool) : Dev :=
  let pg := MET.page m
  let d := if noload != d.bit (MET.STAT_NOLOAD m) then d.raise pg MET.ev_NOLOAD else d
  let d := if bad && !d.bit (MET.STAT_INVALID m) then d.raise pg MET.ev_INVALID else d
  let d := if sat && !d.bit (MET.STAT_SAT m) then d.raise pg MET.ev_SAT else d
  let d := if d.met[m].parm then d.raise pg MET.ev_PARAM else d
  (((d.setBit (MET.STAT_NOLOAD m) noload).setBit (MET.STAT_INVALID m) bad).setBit (MET.STAT_SAT m) sat).setBit
    (MET.STAT_FW m) d.car.fwSeen

/-- The values of the last samples of all slots, for the next cycle's straddling sample (R107). -/
def Dev.metTail (d : Dev) (m : Fin 5) (c : CycleData) (sp : Span) : Dev :=
  let t := (List.range 16).map fun s => (d.slotSig c sp.count m s).last
  d.modMet m fun x => { x with tail := if t.all (· == 0) then [] else t }

/-- A meter page at the boundary that ends a cycle at wheel time `wt`: its entry, its registers, its marks. -/
def Dev.metEntry (d : Dev) (m : Fin 5) (wt : Nat) (c : CycleData) (sp : Span) : Dev :=
  let ph := d.metPhases c sp m
  let bad := d.metBad m
  let noload := !bad && d.metNoload m c sp ph
  let sat := (requiredSlots d.met[m].cfgEff).any fun s => (d.slotSig c sp.count m s).sat
  let mode := d.met[m].cfgEff % 4
  let d := ((d.metPush m wt false c sp ph).metStatus m bad noload sat).harmCycle m ph
  let d := if mode = 0 || !d.scaleOk m || !d.bit MPL.STAT_INIT_DONE then d.noQuantities m
    else if mode = 2 then d.dcQuantities m c sp ph else d.acQuantities m c sp ph
  let d := (d.pageFreq m c sp).metTail m c sp
  let imp := d.met[m].eimp * 1000 / 2 ^ 32
  let exp := d.met[m].eexp * 1000 / 2 ^ 32
  let d := (((d.wrN (MET.EIMP_LO m) imp).wrN (MET.EIMP_HI m) (imp / 2 ^ 32)).wrN (MET.EEXP_LO m) exp).wrN (MET.EEXP_HI m)
    (exp / 2 ^ 32)
  ((d.wrN (MET.CYC m) (wt / 65536 - 1)).raise (MET.page m) MET.ev_CYCLE).metApply m

/-- The page runs: its bay is there and its block is on (R36, R126). -/
def Dev.metOn (d : Dev) (m : Fin 5) : Bool := d.present (.MET m) && d.enabled (.MET m)

/-- The samples of the cycle pass on: the last 64 of each source stay, and what is left of the last sample's period (R107, R109). -/
def Dev.samplesPass (d : Dev) (c : CycleData) (sp : Span) : Dev :=
  let srcs := (d.mpl.hist.map (·.1) ++ (c.src.map (·.1)).filter fun k => !(d.mpl.hist.any fun e => e.1 == k))
  let h := srcs.map fun k => (k, last64 (srcList d.mpl.hist k ++ padInt sp.count (srcList c.src k)))
  { d with mpl := { d.mpl with hist := h.filter fun e => e.2.any (· != 0), badSeen := 0, finalDue := false },
           car := { d.car with strad := sp.rest } }

/-- A measurement takes a cycle (R304): the pool samples of the page's slots. -/
def Dev.measureCycle (d : Dev) (c : CycleData) (sp : Span) (m : Fin 5) (r : MeasRun) : MeasRun :=
  let l := (List.range 16).map fun s => (d.poolSamples c sp.count m.val s).drop 64
  let z := l.map sp.demod
  let at' := fun k => (z[k]?).getD (0, 0)
  { left := r.left - 1, ns := r.ns + sp.ns, cycles := r.cycles + 1, n := r.n + sp.count,
    sum := (r.sum.zip l).map fun e => e.1 + e.2.sum,
    sq := (r.sq.zip l).map fun e => e.1 + (e.2.map fun x => x * x).sum,
    cross := r.cross.zipIdx.map fun e =>
      let p := cMul (at' e.2) ((at' (e.2 + 3)).1, -(at' (e.2 + 3)).2)
      (e.1.1 + p.1, e.1.2 + p.2) }

/-- The result of a measurement (R304): for each active slot, in ascending order, the rms value or, in DC mode, the mean in counts, as
IEEE 754 single; then for each phase whose two slots are active the delay of the current's fundamental against the voltage's in ns. -/
def Dev.measureResult (d : Dev) (m : Fin 5) (r : MeasRun) : List Byte :=
  let dc := d.met[m].cfgEff % 4 == 2
  let n : Rat := (max 1 r.n : Nat)
  let one := fun s : Nat =>
    if !d.slotActive m.val s then []
    else
      let mean : Rat := ((r.sum[s]?).getD 0 : Int)
      let sq : Rat := ((r.sq[s]?).getD 0 : Int)
      leBytes 4 (floatOf (if dc then mean / n else (rootIn (2 ^ 32) (sq / n) : Nat) / (2 ^ 32 : Nat)))
  let phase := fun k : Nat =>
    if dc || !(d.slotActive m.val k && d.slotActive m.val (3 + k)) then []
    else
      let a := turnInt (argOf ((r.cross[k]?).getD (0, 0)))
      leBytes 4 (toUnsigned 32 (a * (r.ns : Int) / (2 ^ 32 * (max 1 r.cycles : Nat) : Int)))
  (List.range 16).flatMap one ++ ([0, 1, 2] : List Nat).flatMap phase

/-- All pages at a boundary (R34, R126): after the partial entry of hold-up the quantities go on without entries until step 5. -/
def Dev.metCycle (d : Dev) (wt : Nat) (c : CycleData) (sp : Span) : Dev :=
  let d := ([0, 1, 2, 3, 4] : List (Fin 5)).foldl (fun d m =>
    let d := if d.metOn m && !(d.met[m].ended && decide (5 ≤ d.get PWR.STAT_HU_STEP)) then d.metEntry m wt c sp else d
    let d := d.modMet m fun x => { x with finalDue := false }
    match d.led.measuring[m] with
    | some r =>
      if r.left = 0 then d
      else { d with led := { d.led with measuring := d.led.measuring.set m (some (d.measureCycle c sp m r)) } }
    | none => d) d
  d.samplesPass c sp

/-- Hold-up entry (R126): each page pushes the entry of the partial cycle. -/
def Dev.metPartial (d : Dev) (c : CycleData) : Dev :=
  let sp := d.span d.car.periodNs (d.wheel % 65536)
  ([0, 1, 2, 3, 4] : List (Fin 5)).foldl (fun d m =>
    if d.metOn m then d.metPush m d.wheel true c sp (d.metPhases c sp m) else d) d

/-! ### Commands -/

/-- The register offset of sensor parameter number `r`: SCALE, OFS and PHCOR of slots 0–15, LCFG, ISTART, RED_TOL. -/
def sensorReg (m : Fin 5) (r : Nat) : Nat :=
  MET.page m + (if r < 16 then 0x400 + 4 * r else if r < 32 then 0x440 + 4 * (r - 16)
    else if r < 48 then 0x480 + 4 * (r - 32) else 0x4C0 + 4 * (r - 48))

/-- A sensor parameter is loaded: in effect from the next boundary (R104). -/
def Dev.sensorLoad (d : Dev) (m : Fin 5) (r : Nat) (w : Word) : Dev :=
  let v := if r < 16 then w else if r < 32 then w &&& 0xFFFFFF else if r < 48 then w &&& 0xFFFF
    else if r = 48 then w &&& 1 else w
  d.modMet m fun x => { x with params := x.params ++ [(sensorReg m r, v)] }

/-- SENSOR_PARAM_LOAD (R104): by the legal domain in L variants, by the page owner in N variants. -/
def execSensorParamLoad (m : Master) (p : Fin 5) (r : Fin 51) (w : Word) (s : State) : Out :=
  s.on fun d =>
    if d.legalPart then (if m = .lgl then d.sensorLoad p r.val w else d)
    else d.guard m (.MET p) (sensorReg p r.val - MET.page p) fun d => d.sensorLoad p r.val w

/-- Why a write of MET.CFG is rejected, if it is (R106, R127). -/
def Dev.metCfgError (d : Dev) (p : Fin 5) (w : Nat) : Option Nat :=
  let mode := w % 4
  let site := p.val == 4
  if mode = 2 ∧ !d.chip.variant.dc then some Err.NOT_FUSED
  else if mode = 3 ∨ (site ∧ (mode = 2 ∨ w.testBit 8 ∨ w.testBit 9)) then some Err.RANGE
  else if d.bit (MET.STAT_METERING p) then some Err.BUSY
  else if (requiredSlots w).all (d.slotActive p.val) then none
  else some Err.SEQUENCE

/-- METER_CFG_WRITE (R106). -/
def execMeterCfgWrite (m : Master) (p : Fin 5) (w : Word) (s : State) : Out :=
  s.on fun d => d.guard m (.MET p) 0x040 fun d =>
    match d.metCfgError p w.toNat with
    | some e => d.reject (MET.page p) e
    | none => d.wr (MET.CFG p) (w &&& 0x7F3)

/-- HARMONIC_WINDOW_END (R113): the window that has ended is published. A ratio to a fundamental of 0 is a free value. -/
def execHarmonicWindowEnd (p : Fin 5) (s : State) : Out :=
  s.on fun d =>
    match d.met[p].winDone with
    | none => d
    | some w =>
      let (v, d) := d.free
      let mag := fun q h => (w.mag[40 * q + h]?).getD 0
      let ratio := fun (unit : Nat) (num den : Rat) => if den = 0 then v else rootIn unit (num / den)
      let d := (List.range 6).foldl (fun d q =>
        d.set (MET.THD_THD p q) (satAt 0xFFFF (ratio 10000 ((List.range 39).map fun h => mag q (h + 1)).sum (mag q 0)))) d
      let sel := d.harmSel p
      let d := (List.range 40).foldl (fun d k =>
        (d.wrN (MET.HMAG p k) (if k = 0 then rootIn 1000 (mag sel 0 / (max 1 w.n : Nat))
          else satAt 0xFFFFFF (ratio 100000 (mag sel k) (mag sel 0)))).set (MET.HPH_PH p k)
          ((roundRat ((((w.ph0[k]?).getD 0 : Nat) + ((w.dev[k]?).getD 0 : Rat) / (max 1 w.n : Nat)) / 65536) % 65536).toNat)) d
      ((d.setBit (MET.STAT_HSTAT_FW p) w.fw).raise (MET.page p) MET.ev_HARM).modMet p fun x => { x with winDone := none }

/-- The 1 ms means of slots 12 and 13 have differed beyond the tolerance for 10 ms (R116). -/
def execRederrSet (p : Fin 5) (i12 i13 : Int) (s : State) : Out :=
  s.on fun d =>
    let tol : Rat := (d.get (MET.RED_TOL_TOL_R p) * i12.natAbs : Nat) / 10000 +
      d.get (MET.RED_TOL_TOL_F p) * (floatRat (d.rd (MET.SCALE p 12)) * 2 ^ 23 * 1000) / 10000
    if d.met[p].cfgEff % 4 = 2 ∧ d.met[p].cfgEff.testBit 9 ∧ tol < ((i12 - i13).natAbs : Nat) ∧ !d.bit (MET.STAT_REDERR p)
    then
      let d := (d.setBit (MET.STAT_REDERR p) true).raise (MET.page p) MET.ev_REDERR
      if h : p.val < 4 then d.netCause ⟨p.val, h⟩ Net.DCRED else d
    else d

/-- The currents have agreed for 100 ms (R116). -/
def execRederrClear (p : Fin 5) (s : State) : Out :=
  s.on fun d =>
    let d := d.setBit (MET.STAT_REDERR p) false
    if h : p.val < 4 then d.modSafBay ⟨p.val, h⟩ fun b => { b with lfault := setBitN b.lfault 3 false } else d

/-- ECLR (R127). -/
def execEclr (m : Master) (p : Fin 5) (s : State) : Out :=
  s.on fun d => d.guard m (.MET p) 0x0F0 fun d =>
    ((((d.modMet p fun x => { x with eimp := 0, eexp := 0 }).wrN (MET.EIMP_LO p) 0).wrN (MET.EIMP_HI p) 0).wrN
      (MET.EEXP_LO p) 0).wrN (MET.EEXP_HI p) 0

end Sys2Proof.Machine
end

