-- ==== Sys2Proof/Machine/Pool.lean ====
section
/-!
DEFINITION. The measurement pool (ch. 4): the channel map (R85–R88), rotating-spare calibration (R89–R95), the external
bitstream inputs (R81–R83), the reference monitor (R79) and the injection check (R96).
-/
namespace Sys2Proof.Machine

open Sys2Proof

/-! ### Converters (R76, R90, R94) -/

/-- A converter group is bonded (R77). -/
def Dev.hasGroup (d : Dev) (g : Nat) : Bool := decide (g < 2) || d.chip.variant.pkgB

/-- The converter j that serves input i of a group (R101 ASSIGN). -/
def assignIn (g i : Nat) : Fld := ⟨MPL.ASSIGN g, 3 * i, 3⟩

/-- Calibration age of converter c (R101 CALAGE). -/
def calAge (c : Nat) : Fld := ⟨MPL.CALAGE (c / 4), 8 * (c % 4), 8⟩

/-- A group has a spare and runs its steps (R101 GRP_OK). -/
def Dev.mplGrpOk (d : Dev) (g : Nat) : Dev :=
  d.setFlag MPL.STAT_GRP_OK g
    (d.hasGroup g && d.bit MPL.STAT_INIT_DONE && d.bit MPL.CFG_ROT_EN && d.get (MPL.ROTSTAT_PHASE g) != 6)

/-- The calibration of a converter lies within CALLIM (R94): gain and offset deviations in ppm. -/
def Dev.calOk (d : Dev) (gain ofs : Int) : Bool :=
  decide (gain.natAbs ≤ d.get MPL.CALLIM_GAIN_LIM * 1000) && decide (ofs.natAbs ≤ d.get MPL.CALLIM_OFS_LIM * 100)

/-- A group is left without a spare (R94). -/
def Dev.halt (d : Dev) (g : Nat) : Dev :=
  ((d.set (MPL.ROTSTAT_PHASE g) 6).setFlag MPL.STAT_ROTATING g false).mplGrpOk g

/-- Converter j of group g is taken out of service until chip reset (R94). -/
def Dev.convFault (d : Dev) (g j : Nat) : Dev :=
  (d.setFlag MPL.CONV_FAULT_FAULT (7 * g + j) true).raise MPL.page MPL.ev_CONV_FAULT

/-- Change a group. -/
def Dev.modGrp (d : Dev) (g : Fin 4) (f : MplGroup → MplGroup) : Dev :=
  { d with mpl := { d.mpl with grp := d.mpl.grp.set g (f d.mpl.grp[g]) } }

/-- A serving converter without a spare is older than 60 s (R94). -/
def Dev.agedIn (d : Dev) (g i : Nat) : Bool :=
  d.hasGroup g && d.get (MPL.ROTSTAT_PHASE g) == 6 && decide (60 < d.get (calAge (7 * g + d.get (assignIn g i))))

/-- CAL_AGED falls once no serving converter is older than 60 s (R101). -/
def Dev.agedUpdate (d : Dev) : Dev :=
  if [0, 1, 2, 3].any fun g => (List.range 6).any fun i => d.agedIn g i then d else d.setBit MPL.STAT_CAL_AGED false

/-- A new calibration starts, or the converters stop (R89, R100): no sample is valid until INIT_DONE; steps are
abandoned (R95). NEXT stays: the steps that follow go on from it (assumption 153). -/
def Dev.mplStop (d : Dev) : Dev :=
  let d := d.taint allSources
  let d := ((d.setBit MPL.STAT_INIT_DONE false).set MPL.STAT_GRP_OK 0).set MPL.STAT_ROTATING 0
  ([0, 1, 2, 3] : List (Fin 4)).foldl (fun d g =>
    let d := d.modGrp g fun x => { x with failed := none }
    if d.get (MPL.ROTSTAT_PHASE g.val) = 6 then d else d.set (MPL.ROTSTAT_PHASE g.val) 0) d

/-- A group after its two-point calibration: a spare or a serving converter beyond limits leaves service; the input of the latter
waits for its rotation step (assumption 154). -/
def Dev.calGroup (d : Dev) (faults : Nat) (g : Nat) : Dev :=
  if !d.hasGroup g then d
  else
    let d := (List.range 7).foldl (fun d j =>
      let d := d.set (calAge (7 * g + j)) 0
      if faults.testBit (7 * g + j) then d.convFault g j else d) d
    let d := if d.flag MPL.CONV_FAULT_FAULT (7 * g + d.get (MPL.ASSIGN_SPARE g)) then d.halt g else d
    let d := (List.range 6).foldl (fun (d : Dev) i =>
      { d with mpl := { d.mpl with noConv := setBitN d.mpl.noConv (6 * g + i)
                                     (d.flag MPL.CONV_FAULT_FAULT (7 * g + d.get (assignIn g i))) } }) d
    (d.mplGrpOk g).agedUpdate

/-- The monitor disagrees with the reference in use (R79). -/
def Dev.refFault (d : Dev) : Dev := ((d.setBit MPL.STAT_REF_OK false).raise MPL.page MPL.ev_REF_FAULT).selfCheckFail 0xFF 2 0xFF

/-- INITIAL_CALIBRATION_DONE (R79, R89, R94): ends a calibration that runs; none does while the pool is off or a clock is lost. -/
def execInitialCalibrationDone (refOk : Bool) (faults : BitVec 28) (s : State) : Out :=
  s.on fun d =>
    if d.bit MPL.STAT_INIT_DONE || !d.enabled .MPL || d.mpl.clockFault then d
    else
    let d := d.setBit MPL.STAT_INIT_DONE true
    let d := if refOk then d.setBit MPL.STAT_REF_OK true else d.refFault
    let d := [0, 1, 2, 3].foldl (fun d g => d.calGroup faults.toNat g) d
    let d := if refOk then d.card 4 1 else d
    (List.range 24).foldl (fun d i =>
      match (if d.mpl.noConv.testBit i then d.feedsMetering i else none) with
      | some p => d.selfCheckFail p 5 i
      | none => d) d

/-- SPARE_CAL and WARMUP (R90, R94): the spare is calibrated, its age starts anew; beyond limits the group is left without a spare. -/
def Dev.spareCal (d : Dev) (g : Fin 4) (gain ofs : Int) : Dev :=
  let j := d.get (MPL.ASSIGN_SPARE g.val)
  let d := d.set (calAge (7 * g.val + j)) 0
  if d.calOk gain ofs then (d.setFlag MPL.STAT_ROTATING g.val true).set (MPL.ROTSTAT_PHASE g.val) 3
  else ((d.convFault g.val j).modGrp g fun x => { x with failed := none }).halt g.val

/-- The retry of R93 runs: its spare calibration is under way. -/
def Dev.retrying (d : Dev) (g : Fin 4) : Bool :=
  d.flag MPL.STAT_ROTATING g.val && d.get (MPL.ROTSTAT_PHASE g.val) == 1 && d.mpl.grp[g].failed.isSome

/-- ROTATION_STEP (R90, R93–R95): `gain` and `ofs` are the deviations in ppm that SPARE_CAL finds, in a new step or in the retry of
one. A granted continuous shadow lets a step run only when a converter of the group has reached 50 s; none starts in hold-up (R100). -/
def execRotationStep (g : Fin 4) (gain ofs : Int) (s : State) : Out :=
  s.on fun d =>
    let due := !d.mpl.grp[g].shadow || (List.range 7).any fun j => decide (50 ≤ d.get (calAge (7 * g.val + j)))
    if d.retrying g then d.spareCal g gain ofs
    else if d.flag MPL.STAT_GRP_OK g.val ∧ !d.flag MPL.STAT_ROTATING g.val ∧ due ∧ !d.bit PWR.STAT_HOLDUP then
      (d.modGrp g fun x => { x with failed := none }).spareCal g gain ofs
    else d

/-- A signed result in 8 bits, saturating (R101). -/
def sat8 (i : Int) : Nat := toUnsigned 8 (max (-128) (min 127 i))

/-- The input a group's step targets, and whether an active slot is fed by it. -/
def Dev.inputActive (d : Dev) (src : Nat) : Bool :=
  (List.range 80).any fun k => d.bit (MPL.MAP_EN k) && d.get (MPL.MAP_SRC k) == src

/-- The handover (R90 phases 4 and 5): the spare serves input i, the released converter becomes the spare. -/
def Dev.swapConv (d : Dev) (g : Fin 4) (relOk : Bool) : Dev :=
  let i := d.get (MPL.ASSIGN_NEXT g.val)
  let jS := d.get (MPL.ASSIGN_SPARE g.val)
  let jT := d.get (assignIn g.val i)
  let d := ((d.set (assignIn g.val i) jS).set (MPL.ASSIGN_SPARE g.val) jT).set (MPL.ASSIGN_NEXT g.val) ((i + 1) % 6)
  let d := (d.set (MPL.ROTSTAT_STEPS g.val) (d.get (MPL.ROTSTAT_STEPS g.val) + 1)).raise MPL.page MPL.ev_ROTATE
  let d := (d.set (calAge (7 * g.val + jT)) 0).modGrp g fun x =>
    { x with failed := none, fadeIn := some (6 * g.val + i), fadeEnd := d.wheel + d.usToAu 1000 }
  let d := { d with mpl := { d.mpl with noConv := setBitN d.mpl.noConv (6 * g.val + i) false } }
  let d := (if relOk then d else d.convFault g.val jT).agedUpdate
  if d.flag MPL.CONV_FAULT_FAULT (7 * g.val + jT) then d.halt g.val
  else (d.set (MPL.ROTSTAT_PHASE g.val) 0).setFlag MPL.STAT_ROTATING g.val false

/-- The CALSTEP mark on every page that input `src` feeds (R93). -/
def Dev.markCalStep (d : Dev) (src : Nat) : Dev :=
  ([0, 1, 2, 3, 4] : List (Fin 5)).foldl (fun d m =>
    if (List.range 16).any fun s => d.slotActive m.val s && d.mapEntry m.val s % 128 == src then
      d.modMet m fun x => { x with calStep := true }
    else d) d

/-- The comparison of R92: gain_ppm (evaluated only from 5 % of full scale up) and ofs_ppm, from the pairs (w, s). -/
def shadowGain (l : List (Int × Int)) : Option Rat :=
  let ww : Int := (l.map fun x => x.1 * x.1).sum
  let sw : Int := (l.map fun x => x.1 * x.2).sum
  if 0 < ww ∧ (l.length : Int) * 2 ^ 46 ≤ ww * 400 then some (1000000 * ((sw : Rat) / ww - 1)) else none

/-- ofs_ppm of R92. -/
def shadowOfs (l : List (Int × Int)) : Rat :=
  let t : Int := (l.map fun x => x.2 - x.1).sum
  1000000 * ((t : Rat) / (max 1 l.length : Nat)) / 2 ^ 23

/-- Ten consecutive pairs (w, s) differ by more than `lim` ppm of full scale (R226); `run` pairs before them did. -/
def tenApart (lim : Nat) : Nat → List (Int × Int) → Bool
  | _, [] => false
  | run, (w, s) :: l =>
    let run := if lim * 2 ^ 23 < (s - w).natAbs * 1000000 then run + 1 else 0
    decide (10 ≤ run) || tenApart lim run l

/-- An input feeds a bay with a session. -/
def Dev.feedsSession (d : Dev) (src : Nat) : Bool := allBays.any fun n => d.inSession n && d.feedsBay n src

/-- One visit of a granted continuous shadow (R226, R240): the inputs of the group that feed a bay with a session take turns.
A mismatch is the loss of a redundant measurement; a later visit that compares ends it. -/
def Dev.shadowVisit (d : Dev) (g : Fin 4) (samples : List (Int × Int)) : Dev :=
  let fed := (List.range 6).filter fun i => d.feedsSession (6 * g.val + i) || d.saf.shadowBad.testBit (6 * g.val + i)
  match (fed.find? fun i => decide (d.mpl.grp[g].visit ≤ i)).orElse fun _ => fed.head? with
  | none => d
  | some i =>
    let src := 6 * g.val + i
    let bad := tenApart (d.get MPL.CALLIM_MIS_PPM) 0 samples
    let d := (d.modGrp g fun x => { x with visit := (i + 1) % 6 }).modSaf fun s => { s with shadowBad := setBitN s.shadowBad src bad }
    if bad then d.forBays fun n d => if d.inSession n && d.feedsBay n src then d.netCause n Net.METRO else d else d

/-- SHADOW_RESULT (R92–R94, R226): the pairs (w, s) of the window, the deviations RELEASE_CAL then finds on the released
converter, and the change of its coefficients in ppm for the log. Between steps it is the result of a visit of the granted
continuous shadow. MISMATCH.FORCED stops at 0xFFFF as COUNT does (assumption 155). -/
def execShadowResult (g : Fin 4) (samples : List (Int × Int)) (relGain relOfs dGain dOfs : Int) (s : State) : Out :=
  s.on fun d =>
    if d.get (MPL.ROTSTAT_PHASE g.val) = 3 ∧ d.flag MPL.STAT_ROTATING g.val then
      let i := d.get (MPL.ASSIGN_NEXT g.val)
      let src := 6 * g.val + i
      let relOk := d.calOk relGain relOfs
      if !d.inputActive src then d.swapConv g relOk
      else
        let lim := d.get MPL.CALLIM_MIS_PPM
        let gain := shadowGain samples
        let ofs := shadowOfs samples
        let gi := match gain with
          | some q => roundRat q
          | none => 0
        let pass := (match gain with
          | some q => decide (ratAbs q ≤ (lim : Rat))
          | none => true) && decide (ratAbs ofs ≤ (lim : Rat))
        let d := if gain.isSome then d.set (MPL.ROTSTAT_LAST_GAIN g.val) (sat8 gi) else d
        let d := d.set (MPL.ROTSTAT_LAST_OFS g.val) (sat8 (roundRat ofs))
        if pass then d.swapConv g relOk
        else
          let d := (d.bump MPL.MISMATCH_COUNT).raise MPL.page MPL.ev_MISMATCH
          match d.mpl.grp[g].failed with
          | none => (d.modGrp g fun x => { x with failed := some (gi, roundRat ofs) }).set (MPL.ROTSTAT_PHASE g.val) 1
          | some f =>
            let d := d.bump MPL.MISMATCH_FORCED
            let d := d.glogHw 0x0004 0xFF (leBytes 1 g.val ++ leBytes 1 i ++ leBytes 1 (sat8 f.1) ++ leBytes 1 (sat8 f.2) ++
              leBytes 1 (sat8 gi) ++ leBytes 1 (sat8 (roundRat ofs)) ++ leBytes 3 (toUnsigned 24 dGain) ++
              leBytes 3 (toUnsigned 24 dOfs))
            (d.markCalStep src).swapConv g relOk
    else if d.mpl.grp[g].shadow && !d.flag MPL.STAT_ROTATING g.val then (d.shadowVisit g samples).safeOkUpdate
    else d

/-- CAL_AGED (R94): a serving converter of a group without a spare is older than 60 s. -/
def execCalAged (c : Fin 28) (s : State) : Out :=
  s.on fun d =>
    let g := c.val / 7
    match (List.range 6).find? fun i => d.get (assignIn g i) == c.val % 7 && d.agedIn g i with
    | some i =>
      let d := (d.setBit MPL.STAT_CAL_AGED true).raise MPL.page MPL.ev_CAL_AGED
      match d.feedsMetering (6 * g + i) with
      | some p => d.selfCheckFail p 4 (6 * g + i)
      | none => d
    | none => d

/-- SHADOW_GRANT (R95, R226): granted between steps while one safety channel is lost; withdrawn with `on` false. -/
def execShadowGrant (g : Fin 4) (on : Bool) (s : State) : Out :=
  s.on fun d =>
    if !on then d.modGrp g fun x => { x with shadow := false }
    else if !d.flag MPL.STAT_ROTATING g.val ∧ d.flag MPL.STAT_GRP_OK g.val ∧ 1 ≤ d.get SAF.MODE_CHMODE ∧ d.get SAF.MODE_CHMODE ≤ 3
    then d.modGrp g fun x => { x with shadow := true }
    else d

/-! ### Channel map (R85–R88) -/

/-- Some bay meters a session. -/
def Dev.anyMetering (d : Dev) : Bool := allBays.any fun n => d.bit (MET.STAT_METERING (Bay.met n))

/-- The RWL bits of a map entry (R86). -/
def mapRwl : Nat := ((findRow MPL.table 0x100).map (·.1.rwl)).getD 0

/-- Why a map write is rejected, if it is (R11, R77, R85–R87). -/
def Dev.mapError (d : Dev) (i w : Nat) : Option Nat :=
  let m := i / 16
  let s := i % 16
  let src := w % 128
  let en := w.testBit 7
  let gain := w / 256 % 8
  let assigns := src != 0x7F || en
  let far := (decide (12 ≤ src ∧ src < 24) || decide (0x28 ≤ src ∧ src < 0x30)) && !d.chip.variant.pkgB
  let noBay := if h : m < 4 then !d.hasBay ⟨m, h⟩ else false
  let srcOk := decide (src < 0x18) || decide (0x20 ≤ src ∧ src < 0x30) || src == 0x7F
  let clash := en && decide (src < 0x18) && (List.range 80).any fun k =>
    k != i && d.bit (MPL.MAP_EN k) && d.get (MPL.MAP_SRC k) == src && d.get (MPL.MAP_GAIN k) != gain
  let meters := if h : m < 4 then d.bit (MET.STAT_METERING ⟨m, by omega⟩) else d.anyMetering
  if noBay || far then some Err.NOT_FUSED
  else if decide (10 ≤ s ∧ s < 14) && !d.chip.variant.dc && assigns then some Err.NOT_FUSED
  else if d.bit (Hdr.LOCKED MPL.page) && (d.rdN (MPL.MAP i) ^^^ w) &&& mapRwl != 0 then some Err.LOCKED
  else if (m == 4 && decide (7 ≤ s ∧ s < 14) && assigns) || !srcOk || decide (6 ≤ gain) || clash then some Err.RANGE
  else if meters then some Err.BUSY
  else none

/-- CRC of the map (R88); that of the unassigned map is the printed 0x0BA4_1EC0. -/
def Dev.mapCrc (d : Dev) : Nat :=
  if (List.range 80).all fun k => d.rdN (MPL.MAP k) == 0x7F then 0x0BA41EC0
  else crc32 ((List.range 80).flatMap fun k => leBytes 4 (d.rdN (MPL.MAP k)))

/-- A step of the group that serves an AIN is abandoned in phases 1–3 (R95). -/
def Dev.abandonStep (d : Dev) (src : Nat) : Dev :=
  if h : src < 24 then
    let g : Fin 4 := ⟨src / 6, by omega⟩
    if d.flag MPL.STAT_ROTATING g.val ∧ d.get (MPL.ASSIGN_NEXT g.val) = src % 6 then
      ((d.set (MPL.ROTSTAT_PHASE g.val) 0).setFlag MPL.STAT_ROTATING g.val false).modGrp g fun x => { x with failed := none }
    else d
  else d

/-- MAP_ENTRY_WRITE (R85–R87, R95, R125). -/
def execMapEntryWrite (m : Master) (i : Fin 80) (w : Word) (s : State) : Out :=
  s.on fun d => d.guard m .MPL (0x100 + 4 * i.val) fun d =>
    match d.mapError i.val w.toNat with
    | some e => d.reject MPL.page e
    | none =>
      let fixed := (if i.val / 16 = 4 then decide (7 ≤ i.val % 16 ∧ i.val % 16 < 14)
        else decide (10 ≤ i.val % 16 ∧ i.val % 16 < 14) && !d.chip.variant.dc)
      if fixed then d
      else
        let old := d.get (MPL.MAP_SRC i.val)
        let d := d.wr (MPL.MAP i.val) (w &&& 0x00FF0FFF)
        let d := d.abandonStep (d.get (MPL.MAP_SRC i.val))
        let d := d.abandonStep old
        let p : Fin 5 := ⟨i.val / 16, by omega⟩
        let d := if (requiredSlots d.met[p].cfgEff).contains (i.val % 16) then d.modMet p fun x => { x with remap := true }
          else d
        (d.wrN MPL.MAP_CRC d.mapCrc).raise MPL.page MPL.ev_MAP_CHANGED

/-- The legal domain compares MAP_CRC with the stored fingerprint (R88). -/
def Dev.mapCompare (d : Dev) : Dev :=
  let crc := d.rdN MPL.MAP_CRC
  let bad := crc != d.mpl.fingerprint
  let changed := match d.mpl.compared with
    | some c => c != crc
    | none => false
  let d' := if bad && (!d.mpl.seen || changed) then
      d.llog 0 0x0104 0xFF (leBytes 4 crc ++ leBytes 4 d.mpl.fingerprint) else d
  { d' with mpl := { d'.mpl with compared := some crc, mismatch := bad, seen := d.mpl.seen || bad } }

/-- MAP_CRC_COMPARE (R88): in L variants. -/
def execMapCrcCompare (s : State) : Out := s.on fun d => if d.legalPart then d.mapCompare else d

/-! ### Bitstreams and reference (R79, R82, R83) -/

/-- A source that has become INVALID and feeds a metering bay is a self-check failure (R83). -/
def Dev.streamFail (d : Dev) (src what : Nat) : Dev :=
  match d.feedsMetering src with
  | some p => d.selfCheckFail p 3 what
  | none => d

/-- MDAT_STUCK (R83). -/
def execMdatStuck (i : Fin 16) (s : State) : Out :=
  s.on fun d =>
    if d.bit (MPL.MDAT_CFG_EN i.val) ∧ (i.val < 8 ∨ d.chip.variant.pkgB) then
      let d := (d.setFlag MPL.MDAT_STAT_STUCK i.val true).raise MPL.page MPL.ev_STUCK
      let d := ({ d with mpl := { d.mpl with stuck := setBitN d.mpl.stuck i.val true } } : Dev).taint (2 ^ (0x20 + i.val))
      d.streamFail (0x20 + i.val) i.val
    else d

/-- MDAT_RECOVER (R83). -/
def execMdatRecover (i : Fin 16) (s : State) : Out :=
  s.on fun d => { d with mpl := { d.mpl with stuck := setBitN d.mpl.stuck i.val false } }

/-- Inputs on an external clock, as a mask of source codes. -/
def Dev.clockInputs (d : Dev) (k : Nat) : Nat :=
  ((List.range 16).map fun i => if d.get (MPL.MDAT_CFG_CLKSEL i) = k then 2 ^ (0x20 + i) else 0).sum

/-- MCLK_MODE has been written: a pin no longer an input has no lost clock; a driven pin, and an input whose clock is not lost, are in
use and in tolerance (R83, R101, assumption 156). -/
def Dev.mclkModed (d : Dev) : Dev :=
  let d : Dev := { d with mpl := { d.mpl with ckLost := d.mpl.ckLost &&& d.get MPL.MCLK_MODE_IN } }
  d.set MPL.STAT_MCLK_OK (d.get MPL.MCLK_MODE_OUT_EN ||| (d.get MPL.MCLK_MODE_IN - d.mpl.ckLost))

/-- MCLK_LOSS (R83): in input mode, the clock is lost or out of tolerance, or (`lost` false) back; `err` is MCLK_ERR's
signed byte. -/
def execMclkLoss (k : Fin 4) (lost : Bool) (err : BitVec 8) (s : State) : Out :=
  s.on fun d =>
    if d.flag MPL.MCLK_MODE_IN k.val then
      let d := d.set ⟨MPL.MCLK_ERR, 8 * k.val, 8⟩ err.toNat
      let d := { d with mpl := { d.mpl with ckLost := setBitN d.mpl.ckLost k.val lost } }
      let d := d.setFlag MPL.STAT_MCLK_OK k.val (!lost)
      if lost then
        let d := ((d.taint (d.clockInputs k.val)).setFlag MPL.MDAT_STAT_CLKLOSS k.val true).raise MPL.page MPL.ev_MCLK_LOSS
        match (List.range 16).find? fun i =>
            d.bit (MPL.MDAT_CFG_EN i) && d.get (MPL.MDAT_CFG_CLKSEL i) == k.val && (d.feedsMetering (0x20 + i)).isSome with
        | some i => d.streamFail (0x20 + i) k.val
        | none => d
      else d
    else d

/-- REF_FAULT (R79). -/
def execRefFault (s : State) : Out := s.on Dev.refFault

/-! ### Injection check (R96) -/

/-- A session meters a slot fed by an MDAT input. -/
def Dev.mdatMeters (d : Dev) (t : Nat) : Bool :=
  (List.range 4).any fun m =>
    if h : m < 5 then d.bit (MET.STAT_METERING ⟨m, h⟩) &&
      (List.range 16).any fun s => d.slotActive m s && d.mapEntry m s % 128 == 0x20 + t
    else false

/-- The check starts: the outcome of the last one is cleared. -/
def Dev.rinjBegin (d : Dev) : Dev :=
  let d := ((d.setBit MPL.RINJ_RES_PASS false).setBit MPL.RINJ_RES_FAIL false).setBit MPL.RINJ_RES_REFUSED false
  let t := d.get MPL.RINJ_CFG_TARGET
  ({ d with mpl := { d.mpl with rinj := some t, rinjQueued := false } } : Dev).taint (2 ^ (0x20 + t))

/-- RINJ is this unit's to drive: it holds the token, or there is no pair (R96). -/
def Dev.rinjOwn (d : Dev) : Bool := !d.present .PAIR || d.pairState == Pr.DISABLED || d.bit PAIR.STAT_TOKEN

/-- A queued check starts once no session meters its target, on the token holder. -/
def Dev.rinjPoll (d : Dev) : Dev :=
  if d.mpl.rinjQueued && d.rinjOwn && !d.mdatMeters (d.get MPL.RINJ_CFG_TARGET) then d.rinjBegin else d

/-- RINJ_START (R96): a write of RINJ_CFG with START = 1. While a check runs or is queued, another is BUSY (assumption 157). -/
def execRinjStart (m : Master) (w : Word) (s : State) : Out :=
  s.on fun d => d.startWork m .MPL 0x244 (fun d =>
      if w.toNat / 16 % 4 = 0 then some Err.RANGE
      else if 8 ≤ w.toNat % 16 ∧ !d.chip.variant.pkgB then some Err.NOT_FUSED
      else if !d.rinjOwn then some Err.SEQUENCE
      else if d.mpl.rinj.isSome ∨ d.mpl.rinjQueued then some Err.BUSY
      else none) fun d =>
    let v := w.toNat
    if d.mdatMeters (v % 16) then
      if v.testBit 7 then (d.setBit MPL.RINJ_RES_REFUSED true).reject MPL.page Err.BUSY
      else
        let d := d.wr MPL.RINJ_CFG (w &&& 0xFFFF00BF)
        { d with mpl := { d.mpl with rinjQueued := true } }
    else (d.wr MPL.RINJ_CFG (w &&& 0xFFFF00BF)).rinjBegin

/-- RINJ_DONE (R96). -/
def execRinjDone (avg : BitVec 24) (s : State) : Out :=
  s.on fun d =>
    if d.mpl.rinj.isSome then
      let e := signed 24 (d.get MPL.RINJ_EXP_EXP)
      let a := signed 24 avg.toNat
      let pass := decide ((a - e).natAbs * 1000000 ≤ d.get MPL.RINJ_CFG_TOL * e.natAbs)
      let d : Dev := { d with mpl := { d.mpl with rinj := none } }
      (((d.set MPL.RINJ_RES_AVG avg.toNat).setBit MPL.RINJ_RES_PASS pass).setBit MPL.RINJ_RES_FAIL (!pass)).raise MPL.page
        MPL.ev_RINJ_DONE
    else d

end Sys2Proof.Machine
end

