-- ==== Sys2Proof/Machine/Carousel.lean ====
section
/-!
DEFINITION. The carousel (ch. 3): source and lock (R55–R60), the cycle boundary (R53), interval boundaries (R63, R64) and
the writes of event seats (R65–R69).
-/
namespace Sys2Proof.Machine

open Sys2Proof

/-! ### States (R57) -/

/-- Change the carousel. -/
def Dev.modCar (d : Dev) (f : CarInt → CarInt) : Dev := { d with car := f d.car }

/-- The carousel is in ACQUIRE. -/
def Dev.acquiring (d : Dev) : Bool := d.bit CAR.STAT_ACQUIRE

/-- Enter a state: FREEWHEEL, ACQUIRE or LOCKED (R57, R59). -/
def Dev.carEnter (d : Dev) (locked acq : Bool) : Dev :=
  let d := ((d.setBit CAR.STAT_LOCKED locked).setBit CAR.STAT_ACQUIRE acq).setBit CAR.STAT_FREEWHEEL (!locked)
  let d := d.setBit CAR.FREQ_VALID locked
  d.modCar fun c => { c with fwSeen := c.fwSeen || !locked, lockRun := 0 }

/-- A contactor of any bay is closed: its power path is in any state but OPEN (R55). -/
def Dev.anyClosed (d : Dev) : Bool := allBays.any fun n => d.ctState n != Ct.OPEN

/-- No seat is armed and no contactor is closed (R58). -/
def Dev.quiet (d : Dev) : Bool := d.rdN (CAR.SEAT_ACT 0) == 0 && d.rdN (CAR.SEAT_ACT 1) == 0 && !d.anyClosed

/-- The frequency with no history (R75 NOMINAL), in mHz. -/
def Dev.nominalFreq (d : Dev) : Nat := if d.bit CAR.CFG_NOMINAL then 60000 else 50000

/-- The source page and the slot of one of its phases (R55). -/
def Dev.srcPage (d : Dev) : Fin 5 := if h : d.get CAR.CFG_SRC_MET < 5 then ⟨d.get CAR.CFG_SRC_MET, h⟩ else 4

/-- Slot of a phase of the source page: the site voltage of MET4, the supply side of a bay (R55, R67). -/
def Dev.srcSlot (d : Dev) (ph : Nat) : Nat := if d.srcPage = 4 then ph else 7 + ph

/-- The reference channel is usable (R56). -/
def Dev.srcUsable (d : Dev) : Bool := d.slotUsable d.srcPage (d.srcSlot (d.get CAR.CFG_SRC_PH))

/-- Length of a cycle at the nominal frequency, in ns. -/
def Dev.nominalNs (d : Dev) : Nat := roundDiv 1000000000000 d.nominalFreq

/-- The source is lost (R56, R57). -/
def Dev.carLost (d : Dev) : Dev :=
  if !d.locked && !d.acquiring then d.modCar fun c => { c with validRun := 0 }
  else
    let d := if d.locked then (d.bump CAR.STAT_RELOCKS).raise CAR.page CAR.ev_FREEWHEEL else d
    let held := if d.locked && !d.car.periods.isEmpty then roundDiv d.car.periods.sum d.car.periods.length else d.car.periodNs
    let d := (d.setBit CAR.STAT_SRC_OK false).carEnter false false
    d.modCar fun c => { c with validRun := 0, slew := false, theta := none, periodNs := held }

/-- A tracked source whose slot is no longer usable is lost (R56). -/
def Dev.carFollow (d : Dev) : Dev := if (d.locked || d.acquiring) && !d.srcUsable then d.carLost else d

/-- The PLL is off (R57, last row): no seat fires; armed seats are dropped (assumption 149). -/
def Dev.carOff (d : Dev) : Dev :=
  let d := (((d.setBit CAR.STAT_SRC_OK false).carEnter false false).set CAR.FREQ_FREQ d.nominalFreq).modCar fun c =>
    { c with validRun := 0, slew := false, theta := none, periods := [], periodNs := d.nominalNs, drainCyc := none }
  (d.wrN (CAR.SEAT_ACT 0) 0).wrN (CAR.SEAT_ACT 1) 0

/-! ### The cycle boundary (R53) -/

/-- The residual currents of a bay over the window that ends (R205), in µA: the mean, the rms about it, the rms. A channel with SCALE 0
reads 0. A drain ends with the window (R47). -/
def Dev.rcdMeasure (d : Dev) (n : Bay) (r : RcdData) : Dev :=
  if d.hasBay n && !d.isStandby && (d.enabled (.RCD n) || d.draining (.RCD n)) then
    let ka := 1000 * floatRat (d.rd (RCD.SCALE_A n))
    let kb := 1000 * floatRat (d.rd (RCD.SCALE_B n))
    let ma := windowMean r.a
    let mb := windowMean r.b
    let d := (((d.wrI (RCD.MEAS_DC n) (roundRat (ka * ma))).wrN (RCD.MEAS_AC n) (rootIn 1 (ka * ka * windowSq r.a ma))).wrN
      (RCD.MEAS_TOT n) (rootIn 1 (ka * ka * windowSq r.a 0))).wrI (RCD.MEAS_B_DC n) (roundRat (kb * mb))
    d.modRcd n fun x => { x with bAc := rootIn 1 (kb * kb * windowSq r.b mb), finish := false }
  else d

/-- The positive-going crossing of a phase of the source page over a cycle, in 2^-32 turn after angle 0; none while the phase is
lacking (R67). -/
def Dev.srcCrossing (d : Dev) (c : CycleData) (sp : Span) (ph : Nat) : Option Nat :=
  let z := sp.demod (d.slotSig c sp.count d.srcPage (d.srcSlot ph)).x
  if d.slotUsable d.srcPage (d.srcSlot ph) && d.reachesMin d.srcPage (d.srcSlot ph) (peakSq z sp.count) then some (crossingOf z)
  else none

/-- The phase offsets (R67): measured, or nominal for a phase that is lacking. -/
def Dev.carOffsets (d : Dev) (o : List (Option Nat)) : Dev :=
  let nom := [0, 21845, 43691]
  let d := [0, 1, 2].foldl (fun d k => d.set (CAR.OFS_OFS k)
    (match (o[k]?).getD none with | some x => roundDiv x 65536 % 65536 | none => (nom[k]?).getD 0)) d
  d.setBit CAR.STAT_OFS_NOM ([0, 1, 2].any fun k => ((o[k]?).getD none).isNone)

/-- A source period lies within ±10 mHz of the wheel's (R57). -/
def freqNear (src wheel : Nat) : Bool :=
  let f := fun (p : Nat) => (1000000000000 : Rat) / (max 1 p : Nat)
  decide (f src - f wheel ≤ 10) && decide (f wheel - f src ≤ 10)

/-- The PLL at the end of a cycle of `p` ns (R56, R57, R60): a source that is gone is lost; a phase error within ±91 AU and a frequency
error within ±10 mHz for two cycles in ACQUIRE give LOCKED, where FREQ is the mean of the last 8 periods. -/
def Dev.carTrack (d : Dev) (p : Nat) (cross : Option Nat) : Dev :=
  match cross with
  | none => d.carLost
  | some a =>
    let err : Int := (turnInt a + 2 ^ 11) / 2 ^ 12
    let near := decide (err.natAbs ≤ 91 * 16) && d.car.theta.any fun o => freqNear (periodFrom p o a) p
    let d := d.set CAR.PHERR_PHERR (toUnsigned 16 (max (-32768) (min 32767 err)))
    let d := d.modCar fun x => { x with lockRun := if near then min 2 (x.lockRun + 1) else 0, theta := some a }
    let d := if d.acquiring && d.bit CAR.STAT_SRC_OK && d.car.lockRun == 2 then
        ((d.carEnter true false).raise CAR.page CAR.ev_LOCK).modCar fun x => { x with periods := [], slew := false }
      else d
    if d.locked then
      let d := d.modCar fun x => { x with periods := (p :: x.periods).take 8 }
      d.set CAR.FREQ_FREQ (meanFreq d.car.periods)
    else d

/-- On the page that is the source, FREQ is CAR.FREQ in LOCKED (R114). -/
def Dev.srcFreq (d : Dev) : Dev :=
  let m := d.srcPage
  if d.locked && d.met[m].cfgEff % 4 == 1 then d.set (MET.FREQ_FREQ m) (d.get CAR.FREQ_FREQ) else d

/-- Length in ns of the cycle in progress: as the PLL runs it; in a slewed acquisition within SLEW of the source period (R58); without
a valid source at the held frequency (R57, R59). -/
def Dev.cyclePeriod (d : Dev) (c : CycleData) : Nat :=
  if d.locked || (d.acquiring && d.bit CAR.STAT_SRC_OK && !d.car.slew) then max 1 c.periodNs
  else if d.acquiring && d.bit CAR.STAT_SRC_OK then
    let s := d.get CAR.PLLCFG_SLEW
    max 1 (max (d.car.srcNs * (1000 - s) / 1000) (min (d.car.srcNs * (1000 + s) / 1000) c.periodNs))
  else d.car.periodNs

/-- Angles at which a list of values changes sign over a span, the value before it first (R189, R192): by a straight line between two
samples. -/
def signChanges (sp : Span) : Nat → Rat → List Rat → List Nat
  | _, _, [] => []
  | k, y, z :: l =>
    let rest := signChanges sp (k + 1) z l
    if (y < 0) = (z < 0) then rest
    else
      let f : Rat := (if y < 0 then -y else y) / (if y < 0 then z - y else y - z)
      let t : Rat := (sp.strad : Rat) + 62500 * ((k : Rat) - 1 + f)
      (t * 65536 / (max 1 sp.period : Nat)).floor.toNat % 65536 :: rest

/-- Zero crossings of the across-contact voltages and the currents of an AC bay over a cycle, as (pole, angle). -/
def Dev.poleZeros (d : Dev) (n : Bay) (c : CycleData) (sp : Span) : List (Nat × Nat) × List (Nat × Nat) :=
  let m := Bay.met n
  let slot := fun s => d.slotSig c sp.count m s
  let on := d.hasBay n && d.met[m].cfgEff % 4 == 1
  let f := fun (y : Nat → Rat × List Rat) => if on then (List.range 3).flatMap fun k =>
    (signChanges sp 0 (y k).1 (y k).2).map fun a => (k, a) else []
  (f fun k => ((slot (7 + k)).tail - (slot k).tail, slotDiff (slot (7 + k)) (slot k)),
   f fun k => ((slot (3 + k)).tail, (slot (3 + k)).x.map fun (x : Int) => (slot (3 + k)).k * (x : Rat)))

/-- METERING of a bay's page, and MET4's, which is 1 while any bay meters (R106). -/
def Dev.setMetering (d : Dev) (n : Bay) (b : Bool) : Dev :=
  let d := d.setBit (MET.STAT_METERING (Bay.met n)) b
  d.setBit (MET.STAT_METERING 4) d.anyMetering

/-- METERING clears after the entry of the cycle in which END_SESSION runs with the power path OPEN or WELD (R106, R147). -/
def Dev.meterEnd (wt : Nat) (n : Bay) (d : Dev) : Dev :=
  if d.bay[n].endWait && d.bit (MET.STAT_METERING (Bay.met n)) && (d.ctState n == Ct.OPEN || d.ctState n == Ct.WELD) then
    (d.setMetering n false).modBay n fun b => { b with endWt := wt }
  else d

/-- The angle passes 0x0000 (R53): the strobe, the metrology entries, the offsets and the frequency. `angle` is where the cycle ends:
65,536, or the angle of a phase step (R58), in which nothing is tracked. -/
def Dev.carCycle (d : Dev) (c : CycleData) (angle : Nat) : Dev :=
  let cyc := d.car.cyc + 1
  let wt := cyc * 65536
  let p := d.cyclePeriod c
  let sp := d.span p angle
  let cross := [0, 1, 2].map fun k => d.srcCrossing c sp k
  let zeros := allBays.map fun n => d.poleZeros n c sp
  let d := (d.setWheel wt).modCar fun x => { x with cyc := cyc, periodNs := p }
  let d := (d.metCycle wt c sp).forBays (Dev.meterEnd wt)
  let d := d.forBays fun n d => d.rcdMeasure n c.rcd[n]
  let d := d.forBays fun n d => d.modCtc n fun x =>
    { x with vxZero := ((zeros[n.val]?).getD ([], [])).1, izZero := ((zeros[n.val]?).getD ([], [])).2 }
  let d := if angle < 65536 then d.modCar fun x => { x with theta := none, lockRun := 0 }
    else ((d.carOffsets cross).carTrack p ((cross[d.get CAR.CFG_SRC_PH]?).getD none)).srcFreq
  let l := d.locked
  (d.modCar fun x => { x with fwSeen := !l, bndFw := if (x.bndDue.map (·.2)) = some (cyc - 1) then !l else x.bndFw }).syncSend

/-! ### The source (R55, R56, R58) -/

/-- Why a write of CAR.CFG is rejected, if it is. -/
def Dev.carCfgError (d : Dev) (w : Nat) : Option Nat :=
  let moves := w % 8 != d.get CAR.CFG_SRC_MET || w / 16 % 4 != d.get CAR.CFG_SRC_PH
  if 5 ≤ w % 8 ∨ w / 16 % 4 = 3 then some Err.RANGE
  else if moves && d.anyClosed then some Err.SAFETY_DENIED
  else none

/-- CAR_SOURCE_CHANGE (R55): a write of CAR.CFG. -/
def execCarSourceChange (m : Master) (w : Word) (s : State) : Out :=
  s.on fun d => d.guard m .CAR 0x040 fun d =>
    match d.carCfgError w.toNat with
    | some e => d.reject CAR.page e
    | none =>
      let moves := w.toNat % 8 != d.get CAR.CFG_SRC_MET || w.toNat / 16 % 4 != d.get CAR.CFG_SRC_PH
      let d := d.wr CAR.CFG (w &&& 0x0001F137)
      let d := if d.car.periods.isEmpty && !d.locked && !d.bit CAR.STAT_SRC_OK then
          (d.set CAR.FREQ_FREQ d.nominalFreq).modCar fun x => { x with periodNs := d.nominalNs }
        else d
      if moves && d.enabled .CAR then
        ((d.setBit CAR.STAT_SRC_OK false).carEnter false true).modCar fun x => { x with validRun := 0, slew := false, theta := none }
      else d

/-- A crossing that meets R56: the slot is usable, the fundamental (`i`, `q`, peak, in counts) large enough, the period within 40–70 Hz. -/
def Dev.crossingGood (d : Dev) (period : Nat) (i q : Int) : Bool :=
  d.srcUsable && periodGood period &&
    d.reachesMin d.srcPage (d.srcSlot (d.get CAR.CFG_SRC_PH)) ((i * i + q * q : Int) : Rat)

/-- The forward phase step of quiet acquisition (R58): the crossing becomes angle 0x0000 of the next cycle; at angle 0 there is
nothing to step (assumption 150). -/
def Dev.phaseStep (d : Dev) (angle : Nat) (c : CycleData) : Dev :=
  if angle = 0 then d
  else
    let d := d.modCar fun x => { x with fwSeen := true }
    ((d.carCycle c angle).bump CAR.STAT_STEPS).raise CAR.page CAR.ev_STEP

/-- A positive-going crossing of the source at a wheel angle (R56–R58). The first valid one decides the acquisition: a phase step if
it is quiet, else a slew. -/
def Dev.carCrossing (d : Dev) (period : Nat) (i q : Int) (angle : Nat) (c : CycleData) : Dev :=
  if !d.crossingGood period i q then d.carLost
  else
    let d := d.modCar fun x => { x with validRun := min 2 (x.validRun + 1), srcNs := period }
    if d.car.validRun < 2 || d.bit CAR.STAT_SRC_OK then d
    else
      let q := d.quiet && d.bit CAR.CFG_QUIET_STEP
      let d := if d.locked || d.acquiring then d else d.carEnter false true
      let d := (d.setBit CAR.STAT_SRC_OK true).modCar fun x => { x with slew := !q }
      if q then d.phaseStep angle c else d

/-- SOURCE_LOST (R56, R57). -/
def execSourceLost (s : State) : Out := s.on fun d => d.carLost

/-! ### Interval boundaries (R61, R63, R64) -/

/-- The second tick's capture (R61), and the whole minute's boundary to come (R63). -/
def Dev.carCapture (d : Dev) (sec : Nat) : Dev :=
  let t := d.wheel
  let d := ((d.wrN CAR.RTC_CAP_LO (t % 2 ^ 32)).wrN CAR.RTC_CAP_HI (t / 2 ^ 32)).wrN CAR.RTC_SEC sec
  let d := d.raise CAR.page CAR.ev_RTC_CAP
  if sec % 60 = 0 then d.modCar fun x => { x with bndDue := some (sec, t / 65536) } else d

/-- INTERVAL_BOUNDARY (R63, R64): the cycle that holds a whole minute's capture has ended. -/
def execIntervalBoundary (s : State) : Out :=
  s.on fun d =>
    match d.car.bndDue with
    | none => d
    | some (sec, cyc) =>
      if d.car.cyc ≤ cyc then d
      else
        let wt := (cyc + 1) * 65536
        let seq := (d.rdN CAR.BND_SEQ + 1) % 2 ^ 32
        let b : Boundary := { seq := seq, wt := wt, sec := sec, fw := d.car.bndFw }
        let miss := !d.car.missed.isEmpty || decide (16 ≤ d.car.latched.length)
        let d := ((d.wrN CAR.BND_SEQ seq).wrN CAR.BND_WT_LO (wt % 2 ^ 32)).wrN CAR.BND_WT_HI (wt / 2 ^ 32)
        let d := d.modCar fun x =>
          if miss then { x with bndDue := none, missed := x.missed ++ [b],
                                missBase := if x.missed.isEmpty then x.latched.getLast? else x.missBase }
          else { x with bndDue := none, latched := x.latched ++ [b] }
        let d := if miss then d.setBit CAR.BND_STAT_OVF true else d.set CAR.BND_STAT_PEND d.car.latched.length
        d.raise CAR.page CAR.ev_BOUNDARY

/-! ### Event seats (R65–R69) -/

/-- Actions of general seats (R68). -/
def generalAction (a : Nat) : Bool := a == 0 || decide (6 ≤ a ∧ a ≤ 12)

/-- SEAT_WRITE (R65, R66, R68). -/
def execSeatWrite (m : Master) (k : Fin 64) (word : Fin 3) (w : Word) (s : State) : Out :=
  s.on fun d => d.guard m .CAR (0x100 + 12 * k.val + 4 * word.val) fun d =>
    if k.val < 36 then d.reject CAR.page Err.NOT_OWNER
    else if word = 0 ∧ !generalAction (w.toNat / 2 ^ 24 % 64) then d.reject CAR.page Err.RANGE
    else if d.seatArmed k.val then d.reject CAR.page Err.BUSY
    else d.wr (CAR.SEAT_CTL k.val + 4 * word.val) w

/-- Instant of a seat's first firing of its series (R66, R67). -/
def Dev.seatFirst (d : Dev) (k : Nat) : Nat :=
  let ref := d.get (CAR.SEAT_CTL_REF k)
  let ofs := if ref = 0 then 0 else d.get (CAR.OFS_OFS (ref - 1))
  (d.rdN (CAR.SEAT_START k) + d.get (CAR.SEAT_SCHED_START_HI k) * 2 ^ 32) * 65536 + d.get (CAR.SEAT_CTL_ANGLE k) + ofs

/-- Instant at which an armed seat is due (R69): of a series, the earliest from `seatMin` on. -/
def Dev.seatDue (d : Dev) (k : Fin 64) : Nat :=
  let t := d.seatFirst k.val
  let n := d.get (CAR.SEAT_SCHED_MODE_N k.val)
  let lo := d.car.seatMin[k]
  if n = 0 ∨ lo ≤ t then t else t + (lo - t + n * 65536 - 1) / (n * 65536) * (n * 65536)

/-- Arm one general seat (R69); nothing for one that is armed already (assumption 151). -/
def Dev.seatArm1 (d : Dev) (k : Fin 64) : Dev :=
  if d.seatArmed k.val then d
  else
    let lo := d.wheel + d.au2us
    if d.get (CAR.SEAT_SCHED_MODE_N k.val) = 0 ∧ d.seatFirst k.val < lo then
      (d.seatBit CAR.SEAT_LATE k.val true).raise CAR.page CAR.ev_LATE
    else (d.modCar fun x => { x with seatMin := x.seatMin.set k lo }).seatBit CAR.SEAT_ACT k.val true

/-- The bits of a seat bitmap write that are not general seats (R65). -/
def foreignSeats (hi : Bool) (mask : Nat) : Bool := if hi then mask % 16 != 0 else mask != 0

/-- The 32 seats of a bitmap register. -/
def seatsOf (hi : Bool) : List (Fin 64) :=
  (List.range 32).filterMap fun i => if h : (if hi then 32 + i else i) < 64 then some ⟨if hi then 32 + i else i, h⟩ else none

/-- SEAT_ARM (R37, R65, R69, R73). -/
def execSeatArm (m : Master) (hi : Bool) (mask : Word) (s : State) : Out :=
  s.on fun d => d.guard m .CAR (if hi then 0x084 else 0x080) fun d =>
    if foreignSeats hi mask.toNat then d.reject CAR.page Err.NOT_OWNER
    else if d.draining .CAR then d.reject CAR.page Err.DRAINING
    else if !d.enabled .CAR then d.reject CAR.page Err.SEQUENCE
    else (seatsOf hi).foldl (fun d k => if mask.toNat.testBit (k.val % 32) then d.seatArm1 k else d) d

/-- A general seat is cancelled; should its firing arrive in the same bridge cycle, that is done first (R70). -/
def Dev.seatDrop (d : Dev) (k : Fin 64) : Dev :=
  if d.seatArmed k.val then
    (d.modCar fun x => { x with cut := (k.val, d.now, d.seatDue k) :: x.cut.filter fun e => e.2.1 == d.now }).seatCancel k.val
  else d

/-- SEAT_CANCEL (R65, R69, R70). -/
def execSeatCancel (m : Master) (hi : Bool) (mask : Word) (s : State) : Out :=
  s.on fun d => d.guard m .CAR (if hi then 0x08C else 0x088) fun d =>
    if foreignSeats hi mask.toNat then d.reject CAR.page Err.NOT_OWNER
    else (seatsOf hi).foldl (fun d k => if mask.toNat.testBit (k.val % 32) then d.seatDrop k else d) d

end Sys2Proof.Machine
end

