-- ==== Sys2Proof/Machine/Filter.lean ====
section
/-!
DEFINITION. The address filter (R19, R20), the memory map (R23, R24), channel rights (R28), ECC (R27).
-/
namespace Sys2Proof.Machine

/-! ### Regions (R23, R24) -/

/-- A region of the address space. Code MRAM carries its SYS.BANKSEL bit and its bank. -/
inductive MemRegion where
  | bootRom | timer | plic | code (slot : Nat) (bank : Bool) | tcm | display | sram | ledger | message | page | ospi
deriving DecidableEq, Repr

/-- Code slot of an offset in a bank (R24), as its SYS.BANKSEL bit (R25). -/
def codeSlot (o : Nat) : Nat :=
  if o < 0x400000 then 0 else if o < 0x480000 then 1 else if o < 0x4C0000 then 2 else if o < 0x500000 then 3 else 4

/-- Base of the interrupt controller (R23). -/
def plicBase : Nat := 0x0C000000

/-- The region an address lies in, none where the map lists nothing (R23). The sizes of the timer and of the interrupt
controller are those of the RISC-V layouts. -/
def memRegion (a : Nat) : Option MemRegion :=
  if a < 0x10000 then some .bootRom
  else if 0x02000000 ≤ a ∧ a < 0x02010000 then some .timer
  else if 0x0C000000 ≤ a ∧ a < 0x10000000 then some .plic
  else if 0x10000000 ≤ a ∧ a < 0x10600000 then some (.code (codeSlot (a - 0x10000000)) false)
  else if 0x10600000 ≤ a ∧ a < 0x10C00000 then some (.code (codeSlot (a - 0x10600000)) true)
  else if 0x20780000 ≤ a ∧ a < 0x20800000 then some .display
  else if 0x20000000 ≤ a ∧ a < 0x20800000 then some .sram
  else if 0x21000000 ≤ a ∧ a < 0x21040000 then some .tcm
  else if 0x30000000 ≤ a ∧ a < 0x30400000 then some .ledger
  else if 0x40000000 ≤ a ∧ a < 0x40100000 then some .page
  else if 0x50000000 ≤ a ∧ a < 0x50010000 then some .message
  else if 0x60000000 ≤ a ∧ a < 0x70000000 then some .ospi
  else none

/-- The domain a processor belongs to. -/
def masterDomain : Master → Option Domain
  | .app0 | .app1 => some .app
  | .saf => some .saf
  | .lgl => some .lgl
  | .vlt => some .vlt
  | _ => none

/-- Master number of SYS.FW_VIOL.MASTER (R517). -/
def masterNo : Master → Nat
  | .app0 => 0 | .app1 => 1 | .saf => 2 | .lgl => 3 | .vlt => 4 | .dma => 5 | .upd => 6 | .ylr => 7 | .hif => 8 | .dbg => 9

/-- Channel rights (R28): `o` is the offset in the message RAM. -/
def channelRight (m : Master) (o : Nat) (wr : Bool) : Bool :=
  match masterDomain m with
  | none => false
  | some d =>
    let s := o / 0x4000
    let r := o / 0x1000 % 4
    let w := o % 0x1000
    let me := domainNo d
    if s = r then !wr || me == s
    else if wr then (me == s && (decide (w < 4) || decide (0x40 ≤ w))) || (me == r && decide (4 ≤ w ∧ w < 8))
    else me == s || me == r

/-- The application has the legal processor's access to the ledger MRAM and the display region (R19, R321). -/
def Dev.appAsLegal (d : Dev) (m : Master) : Bool := (m == .app0 || m == .app1) && !d.legalPart

/-- The table of R19. -/
def Dev.filterAllows (d : Dev) (m : Master) (a : Nat) (wr : Bool) : Bool :=
  let app := m == .app0 || m == .app1
  match memRegion a with
  | none => false
  | some .bootRom => !wr && (app || m == .dbg)
  | some .timer | some .plic => app
  | some (.code slot bank) =>
    if m = .upd then !wr || bank != d.flag SYS.BANKSEL_SEL slot
    else !wr && (if slot = 1 then m == .saf else if slot = 2 then m == .vlt else app || m == .dma || m == .dbg)
  | some .tcm => app || m == .dma || m == .dbg
  | some .display => m == .lgl || d.appAsLegal m || (!wr && (app || m == .dma || m == .dbg))
  | some .sram => app || m == .dma || m == .upd || m == .ylr || m == .dbg
  | some .ledger => m == .lgl || d.appAsLegal m || (!wr && (app || m == .dma))
  | some .message => channelRight m (a - 0x50000000) wr
  | some .page => m != .upd && m != .ylr
  | some .ospi => app || m == .dma || m == .upd || m == .dbg

/-- The access is to a region whose blocking is written to the legal event log (R20). -/
def legalRegion (a : Nat) : Bool :=
  match memRegion a with
  | some .ledger | some .display => true
  | _ => false

/-- The crossbar answers a bus error. -/
def Dev.busError (d : Dev) : Dev := { d with bus := { err := true, data := [] } }

/-- The crossbar answers a blocked read: a bus error, and zeros for data (R20). -/
def Dev.busZero (d : Dev) (n : Nat) : Dev := { d with bus := { err := true, data := List.replicate n 0 } }

/-- The crossbar answers without an error. -/
def Dev.busOk (d : Dev) (l : List Byte) : Dev := { d with bus := { err := false, data := l } }

/-- The filter blocks an access (R20; a write breaks an unlock sequence, R42): recorded, counted, interrupt; the legal event log has blocked accesses to legal
regions. -/
def Dev.fwBlock (d : Dev) (m : Master) (a : Nat) (wr : Bool) : Dev :=
  let d := if wr then d.noKey else d
  let d := if d.get SYS.FW_VIOL_COUNT = 0 then (d.set SYS.FW_VIOL_MASTER (masterNo m)).wrN SYS.FW_ADDR a else d
  let d := (d.bump SYS.FW_VIOL_COUNT).raise SYS.page SYS.ev_FW_VIOL
  if legalRegion a then
    d.llog 0 0x0103 0xFF (leBytes 1 (masterNo m) ++ leBytes 1 (if wr then 1 else 0) ++ [0, 0] ++ leBytes 4 a)
  else d

/-- A transfer of `n` bytes lies where its master may go: checked at every 4 KB and at the end; no region of R19 ends between. -/
def Dev.reaches (d : Dev) (m : Master) (a n : Nat) (wr : Bool) : Bool :=
  (List.range (n / 4096 + 1)).all (fun k => d.filterAllows m (min (a + 4096 * k) (a + n - 1)) wr) && d.filterAllows m (a + n - 1) wr

/-- A transfer that the filter or the crossbar turns away: one access (assumption 161). -/
def Dev.turnedAway (d : Dev) (m : Master) (a : Nat) (wr : Bool) : Dev := if (memRegion a).isNone then d else d.fwBlock m a wr

/-- What a block reads as a master of the crossbar (R19, R20): zeros where it may not. -/
def Dev.masterRead (d : Dev) (m : Master) (a n : Nat) : List Byte × Dev :=
  if n = 0 then ([], d)
  else if d.reaches m a n false then (d.rdBytes a n, d) else (List.replicate n 0, d.turnedAway m a false)

/-- What a block writes as a master of the crossbar (R19, R20): discarded where it may not. -/
def Dev.masterWrite (d : Dev) (m : Master) (a : Nat) (l : List Byte) : Dev :=
  if l.isEmpty then d else if d.reaches m a l.length true then d.wrBytes a l else d.turnedAway m a true

/-- A corrected single-bit error (R27). -/
def Dev.eccCorrected (d : Dev) : Dev := (d.bump SYS.ECC_CNT_COR).raise SYS.page SYS.ev_ECC

/-- An uncorrectable error (R27): counted, logged with the address and the reading master (0xFF for the scrub), and the active
unit of a pair resigns (card item 2). -/
def Dev.eccLost (d : Dev) (a master : Nat) : Dev :=
  let d := (d.bump SYS.ECC_CNT_UNCOR).raise SYS.page SYS.ev_ECC
  (d.glogHw 0x0007 0xFF (leBytes 4 a ++ leBytes 1 master)).card 2 2

/-! ### Mailbox channels (R28–R30) -/

/-- Address of the channel from one domain to another. -/
def channelAddr (s r : Domain) : Nat := 0x50000000 + (domainNo s * 4 + domainNo r) * 0x1000

/-- Raise a mailbox interrupt of a domain: kind 0 message, 1 space, 2 status area. -/
def Dev.mboxRaise (d : Dev) (dst src : Domain) (kind : Nat) : Dev := { d with mboxIrq := (dst, src, kind) :: d.mboxIrq }

/-- Clear a range of bytes. -/
def Dev.blankRange (d : Dev) (lo n : Nat) : Dev :=
  { d with mem := d.mem.filter fun c => !(decide (lo ≤ c.1 ∧ c.1 < lo + n)) }

/-- The flag words of a channel: bit 0 PEER_RESET_TX, bit 1 PEER_RESET_RX. -/
def Dev.channelFlag (d : Dev) (s r : Domain) (i : Nat) (b : Bool) : Dev :=
  d.wrLe (channelAddr s r + 8) 4 (setBitN (d.rdLe (channelAddr s r + 8) 4) i b)

/-- The four domains. -/
def allDomains : List Domain := [.app, .saf, .lgl, .vlt]

/-- What a domain reset does to its channels (R30). -/
def Dev.mboxReset (d : Dev) (x : Domain) : Dev :=
  let d : Dev := { d with mbox := d.mbox.filter fun m => m.dst != x }
  let d := allDomains.foldl (fun d p =>
    if p = x then d
    else
      let c := channelAddr p x
      let d := (d.wrBytes (c + 4) (d.rdBytes c 4)).channelFlag p x 1 true
      (d.channelFlag x p 0 true).mboxRaise p x 0) d
  d.blankRange (channelAddr x x) 0x1000

/-- WR_IDX written by the sender (R29): the receiver's interrupt; the sender's reset flag clears (R28). -/
def Dev.mboxCommit (d : Dev) (s r : Domain) (v : Nat) : Dev :=
  ((d.wrLe (channelAddr s r) 4 v).channelFlag s r 0 false).mboxRaise r s 0

/-- RD_IDX written by the receiver (R29): the sender's space interrupt; the receiver's reset flag clears (R28). -/
def Dev.mboxFree (d : Dev) (s r : Domain) (v : Nat) : Dev :=
  ((d.wrLe (channelAddr s r + 4) 4 v).channelFlag s r 1 false).mboxRaise s r 1

/-- MAILBOX_WR_IDX_WRITE (R28, R29): another writer than the sender is blocked by the filter. -/
def execMailboxWrIdxWrite (m : Master) (src dst : Domain) (v : BitVec 6) (s : State) : Out :=
  s.on fun d =>
    let a := channelAddr src dst
    if d.filterAllows m a true ∧ src ≠ dst then (if v.toNat < 63 then (d.mboxCommit src dst v.toNat).busOk [] else d.busOk [])
    else if src = dst ∧ d.filterAllows m a true then d.busOk []
    else (d.fwBlock m a true).busError

/-- MAILBOX_RD_IDX_WRITE (R28, R29). -/
def execMailboxRdIdxWrite (m : Master) (src dst : Domain) (v : BitVec 6) (s : State) : Out :=
  s.on fun d =>
    let a := channelAddr src dst + 4
    if d.filterAllows m a true ∧ src ≠ dst then (if v.toNat < 63 then (d.mboxFree src dst v.toNat).busOk [] else d.busOk [])
    else if src = dst ∧ d.filterAllows m a true then d.busOk []
    else (d.fwBlock m a true).busError

/-- The fragments of a train agree (R478): indices 0, 1, … in order, one count 1–5 that is their number, one total length,
which the pieces fill, 1,008 bytes in each but the last. -/
def trainAgrees (t : Train) : Bool :=
  match t.frags with
  | [] => false
  | f :: _ =>
    decide (1 ≤ f.count ∧ f.count ≤ 5) && t.frags.length == f.count &&
    (t.frags.zipIdx).all (fun x => x.1.index == x.2 && x.1.count == f.count && x.1.total == f.total &&
      decide (x.1.data.length ≤ 1008) && (decide (x.2 + 1 = f.count) || x.1.data.length == 1008)) &&
    (t.frags.map fun x => x.data.length).sum == f.total

/-- FRAGMENT_TRAIN_RECEIVE (R478): a whole train is acted on as one message; a cut one is answered BUSY, an inconsistent one
RANGE. -/
def execFragmentTrainReceive (t : Train) (s : State) : Out :=
  s.on fun d =>
    let answer := fun (d : Dev) (st : Nat) =>
      match t.req with
      | some q => d.toHost { link := q.link, typ := t.typ.toNat, tag := q.tag, status := st, role := q.role }
      | none => d
    if t.cut then answer d Err.BUSY
    else if !trainAgrees t then answer d Err.RANGE
    else d.mail { src := t.src, dst := t.dst, typ := t.typ.toNat, body := t.frags.flatMap fun f => f.data.map (·.toNat) }

/-- SCRUB_PASS (R27, R530): a background pass ends, with the errors it found. The address of an uncorrectable word is a free
value. -/
def execScrubPass (cor uncor : BitVec 16) (s : State) : Out :=
  s.on fun d =>
    let d := (d.set TST.SCRUB_STAT_AGE 0).bump TST.SCRUB_STAT_PASSES
    let d := if cor.toNat = 0 then d
      else (d.set SYS.ECC_CNT_COR (satAt 0xFFFF (d.get SYS.ECC_CNT_COR + cor.toNat))).raise SYS.page SYS.ev_ECC
    if uncor.toNat = 0 then d.card 2 1
    else
      let d := d.set SYS.ECC_CNT_UNCOR (satAt 0xFFFF (d.get SYS.ECC_CNT_UNCOR + (uncor.toNat - 1)))
      let (a, d) := d.free
      d.eccLost a 0xFF

/-- FW_VIOL_CLR (R517). -/
def execFwViolClr (m : Master) (s : State) : Out :=
  s.on fun d => d.guard m .SYS 0x70 fun d => (d.wr SYS.FW_VIOL 0).wr SYS.FW_ADDR 0

end Sys2Proof.Machine
end

