-- ==== Sys2Proof/Machine/Crypto.lean ====
section
/-!
DEFINITION. SHA-256 (FIPS 180-4), which R308, R312 and R347 name, and CBOR encodings (RFC 8949) of R309.
-/
namespace Sys2Proof.Machine

open Sys2Proof

/-- The round constants of SHA-256. -/
def shaK : List Word := [
  0x428a2f98, 0x71374491, 0xb5c0fbcf, 0xe9b5dba5, 0x3956c25b, 0x59f111f1, 0x923f82a4, 0xab1c5ed5,
  0xd807aa98, 0x12835b01, 0x243185be, 0x550c7dc3, 0x72be5d74, 0x80deb1fe, 0x9bdc06a7, 0xc19bf174,
  0xe49b69c1, 0xefbe4786, 0x0fc19dc6, 0x240ca1cc, 0x2de92c6f, 0x4a7484aa, 0x5cb0a9dc, 0x76f988da,
  0x983e5152, 0xa831c66d, 0xb00327c8, 0xbf597fc7, 0xc6e00bf3, 0xd5a79147, 0x06ca6351, 0x14292967] ++ [
  0x27b70a85, 0x2e1b2138, 0x4d2c6dfc, 0x53380d13, 0x650a7354, 0x766a0abb, 0x81c2c92e, 0x92722c85,
  0xa2bfe8a1, 0xa81a664b, 0xc24b8b70, 0xc76c51a3, 0xd192e819, 0xd6990624, 0xf40e3585, 0x106aa070,
  0x19a4c116, 0x1e376c08, 0x2748774c, 0x34b0bcb5, 0x391c0cb3, 0x4ed8aa4a, 0x5b9cca4f, 0x682e6ff3,
  0x748f82ee, 0x78a5636f, 0x84c87814, 0x8cc70208, 0x90befffa, 0xa4506ceb, 0xbef9a3f7, 0xc67178f2]

/-- The initial hash value of SHA-256. -/
def shaInit : List Word :=
  [0x6a09e667, 0xbb67ae85, 0x3c6ef372, 0xa54ff53a, 0x510e527f, 0x9b05688c, 0x1f83d9ab, 0x5be0cd19]

/-- Message schedule: `n` more words behind the sixteen of `w`, newest first. -/
def shaSched : Nat → List Word → List Word
  | 0, w => w
  | n + 1, w =>
    let a := (w[14]?).getD 0
    let b := (w[1]?).getD 0
    let s0 := a.rotateRight 7 ^^^ a.rotateRight 18 ^^^ (a >>> 3)
    let s1 := b.rotateRight 17 ^^^ b.rotateRight 19 ^^^ (b >>> 10)
    shaSched n (((w[15]?).getD 0 + s0 + (w[6]?).getD 0 + s1) :: w)

/-- One round. -/
def shaRound (h : List Word) (kw : Word × Word) : List Word :=
  match h with
  | [a, b, c, d, e, f, g, hh] =>
    let s1 := e.rotateRight 6 ^^^ e.rotateRight 11 ^^^ e.rotateRight 25
    let ch := (e &&& f) ^^^ (~~~e &&& g)
    let t1 := hh + s1 + ch + kw.1 + kw.2
    let s0 := a.rotateRight 2 ^^^ a.rotateRight 13 ^^^ a.rotateRight 22
    let mj := (a &&& b) ^^^ (a &&& c) ^^^ (b &&& c)
    [t1 + (s0 + mj), a, b, c, d + t1, e, f, g]
  | _ => h

/-- One block of sixteen words. -/
def shaBlock (h blk : List Word) : List Word :=
  let w := (shaSched 48 blk.reverse).reverse
  let r := (shaK.zip w).foldl shaRound h
  (h.zip r).map fun x => x.1 + x.2

/-- Big-endian words of a list of bytes. -/
def beWords : List Byte → List Word
  | a :: b :: c :: d :: l => BitVec.ofNat 32 (((a.toNat * 256 + b.toNat) * 256 + c.toNat) * 256 + d.toNat) :: beWords l
  | _ => []

/-- Hash `n` blocks. -/
def shaBlocks : Nat → List Word → List Word → List Word
  | 0, h, _ => h
  | n + 1, h, w => shaBlocks n (shaBlock h (w.take 16)) (w.drop 16)

/-- The `n` bytes of a number, most significant first. -/
def beBytes (n v : Nat) : List Byte := (leBytes n v).reverse

/-- SHA-256. -/
def sha256 (m : List Byte) : List Byte :=
  let z := (119 - m.length % 64) % 64
  let p := m ++ [0x80] ++ List.replicate z 0 ++ beBytes 8 (8 * m.length)
  (shaBlocks (p.length / 64) shaInit (beWords p)).flatMap fun w => beBytes 4 w.toNat

/-! ### CBOR -/

/-- The head of an item of a major type: its argument in the shortest form (R309). -/
def cborHead (major n : Nat) : List Byte :=
  if n < 24 then [BitVec.ofNat 8 (32 * major + n)]
  else if n < 2 ^ 8 then BitVec.ofNat 8 (32 * major + 24) :: beBytes 1 n
  else if n < 2 ^ 16 then BitVec.ofNat 8 (32 * major + 25) :: beBytes 2 n
  else if n < 2 ^ 32 then BitVec.ofNat 8 (32 * major + 26) :: beBytes 4 n
  else BitVec.ofNat 8 (32 * major + 27) :: beBytes 8 n

/-- An unsigned integer. -/
def cborUint (n : Nat) : List Byte := cborHead 0 n

/-- An integer. -/
def cborInt (i : Int) : List Byte := if 0 ≤ i then cborHead 0 i.toNat else cborHead 1 (-1 - i).toNat

/-- A byte string. -/
def cborBytes (l : List Byte) : List Byte := cborHead 2 l.length ++ l

/-- A map of pairs already encoded, in the order given. -/
def cborMap (l : List (Nat × List Byte)) : List Byte :=
  cborHead 5 l.length ++ l.flatMap fun e => cborUint e.1 ++ e.2

end Sys2Proof.Machine
end

