-- ==== Sys2Proof/Machine/Calendar.lean ====
section
/-!
DEFINITION. Calendars (ch. 12): the image format (R278), what is in force in a UTC minute (R279, R280) and the checks of
a commit (R281). An image is read through the byte at each of its offsets.
-/
namespace Sys2Proof.Machine

open Sys2Proof

/-! ### Dates -/

/-- A leap year. -/
def leap (y : Nat) : Bool := (y % 4 == 0 && y % 100 != 0) || y % 400 == 0

/-- Days of a month. -/
def monthDays (y m : Nat) : Nat :=
  if m = 2 then (if leap y then 29 else 28) else if m = 4 ∨ m = 6 ∨ m = 9 ∨ m = 11 then 30 else 31

/-- Days from 1970-01-01 to 1 January of a year. -/
def yearStart (y : Nat) : Nat :=
  let p := y - 1
  365 * (y - 1970) + (p / 4 - p / 100 + p / 400) - 477

/-- Day number of a date. -/
def dayOf (y m d : Nat) : Nat := yearStart y + ((List.range (m - 1)).map fun k => monthDays y (k + 1)).sum + (d - 1)

/-- The year of a day number. -/
def yearOf (day : Nat) : Nat :=
  let y := 1970 + day / 366
  ((List.range 8).map fun k => y + k).foldl (fun b x => if yearStart x ≤ day then x else b) y

/-- Month and day of the month of a day of a year, from the month on. -/
def monthOf (y : Nat) : Nat → Nat → Nat → Nat × Nat
  | 0, m, r => (m, r + 1)
  | n + 1, m, r => if r < monthDays y m then (m, r + 1) else monthOf y n (m + 1) (r - monthDays y m)

/-- Year, month and day of a day number. -/
def dateOf (day : Nat) : Nat × Nat × Nat :=
  let y := yearOf day
  let md := monthOf y 11 1 (day - yearStart y)
  (y, md.1, md.2)

/-- Weekday of a day number, Monday 0. -/
def weekday (day : Nat) : Nat := (day + 3) % 7

/-! ### Fields of an image (R278) -/

/-- 16-bit field. -/
def im16 (img : Nat → Nat) (o : Nat) : Nat := img o + 256 * img (o + 1)
/-- 32-bit field. -/
def im32 (img : Nat → Nat) (o : Nat) : Nat := im16 img o + 65536 * im16 img (o + 2)
def Cal.seasons (img : Nat → Nat) : Nat := img 0x006
def Cal.weeks (img : Nat → Nat) : Nat := img 0x007
def Cal.days (img : Nat → Nat) : Nat := img 0x008
def Cal.specials (img : Nat → Nat) : Nat := img 0x009
def Cal.rates (img : Nat → Nat) : Nat := img 0x00A
def Cal.billDay (img : Nat → Nat) : Nat := img 0x00B
def Cal.calId (img : Nat → Nat) : Nat := im32 img 0x00C
def Cal.actTime (img : Nat → Nat) : Nat := im32 img 0x010
def Cal.currency (img : Nat → Nat) : Nat := im16 img 0x014
def Cal.minorExp (img : Nat → Nat) : Nat := img 0x016
def Cal.crc (img : Nat → Nat) : Nat := im32 img 0x01C
/-- Season k: month, day, minute, week profile, offset. -/
def Cal.sMonth (img : Nat → Nat) (k : Nat) : Nat := img (0x020 + 8 * k)
def Cal.sDay (img : Nat → Nat) (k : Nat) : Nat := img (0x021 + 8 * k)
def Cal.sMin (img : Nat → Nat) (k : Nat) : Nat := im16 img (0x022 + 8 * k)
def Cal.sWeek (img : Nat → Nat) (k : Nat) : Nat := img (0x024 + 8 * k)
def Cal.sOfs (img : Nat → Nat) (k : Nat) : Int := signed 8 (img (0x025 + 8 * k))
/-- Day profile of weekday w in week profile k. -/
def Cal.week (img : Nat → Nat) (k w : Nat) : Nat := img (0x060 + 8 * k + w)
/-- Day profile k: counts, switch points, windows. -/
def Cal.nSw (img : Nat → Nat) (k : Nat) : Nat := img (0x0A0 + 96 * k)
def Cal.nFr (img : Nat → Nat) (k : Nat) : Nat := img (0x0A1 + 96 * k)
def Cal.swMin (img : Nat → Nat) (k j : Nat) : Nat := im16 img (0x0A4 + 96 * k + 4 * j)
def Cal.swRate (img : Nat → Nat) (k j : Nat) : Nat := img (0x0A6 + 96 * k + 4 * j)
def Cal.frStart (img : Nat → Nat) (k j : Nat) : Nat := im16 img (0x0D4 + 96 * k + 4 * j)
def Cal.frEnd (img : Nat → Nat) (k j : Nat) : Nat := im16 img (0x0D6 + 96 * k + 4 * j)
/-- Special day k. -/
def Cal.spYear (img : Nat → Nat) (k : Nat) : Nat := im16 img (0x6A0 + 8 * k)
def Cal.spMonth (img : Nat → Nat) (k : Nat) : Nat := img (0x6A2 + 8 * k)
def Cal.spDay (img : Nat → Nat) (k : Nat) : Nat := img (0x6A3 + 8 * k)
def Cal.spProf (img : Nat → Nat) (k : Nat) : Nat := img (0x6A4 + 8 * k)
def Cal.spFriendly (img : Nat → Nat) (k : Nat) : Bool := (img (0x6A5 + 8 * k)).testBit 0
/-- Prices. -/
def Cal.eprice (img : Nat → Nat) (r : Nat) : Nat := im32 img (0x8A0 + 4 * (r - 1))
def Cal.chgMin (img : Nat → Nat) : Nat := im32 img 0x8C0
def Cal.idleMin (img : Nat → Nat) : Nat := im32 img 0x8C4
def Cal.fee (img : Nat → Nat) : Nat := im32 img 0x8C8

/-- Length of an image. -/
def calSize : Nat := 2256

/-! ### What is in force (R279) -/

/-- Start of season k in a year, in UTC minutes; 29 February falls on 1 March in a common year. -/
def Cal.sStart (img : Nat → Nat) (k y : Nat) : Nat :=
  let m := Cal.sMonth img k
  let d := Cal.sDay img k
  (if m = 2 ∧ d = 29 ∧ !leap y then dayOf y 3 1 else dayOf y m d) * 1440 + Cal.sMin img k

/-- Of some seasons the one with the latest start in a year. -/
def Cal.latest (img : Nat → Nat) (y : Nat) (ks : List Nat) : Option Nat :=
  ks.foldl (fun b k => match b with
    | some j => if Cal.sStart img j y ≤ Cal.sStart img k y then some k else some j
    | none => some k) none

/-- The season in force in minute t: the latest start of the year at or before t, else the last season of the year before. -/
def Cal.season (img : Nat → Nat) (t : Nat) : Nat :=
  let y := yearOf (t / 1440)
  let ks := List.range (Cal.seasons img)
  match Cal.latest img y (ks.filter fun k => decide (Cal.sStart img k y ≤ t)) with
  | some k => k
  | none => (Cal.latest img (y - 1) ks).getD 0

/-- Local minute of UTC minute t in season k. -/
def Cal.loc (img : Nat → Nat) (k t : Nat) : Nat := ((t : Int) + Cal.sOfs img k * 15).toNat

/-- The special day of a date: a dated entry wins over one of every year. -/
def Cal.specialOf (img : Nat → Nat) (y m d : Nat) : Option Nat :=
  let on := fun k => Cal.spMonth img k == m && Cal.spDay img k == d
  match (List.range (Cal.specials img)).find? fun k => on k && Cal.spYear img k == y with
  | some k => some k
  | none => (List.range (Cal.specials img)).find? fun k => on k && Cal.spYear img k == 0

/-- What a calendar puts in force in UTC minute t (R279). -/
def Cal.inForce (img : Nat → Nat) (t : Nat) : InForce :=
  let k := Cal.season img t
  let l := Cal.loc img k t
  let dt := dateOf (l / 1440)
  let sp := Cal.specialOf img dt.1 dt.2.1 dt.2.2
  let w := Cal.sWeek img k
  let prof := match sp with
    | some j => Cal.spProf img j
    | none => Cal.week img w (weekday (l / 1440))
  let mn := l % 1440
  let rate := match ((List.range (Cal.nSw img prof)).filter fun j => decide (Cal.swMin img prof j ≤ mn)).getLast? with
    | some j => Cal.swRate img prof j
    | none => 1
  let win := (List.range (Cal.nFr img prof)).any fun j =>
    decide (Cal.frStart img prof j ≤ mn) && decide (mn < Cal.frEnd img prof j)
  let fr := match sp with
    | some j => win || Cal.spFriendly img j
    | none => win
  { rate := rate, friendly := fr, season := k, week := w, dayProf := prof, special := sp, offset := Cal.sOfs img k }

/-- UTC minute t is a day end (R279): the local time is 00:00. -/
def Cal.dayEnd (img : Nat → Nat) (t : Nat) : Bool := Cal.loc img (Cal.season img t) t % 1440 == 0

/-- Local day of the month at UTC minute t. -/
def Cal.localDay (img : Nat → Nat) (t : Nat) : Nat := (dateOf (Cal.loc img (Cal.season img t) t / 1440)).2.2

/-! ### Checks of a commit (R281) -/

/-- All bytes of a range are zero. -/
def zeroRange (img : Nat → Nat) (o n : Nat) : Bool := (List.range n).all fun i => img (o + i) == 0

/-- A list of numbers rises strictly. -/
def rising : List Nat → Bool
  | [] => true
  | [_] => true
  | a :: b :: l => decide (a < b) && rising (b :: l)

/-- Check 3: counts, ranges, reserved bytes and unused entries. -/
def Cal.countsOk (img : Nat → Nat) : Bool :=
  let ns := Cal.seasons img
  let nw := Cal.weeks img
  let nd := Cal.days img
  let nx := Cal.specials img
  let nr := Cal.rates img
  let headOk := decide (1 ≤ ns ∧ ns ≤ 8) && decide (1 ≤ nw ∧ nw ≤ 8) && decide (1 ≤ nd ∧ nd ≤ 16) && decide (nx ≤ 64) &&
    decide (1 ≤ nr ∧ nr ≤ 8) && decide (Cal.billDay img ≤ 28) && decide (Cal.minorExp img ≤ 3) && Cal.calId img != 0 &&
    zeroRange img 0x017 5 && zeroRange img 0x8CC 4
  let unused := zeroRange img (0x020 + 8 * ns) (8 * (8 - ns)) && zeroRange img (0x060 + 8 * nw) (8 * (8 - nw)) &&
    zeroRange img (0x0A0 + 96 * nd) (96 * (16 - nd)) && zeroRange img (0x6A0 + 8 * nx) (8 * (64 - nx)) &&
    zeroRange img (0x8A0 + 4 * nr) (4 * (8 - nr))
  let seasonsOk := (List.range ns).all fun k => zeroRange img (0x026 + 8 * k) 2
  let weeksOk := (List.range nw).all fun k => img (0x067 + 8 * k) == 0
  let specialsOk := (List.range nx).all fun k => decide (img (0x6A5 + 8 * k) < 2) && zeroRange img (0x6A6 + 8 * k) 2
  let daysOk := (List.range nd).all fun k =>
    let b := 0x0A0 + 96 * k
    let s := Cal.nSw img k
    let f := Cal.nFr img k
    decide (1 ≤ s ∧ s ≤ 12) && decide (f ≤ 8) && zeroRange img (b + 2) 2 && zeroRange img (b + 4 + 4 * s) (4 * (12 - s)) &&
      zeroRange img (b + 0x34 + 4 * f) (4 * (8 - f)) && zeroRange img (b + 0x54) 12 &&
      (List.range s).all fun j => img (b + 7 + 4 * j) == 0
  headOk && unused && seasonsOk && weeksOk && specialsOk && daysOk

/-- Check 4: every index within its count. -/
def Cal.indexOk (img : Nat → Nat) : Bool :=
  ((List.range (Cal.seasons img)).all fun k => decide (Cal.sWeek img k < Cal.weeks img)) &&
  ((List.range (Cal.weeks img)).all fun k => (List.range 7).all fun w => decide (Cal.week img k w < Cal.days img)) &&
  ((List.range (Cal.specials img)).all fun k => decide (Cal.spProf img k < Cal.days img)) &&
  (List.range (Cal.days img)).all fun k => (List.range (Cal.nSw img k)).all fun j =>
    decide (1 ≤ Cal.swRate img k j ∧ Cal.swRate img k j ≤ Cal.rates img)

/-- Check 5: switch points. -/
def Cal.switchOk (img : Nat → Nat) : Bool :=
  (List.range (Cal.days img)).all fun k =>
    let l := (List.range (Cal.nSw img k)).map (Cal.swMin img k)
    rising l && l.head? == some 0 && l.all fun x => decide (x < 1440)

/-- Check 6: friendly windows, which do not overlap. -/
def Cal.windowsOk (img : Nat → Nat) : Bool :=
  (List.range (Cal.days img)).all fun k =>
    let js := List.range (Cal.nFr img k)
    js.all fun j => decide (Cal.frStart img k j < Cal.frEnd img k j) && decide (Cal.frEnd img k j ≤ 1440) &&
      js.all fun i => i == j || decide (Cal.frEnd img k i ≤ Cal.frStart img k j) ||
        decide (Cal.frEnd img k j ≤ Cal.frStart img k i)

/-- A month and a day, 29 February included. -/
def dateOk (m d : Nat) : Bool := decide (1 ≤ m ∧ m ≤ 12) && decide (1 ≤ d ∧ d ≤ monthDays 2000 m)

/-- Check 7: seasons. -/
def Cal.seasonsOk (img : Nat → Nat) : Bool :=
  let ks := List.range (Cal.seasons img)
  (ks.all fun k => dateOk (Cal.sMonth img k) (Cal.sDay img k) && decide (Cal.sMin img k < 1440) &&
    decide (-48 ≤ Cal.sOfs img k ∧ Cal.sOfs img k ≤ 56)) &&
  rising (ks.map fun k => (Cal.sMonth img k * 32 + Cal.sDay img k) * 1440 + Cal.sMin img k)

/-- Check 8: special days. -/
def Cal.specialsOk (img : Nat → Nat) : Bool :=
  let ks := List.range (Cal.specials img)
  ks.all fun k =>
    let y := Cal.spYear img k
    let m := Cal.spMonth img k
    let d := Cal.spDay img k
    dateOk m d && (y == 0 || decide (d ≤ monthDays y m)) && ks.all fun j => j == k ||
      !(Cal.spYear img j == y && Cal.spMonth img j == m && Cal.spDay img j == d)

/-- The cause of a refused commit (R281), if any, at the current UTC minute; `act` is the active image, if valid. -/
def Cal.refusal (img : Nat → Nat) (now : Nat) (act : Option (Nat → Nat)) : Option Nat :=
  let bytes := (List.range calSize).map fun o => BitVec.ofNat 8 (if 0x01C ≤ o ∧ o < 0x020 then 0 else img o)
  if im32 img 0 ≠ 0x4C414354 ∨ im16 img 4 ≠ 1 then some 1
  else if crc32 bytes ≠ Cal.crc img then some 2
  else if !Cal.countsOk img then some 3
  else if !Cal.indexOk img then some 4
  else if !Cal.switchOk img then some 5
  else if !Cal.windowsOk img then some 6
  else if !Cal.seasonsOk img then some 7
  else if !Cal.specialsOk img then some 8
  else if Cal.actTime img < now + 1 then some 9
  else match act with
    | some a => if Cal.currency img ≠ Cal.currency a ∨ Cal.minorExp img ≠ Cal.minorExp a then some 10 else none
    | none => none

/-! ### The three images in the ledger MRAM (R277) -/

/-- Addresses of the active, passive and previous images. -/
def calBase (k : Nat) : Nat := 0x30008000 + 0x900 * k

/-- An address of the ledger's register area that holds a calendar; the spec gives no layout for the rest of that area, whose
bytes read as free values (assumption 146). -/
def calArea (a : Nat) : Bool := decide (calBase 0 ≤ a ∧ a < calBase 2)

/-- An image as it stands in the ledger MRAM. -/
def Dev.cal (d : Dev) (k : Nat) : Nat → Nat := fun o => (d.rdByte (calBase k + o)).toNat

/-- Copy an image. -/
def Dev.calCopy (d : Dev) (src dst : Nat) : Dev := d.wrBytes (calBase dst) (d.rdBytes (calBase src) calSize)

/-- Clear an image. -/
def Dev.calClear (d : Dev) (k : Nat) : Dev := d.wrBytes (calBase k) (List.replicate calSize 0)

/-- What is in force in UTC minute t (R279, R280). -/
def Dev.forceAt (d : Dev) (t : Nat) : InForce := if d.led.actValid then Cal.inForce (d.cal 0) t else {}

/-- UTC minute t is a day end (R279, R280). -/
def Dev.dayEndAt (d : Dev) (t : Nat) : Bool := if d.led.actValid then Cal.dayEnd (d.cal 0) t else t % 1440 == 0

/-- The rate of UTC minute t, the committed passive calendar in force from its ACT_TIME on (R296 NEXT_SW). -/
def Dev.rateAhead (d : Dev) (t : Nat) : Nat :=
  if d.led.pasState = 2 ∧ Cal.actTime (d.cal 1) ≤ t then (Cal.inForce (d.cal 1) t).rate else (d.forceAt t).rate

/-- NEXT_SW (R296): the next rate change within 35 days after minute t. -/
def Dev.nextSwitch (d : Dev) (t : Nat) : Nat :=
  if !d.led.actValid ∧ d.led.pasState ≠ 2 then 0xFFFFFFFF
  else
    match (List.range 50400).find? fun k => d.rateAhead (t + k + 1) != d.rateAhead (t + k) with
    | some k => t + k + 1
    | none => 0xFFFFFFFF

/-- NEXT_DAYEND (R296): the next day end after minute t. -/
def Dev.nextDayEnd (d : Dev) (t : Nat) : Nat :=
  if !d.led.actValid then (t / 1440 + 1) * 1440
  else match (List.range 4320).find? fun k => d.dayEndAt (t + k + 1) with
    | some k => t + k + 1
    | none => t + 1440

end Sys2Proof.Machine
end

