-- ==== Sys2Proof/Machine/LedgerCore.lean ====
section
/-!
DEFINITION. The ledger's store (ch. 11): UTC of a wheel time (R62), energy registers (R260, R261), demand (R263), profile
rows (R264–R267), and the read-only pages LED, LPR and TTB, rebuilt from it (R276, R296).
-/
namespace Sys2Proof.Machine

open Sys2Proof

/-- Change the legal domain's store. -/
def Dev.modLed (d : Dev) (f : LedInt → LedInt) : Dev := { d with led := f d.led }

/-- A committed transaction (R259). -/
def Dev.ledTxn (d : Dev) : Dev := d.modLed fun l => { l with txn := (l.txn + 1) % 2 ^ 32 }

/-- Change an energy page. -/
def Dev.modLedPage (d : Dev) (p : Fin 5) (f : LedPage → LedPage) : Dev :=
  d.modLed fun l => { l with pages := l.pages.set p (f l.pages[p]) }

/-- Change a bay's account. -/
def Dev.modAcct (d : Dev) (n : Bay) (f : Account → Account) : Dev :=
  d.modLed fun l => { l with acct := l.acct.set n (f l.acct[n]) }

/-- Change a bay's open-session record, if there is one. -/
def Dev.modSess (d : Dev) (n : Bay) (f : SessRec → SessRec) : Dev :=
  d.modLed fun l => { l with sess := l.sess.set n (l.sess[n].map f) }

/-! ### UTC of a wheel time (R62) -/

/-- AU of one second at the present frequency. -/
def Dev.auPerSec (d : Dev) : Nat := max 1 (d.get CAR.FREQ_FREQ * 65536 / 1000)

/-- Interpolate between two captures that bracket a wheel time, newest first. -/
def utcIn : List (Nat × Nat × Bool) → Nat → Option (Rat × Bool)
  | (s1, c1, f1) :: (s0, c0, f0) :: l, t =>
    if c0 ≤ t ∧ t < c1 then some ((s0 : Rat) + ((t - c0 : Nat) : Rat) / (c1 - c0 : Nat) * (s1 - s0 : Nat), f0 || f1)
    else utcIn ((s0, c0, f0) :: l) t
  | _, _ => none

/-- UTC in seconds of a wheel time and its FW flag. A time after the last capture takes the length of the second before
it; with no capture the present frequency serves. -/
def Dev.utcAt (d : Dev) (t : Nat) : Rat × Bool :=
  match utcIn d.led.caps t with
  | some x => x
  | none => match d.led.caps with
    | (s1, c1, f1) :: l =>
      let span := match l with
        | (_, c0, _) :: _ => if c0 < c1 then c1 - c0 else d.auPerSec
        | [] => d.auPerSec
      ((s1 : Rat) + ((t : Int) - c1 : Int) / (span : Nat), f1 || !d.locked)
    | [] => ((d.rtc.sec : Rat) + (d.rtc.ms : Rat) / 1000 + ((t : Int) - d.wheel : Int) / (d.auPerSec : Nat), true)

/-- UTC in ms of a wheel time. -/
def Dev.utcMsAt (d : Dev) (t : Nat) : Nat := (1000 * (d.utcAt t).1).floor.toNat

/-- The clock in ms. -/
def Dev.clockMs (d : Dev) : Nat := d.rtc.sec * 1000 + d.rtc.ms

/-- Keep a capture (R61). -/
def Dev.ledCapture (d : Dev) (sec : Nat) : Dev :=
  d.modLed fun l => { l with caps := ((sec, d.wheel, !d.locked) :: l.caps).take 16 }

/-! ### Registers (R260, R261) -/

/-- Add at an index of a list. -/
def addAt (l : List Nat) (i x : Nat) : List Nat := l.set i ((l[i]?).getD 0 + x)

/-- VALUE of a register. -/
def regValue (n : Nat) : Nat := n / 2 ^ 32

/-- The cable loss of an entry in 2^-64 Wh (R260): I2T in 2^-32 A²h times R_C in µΩ. -/
def Dev.cableLoss (d : Dev) (p : Fin 5) (i2t : Nat) : Nat :=
  if h : p.val < 4 then i2t * d.led.cable[(⟨p.val, h⟩ : Bay)] * 2 ^ 32 / 1000000 else 0

/-- The A+ and A− additions of an entry, what stays of the loss, and the loss deducted (R260). -/
def lossApply (ap an loss carry : Nat) : Nat × Nat × Nat × Nat :=
  let t := loss + carry
  let l := t / 2 ^ 32
  if an ≤ ap then (ap - l, an, t % 2 ^ 32, min ap l) else (ap, an + l, t % 2 ^ 32, l)

/-- An entry of a meter page reaches the registers (R260): the additions and the rate. -/
def Dev.ledAdd (d : Dev) (p : Fin 5) (ap an : Nat) (rq : List Nat) (carry : Nat) : Dev :=
  let r := d.led.inForce.rate
  let q := fun k => (rq[k]?).getD 0 * 1000
  d.modLedPage p fun x =>
    { x with ap := addAt (addAt x.ap 0 (ap * 1000)) r (ap * 1000), an := addAt (addAt x.an 0 (an * 1000)) r (an * 1000),
             rq := (List.range 4).map fun k => (x.rq[k]?).getD 0 + q k, qp := x.qp + q 0 + q 1, qn := x.qn + q 2 + q 3,
             loss := carry, imp := { x.imp with cur := x.imp.cur + ap * 1000 },
             exp := { x.exp with cur := x.exp.cur + an * 1000 } }

/-! ### Demand (R263) -/

/-- Average power in W of an energy in 2^-32 mWh over P minutes. -/
def demandOf (e p : Nat) : Nat := e * 60 / (max 1 p * 1000 * 2 ^ 32)

/-- The energy the current average takes: since the period start, or since the window that is running began. -/
def Demand.window (x : Demand) (sliding : Bool) (nsub : Nat) : Nat :=
  if sliding then x.cur + ((x.subs.take (nsub - 1)).map (·.e)).sum else x.cur

/-- The start minute of the period, and the rate in force there: of a sliding demand, those of the window's oldest
sub-period (R263). -/
def Demand.begin' (x : Demand) (sliding : Bool) (nsub : Nat) : Nat × Nat :=
  match if sliding then (x.subs.take (nsub - 1)).getLast? else none with
  | some s => (s.start, s.rate)
  | none => (x.start, x.rate)

/-- A period (or sub-period) of a DEMAND object ends at a minute (R263); `rates`: maxima are kept per rate. -/
def Demand.close (x : Demand) (p : Nat) (sliding : Bool) (nsub minute rate : Nat) (rates : Bool) (status : Nat) : Demand :=
  let w := demandOf (x.window sliding nsub) p
  let more := decide (((x.max[0]?).getD (0, 0)).1 < w)
  let mx := if more then
      let m := x.max.set 0 (w, minute)
      if rates then m.set (x.begin' sliding nsub).2 (w, minute) else m
    else x.max
  { x with last := w, cap := minute, start := minute, rate := rate, status := status, max := mx,
           subs := if sliding then ({ e := x.cur, start := x.start, rate := x.rate } :: x.subs).take 15 else [], cur := 0 }

/-- Step 1 of a boundary for the demand objects (R263, R269); a clock step (`force`) closes them all with its mark. -/
def Dev.demandClose (d : Dev) (minute rate status : Nat) (force : Bool) : Dev :=
  let (p, sl, ns) := d.led.dem
  let step := if sl then p / max 1 ns else p
  let d := if force || minute % 1440 % max 1 step == 0 then
      ([0, 1, 2, 3, 4] : List (Fin 5)).foldl (fun d k => d.modLedPage k fun x =>
        { x with imp := x.imp.close p sl ns minute rate true status, exp := x.exp.close p sl ns minute rate false status }) d
    else d
  match d.led.demNext with
  | some c =>
    if minute % 1440 = 0 ∧ ¬force then
      let d := d.modLed fun l => { l with dem := c, demNext := none }
      ([0, 1, 2, 3, 4] : List (Fin 5)).foldl (fun d k => d.modLedPage k fun x =>
        { x with imp := { x.imp with cur := 0, subs := [] }, exp := { x.exp with cur := 0, subs := [] } }) d
    else d
  | none => d

/-! ### Objects (R251, R252) -/

/-- An object of the ledger. `energy p i`: 0–8 1.8.e, 9–17 2.8.e, 18 3.8.0, 19 4.8.0, 20–23 5.8.0–8.8.0; `maxDem p i`: 0–8
1.6.e, 9 2.6.0; `cost n i`: 0–8 128.2.e, 9–11 128.3.0–128.5.0, 12 128.9.0. -/
inductive Obj where
  | energy (p : Fin 5) (i : Nat)
  | demand (p : Fin 5) (exp : Bool)
  | maxDem (p : Fin 5) (i : Nat)
  | clock | p1 | p2 | glog | llog
  | calendar (k : Fin 3)
  | cost (n : Bay) (i : Nat)
  | receipts (b : Fin 5)
  | account (n : Bay)
  | sealObj | tamper (e : Fin 4)
  | sensor (p : Fin 5) | fingerprint | cable (n : Bay) | slewAllow | layout | rights | tamperCfg
  | billing
deriving DecidableEq, Repr

/-- Objects of a meter page (A = 1). -/
def objOfPage (p : Fin 5) (o : Obis) : Option Obj :=
  if o.d = 8 then
    if o.c = 1 ∧ o.e ≤ 8 then some (.energy p o.e)
    else if o.c = 2 ∧ o.e ≤ 8 then some (.energy p (9 + o.e))
    else if 3 ≤ o.c ∧ o.c ≤ 8 ∧ o.e = 0 then some (.energy p (15 + o.c))
    else none
  else if o.d = 4 ∧ o.e = 0 then (if o.c = 1 then some (.demand p false) else if o.c = 2 then some (.demand p true) else none)
  else if o.d = 6 then
    if o.c = 1 ∧ o.e ≤ 8 then some (.maxDem p o.e) else if o.c = 2 ∧ o.e = 0 then some (.maxDem p 9) else none
  else none

/-- Objects of a bay (A = 0). -/
def objOfBay (n : Bay) (o : Obis) : Option Obj :=
  if o.c = 128 then
    if o.d = 2 ∧ o.e ≤ 8 then some (.cost n o.e)
    else if 3 ≤ o.d ∧ o.d ≤ 5 ∧ o.e = 0 then some (.cost n (6 + o.d))
    else if o.d = 9 ∧ o.e = 0 then some (.cost n 12)
    else none
  else if o.d = 0 ∧ o.e = 0 then
    if o.c = 129 then some (.receipts ⟨n.val + 1, by omega⟩) else if o.c = 130 then some (.account n) else none
  else none

/-- Objects of the device (A = 0, B = 0). -/
def objOfDevice (o : Obis) : Option Obj :=
  match o.c, o.d, o.e with
  | 0, 1, 0 => some .billing
  | 1, 0, 0 => some .clock
  | 99, 98, 0 => some .glog
  | 99, 98, 1 => some .llog
  | 13, 0, k => if h : k < 3 then some (.calendar ⟨k, h⟩) else none
  | 129, 0, 0 => some (.receipts 0)
  | 131, 0, 0 => some .sealObj
  | 132, 0, k => if h : k < 4 then some (.tamper ⟨k, h⟩) else none
  | 140, 1, k => if h : 1 ≤ k ∧ k ≤ 5 then some (.sensor ⟨k - 1, by omega⟩) else none
  | 140, 2, 0 => some .fingerprint
  | 140, 3, k => if h : 1 ≤ k ∧ k ≤ 4 then some (.cable ⟨k - 1, by omega⟩) else none
  | 140, 4, 0 => some .slewAllow
  | 140, 5, 0 => some .layout
  | 140, 6, 0 => some .rights
  | 140, 8, 0 => some .tamperCfg
  | _, _, _ => none

/-- The object of an OBIS code (R252). -/
def objOf (o : Obis) : Option Obj :=
  if o.f ≠ 255 then none
  else if o.a = 1 then
    if h : 1 ≤ o.b ∧ o.b ≤ 5 then objOfPage ⟨o.b - 1, by omega⟩ o
    else if o.b = 0 ∧ o.d = 1 ∧ o.e = 0 then (if o.c = 99 then some .p1 else if o.c = 98 then some .p2 else none)
    else none
  else if o.a = 0 then
    if o.b = 0 then objOfDevice o
    else if h : 1 ≤ o.b ∧ o.b ≤ 4 then objOfBay ⟨o.b - 1, by omega⟩ o
    else none
  else none

/-- The bay an object belongs to. -/
def Obj.bay : Obj → Option Nat
  | .energy p _ => if p.val < 4 then some p.val else none
  | .demand p _ => if p.val < 4 then some p.val else none
  | .maxDem p _ => if p.val < 4 then some p.val else none
  | .cost n _ => some n.val
  | .receipts b => if b.val = 0 then none else some (b.val - 1)
  | .account n => some n.val
  | .sensor p => if p.val < 4 then some p.val else none
  | .cable n => some n.val
  | _ => none

/-! ### Rights (R253–R256) -/

/-- Rights of one role as R, W, X bits, for PUBLIC, OPERATOR, SERVICE, GRID, LEGAL. -/
def rightsOf (p o s g l : Nat) : Nat := p + 8 * o + 64 * s + 512 * g + 4096 * l

/-- The default rights word of an object's attribute, or of its method m as number 128 + m (R255). -/
def defaultRights (o : Obj) (n : Nat) : Nat :=
  let all := rightsOf 1 1 1 1 1
  match o with
  | .demand _ _ => if 8 ≤ n ∧ n ≤ 10 then rightsOf 1 1 1 3 3 else if n < 128 then all else 0
  | .p1 => if n = 3 ∨ n = 4 then rightsOf 1 1 1 1 3 else if n < 128 then all else 0
  | .p2 => if n = 3 ∨ n = 4 then rightsOf 1 1 1 1 3 else if n < 128 then all else 0
  | .glog => if n < 128 then rightsOf 0 1 1 1 1 else 0
  | .llog => if n = 129 then rightsOf 0 0 0 0 4 else if n < 128 then all else 0
  | .clock => if n = 129 then rightsOf 0 4 0 0 4 else if n = 130 then rightsOf 0 0 0 0 4 else if n < 128 then all else 0
  | .receipts _ => if n < 128 then rightsOf 1 1 1 0 1 else 0
  | .account _ => if n < 128 then rightsOf 0 3 0 0 1 else if n = 129 then rightsOf 0 4 0 0 0 else 0
  | .calendar k => if n < 128 then (if k.val = 1 then rightsOf 1 3 1 1 1 else all) else 0
  | .tamper _ => if n < 128 then rightsOf 0 1 1 0 1 else if n = 129 then rightsOf 0 0 0 0 4 else 0
  | .sensor _ => if n < 128 then rightsOf 1 1 1 1 3 else if n = 129 then rightsOf 0 0 0 0 4 else 0
  | .fingerprint => if n < 128 then rightsOf 1 1 1 1 3 else 0
  | .cable _ => if n < 128 then rightsOf 1 1 1 1 3 else 0
  | .slewAllow => if n < 128 then rightsOf 1 1 1 1 3 else 0
  | .layout => if n < 128 then rightsOf 1 1 1 1 3 else 0
  | .rights => if n < 128 then rightsOf 1 1 1 1 3 else 0
  | .tamperCfg => if n < 128 then rightsOf 1 1 1 1 3 else 0
  | .energy _ _ => if n < 128 then all else 0
  | .maxDem _ _ => if n < 128 then all else 0
  | .cost _ _ => if n < 128 then all else 0
  | .sealObj => if n < 128 then all else 0
  | .billing => if n < 128 then all else 0

/-- The rights word in force (R254). -/
def Dev.rightsWord (d : Dev) (o : Obis) (obj : Obj) (n : Nat) : Nat :=
  match d.led.rights.find? fun x => x.1 == o && x.2.1 == n with
  | some x => x.2.2
  | none => defaultRights obj n

/-- A role holds a right: 0 R, 1 W, 2 X. In N variants OPERATOR holds LEGAL's too (R256). -/
def Dev.hasRight (d : Dev) (role : Nat) (word right : Nat) : Bool :=
  word.testBit (3 * role + right) || (role == 1 && !d.legalPart && word.testBit (12 + right))

/-! ### Values of objects -/

/-- Total cost of the session of a bay (R286), in minor units × 10^-4. -/
def Account.total (a : Account) : Rat := a.energy.sum + a.chg + a.idle + a.fee

/-- Value of an energy register. -/
def LedPage.energy (x : LedPage) (i : Nat) : Nat :=
  regValue (if i < 9 then (x.ap[i]?).getD 0 else if i < 18 then (x.an[i - 9]?).getD 0 else if i = 18 then x.qp
    else if i = 19 then x.qn else (x.rq[i - 20]?).getD 0)

/-- Value of a cost register. -/
def Account.cost (a : Account) (i : Nat) : Nat :=
  if i = 0 then a.total.floor.toNat else if i < 9 then ((a.energy[i - 1]?).getD 0).floor.toNat
  else if i = 9 then a.chg.floor.toNat else if i = 10 then a.idle.floor.toNat else if i = 11 then a.fee.floor.toNat
  else a.cum

/-- A capture attribute's value and the scaler of its unit (R264), 0 where the object holds no such number. -/
def Dev.captureOf (d : Dev) (o : Obj) (attr : Nat) : Nat × Int :=
  match o with
  | .energy p i => if attr = 2 then (d.led.pages[p].energy i, -3) else (0, 0)
  | .demand p e =>
    let x := if e then d.led.pages[p].exp else d.led.pages[p].imp
    let (per, sl, ns) := d.led.dem
    if attr = 2 then (demandOf (x.window sl ns) per, 0) else if attr = 3 then (x.last, 0) else (0, 0)
  | .maxDem p i =>
    if attr = 2 then (if i < 9 then ((d.led.pages[p].imp.max[i]?).getD (0, 0)).1
      else ((d.led.pages[p].exp.max[0]?).getD (0, 0)).1, 0) else (0, 0)
  | .cost n i => if attr = 2 then (d.led.acct[n].cost i, -4) else (0, 0)
  | .billing => if attr = 2 then (d.led.bill, 0) else (0, 0)
  | _ => (0, 0)

/-- The object a channel definition names, if its bay is present. -/
def Dev.channelObj (d : Dev) (w : Nat × Nat) : Option Obj :=
  match objOf { a := w.1 % 256, b := w.1 / 2 ^ 8 % 256, c := w.1 / 2 ^ 16 % 256, d := w.1 / 2 ^ 24, e := w.2 % 256,
                f := w.2 / 2 ^ 8 % 256 } with
  | some o => match o.bay with
    | some b => if h : b < 4 then (if d.hasBay ⟨b, h⟩ then some o else none) else none
    | none => some o
  | none => none

/-- A profile value (R264): scaled to 10^SCALER of the unit, truncated, 48-bit. -/
def Dev.channelValue (d : Dev) (w : Nat × Nat) : Nat :=
  match d.channelObj w with
  | none => 0
  | some o =>
    let (v, s) := d.captureOf o (w.2 / 2 ^ 16 % 256)
    let e := s - signed 8 (w.2 / 2 ^ 24)
    (if 0 ≤ e then v * 10 ^ e.toNat else v / 10 ^ (-e).toNat) % 2 ^ 48

/-! ### Profiles (R264–R267) -/

/-- Rows a ring holds (R266). -/
def Profile.capacity (p : Profile) (bytes : Nat) : Nat := bytes / (8 + 6 * p.defs.length)

/-- Bytes of the P1 and P2 rings, and where they start in the read window. -/
def p1Bytes : Nat := 3407872
def p2Bytes : Nat := 196608
def p1Base : Nat := 0x30090000
def p2Base : Nat := 0x303D0000

/-- One row (R264). -/
def Dev.rowBytes (d : Dev) (p : Profile) (minute status : Nat) : List Byte :=
  leBytes 4 minute ++ leBytes 1 status ++ leBytes 3 p.seq ++ p.defs.flatMap fun w => leBytes 6 (d.channelValue w)

/-- The profile after a row. -/
def Profile.advance (p : Profile) (bytes : Nat) : Profile :=
  let n := p.capacity bytes
  { p with rows := min n (p.rows + 1), idx := (p.idx + 1) % max 1 n, seq := (p.seq + 1) % 2 ^ 24, status := 0 }

/-- STATUS bits of what ends at a minute (R265, R270, R271): PF and CI until the clock is set, RPT in a repeated
span, CI while the clock is invalid. -/
def Dev.rowMarks (d : Dev) (minute : Nat) : Nat :=
  (if d.led.pfCi then 0x41 else 0) ||| (if 0 < d.led.rptEnd ∧ minute * 60000 ≤ d.led.rptEnd then 0x08 else 0) ||| (if d.rtc.ci then 0x40 else 0)

/-- Capture a P1 row. -/
def Dev.rowP1 (d : Dev) (minute : Nat) : Dev :=
  let p := d.led.p1
  let seq := p.seq
  let d := d.wrBytes (p1Base + p.idx * (8 + 6 * p.defs.length)) (d.rowBytes p minute (p.status ||| d.rowMarks minute))
  let d := d.modLed fun l => { l with p1 := l.p1.advance p1Bytes }
  (d.raise LPR.page LPR.ev_P1_ROW).ledNotify { a := 1, b := 0, c := 99, d := 1, e := 0 } 2 seq

/-- Capture a P2 row; `mark` adds to its STATUS. -/
def Dev.rowP2 (d : Dev) (minute mark : Nat) : Dev :=
  let p := d.led.p2
  let seq := p.seq
  let d := d.wrBytes (p2Base + p.idx * (8 + 6 * p.defs.length)) (d.rowBytes p minute (p.status ||| d.rowMarks minute ||| mark))
  let d := d.modLed fun l => { l with p2 := l.p2.advance p2Bytes }
  (d.raise LPR.page LPR.ev_P2_ROW).ledNotify { a := 1, b := 0, c := 98, d := 1, e := 0 } 2 seq

/-- The bytes of channel definitions. -/
def defBytes (l : List (Nat × Nat)) : List Byte := l.flatMap fun w => leBytes 4 w.1 ++ leBytes 4 w.2

/-- The log entry of a profile that is emptied (R267, R274 0x0105). -/
def Dev.logEmptied (d : Dev) (which period : Nat) (p : Profile) : Dev :=
  d.llog 0 0x0105 0xFF (leBytes 1 which ++ leBytes 1 p.defs.length ++ leBytes 1 period ++ leBytes 1 0 ++
    leBytes 4 ((p.seq + 2 ^ 24 - 1) % 2 ^ 24) ++ leBytes 4 p.rows ++ leBytes 4 (crc32 (defBytes p.defs)) ++
    padTo 80 (defBytes (p.defs.take 10)))

/-- A waiting definition of P1 takes effect at a whole hour (R267). -/
def Dev.changeP1 (d : Dev) (minute : Nat) : Dev :=
  match d.led.p1.next with
  | some (per, defs) =>
    if minute % 60 = 0 then
      ((d.logEmptied 1 d.led.p1.period d.led.p1).modLed fun l => { l with p1 := { period := per, defs := defs } }).raise
        LPR.page LPR.ev_EMPTIED
    else d
  | none => d

/-- A waiting definition of P2 takes effect at a day end (R267). -/
def Dev.changeP2 (d : Dev) : Dev :=
  match d.led.p2.next with
  | some (per, defs) =>
    ((d.logEmptied 2 0 d.led.p2).modLed fun l => { l with p2 := { period := per, defs := defs } }).raise LPR.page LPR.ev_EMPTIED
  | none => d

/-- OR bits into the STATUS of both running rows. -/
def Dev.rowStatus (d : Dev) (bits : Nat) : Dev :=
  d.modLed fun l => { l with p1 := { l.p1 with status := l.p1.status ||| bits },
                             p2 := { l.p2 with status := l.p2.status ||| bits } }

/-! ### The pages LED, LPR and TTB (R276, R296) -/

/-- LED and LPR show the store. -/
def Dev.ledRefresh (d : Dev) : Dev :=
  let l := d.led
  let n := !d.legalPart
  let d := ((((d.setBit LED.STAT_READY l.ready).setBit LED.STAT_CI d.rtc.ci).setBit LED.STAT_LLOG_FULL d.llogFull).setBit
    LED.STAT_REPLAYED l.replayed).setBit LED.STAT_RPT_SPAN (decide (d.clockMs < l.rptEnd))
  let d := ((d.setBit LED.STAT_INFO n).wrN LED.BND_DONE l.bndDone).wrN LED.BND_MIN l.bndMin
  let d := ((d.wrN LED.TXN_CNT l.txn).wrN LED.RPT_END (if d.clockMs < l.rptEnd then l.rptEnd / 60000 else 0)).wrN LED.GLOG_SEQ d.log.glogSeq
  let d := ((d.wrN LED.LLOG_SEQ d.log.llogSeq).wrN LED.LLOG_ACK d.log.llogAck).wrN LED.LLOG_LOST d.log.llogLost
  let d := ((d.set LED.DEM_CFG_PERIOD l.dem.1).setBit LED.DEM_CFG_SLIDING l.dem.2.1).set LED.DEM_CFG_NSUB l.dem.2.2
  let d := d.set LED.ROLES_OPEN ((List.range 8).map fun r => if d.roles.any fun x => x.role == r then 2 ^ r else 0).sum
  let c1 := l.p1.capacity p1Bytes
  let d := ((d.set LPR.P1_CFG_PERIOD l.p1.period).set LPR.P1_CFG_NCH l.p1.defs.length).wrN LPR.P1_CAP c1
  let d := ((d.wrN LPR.P1_HEAD (if l.p1.rows = 0 then 0 else (l.p1.idx + c1 - 1) % max 1 c1)).wrN LPR.P1_OLD
    (if l.p1.rows < c1 then 0 else l.p1.idx)).wrN LPR.P1_SEQ (if l.p1.rows = 0 then 0 else (l.p1.seq + 2 ^ 24 - 1) % 2 ^ 24)
  let d := d.wrN LPR.P1_ROWS l.p1.rows
  let c2 := l.p2.capacity p2Bytes
  let d := (d.set LPR.P2_CFG_NCH l.p2.defs.length).wrN LPR.P2_CAP c2
  let d := ((d.wrN LPR.P2_HEAD (if l.p2.rows = 0 then 0 else (l.p2.idx + c2 - 1) % max 1 c2)).wrN LPR.P2_OLD
    (if l.p2.rows < c2 then 0 else l.p2.idx)).wrN LPR.P2_SEQ (if l.p2.rows = 0 then 0 else (l.p2.seq + 2 ^ 24 - 1) % 2 ^ 24)
  let d := d.wrN LPR.P2_ROWS l.p2.rows
  let d := (List.range 16).foldl (fun d k =>
    let w := (l.p1.defs[k]?).getD (0, 0)
    (d.wrN (LPR.P1_DEF (2 * k)) w.1).wrN (LPR.P1_DEF (2 * k + 1)) w.2) d
  (List.range 64).foldl (fun d k =>
    let w := (l.p2.defs[k]?).getD (0, 0)
    (d.wrN (LPR.P2_DEF (2 * k)) w.1).wrN (LPR.P2_DEF (2 * k + 1)) w.2) d

/-- TTB shows the calendars (R296). -/
def Dev.ttbRefresh (d : Dev) : Dev :=
  let l := d.led
  let f := l.inForce
  let d := ((((d.setBit TTB.STAT_ACT_VALID l.actValid).set TTB.STAT_PAS_STATE l.pasState).setBit TTB.STAT_FRIENDLY
    f.friendly).setBit TTB.STAT_SPECIAL f.special.isSome).set TTB.CUR_RATE f.rate
  let d := (((d.set TTB.CUR_SEASON f.season).set TTB.CUR_WEEK f.week).set TTB.CUR_DAYPROF f.dayProf).set TTB.CUR_SPEC
    (f.special.getD 0)
  let d := (d.set TTB.CUR_OFFSET (toUnsigned 8 f.offset)).wrN TTB.ACT_ID (if l.actValid then Cal.calId (d.cal 0) else 0)
  let com := l.pasState == 2
  let d := ((d.wrN TTB.PAS_ID (if com then Cal.calId (d.cal 1) else 0)).wrN TTB.PREV_ID
    (if l.prevValid then Cal.calId (d.cal 2) else 0)).wrN TTB.PAS_TIME (if com then Cal.actTime (d.cal 1) else 0)
  let d := ((d.wrN TTB.NEXT_SW (d.nextSwitch l.bndMin)).wrN TTB.NEXT_DAYEND (d.nextDayEnd l.bndMin)).wrN TTB.BILL_CNT l.bill
  let a := fun x => if l.actValid then x else 0
  let d := ((d.set TTB.CURRENCY_CODE (a (Cal.currency (d.cal 0)))).set TTB.CURRENCY_MINOR_EXP (a (Cal.minorExp (d.cal 0)))).set
    TTB.VAL_CAUSE_CAUSE l.valCause
  let d := (List.range 8).foldl (fun d k => d.wrN (TTB.EPRICE k) (a (Cal.eprice (d.cal 0) (k + 1)))) d
  ((d.wrN TTB.CHG_MIN (a (Cal.chgMin (d.cal 0)))).wrN TTB.IDLE_MIN (a (Cal.idleMin (d.cal 0)))).wrN TTB.FEE
    (a (Cal.fee (d.cal 0)))

end Sys2Proof.Machine
end

