-- ==== Sys2Proof/Machine/Prepay.lean ====
section
/-!
DEFINITION. Session cost (R286, R287) and prepayment accounts (R288–R294), as the ledger keeps them, and the PPY page
(R297) that shows them.
-/
namespace Sys2Proof.Machine

open Sys2Proof

/-! ### Cost (R286, R287) -/

/-- A price of the active calendar, 0 while there is none. -/
def Dev.price (d : Dev) (f : (Nat → Nat) → Nat) : Nat := if d.led.actValid then f (d.cal 0) else 0

/-- Add to an element of a list of rationals. -/
def addRat (l : List Rat) (i : Nat) (x : Rat) : List Rat := l.set i ((l[i]?).getD 0 + x)

/-- The cost of one entry (R286): A+ addition in 2^-32 Wh, whether the entry is idle, and its Δt in s. -/
def Dev.costAdd (d : Dev) (n : Bay) (ap : Nat) (idle : Bool) (dt : Rat) : Dev :=
  let r := d.led.inForce.rate
  let e : Rat := (ap * d.price (fun g => Cal.eprice g r) : Nat) / (1000 * 2 ^ 32)
  let chg : Rat := d.price Cal.chgMin
  let idl : Rat := d.price Cal.idleMin
  d.modAcct n fun a =>
    { a with energy := addRat a.energy (r - 1) e, chg := if idle then a.chg else a.chg + chg * dt / 60,
             idle := if idle then a.idle + idl * dt / 60 else a.idle }

/-- START_METERING (R286, R287): the session costs reset and the fee is added. -/
def Dev.costStart (d : Dev) (n : Bay) : Dev :=
  let f : Rat := d.price Cal.fee
  d.modAcct n fun a => { a with energy := List.replicate 8 0, chg := 0, idle := 0, fee := f, costing := true }

/-- The settled cost (R287): rounded half up to whole minor units. -/
def Account.settled (a : Account) : Nat := (a.total / 10000 + 1 / 2).floor.toNat

/-! ### Accounts (R288–R294) -/

/-- CREDIT while the session runs (R290); a session that took an account over (R294) starts from that account's debt. -/
def Account.running (a : Account) : Int := (a.loaded : Int) - a.debt - (a.total / 10000).floor

/-- Exhausted (R290). -/
def Account.exhausted (a : Account) : Bool := decide (a.credit < -(a.ecG : Int))

/-- STATE (R291); `friendly`, the present minute; an account that its last drain left in FRIENDLY_DEBT stays there until
its next drained entry (R293). -/
def Account.stateOf (a : Account) (friendly drained : Bool) : Nat :=
  if !a.prepaid then 0
  else if (a.warn1 : Int) < a.credit then 1
  else if (a.warn2 : Int) < a.credit then 2
  else if 0 < a.credit then 3
  else if !a.exhausted then 4
  else if a.stop then 6
  else if friendly || (a.state == 5 && !drained) then 5
  else 6

/-- Take a new STATE: a state entered downward raises its interrupt once (R291). -/
def Dev.acctState (d : Dev) (n : Bay) (drained : Bool) : Dev :=
  let a := d.led.acct[n]
  let st := a.stateOf d.led.inForce.friendly drained
  let down := decide (a.state < st) && st != 7
  let k := if st = 2 then some (0, PPY.ev_LOW1) else if st = 3 then some (1, PPY.ev_LOW2)
    else if st = 5 ∨ st = 6 then some (2, PPY.ev_EXHAUSTED) else none
  let d := d.modAcct n fun a => { a with state := st }
  match k with
  | some (i, ev) =>
    if down && (a.armed[i]?).getD true then
      (d.modAcct n fun a => { a with armed := a.armed.set i false }).raise PPY.page ev
    else d
  | none => d

/-- The emergency credit is granted once per session (R290). -/
def Dev.acctGrant (d : Dev) (n : Bay) : Dev :=
  let a := d.led.acct[n]
  if decide (a.credit ≤ 0) && decide (0 < a.ec) && !a.ecUsed then
    (d.modAcct n fun a => { a with ecG := a.ec, ecUsed := true }).raise PPY.page PPY.ev_EC_GRANT
  else d

/-- The computation of R290 and the state of R291. On a drained entry, or a LOAD that finds it exhausted while it is in no
friendly debt, an account outside a friendly minute raises CREDIT_STOP (R292, R293); in hold-up none is requested (R295). -/
def Dev.acctCompute (d : Dev) (n : Bay) (drained load : Bool) : Dev :=
  if !d.led.acct[n].prepaid || d.led.acct[n].state == 7 then d
  else
    let d := (d.modAcct n fun a => { a with credit := a.running }).acctGrant n
    let a := d.led.acct[n]
    let stop := (drained || (load && a.state != 5)) && a.exhausted && !d.led.inForce.friendly && !a.stop &&
      !d.bit PWR.STAT_HOLDUP
    let d := if stop then
        ((d.modAcct n fun a => { a with stop := true, obeyDue := true }).stopRequest n (2 ^ 5)).set (PPY.OBEY_REMAIN n.val) a.tObey
      else d
    d.acctState n drained

/-- An attribute takes its value (R288). -/
def Account.put (a : Account) (attr v : Nat) : Account :=
  match attr with
  | 4 => { a with ec := v }
  | 5 => { a with warn1 := v }
  | 6 => { a with warn2 := v }
  | 7 => { a with tObey := v }
  | 8 => { a with tFb := v }
  | 9 => { a with reconnect := v }
  | _ => a

/-- Attribute writes take effect at the next drained entry (R288). -/
def Dev.acctPend (d : Dev) (n : Bay) : Dev :=
  d.modAcct n fun a => { a.pend.foldl (fun a w => a.put w.1 w.2) a with pend := [] }

/-- OPEN_SESSION (R289, R294): a new account, or a held one taken over with its credit, loads and emergency credit use. -/
def Dev.acctOpen (d : Dev) (n : Bay) : Dev :=
  (d.modAcct n fun a =>
    let held := a.state == 7
    { a with prepaid := held, state := 0, opened := true, costing := false, credit := if held then a.credit else 0,
             loaded := if held then a.loaded else 0, ecUsed := held && a.ecUsed, ecG := 0, debt := if held then a.debt else 0,
             ids := if held then a.ids else [], stop := false, obeyDue := false, fallback := false, fbFail := false, armed := [true, true, true],
             energy := List.replicate 8 0, chg := 0, idle := 0, fee := 0 }).acctCompute n false false

/-- END_SESSION (R287, R294): the account closes with its settled cost, or is held; `byCredit`, the end reason is CREDIT.
The answer is the settled cost. -/
def Dev.acctClose (d : Dev) (n : Bay) (byCredit : Bool) : Nat × Dev :=
  let a := d.led.acct[n]
  let c := a.settled
  (c, (d.modAcct n fun a =>
    let hold := a.prepaid && byCredit && a.reconnect == 1
    { a with credit := if a.prepaid then (a.loaded : Int) - a.debt - c else 0, opened := false, costing := false, obeyDue := false,
             debt := a.debt + c, cum := a.cum + c * 10000, state := if hold then 7 else a.state,
             energy := a.energy }).set (PPY.OBEY_REMAIN n.val) 0)

/-- HELD ends when the bay's CP reads A (R294). -/
def Dev.acctCpA (d : Dev) (n : Bay) : Dev :=
  d.modAcct n fun a => if a.state = 7 then { a with state := 0, prepaid := false } else a

/-! ### PPY (R297) -/

/-- Signed number into a pair of registers. -/
def Dev.wrI64 (d : Dev) (lo hi : Nat) (i : Int) : Dev :=
  let v := toUnsigned 64 i
  (d.wrN lo (v % 2 ^ 32)).wrN hi (v / 2 ^ 32)

/-- PPY shows the accounts; the blocks of absent bays read 0. -/
def Dev.ppyRefresh (d : Dev) : Dev :=
  d.forBays fun n d =>
    if !d.hasBay n then d
    else
      let a := d.led.acct[n]
      let k := n.val
      let d := ((d.set (PPY.PCFG_T_OBEY k) a.tObey).set (PPY.PCFG_T_FB k) a.tFb).set (PPY.PCFG_RECONNECT k) a.reconnect
      let d := ((d.set (PPY.ASTAT_STATE k) a.state).setBit (PPY.ASTAT_PREPAID k) a.prepaid).setBit (PPY.ASTAT_EC_USED k)
        a.ecUsed
      let d := (d.setBit (PPY.ASTAT_FALLBACK k) a.fallback).setBit (PPY.ASTAT_FB_FAIL k) a.fbFail
      let d := (d.wrI64 (PPY.CREDIT_LO k) (PPY.CREDIT_HI k) a.credit).wrI64 (PPY.SCOST_LO k) (PPY.SCOST_HI k) a.total.floor
      let d := (d.wrN (PPY.ECG k) a.ecG).wrI64 (PPY.LOADED_LO k) (PPY.LOADED_HI k) a.loaded
      ((d.wrN (PPY.THR_EC k) a.ec).wrN (PPY.THR_WARN1 k) a.warn1).wrN (PPY.THR_WARN2 k) a.warn2

/-- Why a write of an account attribute is refused (R288), if it is; the order of the thresholds holds for what the
writes in waiting leave. -/
def Account.writeError (a : Account) (attr : Nat) (v : Int) : Option Nat :=
  let p := a.pend.foldl (fun a w => a.put w.1 w.2) a
  let inR := fun (lo hi : Int) => decide (lo ≤ v ∧ v ≤ hi)
  let ok := match attr with
    | 4 => inR 0 (2 ^ 31 - 1)
    | 5 => inR p.warn2 (2 ^ 32 - 1)
    | 6 => inR 0 p.warn1
    | 7 => inR 1000 6000
    | 8 => inR 10 1000
    | 9 => inR 0 1
    | _ => false
  if attr = 2 ∨ attr = 3 ∨ attr = 10 then some Err.ROLE_DENIED else if ok then none else some Err.RANGE

/-- Method LOAD (R289, R290): the answer's status and the effect; a repeated transaction changes nothing. -/
def Dev.acctLoad (d : Dev) (n : Bay) (amount id : Nat) : Nat × Dev :=
  let a := d.led.acct[n]
  if amount = 0 ∨ 10 ^ 12 < amount then (Err.RANGE, d)
  else if !a.opened ∧ a.state ≠ 7 then (Err.SEQUENCE, d)
  else if a.ids.contains id then (Err.NONE, d)
  else
    let d := (d.modAcct n fun a =>
      { a with prepaid := true, loaded := a.loaded + amount, ids := (id :: a.ids).take 16 }).raise PPY.page PPY.ev_LOADED
    if a.state = 7 then
      let d := d.modAcct n fun a => { a with credit := (a.loaded : Int) - a.debt }
      if decide (a.credit ≤ 0) && decide (0 < d.led.acct[n].credit) then
        (Err.NONE, (d.raise PPY.page PPY.ev_RECONNECT_READY).mail { src := .lgl, dst := .app, typ := 0x0310, body := [n.val] })
      else (Err.NONE, d)
    else
      let d := d.acctCompute n false true
      let b := d.led.acct[n]
      (Err.NONE, d.modAcct n fun a =>
        { a with armed := [(a.armed[0]?).getD true || decide ((b.warn1 : Int) < b.credit),
                           (a.armed[1]?).getD true || decide ((b.warn2 : Int) < b.credit),
                           (a.armed[2]?).getD true || !b.exhausted] })

/-- FALLBACK_CHECK (R292): once, T_OBEY after CREDIT_STOP, a power path that is CLOSED or CLOSING receives the fallback OPEN. -/
def execFallbackCheck (n : Bay) (s : State) : Out :=
  s.on fun d =>
    let due := d.led.acct[n].obeyDue
    let d := (d.set (PPY.OBEY_REMAIN n.val) 0).modAcct n fun a => { a with obeyDue := false }
    if due && (d.ctState n == Ct.CLOSED || d.ctState n == Ct.CLOSING) then
      ((((d.ctRequestOpen n 0).modCtc n fun c => { c with fallback := true }).modAcct n fun a =>
        { a with fallback := true }).setBit (PPY.ASTAT_FALLBACK n.val) true).raise PPY.page PPY.ev_FALLBACK
    else d

end Sys2Proof.Machine
end

