-- ==== Sys2Proof/Machine/Receipts.lean ====
section
/-!
DEFINITION. Session records and receipts (R308–R315): what opens, starts and closes them, the receipt ring in the ledger
MRAM, and the LGL page's view of both (R323).
-/
namespace Sys2Proof.Machine

open Sys2Proof

/-! ### Session records (R308) -/

/-- OPEN_SESSION: a record with no authorisation; a clock that is invalid marks it CI (R310). -/
def Dev.sessOpen (d : Dev) (n : Bay) (num : Nat) : Dev :=
  let ci := d.rtc.ci
  let r : SessRec := { num := num, flags := flagIf ci 9 }
  d.modLed fun l => { l with sess := l.sess.set n (some r) }

/-- The bytes of the device UID. -/
def Dev.uidBytes (d : Dev) : List Byte := leBytes 8 d.chip.uid.toNat

/-- SESSION_AUTH reaches the session's record (R308): the status of its answer and the effect. -/
def Dev.sessAuth (d : Dev) (bay num tariff : Nat) (id : List Byte) : Nat × Dev :=
  if h : bay < 4 then
    let n : Bay := ⟨bay, h⟩
    match d.led.sess[n] with
    | none => (Err.SEQUENCE, d)
    | some r =>
      if r.num ≠ num ∨ r.metering then (Err.SEQUENCE, d)
      else if id.isEmpty ∨ 64 < id.length then (Err.RANGE, d)
      else
        let a := (sha256 (d.uidBytes ++ id)).take 16
        (Err.NONE, (d.modSess n fun r => { r with auth := some a, tariff := tariff }).ledTxn)
  else (Err.RANGE, d)

/-- The answer to SESSION_AUTH on the APP channel. -/
def Dev.authAnswer (d : Dev) (st : Nat) : Dev := d.mail { src := .lgl, dst := .app, typ := 0x0301, body := [st] }

/-- SESSION_AUTH (R308); while the legal domain is not ready the message waits (R35). -/
def execSessionAuth (bay : BitVec 8) (num tariff : Word) (id : List Byte) (s : State) : Out :=
  s.on fun d =>
    if d.led.ready then
      let (st, d) := d.sessAuth bay.toNat num.toNat tariff.toNat id
      d.authAnswer st
    else d.modLed fun l => { l with auths := l.auths ++ [(bay.toNat, num.toNat, tariff.toNat, id)] }

/-- The SIGNER bits (R309): unit of a pair, and standby. -/
def Dev.signer (d : Dev) : Nat :=
  if !d.present .PAIR || d.pairState == Pr.DISABLED then 0
  else (if d.bit PAIR.STAT_UNIT then 2 else 1) + (if d.pairState = Pr.STANDBY then 4 else 0)

/-- START_METERING (R62, R106, R308): the record's start, with the FW flag of its time; the first cycle begins at the next boundary. -/
def Dev.sessStart (d : Dev) (n : Bay) : Dev :=
  let wt := (d.car.cyc + 1) * 65536
  let t := d.utcMsAt wt
  let fw := (d.utcAt wt).2
  let x := d.led.pages[Bay.met n]
  let cal := if d.led.actValid then Cal.calId (d.cal 0) else 0
  let sg := d.signer
  ((d.modSess n fun r =>
    { r with metering := true, startWt := wt, tStart := t, impStart := x.energy 0, expStart := x.energy 9,
             impEnd := x.energy 0, expEnd := x.energy 9, tEnd := t, calId := cal, signer := sg,
             flags := r.flags ||| flagIf fw 3 }).costStart n).ledTxn

/-- An entry of the bay's page has reached the registers (R308, R309): before the first cycle it moves the start, after
it the end, the loss and the flags. -/
def Dev.sessEntry (d : Dev) (n : Bay) (wt flags loss : Nat) : Dev :=
  let x := d.led.pages[Bay.met n]
  let t := d.utcMsAt wt
  let fw := (d.utcAt wt).2
  d.modSess n fun r =>
    if !r.metering then r
    else if wt ≤ r.startWt then
      { r with impStart := x.energy 0, expStart := x.energy 9, impEnd := x.energy 0, expEnd := x.energy 9 }
    else
      let g := fun (f b : Nat) => flagIf (flags.testBit f) b
      { r with impEnd := x.energy 0, expEnd := x.energy 9, tEnd := t, loss := r.loss + loss,
               flags := r.flags ||| flagIf fw 3 ||| g Fl.FW 3 ||| g Fl.INVALID 4 ||| g Fl.SAT 5 ||| g Fl.CALSTEP 6 ||| g Fl.REDERR 7 |||
                 g Fl.MERGED 8 }

/-- Set a receipt flag on every session that is open. -/
def Dev.sessFlag (d : Dev) (bit : Nat) : Dev :=
  d.forBays fun n d => d.modSess n fun r => { r with flags := r.flags ||| 2 ^ bit }

/-! ### Receipts (R309–R314) -/

/-- END_REASON of a STOPSRC word (R146, R311): the code of its bit of highest precedence. -/
def endReason (src : Nat) : Nat :=
  match lowestBit src with
  | none => 9
  | some i => ([7, 0xA, 6, 5, 4, 3, 8, 2, 1, 0xC][i]?).getD 9

/-- The STOPSRC bits that go into FLAGS[31:22]: all but the one that gave END_REASON (R310). -/
def otherStops (src : Nat) : Nat :=
  match lowestBit src with
  | none => 0
  | some i => setBitN src i false

/-- First 16 bytes of LGL.IMG_HASH. -/
def Dev.imgHash16 (d : Dev) : List Byte := (List.range 4).flatMap fun k => leBytes 4 (d.rdN (LGL.IMG_HASH k))

/-- The payload's fields but for FLAGS (R309): key and encoding, in ascending order. -/
def Dev.rcptFields (d : Dev) (n : Bay) (r : SessRec) (reason cost : Nat) (acct : Account) : List (Nat × List Byte) :=
  [(1, cborBytes d.uidBytes), (2, cborUint n.val), (3, cborUint r.num), (4, cborUint r.tStart), (5, cborUint r.tEnd),
   (6, cborUint r.impStart), (7, cborUint r.impEnd)] ++
  (if r.expEnd = r.expStart then [] else [(8, cborUint r.expStart), (9, cborUint r.expEnd)]) ++
  [(10, cborUint (satAt 0xFFFFFFFF (r.loss * 1000 / 2 ^ 32))), (11, cborBytes (r.auth.getD (List.replicate 16 0))),
   (12, cborUint r.calId), (13, cborUint r.tariff),
   (14, cborUint (if d.led.actValid then Cal.currency (d.cal 0) else 0)), (15, cborUint cost)] ++
  (if acct.prepaid then
    [(16, cborHead 4 3 ++ cborInt acct.credit ++ cborUint acct.ecG ++ cborUint acct.loaded)] else []) ++
  [(17, cborUint reason), (19, cborUint d.log.sealCnt), (20, cborBytes d.imgHash16), (21, cborUint r.signer)]

/-- The payload with its FLAGS. -/
def payloadOf (fields : List (Nat × List Byte)) (flags : Nat) : List Byte :=
  cborMap (fields.filter (fun f => decide (f.1 < 18)) ++ [(18, cborUint flags)] ++ fields.filter fun f => decide (18 < f.1))

/-- The receipt ring's slot and index entry of an RSEQ (R26, R313). -/
def rcptAddr (rseq : Nat) : Nat := 0x30050000 + 256 * ((rseq + 999) % 1000)
def rcptIndex (rseq : Nat) : Nat := 0x30050000 + 256000 + 6 * ((rseq + 999) % 1000)

/-- Write a receipt's slot and index entry: 1 unsigned, 2 signed. -/
def Dev.rcptStore (d : Dev) (rseq bay state : Nat) (payload sig : List Byte) : Dev :=
  ((d.wrBytes (rcptAddr rseq) (BitVec.ofNat 8 payload.length :: payload ++ sig)).wrBytes (rcptIndex rseq)
    (leBytes 4 rseq ++ leBytes 1 bay ++ leBytes 1 state))

/-- The digest of a receipt: SHA-256 of its Sig_structure (R312). -/
def rcptDigest (payload : List Byte) : List Byte :=
  sha256 (cborHead 4 4 ++ (cborHead 3 10 ++ [0x53, 0x69, 0x67, 0x6E, 0x61, 0x74, 0x75, 0x72, 0x65, 0x31]) ++
    cborBytes [0xA1, 0x01, 0x26] ++ cborBytes [] ++ cborBytes payload)

/-- The domain whose processor runs the ledger (R321). -/
def Dev.ledHome (d : Dev) : Domain := if d.legalPart then .lgl else .app

/-- A session ends in a receipt (R287, R294, R309–R314): committed unsigned and sent to the vault. `flags` are the flags
the cause adds; a record that never metered leaves no receipt (R147). -/
def Dev.rcptCommit (d : Dev) (n : Bay) (reason flags : Nat) : Dev :=
  match d.led.sess[n] with
  | none => d
  | some r =>
    if !r.metering then
      (d.acctClose n (reason == 3)).2.modLed fun l => { l with sess := l.sess.set n none }
    else
      let (cost, d) := d.acctClose n (reason == 3)
      let f := r.flags ||| flags ||| flagIf r.auth.isNone 13 ||| flagIf (!d.legalPart) 0
      let fields := d.rcptFields n r reason cost d.led.acct[n]
      let rseq := (d.led.rseq + 1) % 2 ^ 32
      let ms := d.clockMs
      let d := (d.modLed fun l =>
        { l with sess := l.sess.set n none, rseq := rseq, receipts := satInc 1000 l.receipts,
                 unsigned := l.unsigned ++ [{ rseq := rseq, bay := n.val, ms := ms, flags := f, fields := fields }] }).ledTxn
      let p := payloadOf fields f
      let d := ((d.rcptStore rseq n.val 1 p []).raise LGL.page LGL.ev_RECEIPT)
      d.mail { src := d.ledHome, dst := .vlt, typ := 0x0303, body := (rcptDigest p).map (·.toNat) }

/-- The operator key that signs the receipts of an informational part (R6, R321): the blob of the first slot with usage
RECEIPT_INFO. -/
def Dev.operatorKey (d : Dev) : Option (List Byte) :=
  d.vlt.slots.toList.findSome? fun x => match x with
    | some { use := .blob 3, policy := _, blob := b } => some b
    | _ => none

/-- The key that the vault signs receipts with, if it has one and can sign: the legal key, or an operator's (R6, R312, R321, R341). -/
def Dev.receiptKey (d : Dev) : Option (List Byte) :=
  if !(d.bit VLT.STAT_READY && d.bit VLT.STAT_TRNG_OK && d.bit VLT.STAT_DRBG_OK && d.vlt.rootOk) then none
  else if d.legalPart then some [] else d.operatorKey

/-- The receipt is late (R310): the vault kept silent for 1 s, or more than 1 s of the clock has passed since the commit. -/
def Dev.rcptLate (d : Dev) (x : RcptRec) : Bool := x.late || decide (x.ms + 1000 < d.clockMs)

/-- The payload of an unsigned receipt as it is signed: with LATE_SIGN once it is late (R314). -/
def Dev.rcptPayload (d : Dev) (x : RcptRec) : List Byte := payloadOf x.fields (x.flags ||| flagIf (d.rcptLate x) 16)

/-- An unsigned receipt's digest goes to the vault (R312). -/
def Dev.rcptSubmit (d : Dev) (x : RcptRec) : Dev :=
  d.mail { src := d.ledHome, dst := .vlt, typ := 0x0303, body := (rcptDigest (d.rcptPayload x)).map (·.toNat) }

/-- RECEIPT_SIGNED (R313, R314): the vault returns the signature of the oldest unsigned receipt, r ‖ s. Without a key for it no
signature comes. -/
def execReceiptSigned (sig : List Byte) (s : State) : Out :=
  s.on fun d =>
    match d.led.unsigned with
    | [] => d
    | x :: rest =>
      match (if sig.length = 64 then d.receiptKey else none) with
      | none => d
      | some key =>
        let d := if d.legalPart then d else d.modLed fun l => { l with operatorKey := key }
        let p := d.rcptPayload x
        let d := (d.modLed fun l => { l with unsigned := rest, vaultWait := l.vaultWait && !rest.isEmpty }).ledTxn
        let d := d.rcptStore x.rseq x.bay 2 p sig
        let o : Obis := { a := 0, b := x.bay + 1, c := 129, d := 0, e := 0 }
        d.ledNotify o 2 x.rseq

/-- The vault has not answered for 1 s (R314, R35): the receipt is held, with IRQ HELD, and is signed with LATE_SIGN. -/
def execVaultWaitTimeout (s : State) : Out :=
  s.on fun d =>
    match d.led.unsigned with
    | [] => d
    | x :: rest =>
      let x := { x with late := true }
      ((d.modLed fun l => { l with vaultWait := true, unsigned := x :: rest }).raise LGL.page LGL.ev_HELD).rcptSubmit x

/-! ### LGL (R323) -/

/-- OPERATOR's slews of the trailing 24 h (R305). -/
def Dev.slewRecent (d : Dev) : List (Nat × Nat) := d.rtc.slewUsed.filter fun x => decide (d.rtc.sec < x.1 + 86400)

/-- LGL shows the legal domain's state. -/
def Dev.lglRefresh (d : Dev) : Dev :=
  let l := d.led
  let slewing := d.rtc.slewRem != 0
  let d := ((((d.setBit LGL.STAT_READY l.ready).setBit LGL.STAT_INFO (!d.legalPart)).setBit LGL.STAT_CI d.rtc.ci).setBit
    LGL.STAT_SLEWING slewing).setBit LGL.STAT_VAULT_WAIT l.vaultWait
  let d := (d.set LGL.STAT_HELD (satAt 31 l.unsigned.length)).wrN LGL.SEAL_CNT d.log.sealCnt
  let d := d.wrN LGL.SEAL_TIME l.sealTime
  let d := match l.sealObj with
    | some o => (d.wrN LGL.SEAL_OBJ_LO (o.a + o.b * 2 ^ 8 + o.c * 2 ^ 16 + o.d * 2 ^ 24)).wrN LGL.SEAL_OBJ_HI (o.e + o.f * 256)
    | none => d
  let d := (d.wrI LGL.SLEW_REM d.rtc.slewRem).set LGL.SLEW_USED_MS (d.slewRecent.map (·.2)).sum
  let d := (d.wrN LGL.RSEQ l.rseq).set LGL.RCPT_CNT_CNT l.receipts
  let d := d.forBays fun n d =>
    let k := n.val
    match l.sess[n] with
    | some r =>
      ((((d.setBit (LGL.SESS_STAT_OPEN k) true).setBit (LGL.SESS_STAT_AUTH_SET k) r.auth.isSome).setBit
        (LGL.SESS_STAT_METERING k) r.metering).setBit (LGL.SESS_STAT_END_WAIT k) d.bay[n].endWait).wrN (LGL.SESS_NUM k) r.num
    | none => (d.wrN (LGL.SESS_STAT k) 0).wrN (LGL.SESS_NUM k) 0
  let d := ((d.set LGL.TMP_STAT_EN (l.tmpCfg % 16)).set LGL.TMP_STAT_ACTIVE l.tmpLevel).set LGL.TMP_STAT_UNACK
    ((List.range 4).map fun k => if h : k < 4 then (if l.tamper[k].unack then 2 ^ k else 0) else 0).sum
  let d := (List.range 4).foldl (fun d k => if h : k < 4 then
      ((d.wrN (LGL.TMP_CNT k) l.tamper[k].count).wrN (LGL.TMP_FIRST k) l.tamper[k].first).wrN (LGL.TMP_LAST k) l.tamper[k].last
    else d) d
  d.wrN LGL.DISP_TIME l.dispTime

/-- RTC shows the clock (R325); SEC and MS are read live. -/
def Dev.rtcRefresh (d : Dev) : Dev :=
  let slewing := d.rtc.slewRem != 0
  let d := (((d.setBit RTC.STAT_XT32_OK d.rtc.xt32).setBit RTC.STAT_CI d.rtc.ci).setBit RTC.STAT_SLEWING slewing).setBit
    RTC.STAT_VBAT_RUN d.rtc.vbatRun
  ((d.wrN RTC.SEC d.rtc.sec).set RTC.MS_MS d.rtc.ms).wrI RTC.SLEW_REM d.rtc.slewRem

/-- All pages of the legal domain follow its store. -/
def Dev.legalRefresh (d : Dev) : Dev := d.ledRefresh.ttbRefresh.ppyRefresh.lglRefresh.rtcRefresh

/-- The light part of the refresh: what no calendar search feeds. -/
def Dev.legalShow (d : Dev) : Dev := d.ledRefresh.ppyRefresh.lglRefresh.rtcRefresh

end Sys2Proof.Machine
end

