-- ==== Sys2Proof/Machine/Mirror.lean ====
section
/-!
DEFINITION. The witness mirror as the legal feed writes it (R366, R367, R370): its bytes, the snapshot and the compact receipts.
-/
namespace Sys2Proof.Machine

open Sys2Proof

/-- The bytes of an OBIS code. -/
def obisBytes (o : Obis) : List Byte := [o.a, o.b, o.c, o.d, o.e, o.f].map fun x => BitVec.ofNat 8 x

/-- The token of a signed receipt, rebuilt from its slot (R312, R313); in an informational part kid names the operator key that
signed last (R321, assumption 160). -/
def Dev.tokenOf (d : Dev) (rseq : Nat) : List Byte :=
  let a := rcptAddr rseq
  let n := (d.rdByte a).toNat
  [0xD2, 0x84, 0x43, 0xA1, 0x01, 0x26, 0xA1, 0x04, 0x48] ++ 
    (List.range 8).map (if d.legalPart then Config.receiptKid else Config.operatorKid d.led.operatorKey) ++
    cborBytes (d.rdBytes (a + 1) n) ++ [0x58, 0x40] ++ d.rdBytes (a + 1 + n) 64

/-- Where the mirror's bytes lie among the byte memories: above every bus address, since no bus reaches it (R19). -/
def mirrorBase : Nat := 0x100000000

/-- Change the tag. -/
def Dev.modTag (d : Dev) (f : TagInt → TagInt) : Dev := { d with tag := f d.tag }

/-- Read mirror bytes; the configuration records read 0 to the host (R366, R374). -/
def Dev.mirror (d : Dev) (o n : Nat) : List Byte := d.rdBytes (mirrorBase + o) n

/-- Write mirror bytes. -/
def Dev.mirrorPut (d : Dev) (o : Nat) (l : List Byte) : Dev := d.wrBytes (mirrorBase + o) l

/-- The registers of the snapshot, in order (R367): each page's energies and maximum demands, the billing counter, the
cumulative costs; those that PUBLIC may read (R256). -/
def Dev.snapObjs (d : Dev) : List (Obis × Obj × Nat × Nat) :=
  let pages := (List.finRange 5).filter fun p => if h : p.val < 4 then d.hasBay ⟨p.val, h⟩ else true
  let en := fun (p : Fin 5) (i : Nat) =>
    let o : Obis := if i < 9 then ⟨1, p.val + 1, 1, 8, i, 255⟩ else if i < 18 then ⟨1, p.val + 1, 2, 8, i - 9, 255⟩
      else ⟨1, p.val + 1, i - 15, 8, 0, 255⟩
    (o, Obj.energy p i, 0xFD, if i < 18 then 30 else 32)
  let md := fun (p : Fin 5) (i : Nat) =>
    let o : Obis := if i < 9 then ⟨1, p.val + 1, 1, 6, i, 255⟩ else ⟨1, p.val + 1, 2, 6, 0, 255⟩
    (o, Obj.maxDem p i, 0, 27)
  let all := (pages.flatMap fun p => (List.range 24).map (en p) ++ (List.range 10).map (md p)) ++
    [(⟨0, 0, 0, 1, 0, 255⟩, Obj.billing, 0, 255)] ++
    (allBays.filter d.hasBay).map fun n => (⟨0, n.val + 1, 128, 9, 0, 255⟩, Obj.cost n 12, 0xFC, 255)
  all.filter fun x => d.hasRight 0 (d.rightsWord x.1 x.2.1 2) 0

/-- Write the snapshot (R367, R370). -/
def Dev.snapshot (d : Dev) : Dev :=
  let seq := (d.tag.snapSeq / 2 * 2 + 2) % 2 ^ 32
  let l := d.snapObjs
  let es := l.flatMap fun x => obisBytes x.1 ++ leBytes 1 x.2.2.1 ++ leBytes 1 x.2.2.2 ++ leBytes 8 (d.captureOf x.2.1 2).1
  let flags := (if d.rtc.ci then 1 else 0) + (if d.legalPart then 0 else 2) + (if d.bit PWR.STAT_HOLDUP then 4 else 0)
  let head := leBytes 4 seq ++ leBytes 4 d.rtc.sec ++ leBytes 4 d.log.sealCnt ++ leBytes 4 (d.rdN CAR.BND_SEQ) ++
    leBytes 2 l.length ++ leBytes 2 flags
  ((d.mirrorPut 0x100 (padTo 32 head ++ es)).modTag fun t => { t with snapSeq := seq }).wrN WTG.SNAP_SEQ seq

/-- The head of a CBOR item: major type, argument, rest. -/
def cborRead : List Byte → Nat × Nat × List Byte
  | [] => (0, 0, [])
  | b :: l =>
    let a := b.toNat % 32
    let n := if a = 24 then 1 else if a = 25 then 2 else if a = 26 then 4 else if a = 27 then 8 else 0
    (b.toNat / 32, if a < 24 then a else ofBe (l.take n), l.drop n)

/-- The items of a payload map (R309): key, argument, bytes; an array's items are passed over. -/
def cborItems : Nat → List Byte → List (Nat × Nat × List Byte)
  | 0, _ => []
  | n + 1, l =>
    if l.isEmpty then []
    else
      let k := cborRead l
      let v := cborRead k.2.2
      let rest := if v.1 = 2 then v.2.2.drop v.2.1
        else if v.1 = 4 then (List.range v.2.1).foldl (fun r _ => (cborRead r).2.2) v.2.2 else v.2.2
      (k.2.1, v.2.1, if v.1 = 2 then v.2.2.take v.2.1 else []) :: cborItems n rest

/-- The compact form of a stored receipt (R367). -/
def Dev.compact (d : Dev) (q : Nat) : List Byte :=
  let a := rcptAddr q
  let items := cborItems 32 ((d.rdBytes (a + 1) (d.rdByte a).toNat).drop (if (d.rdByte (a + 1)).toNat = 0xB8 then 2 else 1))
  let num := fun k => ((items.find? fun x => x.1 == k).map (·.2.1)).getD 0
  let byt := fun k => ((items.find? fun x => x.1 == k).map (·.2.2)).getD []
  let st := (d.rdByte (rcptIndex q + 5)).toNat
  withCrc (padTo 0x7C (leBytes 4 q ++ leBytes 1 (num 2) ++ leBytes 1 (num 17) ++ leBytes 1 (num 21) ++ leBytes 1 st ++
    leBytes 4 (num 3) ++ leBytes 8 (num 4) ++ leBytes 8 (num 5) ++ leBytes 8 (num 6) ++ leBytes 8 (num 7) ++
    leBytes 4 (num 15) ++ leBytes 2 (num 14) ++ leBytes 2 0 ++ leBytes 4 (num 19) ++ leBytes 4 (num 18) ++
    (if st = 2 then sha256 (d.tokenOf q) else List.replicate 32 0) ++ padTo 16 (byt 11)))

/-- Write the newest compact receipts, at most 64 (R367, R370). -/
def Dev.compacts (d : Dev) : Dev :=
  (List.range (min 64 d.led.receipts)).foldl (fun d k =>
    let q := d.led.rseq - k
    d.mirrorPut (0x1000 + 128 * (q % 64)) (d.compact q)) d

/-- The legal feed refreshes snapshot and compact receipts (R370). -/
def Dev.mirrorRefresh (d : Dev) : Dev := d.snapshot.compacts

end Sys2Proof.Machine
end

