-- ==== Sys2Proof/Machine/Ledger.lean ====
section
/-!
DEFINITION. The ledger at work (ch. 11–13): draining the increment FIFOs (R260–R262), boundary transactions (R269,
R282–R285), boundaries rebuilt after an overflow or an outage (R64, R271), session handovers (R314) and the start of the
legal domain (R300, R315).
-/
namespace Sys2Proof.Machine

open Sys2Proof

/-! ### Draining (R260–R262) -/

/-- Length of what an entry covers, in s (R286): from the boundary before its first cycle. -/
def Dev.entryTime (d : Dev) (p : Fin 5) (e : MetEntry) : Rat :=
  let first := (e.wt - 1) / 65536 * 65536 - (e.cycles - 1) * 65536
  let start := if e.flags.testBit Fl.CYC_SAT then d.led.pages[p].lastWt else first
  let dt := (d.utcAt e.wt).1 - (d.utcAt start).1
  if dt < 0 then 0 else dt

/-- Sums of the running minute, before cable loss, for the pair's cross-check (R457). -/
def Dev.minuteAdd (d : Dev) (p : Fin 5) (ap an flags : Nat) : Dev :=
  d.modMet p fun x => { x with minAp := x.minAp + ap, minAn := x.minAn + an, minFlags := x.minFlags ||| flags % 65536 }

/-- One entry is added to the registers and costs, and committed (R260–R262, R286, R290). Entries with INVALID or NOLOAD
add nothing; a merged entry holds the increments of its other cycles and is added. -/
def Dev.drainEntry (d : Dev) (p : Fin 5) (e : MetEntry) : Dev :=
  let fl := fun i => e.flags.testBit i
  let idle := fl Fl.INVALID || fl Fl.NOLOAD
  let adds := !idle || fl Fl.MERGED
  let inc := fun i => if adds then (e.inc[i]?).getD 0 else 0
  let dt := d.entryTime p e
  let d := if fl Fl.MERGED then
      d.glog .lgl 0x0008 (if p.val < 4 then p.val else 0xFF) (leBytes 2 e.cycles ++ leBytes 1 p.val)
    else d
  let l := if adds then d.cableLoss p (inc 6) else 0
  let r := lossApply (inc 0) (inc 1) l d.led.pages[p].loss
  let d := if adds then d.ledAdd p r.1 r.2.1 [inc 2, inc 3, inc 4, inc 5] r.2.2.1 else d
  let d := d.minuteAdd p (inc 0) (inc 1) e.flags
  let d := if fl Fl.FW then d.rowStatus 0x80 else d
  let d := d.modLedPage p fun x => { x with lastWt := e.wt }
  let d := if h : p.val < 4 then
      let n : Bay := ⟨p.val, h⟩
      let d := (d.acctPend n).sessEntry n e.wt e.flags (if adds then r.2.2.2 else 0)
      let start := match d.led.sess[n] with
        | some s => s.startWt
        | none => e.wt
      let d := if d.led.acct[n].costing && decide (start < e.wt) then d.costAdd n (if adds then r.1 else 0) idle dt else d
      d.acctCompute n true false
    else d
  d.ledTxn

/-- The page whose FIFO holds the entry with the least wheel time, the lowest page first (R262). -/
def Dev.nextEntry (d : Dev) : Option (Fin 5 × MetEntry) :=
  ([0, 1, 2, 3, 4] : List (Fin 5)).foldl (fun (b : Option (Fin 5 × MetEntry)) p =>
    match d.met[p].fifo with
    | [] => b
    | e :: _ => match b with
      | some (_, x) => if e.wt < x.wt then some (p, e) else b
      | none => some (p, e)) none

/-- The boundary to execute next (R64): of those latched and those rebuilt the one that comes first. -/
def Dev.nextBoundary (d : Dev) : Option Boundary :=
  match d.car.latched, d.car.rebuilt with
  | b :: _, r :: _ => some (if b.wt < r.wt then b else r)
  | b :: _, [] => some b
  | [], r :: _ => some r
  | [], [] => none

/-- The entry to be drained next, if no boundary comes before it (R35, R63); while missed boundaries are not rebuilt, entries after
the latched ones wait (R64). -/
def Dev.dueEntry (d : Dev) : Option (Fin 5 × MetEntry) :=
  match d.nextEntry with
  | some (p, e) => match d.nextBoundary with
    | some b => if e.wt ≤ b.wt then some (p, e) else none
    | none => if d.car.missed.isEmpty then some (p, e) else none
  | none => none

/-- Take one entry. -/
def Dev.drainOne (d : Dev) (p : Fin 5) (e : MetEntry) : Dev :=
  (d.modMet p fun x => { x with fifo := x.fifo.drop 1 }).drainEntry p e

/-- ENTRY_DRAIN (R260–R262). -/
def execEntryDrain (s : State) : Out :=
  s.on fun d =>
    if d.led.ready then
      match d.dueEntry with
      | some (p, e) => (d.drainOne p e).legalShow
      | none => d
    else d

/-! ### Boundary transactions (R269) -/

/-- A redraw of the legal rectangle (R318), deferred while an effective level of L1 or above holds. -/
def Dev.redraw (d : Dev) : Dev :=
  if 1 ≤ d.get PWR.STAT_LEVEL then d.modLed fun l => { l with redrawDue := true }
  else
    let t := d.rtc.sec
    (d.modLed fun l => { l with dispTime := t, redrawDue := false }).raise LGL.page LGL.ev_DISPLAY

/-- Step 2: the passive calendar becomes active (R282). -/
def Dev.calActivate (d : Dev) : Dev :=
  let old := if d.led.actValid then Cal.calId (d.cal 0) else 0
  let new := Cal.calId (d.cal 1)
  let at' := Cal.actTime (d.cal 1)
  let d := ((d.calCopy 0 2).calCopy 1 0).calClear 1
  let d := d.modLed fun l => { l with prevValid := l.actValid, actValid := true, pasState := 0 }
  let d := (d.llog 0 0x0109 0xFF (leBytes 4 new ++ leBytes 4 old ++ leBytes 4 at')).sessFlag 14
  d.raise TTB.page TTB.ev_ACTIVATED

/-- Step 4: the billing period ends (R285). -/
def Dev.billEnd (d : Dev) : Dev :=
  let clear := fun x : Demand => { x with max := List.replicate 9 (0, 0) }
  let d := d.modLed fun l => { l with bill := (l.bill + 1) % 2 ^ 32 }
  let d := ([0, 1, 2, 3, 4] : List (Fin 5)).foldl (fun d k =>
    d.modLedPage k fun x => { x with imp := clear x.imp, exp := clear x.exp }) d
  d.raise TTB.page TTB.ev_BILLING

/-- The own sums of the closing minute (R457), in mWh, of the pages that meter. -/
def Dev.minuteClose (d : Dev) (minute : Nat) : Dev :=
  let one := fun p : Fin 5 =>
    if d.met[p].cfgEff % 4 = 0 then []
    else [(p.val, d.met[p].minAp * 1000 / 2 ^ 32, d.met[p].minAn * 1000 / 2 ^ 32, d.met[p].minFlags)]
  let sums := ([0, 1, 2, 3, 4] : List (Fin 5)).flatMap one
  let d := { d with pair := { d.pair with minute := some (minute, sums) } }
  ([0, 1, 2, 3, 4] : List (Fin 5)).foldl (fun d p =>
    d.modMet p fun x => { x with minAp := 0, minAn := 0, minFlags := 0 }) d

/-- Step 1 (R269): demand periods, the P1 row unless the interval lies wholly in an outage, the P2 row of a day end that
has not executed yet, with its own mark, waiting profile definitions. -/
def Dev.boundaryRows (d : Dev) (minute rate status : Nat) (row dayEnd : Bool) (mark : Nat) : Dev :=
  let d := d.demandClose minute rate status false
  let d := if row && minute % 1440 % max 1 d.led.p1.period == 0 then d.rowP1 minute else d
  let d := d.changeP1 minute
  if dayEnd then (d.rowP2 minute mark).changeP2 else d

/-- Step 3 (R284): rate and friendly state of the minute that begins. -/
def Dev.rateSwitch (d : Dev) (f : InForce) (newCal : Bool) : Dev :=
  let o := d.led.inForce
  let d := d.modLed fun l => { l with inForce := f }
  let d := if f.rate != o.rate then (d.raise TTB.page TTB.ev_RATE).redraw else d
  let d := if f.friendly != o.friendly then d.raise TTB.page TTB.ev_FRIENDLY else d
  if f.rate != o.rate || newCal then d.rowStatus 0x10 else d

/-- One boundary transaction (R269, R270, R282–R285) of a sequence number and a UTC minute; `row`, a P1 row may be
written; `mark`, for a P2 row. What has executed once does not execute again in a repeated span. -/
def Dev.boundaryRun (d : Dev) (seq minute : Nat) (row : Bool) (mark : Nat) : Dev :=
  let once := decide (d.led.dayDone < minute)
  let dayEnd := d.dayEndAt minute && once
  let act := d.led.pasState == 2 && decide (Cal.actTime (d.cal 1) ≤ minute) && once
  let f := if act then Cal.inForce (d.cal 1) minute else d.forceAt minute
  let p1End := minute % 1440 % max 1 d.led.p1.period == 0
  let d := d.minuteClose minute
  let d := d.boundaryRows minute f.rate (d.rowMarks minute) row dayEnd mark
  let d := if act then d.calActivate else d
  let d := d.rateSwitch f act
  let d := if dayEnd then d.raise TTB.page TTB.ev_DAYEND else d
  let d := if dayEnd && d.led.actValid && Cal.billDay (d.cal 0) == Cal.localDay (d.cal 0) minute then d.billEnd else d
  let d := d.forBays fun n d => if d.led.acct[n].prepaid && d.led.acct[n].opened then d.acctState n false else d
  let d := (d.modLed fun l => { l with bndDone := seq, bndMin := minute, dayDone := max l.dayDone minute }).ledTxn
  (d.pairBoundary p1End).raise LED.page LED.ev_BOUNDARY_DONE

/-- A boundary leaves its list: PEND follows; OVF clears with the last one rebuilt (R64, R75). -/
def Dev.boundaryTake (d : Dev) (b : Boundary) : Dev :=
  let old := d.car.rebuilt
  let d := d.modCar fun c => { c with latched := c.latched.erase b, rebuilt := c.rebuilt.erase b }
  let d := d.set CAR.BND_STAT_PEND d.car.latched.length
  if !old.isEmpty && d.car.rebuilt.isEmpty && d.car.missed.isEmpty then d.setBit CAR.BND_STAT_OVF false else d

/-- The next boundary executes, once every entry up to its wheel time is drained; one whose number is at or below the last
committed one never does again (R268). -/
def Dev.boundaryNext (d : Dev) : Option Dev :=
  match d.nextBoundary with
  | none => none
  | some b =>
    match d.dueEntry with
    | some _ => none
    | none =>
      let d := d.boundaryTake b
      some (if d.led.bndDone < b.seq then d.boundaryRun b.seq (b.sec / 60) true 0 else d)

/-- BOUNDARY_TRANSACTION (R269). -/
def execBoundaryTransaction (s : State) : Out :=
  s.on fun d =>
    if d.led.ready then
      match d.boundaryNext with
      | some d' => d'.legalRefresh
      | none => d
    else d

/-- Drain and execute what is due up to a wheel time, in order; the fuel is the number of entries and boundaries. -/
def Dev.catchUpN : Nat → Nat → Dev → Dev
  | 0, _, d => d
  | k + 1, wt, d =>
    match d.dueEntry with
    | some (p, e) => if e.wt ≤ wt then Dev.catchUpN k wt (d.drainOne p e) else d
    | none => match d.nextBoundary with
      | some b => if b.wt ≤ wt then
          match d.boundaryNext with
          | some d' => Dev.catchUpN k wt d'
          | none => d
        else d
      | none => d

/-- Drain and execute everything due up to a wheel time. -/
def Dev.catchUp (d : Dev) (wt : Nat) : Dev :=
  let k := (([0, 1, 2, 3, 4] : List (Fin 5)).map fun p => d.met[p].fifo.length).sum + d.car.latched.length + d.car.rebuilt.length
  Dev.catchUpN k wt d

/-- A boundary transaction that is due runs before a message begins (R258). -/
def Dev.boundaryFirst (d : Dev) : Dev :=
  match if d.led.ready then d.nextBoundary else none with
  | some b => if b.wt ≤ d.wheel then d.catchUp d.wheel else d
  | none => d

/-! ### Boundaries rebuilt after an overflow (R64) -/

/-- The first capture after the legal domain became ready: the missed boundaries get their wheel times by interpolation
from the last latched boundary, and wait in order behind those latched; OVF clears once they have all executed. -/
def Dev.rebuildMissed (d : Dev) (sec wt : Nat) : Dev :=
  match d.car.missed with
  | [] => d
  | m :: rest =>
    if !d.led.ready then d
    else
      let base := d.car.missBase.getD m
      let span := max 1 (sec - base.sec)
      let place := fun b : Boundary =>
        let t := base.wt + (b.sec - base.sec) * (wt - base.wt) / span
        { b with wt := (t + 65535) / 65536 * 65536 }
      let d := d.llog 0 0x0108 0xFF (leBytes 4 (rest.length + 1) ++ leBytes 4 m.seq)
      d.modCar fun c => { c with rebuilt := c.rebuilt ++ (m :: rest).map place, missed := [], missBase := none }

/-! ### Session handover (R106, R147, R314) -/

/-- The bay engine hands its session over: path OPEN or WELD and METERING clear. -/
def Dev.handoverDue (d : Dev) (n : Bay) : Bool :=
  d.bay[n].endWait && !d.bit (MET.STAT_METERING (Bay.met n)) && (d.ctState n == Ct.OPEN || d.ctState n == Ct.WELD)

/-- The session goes to the legal domain, which takes the entries of its last cycle first and commits the receipt
(R147, R310, R311, R314) and refreshes the mirror (R370); the bay engine's part of the session ends, a running insulation monitor with it (R214). -/
def Dev.handover (d : Dev) (n : Bay) : Dev :=
  let d := if d.bay[n].metered then d.catchUp d.bay[n].endWt else d
  let src := d.get (BAY.STOPSRC_SRC n)
  let snet := d.bit (SAF.SNET_STAT_USED n.val)
  let flags := flagIf (src.testBit 1) 1 + flagIf snet 11 + flagIf (d.bit (CTC.STAT_LOADBREAK n)) 15 + otherStops src * 2 ^ 22
  let d := (d.rcptCommit n (endReason src) flags).redraw
  let d := if d.get (BAY.CP_STAT_STATE n) = 0 then d.acctCpA n else d
  let d := d.set (BAY.SESSION_STAT_END_REASON n) (endReason src)
  let d := (d.setBit (BAY.STATE_SESSION n) false).set (BAY.STOPSRC_SRC n) 0
  let d := d.modBay n fun b => { b with endWait := false, metered := false, stopHeld := none }
  let d := if d.bit (IMD.STAT_RUNNING n) then d.imdStop n else d
  let d := if d.led.ready then d.mirrorRefresh else d
  d.safSessionClosed n

/-- The legal domain takes a session whose entries it can place: it is ready, and no boundary of a gap is left to be rebuilt (R64). -/
def Dev.handoverTaken (d : Dev) (n : Bay) : Bool :=
  d.handoverDue n && ((d.led.ready && d.car.missed.isEmpty) || !d.bay[n].metered)

/-- SESSION_HANDOVER (R106, R147, R314): a session that has metered waits in the bay engine while the legal domain is not
ready. -/
def execSessionHandover (n : Bay) (s : State) : Out :=
  s.on fun d =>
    if d.handoverTaken n then (d.handover n).legalShow else d

/-! ### Start of the legal domain (R271, R300, R315) -/

/-- The hash of the running legal image in LGL (R300, R321). -/
def Dev.imgPublish (d : Dev) : Dev :=
  let v := d.rdN SYS.BOOTVER
  let byte := fun k => if d.legalPart then Config.legalRomHash k else Config.appImageHash v k
  let d := (List.range 12).foldl (fun d k =>
    d.wrN (LGL.IMG_HASH k) (ofLe ((List.range 4).map fun j => byte (4 * k + j)))) d
  d.wr LGL.IMG_VER (if d.legalPart then Config.legalRomVer else d.rd SYS.BOOTVER)

/-- The second in which power came back (R271): of the last power good, where one followed the failure. -/
def Dev.backSec (d : Dev) : Nat := if d.led.pfSec ≤ d.led.pgSec then d.led.pgSec else d.rtc.sec

/-- The minutes missed in an outage execute in time order (R271): the P1 row of the interval in which power failed carries
PF, intervals wholly inside the outage get none; each missed day end gets a P2 row with PF. -/
def Dev.outageRun (d : Dev) : Dev :=
  let lo := d.led.bndMin
  let hi := d.backSec / 60
  let first := d.led.p1.period
  let firstEnd := (lo / max 1 first + 1) * max 1 first
  let d := d.rowStatus 1
  let d := (List.range (hi - lo)).foldl (fun d k =>
    let m := lo + 1 + k
    (d.boundaryRun ((d.led.bndDone + 1) % 2 ^ 32) m (m == firstEnd) 1).rowStatus 1) d
  d.rowStatus 1

/-- The restart after a power failure (R271, R307). -/
def Dev.powerReturn (d : Dev) : Dev :=
  if !d.led.powerFail then d
  else
    let out := d.backSec - d.led.pfSec
    let d := d.glog .lgl 0x0002 0xFF (leBytes 4 out)
    let d := if d.rtc.ci then (d.modLed fun l => { l with pfCi := true }).rowStatus 0x41 else d.outageRun
    d.modLed fun l => { l with powerFail := false }

/-- Sessions open in the record whose bay engine has none were cut by a reset (R315). -/
def Dev.closeCut (d : Dev) : Dev :=
  d.forBays fun n d => if d.led.sess[n].isSome && !d.inSession n then d.rcptCommit n 0xD (2 ^ 17) else d

/-- The held receipts go to the vault again, in RSEQ order (R35, R314, R322). -/
def Dev.resubmit (d : Dev) : Dev := d.led.unsigned.foldl (fun d x => d.rcptSubmit x) d

/-- LEGAL_DOMAIN_START (R268, R271, R300, R315): `replayed`, the key and the number of records of a journal that had to be
replayed. A domain that was reset in hold-up stays off (R516). -/
def execLegalDomainStart (replayed : Option (Nat × Nat)) (s : State) : Out :=
  s.on fun d =>
    if d.led.ready || d.domainOff (if d.legalPart then .lgl else .app) then d
    else
      let d := d.imgPublish
      let d := d.modLed fun l => { l with started := true, replayed := replayed.isSome }
      let d := { d with mpl := { d.mpl with seen := false, compared := none } }
      let d := match replayed with
        | some (key, n) => (d.llog 0 0x0107 0xFF (leBytes 4 key ++ leBytes 2 n)).raise LED.page LED.ev_REPLAY
        | none => d
      (d.powerReturn.closeCut).resubmit.legalRefresh

/-- The base of R64. -/
def Dev.loadBase (d : Dev) : Dev :=
  if d.bit CAR.BND_STAT_BASE_VALID then d
  else
    let b := d.led.bndDone
    let up := fun x : Boundary => { x with seq := (x.seq + b) % 2 ^ 32 }
    let d := d.modCar fun c => { c with latched := c.latched.map up, missed := c.missed.map up, rebuilt := c.rebuilt.map up }
    (d.wrN CAR.BND_SEQ ((d.rdN CAR.BND_SEQ + b) % 2 ^ 32)).setBit CAR.BND_STAT_BASE_VALID true

/-- Messages SESSION_AUTH that waited (R35). -/
def Dev.authsTake (d : Dev) : Dev :=
  let q := d.led.auths
  q.foldl (fun d x =>
    let r := d.sessAuth x.1 x.2.1 x.2.2.1 x.2.2.2
    r.2.authAnswer r.1) (d.modLed fun l => { l with auths := [] })

/-- Tamper events counted and not logged yet (R320). -/
def Dev.tamperLog (d : Dev) : Dev :=
  ([0, 1, 2, 3] : List (Fin 4)).foldl (fun d (k : Fin 4) =>
    let r := d.led.tamper[k]
    if r.logged < r.count then
      let d := d.llog 0 0x010A 0xFF (leBytes 1 k.val ++ [0, 0, 0] ++ leBytes 4 r.count ++ leBytes 4 r.first ++ leBytes 4 r.last)
      let d := d.modLed fun l => { l with tamper := l.tamper.set k { r with logged := r.count, unack := true } }
      ((d.rowStatus 0x20).raise LGL.page LGL.ev_TAMPER).redraw
    else d) d

/-- The factory layout (R317): the rectangle, and its items one below the other. -/
def Dev.factoryLayout (d : Dev) : List Byte :=
  let items := [(1, 0), (2, 0)] ++ (List.range d.chip.variant.bays).map fun b => (3, b)
  leBytes 2 0 ++ leBytes 2 0 ++ leBytes 2 400 ++ leBytes 2 120 ++ leBytes 1 items.length ++ List.replicate 7 0 ++
    (items.zipIdx.flatMap fun x =>
      leBytes 1 x.1.1 ++ leBytes 1 x.1.2 ++ leBytes 2 0 ++ leBytes 2 (16 * x.2) ++ leBytes 1 1 ++ leBytes 1 0)

/-- The layout in force. -/
def Dev.layoutBytes (d : Dev) : List Byte := d.led.layout.getD d.factoryLayout

/-- LEGAL_READY (R35, R64, R88, R314, R323): the directory's count (R262), base, FIFOs and latched boundaries, waiting handovers in bay order. -/
def execLegalReady (s : State) : Out :=
  s.on fun d =>
    if !d.led.started || d.led.ready then d
    else
      let d := (d.loadBase.set LED.DIR_CNT (53 * d.chip.variant.bays + 57)).wrN LGL.DISP_CRC (crc32 d.layoutBytes)
      let d := d.modLed fun l => { l with ready := true }
      let d := if d.legalPart then d.mapCompare else d
      let d := d.authsTake.tamperLog.catchUp d.wheel
      let d := d.forBays fun n d => if d.handoverTaken n then d.handover n else d
      d.redraw.legalRefresh

/-- LEGAL_NOT_READY_TIMEOUT (R35): STOP_LEGAL on the running sessions. -/
def execLegalNotReadyTimeout (s : State) : Out :=
  s.on fun d => if d.led.ready then d else d.forBays fun n d => d.stopRequest n (2 ^ 2)

end Sys2Proof.Machine
end

