-- ==== Sys2Proof/Machine/LedgerMsg.lean ====
section
/-!
DEFINITION. Ledger messages (R253–R258): roles and rights, LEDGER_READ, and the writes and methods of the demand, profile,
calendar, account, log and clock objects.
-/
namespace Sys2Proof.Machine

open Sys2Proof

/-! ### Requests (R253–R257) -/

/-- A request may come in its role (R253, R256). -/
def Dev.roleOpen (d : Dev) (q : Req) : Bool :=
  q.role == 0 || ((q.role ≤ 4 || q.role == 7) && d.roles.any fun x => x.role == q.role && x.link == q.link)

/-- Number of attributes of an object. -/
def attrCount : Obj → Nat
  | .energy _ _ => 3 | .demand _ _ => 10 | .maxDem _ _ => 5 | .clock => 3 | .p1 => 6 | .p2 => 6 | .glog => 5 | .llog => 5
  | .calendar _ => 3 | .cost _ _ => 3 | .receipts _ => 2 | .account _ => 10 | .sealObj => 4 | .tamper _ => 4 | .sensor _ => 3
  | .fingerprint => 2 | .cable _ => 2 | .slewAllow => 2 | .layout => 2 | .rights => 2 | .tamperCfg => 2 | .billing => 3

/-- The object's bay is in the variant. -/
def Dev.objPresent (d : Dev) (o : Obj) : Bool :=
  match o.bay with
  | some b => if h : b < 4 then d.hasBay ⟨b, h⟩ else true
  | none => true

/-- Why a request is refused before its own checks, if it is (R252–R257): `right` 0 read, 1 write, 2 execute of attribute
or method number `n`. -/
def Dev.requestError (d : Dev) (q : Req) (o : Obis) (n right : Nat) : Option Nat :=
  if !d.roleOpen q then some Err.ROLE_DENIED
  else if !d.led.ready then some Err.BUSY
  else match objOf o with
    | none => some Err.RANGE
    | some obj =>
      if !d.objPresent obj then some Err.NOT_FUSED
      else if right ≠ 2 ∧ (n = 0 ∨ attrCount obj < n) then some Err.RANGE
      else if right = 1 ∧ n = 1 then some Err.ROLE_DENIED
      else if d.hasRight q.role (d.rightsWord o obj (if right = 2 then 128 + n else n)) right then none
      else some Err.ROLE_DENIED

/-- Answer a ledger message. -/
def Dev.ledAnswer (d : Dev) (q : Req) (typ status : Nat) (body : List Nat := []) : Dev :=
  d.toHost { link := q.link, typ := typ, tag := q.tag, status := status, role := q.role, body := body }

/-- Serve, after a boundary that is due, a write (typ 0x0202) or a method (0x0203): the common checks, then the request's own work, which answers its
status; a request that is accepted is one transaction (R258). -/
def Dev.serve (d : Dev) (q : Req) (typ : Nat) (o : Obis) (n : Nat) (work : Dev → Nat × Dev) : Dev :=
  let d := d.boundaryFirst
  match d.requestError q o n (if typ = 0x0203 then 2 else 1) with
  | some e => d.ledAnswer q typ e
  | none =>
    let r := work d
    ((if r.1 = Err.NONE then r.2.ledTxn.legalRefresh else r.2)).ledAnswer q typ r.1

/-! ### Attribute values (R251, R257; integers as 8 bytes) -/

/-- An integer value. -/
def valInt (i : Int) : List Byte := leBytes 8 (toUnsigned 64 i)

/-- The bytes of the rights table: its order is the directory's, which is not given, so they are free values. -/
def Dev.rightsBytes (d : Dev) : Nat × Dev := d.free

/-- The value bytes of a parameter object. -/
def Dev.paramBytes (d : Dev) : Obj → List Byte
  | .sensor p => d.led.sensors[p]
  | .fingerprint => leBytes 4 d.mpl.fingerprint
  | .cable n => leBytes 4 d.led.cable[n]
  | .slewAllow => leBytes 2 d.led.slewAllow
  | .layout => d.layoutBytes
  | .tamperCfg => leBytes 1 d.led.tmpCfg
  | _ => []

/-- The value of an attribute that is no buffer (R251, R264, R288, R301, R303, R319). -/
def Dev.attrBytes (d : Dev) (o : Obis) (obj : Obj) (n : Nat) : List Byte :=
  if n = 1 then obisBytes o
  else match obj with
    | .energy p i => if n = 2 then valInt (d.led.pages[p].energy i) else [0xFD, if i < 18 then 30 else 32]
    | .demand p e =>
      let x := if e then d.led.pages[p].exp else d.led.pages[p].imp
      let c := d.led.dem
      match n with
      | 2 => valInt (demandOf (x.window c.2.1 c.2.2) c.1)
      | 3 => valInt x.last | 4 => [0, 27] | 5 => valInt x.status | 6 => valInt x.cap | 7 => valInt (x.begin' c.2.1 c.2.2).1
      | 8 => valInt c.1 | 9 => valInt c.2.2 | _ => valInt (if c.2.1 then 1 else 0)
    | .maxDem p i =>
      let m := if i < 9 then (d.led.pages[p].imp.max[i]?).getD (0, 0) else (d.led.pages[p].exp.max[0]?).getD (0, 0)
      match n with
      | 2 => valInt m.1 | 3 => [0, 27] | 4 => valInt 0 | _ => valInt m.2
    | .clock => if n = 2 then valInt d.clockMs else valInt (if d.rtc.ci then 1 else 0)
    | .p1 => match n with
      | 3 => defBytes d.led.p1.defs | 4 => valInt d.led.p1.period | 5 => valInt d.led.p1.rows
      | _ => valInt (d.led.p1.capacity p1Bytes)
    | .p2 => match n with
      | 3 => defBytes d.led.p2.defs | 4 => valInt 1440 | 5 => valInt d.led.p2.rows
      | _ => valInt (d.led.p2.capacity p2Bytes)
    | .glog => match n with
      | 3 => valInt (satAt 4096 d.log.glogSeq) | 4 => valInt 4096 | _ => valInt 0
    | .llog => match n with
      | 3 => valInt (satAt 1024 d.log.llogSeq) | 4 => valInt 1024 | _ => valInt d.log.llogAck
    | .calendar k =>
      let has := if k.val = 0 then d.led.actValid else if k.val = 1 then d.led.pasState != 0 else d.led.prevValid
      if n = 2 then (if has then d.rdBytes (calBase k.val) calSize else [])
      else valInt (if k.val = 1 then d.led.pasState else if has then 2 else 0)
    | .cost m i => if n = 2 then valInt (d.led.acct[m].cost i) else [0xFC, 255]
    | .receipts _ => []
    | .account m =>
      let a := d.led.acct[m]
      match n with
      | 2 => valInt a.state | 3 => valInt a.credit | 4 => valInt a.ec | 5 => valInt a.warn1 | 6 => valInt a.warn2
      | 7 => valInt a.tObey | 8 => valInt a.tFb | 9 => valInt a.reconnect | _ => valInt a.loaded
    | .sealObj => match n with
      | 2 => valInt d.log.sealCnt | 3 => valInt d.led.sealTime
      | _ => match d.led.sealObj with
        | some x => obisBytes x
        | none => [0, 0, 0, 0, 0, 0]
    | .tamper k => match n with
      | 2 => valInt d.led.tamper[k].count | 3 => valInt d.led.tamper[k].first | _ => valInt d.led.tamper[k].last
    | .sensor p => if n = 3 then d.led.measured[p].map fun x => BitVec.ofNat 8 x else d.paramBytes obj
    | .billing => if n = 2 then valInt d.led.bill else [0, 255]
    | .fingerprint => d.paramBytes obj
    | .cable _ => d.paramBytes obj
    | .slewAllow => d.paramBytes obj
    | .layout => d.paramBytes obj
    | .tamperCfg => d.paramBytes obj
    | .rights => []

/-! ### Buffers (R257, R313) -/

/-- The signed receipts of a bay (0: all) in RSEQ order up to the first unsigned one, and that one (R313). -/
def Dev.receiptEntries (d : Dev) (b : Nat) : List (Nat × Nat × List Byte) × Option Nat :=
  let first := (d.led.unsigned.head?).map (·.rseq)
  let lo := d.led.rseq + 1 - d.led.receipts
  let all := (List.range d.led.receipts).map fun k => lo + k
  let sgn := all.filter fun q =>
    (match first with
      | some f => decide (q < f)
      | none => true) && (b == 0 || (d.rdByte (rcptIndex q + 4)).toNat + 1 == b)
  (sgn.map fun q => (q, 0, d.tokenOf q), first)

/-- Rows of a profile, oldest first: SEQ, END minute, bytes. -/
def Dev.profileEntries (d : Dev) (p : Profile) (base bytes : Nat) : List (Nat × Nat × List Byte) :=
  let cap := max 1 (p.capacity bytes)
  let size := 8 + 6 * p.defs.length
  (List.range p.rows).map fun k =>
    let a := base + ((p.idx + cap - p.rows + k) % cap) * size
    (d.rdLe (a + 5) 3, d.rdLe a 4, d.rdBytes a size)

/-- Entries of a log, oldest first: SEQ, UTC minute, bytes. -/
def Dev.logEntries (d : Dev) (seq size n : Nat) (addr : Nat → Nat) : List (Nat × Nat × List Byte) :=
  let k := satAt n seq
  (List.range k).map fun i =>
    let q := seq - k + 1 + i
    (q, d.rdLe (addr q + 4) 4 / 60, d.rdBytes (addr q) size)

/-- The entries of a buffer, and where an unsigned receipt ends it. -/
def Dev.bufferOf (d : Dev) : Obj → Option (List (Nat × Nat × List Byte) × Option Nat)
  | .p1 => some (d.profileEntries d.led.p1 p1Base p1Bytes, none)
  | .p2 => some (d.profileEntries d.led.p2 p2Base p2Bytes, none)
  | .glog => some (d.logEntries d.log.glogSeq 32 4096 glogAddr, none)
  | .llog => some (d.logEntries d.log.llogSeq 128 1024 llogAddr, none)
  | .receipts b => some (d.receiptEntries b.val)
  | _ => none

/-- Entries selected (R257): a receipt buffer is read by sequence. -/
def selected (receipts : Bool) (sel : Sel) (cont : Option Nat) (e : Nat × Nat × List Byte) : Bool :=
  let k := if sel.byTime then e.2.1 else e.1
  !(receipts && sel.byTime) && decide (sel.lo ≤ k ∧ k ≤ sel.hi) && (match cont with
    | some c => decide (c ≤ e.1)
    | none => true)

/-- Take entries while they fit a response of `room` bytes and a maximum count: the bytes, and the first entry left. -/
def takeFit : Nat → Nat → List (Nat × Nat × List Byte) → List Byte × Option Nat
  | _, _, [] => ([], none)
  | room, n, e :: l =>
    if n = 0 ∨ room < e.2.2.length then ([], some e.1)
    else
      let r := takeFit (room - e.2.2.length) (n - 1) l
      (e.2.2 ++ r.1, r.2)

/-- Bytes a response's VAL may hold: the message length of R472 less STATUS and the heads of VAL and CONT. -/
def readRoom : Nat := 4338

/-- LEDGER_READ (R257). -/
def execLedgerRead (q : Req) (o : Obis) (attr : BitVec 8) (sel : Option Sel) (cont : Option Word) (s : State) : Out :=
  s.on fun d =>
    let d := d.boundaryFirst
    match d.requestError q o attr.toNat 0 with
    | some e => d.ledAnswer q 0x0201 e
    | none =>
      match objOf o with
      | none => d.ledAnswer q 0x0201 Err.RANGE
      | some obj =>
        if obj = .rights ∧ attr = 2 then
          let (v, d) := d.rightsBytes
          d.ledAnswer q 0x0201 Err.NONE [v]
        else
        match (if attr = 2 then d.bufferOf obj else none), sel with
        | none, _ => d.ledAnswer q 0x0201 Err.NONE ((d.attrBytes o obj attr.toNat).map (·.toNat))
        | some _, none => d.ledAnswer q 0x0201 Err.RANGE
        | some (es, stop), some sl =>
          let isR := match obj with
            | .receipts _ => true
            | _ => false
          let l := es.filter (selected isR sl (cont.map (·.toNat)))
          let r := takeFit readRoom (if sl.max = 0 then l.length else sl.max) l
          let c := match r.2 with
            | some x => [x]
            | none => match stop with
              | some x => if sl.lo ≤ x ∧ x ≤ sl.hi then [x] else []
              | none => []
          d.ledAnswer q 0x0201 Err.NONE (r.1.length :: r.1.map (·.toNat) ++ c)

/-! ### Demand and profiles (R263, R267) -/

/-- A demand configuration is allowed (R263). -/
def demandOk (c : Nat × Bool × Nat) : Bool :=
  decide (1 ≤ c.1 ∧ c.1 ≤ 60 ∧ 1440 % c.1 = 0) && decide (1 ≤ c.2.2 ∧ c.2.2 ≤ 15) &&
    (c.2.2 == 1 || c.1 % max 1 c.2.2 == 0) && (!c.2.1 || decide (2 ≤ c.2.2))

/-- DEMAND_CONFIG_WRITE (R263): in effect at the next 00:00Z. -/
def execDemandConfigWrite (q : Req) (p : Fin 5) (exp : Bool) (attr : BitVec 8) (v : Nat) (s : State) : Out :=
  s.on fun d => d.serve q 0x0202 { a := 1, b := p.val + 1, c := if exp then 2 else 1, d := 4, e := 0 } attr.toNat fun d =>
    let c := d.led.demNext.getD d.led.dem
    let n := match attr.toNat with
      | 8 => some (v, c.2.1, c.2.2)
      | 9 => if 2 ≤ v then some (c.1, c.2.1, v) else none
      | 10 => if v < 2 then some (c.1, v == 1, c.2.2) else none
      | _ => none
    match n with
    | some c => if demandOk c then (Err.NONE, d.modLed fun l => { l with demNext := some c }) else (Err.RANGE, d)
    | none => (Err.RANGE, d)

/-- PROFILE_DEFINITION_WRITE (R267): the period (attribute 4) of P1, or the channel definitions (attribute 3). -/
def execProfileDefinitionWrite (q : Req) (p2 : Bool) (period : Option Nat) (defs : List (Word × Word)) (s : State) : Out :=
  s.on fun d =>
    d.serve q 0x0202 { a := 1, b := 0, c := if p2 then 98 else 99, d := 1, e := 0 } (if period.isSome then 4 else 3) fun d =>
      if d.llogFull then (Err.LEGAL_DENIED, d)
      else if d.anyMetering then (Err.BUSY, d)
      else
        let p := if p2 then d.led.p2 else d.led.p1
        let cur := p.next.getD (p.period, p.defs)
        let new := match period with
          | some m => if !p2 ∧ 1 ≤ m ∧ m ≤ 60 ∧ 1440 % m = 0 then some (m, cur.2) else none
          | none =>
            let ok := decide (1 ≤ defs.length ∧ defs.length ≤ (if p2 then 64 else 16)) &&
              defs.all fun w => w.2.toNat / 256 % 256 == 255
            if ok then some (cur.1, defs.map fun w => (w.1.toNat, w.2.toNat)) else none
        match new with
        | none => (Err.RANGE, d)
        | some x =>
          (Err.NONE, d.modLed fun l =>
            if p2 then { l with p2 := { l.p2 with next := some x } } else { l with p1 := { l.p1 with next := some x } })

/-! ### Calendars (R281) -/

/-- OBIS code of the passive calendar. -/
def passiveCal : Obis := { a := 0, b := 0, c := 13, d := 0, e := 1 }

/-- CALENDAR_STAGE_WRITE (R281). -/
def execCalendarStageWrite (q : Req) (ofs : BitVec 16) (data : List Byte) (s : State) : Out :=
  s.on fun d => d.serve q 0x0202 passiveCal 2 fun d =>
    if d.led.pasState = 2 then (Err.SEQUENCE, d)
    else if 960 < data.length ∨ calSize < ofs.toNat + data.length then (Err.RANGE, d)
    else
      let d := if d.led.pasState = 0 then d.calClear 1 else d
      (Err.NONE, (d.modLed fun l => { l with pasState := 1 }).wrBytes (calBase 1 + ofs.toNat) data)

/-- CALENDAR_COMMIT (R281): without a staged image it is out of sequence. -/
def execCalendarCommit (q : Req) (s : State) : Out :=
  s.on fun d => d.serve q 0x0202 passiveCal 3 fun d =>
    if d.led.pasState ≠ 1 then (Err.SEQUENCE, d)
    else
      match Cal.refusal (d.cal 1) (d.rtc.sec / 60) (if d.led.actValid then some (d.cal 0) else none) with
      | some c => (Err.RANGE, ((d.modLed fun l => { l with valCause := c }).set TTB.VAL_CAUSE_CAUSE c).raise TTB.page
          TTB.ev_VAL_FAIL)
      | none => (Err.NONE, d.modLed fun l => { l with pasState := 2 })

/-- CALENDAR_CLEAR (R281). -/
def execCalendarClear (q : Req) (s : State) : Out :=
  s.on fun d => d.serve q 0x0202 passiveCal 3 fun d =>
    (Err.NONE, (d.calClear 1).modLed fun l => { l with pasState := 0 })

/-! ### Accounts (R288, R289) -/

/-- OBIS code of a bay's account. -/
def acctObis (n : Bay) : Obis := { a := 0, b := n.val + 1, c := 130, d := 0, e := 0 }

/-- ACCOUNT_WRITE (R288). -/
def execAccountWrite (q : Req) (n : Bay) (attr : BitVec 8) (v : Int) (s : State) : Out :=
  s.on fun d => d.serve q 0x0202 (acctObis n) attr.toNat fun d =>
    match d.led.acct[n].writeError attr.toNat v with
    | some e => (e, d)
    | none => (Err.NONE, d.modAcct n fun a => { a with pend := a.pend ++ [(attr.toNat, v.toNat)] })

/-- ACCOUNT_LOAD (R289, R290). -/
def execAccountLoad (q : Req) (n : Bay) (amount id : BitVec 64) (s : State) : Out :=
  s.on fun d => d.serve q 0x0203 (acctObis n) 1 fun d => d.acctLoad n amount.toNat id.toNat

/-! ### Logs and clock (R273, R305, R306) -/

/-- LLOG_ACKNOWLEDGE (R273). -/
def execLlogAcknowledge (q : Req) (seq : Word) (s : State) : Out :=
  s.on fun d => d.serve q 0x0203 { a := 0, b := 0, c := 99, d := 98, e := 1 } 1 fun d =>
    if d.log.llogAck ≤ seq.toNat ∧ seq.toNat ≤ d.log.llogSeq then
      (Err.NONE, { d with log := { d.log with llogAck := seq.toNat } })
    else (Err.SEQUENCE, d)

/-- OBIS code of the clock. -/
def clockObis : Obis := { a := 0, b := 0, c := 1, d := 0, e := 0 }

/-- CLOCK_SLEW (R305, R307). -/
def execClockSlew (q : Req) (ofs : Int) (s : State) : Out :=
  s.on fun d => d.serve q 0x0203 clockObis 1 fun d =>
    let used := d.slewRecent
    let legal := q.role == 4
    if ofs < -30000 ∨ 30000 < ofs then (Err.RANGE, d)
    else if !legal && d.rtc.ci then (Err.SEQUENCE, d)
    else if !legal && decide (d.led.slewAllow < (used.map (·.2)).sum + ofs.natAbs) then (Err.RANGE, d)
    else
      let used := if legal then used else used ++ [(d.rtc.sec, ofs.natAbs)]
      let d := { d with rtc := { d.rtc with slewRem := ofs, slewUsed := used } }
      (Err.NONE, d.glog .lgl 0x0009 0xFF (leBytes 4 (toUnsigned 32 ofs) ++ leBytes 1 q.role))

/-- SLEW_DONE (R305, R324): the second that takes the last ms has ended. -/
def execSlewDone (s : State) : Out :=
  s.on fun d =>
    if d.rtc.slewRem = 1 ∨ d.rtc.slewRem = -1 then
      ((({ d with rtc := { d.rtc with slewRem := 0 } }).raise RTC.page RTC.ev_SLEW_DONE).raise LGL.page LGL.ev_SLEW_DONE).legalShow
    else d

/-- CLOCK_STEP (R306): the new UTC in ms; it takes effect at the next second tick. -/
def execClockStep (q : Req) (ms : BitVec 64) (s : State) : Out :=
  s.on fun d => d.serve q 0x0203 clockObis 2 fun d =>
    if d.llogFull then (Err.LEGAL_DENIED, d)
    else (Err.NONE, { d with rtc := { d.rtc with stepTo := some (ms.toNat, q.role) } })

/-- The running P1 row and demand periods close at a step, with TB or TF (R270). -/
def Dev.stepClose (d : Dev) (minute mark : Nat) : Dev :=
  let r := d.led.inForce.rate
  let d := d.modLed fun l => { l with p1 := { l.p1 with status := l.p1.status ||| mark } }
  (d.rowP1 minute).demandClose minute r (d.rowMarks minute ||| mark) true

/-- The boundaries a step forward crosses execute in time order; day ends get a P2 row with TF, P1 gets none (R270). -/
def Dev.stepCross (d : Dev) (lo hi : Nat) : Dev :=
  (List.range (hi - lo)).foldl (fun d k => d.boundaryRun d.led.bndDone (lo + 1 + k) false 4) d

/-- The running demand periods begin anew at a minute, under the rate in force (R263, R270). -/
def Dev.demandStart (d : Dev) (minute : Nat) : Dev :=
  let r := d.led.inForce.rate
  ([0, 1, 2, 3, 4] : List (Fin 5)).foldl (fun d k => d.modLedPage k fun x =>
    { x with imp := { x.imp with start := minute, rate := r }, exp := { x.exp with start := minute, rate := r } }) d

/-- The running row and demand periods close at the step; a step back begins or extends the repeated span (R270). -/
def Dev.stepLeave (d : Dev) (old : Nat) (back : Bool) : Dev :=
  if back then (d.stepClose (old / 60000) 2).modLed fun l => { l with rptEnd := max old l.rptEnd }
  else d.stepClose (old / 60000) 4

/-- The clock takes its new time (R306); the marks of an invalid clock end. -/
def Dev.clockSet (d : Dev) (ms : Nat) : Dev :=
  let d : Dev := { d with rtc := { d.rtc with sec := ms / 1000, ms := ms % 1000, slewRem := 0, ci := false, stepTo := none } }
  d.modLed fun l => { l with pfCi := false }

/-- Sessions that meter during a step carry TIME_STEP (R306). -/
def Dev.stepFlags (d : Dev) : Dev :=
  d.forBays fun n d => d.modSess n fun r => if r.metering then { r with flags := r.flags ||| 2 ^ 10 } else r

/-- The alarm fires if its second is reached (R324). -/
def Dev.alarmCheck (d : Dev) : Dev :=
  if d.bit RTC.ALARM_CTL_EN && decide (d.rdN RTC.ALARM ≤ d.rtc.sec) then
    (d.setBit RTC.ALARM_CTL_EN false).raise RTC.page RTC.ev_ALARM
  else d

/-- A clock step from `old` to `ms` that a role asked for (R270, R306). -/
def Dev.stepApply (d : Dev) (role old ms : Nat) : Dev :=
  let m0 := old / 60000
  let m1 := ms / 60000
  let d := (d.llog role 0x0102 0xFF (leBytes 8 old ++ leBytes 8 ms)).stepLeave old (decide (ms < old))
  let d := d.clockSet ms
  let d := if old < ms then (d.demandStart m1).stepCross m0 m1 else (d.rateSwitch (d.forceAt m1) false).demandStart m1
  let d := (d.stepFlags.raise LED.page LED.ev_CLOCK_STEP).redraw
  if old < ms then d.alarmCheck else d

/-- CLOCK_STEP_APPLY (R270, R306): the step that waits takes effect. -/
def execClockStepApply (s : State) : Out :=
  s.on fun d =>
    match d.rtc.stepTo with
    | none => d
    | some (ms, role) => (d.stepApply role d.clockMs ms).legalRefresh

end Sys2Proof.Machine
end

