-- ==== Sys2Proof/Machine/Legal.lean ====
section
/-!
DEFINITION. Legal parameters and the seal (R301–R304), the layout (R317), enclosure tamper inputs (R319, R320, R326) and
the RTC page (R324).
-/
namespace Sys2Proof.Machine

open Sys2Proof

/-! ### Legal parameters (R301–R303) -/

/-- A write breaks the seal (R303). -/
def Dev.sealBreak (d : Dev) (role : Nat) (o : Obis) (attr : Nat) (old new : List Byte) : Dev :=
  let t := d.rtc.sec
  let d : Dev := { d with log := { d.log with sealCnt := (d.log.sealCnt + 1) % 2 ^ 32 } }
  let d := d.modLed fun l => { l with sealTime := t, sealObj := some o }
  let e := obisBytes o ++ leBytes 1 attr ++ [0] ++ leBytes 4 (crc32 old) ++ leBytes 4 (crc32 new) ++
    leBytes 2 old.length ++ leBytes 2 new.length ++ padTo 40 old ++ padTo 40 new
  ((d.llog role 0x0101 0xFF e).raise LGL.page LGL.ev_SEAL).redraw

/-- Byte `i` of a value. -/
def byteAt (l : List Byte) (i : Nat) : Nat := ((l[i]?).getD 0).toNat

/-- 16-bit field of a value. -/
def halfAt (l : List Byte) (i : Nat) : Nat := byteAt l i + 256 * byteAt l (i + 1)

/-- The layout's checks (R316, R317); an item takes one glyph of 8 × 16 pixels times SIZE at the least. -/
def Dev.layoutOk (d : Dev) (v : List Byte) : Bool :=
  let n := byteAt v 8
  let w := halfAt v 4
  let h := halfAt v 6
  let items := (List.range n).map fun k => 16 + 8 * k
  let code := fun c => items.any fun i => byteAt v i == c
  decide (16 ≤ v.length) && decide (n ≤ 24) && v.length == 16 + 8 * n && ((List.range 7).all fun k => byteAt v (9 + k) == 0) &&
    decide (1 ≤ w ∧ 1 ≤ h ∧ w * h ≤ 524288) && decide (halfAt v 0 + w ≤ d.get EPD.PANEL_W) &&
    decide (halfAt v 2 + h ≤ d.get EPD.PANEL_H) &&
    (items.all fun i =>
      let z := byteAt v (i + 6)
      decide (1 ≤ byteAt v i ∧ byteAt v i ≤ 11) && decide (1 ≤ z ∧ z ≤ 4) && decide (byteAt v (i + 1) < 4) &&
        decide (byteAt v (i + 7) < 2) && decide (halfAt v (i + 2) + 8 * z ≤ w) && decide (halfAt v (i + 4) + 16 * z ≤ h)) &&
    code 1 && code 2 && (d.legalPart || code 10)

/-- A parameter's value is in its range (R301, R302). -/
def Dev.paramOk (d : Dev) (o : Obj) (v : List Byte) : Bool :=
  match o with
  | .sensor _ => v.length == 172 && (List.range 16).all (fun k =>
      let o := ofLe ((v.drop (64 + 4 * k)).take 4)
      (o % 2 ^ 24 + (if 2 ^ 23 ≤ o % 2 ^ 24 then 0xFF000000 else 0)) == o && halfAt v (128 + 2 * k) != 0x8000) &&
      decide (ofLe ((v.drop 160).take 4) < 2)
  | .fingerprint => v.length == 4
  | .cable _ => v.length == 4 && decide (ofLe v ≤ 1000000)
  | .slewAllow => v.length == 2 && decide (ofLe v ≤ 30000)
  | .layout => d.layoutOk v
  | .tamperCfg => v.length == 1
  | _ => false

/-- The page or bay concerned meters (R302). -/
def Dev.paramBusy (d : Dev) : Obj → Bool
  | .sensor p => d.bit (MET.STAT_METERING p) || (p.val == 4 && d.anyMetering)
  | .cable n => d.bit (MET.STAT_METERING (Bay.met n))
  | _ => false

/-- The words of a sensor-parameter set (R301): parameter number and word. -/
def sensorWords (v : List Byte) : List (Nat × Word) :=
  (List.range 51).map fun r =>
    let a := if r < 32 then 4 * r else if r < 48 then 128 + 2 * (r - 32) else 160 + 4 * (r - 48)
    (r, BitVec.ofNat 32 (ofLe ((v.drop a).take (if 32 ≤ r ∧ r < 48 then 2 else 4))))

/-- A parameter takes its value; a sensor set is loaded for the next cycle boundary (R104, R302). -/
def Dev.paramPut (d : Dev) (o : Obj) (v : List Byte) : Dev :=
  match o with
  | .sensor p =>
    (sensorWords v).foldl (fun d x => d.sensorLoad p x.1 x.2) (d.modLed fun l => { l with sensors := l.sensors.set p v })
  | .fingerprint => { d with mpl := { d.mpl with fingerprint := ofLe v } }
  | .cable n => d.modLed fun l => { l with cable := l.cable.set n (ofLe v) }
  | .slewAllow => d.modLed fun l => { l with slewAllow := ofLe v }
  | .layout => (d.modLed fun l => { l with layout := some v }).wrN LGL.DISP_CRC (crc32 v)
  | .tamperCfg => (d.modLed fun l => { l with tmpCfg := ofLe v }).set TMP.STAT_EN (ofLe v)
  | _ => d

/-- LEGAL_PARAMETER_WRITE (R302, R303): the value (attribute 2) of an object of R301 but the rights table. -/
def execLegalParameterWrite (q : Req) (o : Obis) (val : List Byte) (s : State) : Out :=
  s.on fun d => d.serve q 0x0202 o 2 fun d =>
    match objOf o with
    | none => (Err.RANGE, d)
    | some obj =>
      if d.llogFull then (Err.LEGAL_DENIED, d)
      else if d.paramBusy obj then (Err.BUSY, d)
      else if !d.paramOk obj val then (Err.RANGE, d)
      else
        let old := d.paramBytes obj
        (Err.NONE, (d.paramPut obj val).sealBreak q.role o 2 old val)

/-- OBIS code of the rights table. -/
def rightsObis : Obis := { a := 0, b := 0, c := 140, d := 6, e := 0 }

/-- One rights word changes, with its log entry 0x0106 (R274). -/
def Dev.rightsPut (d : Dev) (role : Nat) (o : Obis) (n w : Nat) : Dev :=
  match objOf o with
  | none => d
  | some obj =>
    let old := d.rightsWord o obj n
    if old = w then d
    else
      let d := d.llog role 0x0106 0xFF (obisBytes o ++ leBytes 1 n ++ [0] ++ leBytes 3 old ++ leBytes 3 w)
      d.modLed fun l => { l with rights := (l.rights.filter fun x => !(x.1 == o && x.2.1 == n)) ++ [(o, n, w)] }

/-- RIGHTS_TABLE_WRITE (R254, R303): the words that change, as (object, attribute or 128 + method, word). The bytes of the
table that the seal's entry holds stand in the directory's order, which is not given: they are free values. -/
def execRightsTableWrite (q : Req) (changes : List (Obis × BitVec 8 × BitVec 24)) (s : State) : Out :=
  s.on fun d => d.serve q 0x0202 rightsObis 2 fun d =>
    if d.llogFull then (Err.LEGAL_DENIED, d)
    else if changes.any (fun x => decide (2 ^ 21 ≤ x.2.2.toNat) || (objOf x.1).isNone) then (Err.RANGE, d)
    else
      let d := changes.foldl (fun d x => d.rightsPut q.role x.1 x.2.1.toNat x.2.2.toNat) d
      let (a, d) := d.free
      let (b, d) := d.free
      (Err.NONE, d.sealBreak q.role rightsObis 2 (leBytes 40 a) (leBytes 40 b))

/-! ### MEASURE (R304) -/

/-- OBIS code of a page's sensor parameters. -/
def sensorObis (p : Fin 5) : Obis := { a := 0, b := 0, c := 140, d := 1, e := p.val + 1 }

/-- MEASURE (R304): answered at once. -/
def execMeasure (q : Req) (p : Fin 5) (cycles : Nat) (s : State) : Out :=
  s.on fun d => d.serve q 0x0203 (sensorObis p) 1 fun d =>
    if cycles = 0 ∨ 3000 < cycles then (Err.RANGE, d)
    else if d.bit (MET.STAT_METERING p) || d.led.measuring[p].isSome then (Err.BUSY, d)
    else (Err.NONE, d.modLed fun l => { l with measuring := l.measuring.set p (some { left := cycles }) })

/-- MEASURE_COMPLETE (R304): the cycles asked for have been measured. -/
def execMeasureComplete (p : Fin 5) (s : State) : Out :=
  s.on fun d =>
    match d.led.measuring[p] with
    | none => d
    | some r =>
      if r.left ≠ 0 then d
      else
        let v := (d.measureResult p r).map (·.toNat)
        (d.modLed fun l => { l with measuring := l.measuring.set p none, measured := l.measured.set p v }).ledNotify
          (sensorObis p) 3 0

/-! ### Enclosure tamper inputs (R319, R320, R326) -/

/-- TAMPER_ACK (R320). -/
def execTamperAck (q : Req) (k : Fin 4) (s : State) : Out :=
  s.on fun d => d.serve q 0x0203 { a := 0, b := 0, c := 132, d := 0, e := k.val } 1 fun d =>
    if d.llogFull then (Err.LEGAL_DENIED, d) else
    let r := d.led.tamper[k]
    let d := d.llog q.role 0x010B 0xFF (leBytes 1 k.val ++ [0, 0, 0] ++ leBytes 4 r.count ++ leBytes 4 r.first)
    (Err.NONE, d.modLed fun l => { l with tamper := l.tamper.set k { r with first := 0, unack := false } })

/-- The bit of an input in a four-bit field. -/
def Dev.setInput (d : Dev) (f : Fld) (k : Fin 4) (b : Bool) : Dev := d.setFlag f k.val b

/-- TAMPER_INPUT_EVENT (R319, R320, R326): an enabled input enters its tamper state. -/
def execTamperInputEvent (k : Fin 4) (s : State) : Out :=
  s.vbat fun d =>
    if !d.led.tmpCfg.testBit k.val || d.led.tmpLevel.testBit k.val then d
    else
      let r := d.led.tamper[k]
      let t := d.rtc.sec
      let r := { r with count := satInc 0xFFFFFFFF r.count, first := if r.first = 0 then t else r.first, last := t }
      let d := d.modLed fun l => { l with tamper := l.tamper.set k r, tmpLevel := setBitN l.tmpLevel k.val true }
      if d.pwr.off then d
      else
        let d := (d.setInput TMP.STAT_LEVEL k true).setInput TMP.EVT_ENTER k true
        let d := d.raise TMP.page TMP.ev_ENTER
        if d.led.ready then d.tamperLog.legalShow else d

/-- TAMPER_INPUT_LEAVE (R326). -/
def execTamperInputLeave (k : Fin 4) (s : State) : Out :=
  s.vbat fun d =>
    if !d.led.tmpCfg.testBit k.val || !d.led.tmpLevel.testBit k.val then d
    else
      let d := d.modLed fun l => { l with tmpLevel := setBitN l.tmpLevel k.val false }
      if d.pwr.off then d
      else
        let d := ((d.setInput TMP.STAT_LEVEL k false).setInput TMP.EVT_LEAVE k true).raise TMP.page TMP.ev_LEAVE
        if d.led.ready then d.legalShow else d

/-- TMP_EVT_CLEAR (R326): write 1 to clear. -/
def execTmpEvtClear (m : Master) (mask : BitVec 8) (s : State) : Out :=
  s.on fun d => d.guard m .TMP 0x044 fun d => d.wr TMP.EVT (d.rd TMP.EVT &&& ~~~(mask.setWidth 32))

/-! ### RTC (R307, R324) -/

/-- RTC_ALARM (R324): SEC has reached ALARM.SEC. -/
def execRtcAlarm (s : State) : Out := s.on fun d => d.alarmCheck

/-- ALARM_CTL_WRITE (R324): the alarm of a second that has passed fires at the next tick. -/
def execAlarmCtlWrite (m : Master) (en : Bool) (s : State) : Out :=
  s.on fun d => d.guard m .RTC 0x054 fun d => d.setBit RTC.ALARM_CTL_EN en

/-- XT32_STOP (R307, R324): the clock is invalid until a step. -/
def execXt32Stop (s : State) : Out :=
  s.vbat fun d =>
    let d : Dev := { d with rtc := { d.rtc with xt32 := false, ci := true } }
    if d.pwr.off then d else
    let d := ((d.sessFlag 9).rowStatus 0x40).raise LGL.page LGL.ev_CI
    (d.raise RTC.page RTC.ev_CI).legalShow

end Sys2Proof.Machine
end

