-- ==== Sys2Proof/Machine/Bay.lean ====
section
/-!
DEFINITION. The bay engine (ch. 6): control pilot (R128–R133), proximity (R134), limits (R135, R136), session tables
(R137–R141, R149, R150, R566), events and timers (R142–R144), sessions and stops (R145–R148).
-/
namespace Sys2Proof.Machine

open Sys2Proof

/-! ### Control pilot (R128–R133) -/

/-- Plateau in mV (R129) from its average count: GAIN in µV per count, OFS in mV. -/
def Dev.cpMv (d : Dev) (n : Bay) (avg : Rat) : Int :=
  roundRat ((d.get (BAY.CPCAL_GAIN n) : Rat) * avg / 1000) + signed 16 (d.get (BAY.CPCAL_OFS n))

/-- Average of the samples of a period, one a µs, that lie between t_SET after the start of a plateau and 2 µs before its end (R130);
none for a plateau shorter than t_SET + 4 µs. -/
def plateau (settle start len : Nat) (samples : List (BitVec 12)) : Option Rat :=
  let l := (samples.drop (start + settle)).take (len - settle - 2)
  if len < settle + 4 ∨ l.isEmpty then none else some (((l.map BitVec.toNat).sum : Rat) / (l.length : Nat))

/-- Limits of a band in mV (R131). -/
def cpBand : Nat → Option (Int × Int)
  | 0 => some (10500, 100000)
  | 1 => some (7500, 10500)
  | 2 => some (4500, 7500)
  | 3 => some (1500, 4500)
  | 4 => some (-1500, 1500)
  | _ => none

/-- Classification of a plateau that enters a band (R131); state F only while NEG is driven. -/
def cpEnter (neg : Bool) (v : Int) : Nat :=
  if 10500 ≤ v then 0 else if 7500 ≤ v then 1 else if 4500 ≤ v then 2 else if 1500 ≤ v then 3
  else if -1500 ≤ v then 4 else if v ≤ -10500 ∧ neg then 5 else 6

/-- The current classification holds with its band widened by 0.3 V (R131). -/
def cpHolds (neg : Bool) (cls : Nat) (v : Int) : Bool :=
  if cls = 5 then neg && decide (v ≤ -10200)
  else match cpBand cls with
    | some (lo, hi) => decide (lo - 300 ≤ v ∧ v < hi + 300)
    | none => false

/-- The island hears of a control-pilot fault (R132, R133): state E or INVALID, or a diode fault that lasts. -/
def Dev.cpFault (d : Dev) (n : Bay) : Dev :=
  let st := d.get (BAY.CP_STAT_STATE n)
  let bad := st == 4 || st == 6 || d.bay[n].dioFault
  let d := d.setFlag SAFL.HL_CP_FAULT n.val bad
  if bad == (d.get (SAF.SF_BAY_ACT n.val)).testBit Sf.CP then d
  else if bad then d.sfRaise n Sf.CP else d.sfDrop n Sf.CP

/-- A period of the pilot has ended: what its samples show (R130, R131, R133). The level of a period in X1 or NEG is its positive
plateau, and in NEG its negative one too (assumption 164); the diode is checked over consecutive periods of X2. -/
def Dev.cpMeasure (d : Dev) (n : Bay) (samples : List (BitVec 12)) : Dev :=
    let mode := d.get (BAY.CP_STAT_MODE n)
    let settle := d.get (BAY.CFG_CP_SETTLE n)
    let high := if mode = 2 then d.get (BAY.CP_DUTY_DUTY n) else 1000
    let d := match plateau settle 0 high samples with
      | none => d
      | some c =>
        let v := d.cpMv n c
        let b := d.bay[n]
        let cls := if cpHolds (mode == 3) b.cls v then b.cls else cpEnter (mode == 3) v
        let cnt := if cls = b.cls then satInc 15 b.clsCnt else 1
        (d.modBay n fun b => { b with cls := cls, clsCnt := cnt }).set (BAY.CP_MEAS_POS n) (toUnsigned 16 v)
    if mode ≠ 2 then
      let d := if mode = 3 then d.set (BAY.CP_MEAS_NEG n) (d.get (BAY.CP_MEAS_POS n)) else d
      d.modBay n fun b => { b with dioBad := 0, dioGood := 0 }
    else match plateau settle high (1000 - high) samples with
      | none => d
      | some c =>
        let v := d.cpMv n c
        let d := d.set (BAY.CP_MEAS_NEG n) (toUnsigned 16 v)
        if -10500 < v then d.modBay n fun b => { b with dioBad := satInc 15 b.dioBad, dioGood := 0 }
        else d.modBay n fun b => { b with dioBad := 0, dioGood := satInc 15 b.dioGood }

/-- CP_PWM_PERIOD (R128, R130, R131, R133): the period that ends is measured, and a pending duty or mode takes effect with the next;
`samples`, the counts at CP_SNS from the period's rising edge on, one a µs. -/
def execCpPwmPeriod (n : Bay) (samples : List (BitVec 12)) (s : State) : Out :=
  s.on fun d =>
    let d := if d.enabled (.BAY n) then d.cpMeasure n samples else d
    let b := d.bay[n]
    let d := match b.pendDuty with
      | some x => d.set (BAY.CP_DUTY_DUTY n) x
      | none => d
    let d := match b.pendMode with
      | some m => d.set (BAY.CP_STAT_MODE n) m
      | none => d
    d.modBay n fun b => { b with pendDuty := none, pendMode := none }

/-- A session that its bay engine stopped itself ends in INIT_STATE once CP reads A (R148); the block fault ends with it. -/
def Dev.selfEndA (d : Dev) (n : Bay) : Dev :=
  let b := d.bay[n]
  if b.selfStop then
    let d := (d.set (BAY.STATE_PREV n) (d.get (BAY.STATE_CUR n))).set (BAY.STATE_CUR n) b.table.initState
    let d := (d.idleSet n true).setBit (Hdr.FAULT (BAY.page n)) false
    (d.modBay n fun b => { b with selfStop := false, running := none }).raise (BAY.page n) BAY.ev_STATE
  else d

/-- CP_STATE_CHANGE (R131–R133, R148, R294): a classification that has held for CP_DEB periods. -/
def execCpStateChange (n : Bay) (s : State) : Out :=
  s.on fun d =>
    let b := d.bay[n]
    if b.clsCnt < d.get (BAY.CFG_CP_DEB n) ∨ b.cls = d.get (BAY.CP_STAT_STATE n) then d
    else
      let d := (d.set (BAY.CP_STAT_STATE n) b.cls).raise (BAY.page n) BAY.ev_CP
      let d := if b.cls = 0 then
          (((d.setBit (BAY.CP_STAT_DIODE_OK n) true).modBay n fun b => { b with dioFault := false, dioBad := 0 }).acctCpA n).selfEndA n
        else d
      (d.cpFault n).bayPost n (if b.cls = 6 then Ev.CP_INVALID else b.cls)

/-- DIODE_FAIL (R133): CP_DEB periods with the negative plateau above −10.5 V. -/
def execDiodeFail (n : Bay) (s : State) : Out :=
  s.on fun d =>
    if d.get (BAY.CFG_CP_DEB n) ≤ d.bay[n].dioBad ∧ !d.bay[n].dioFault then
      let d := (d.setBit (BAY.CP_STAT_DIODE_OK n) false).modBay n fun b => { b with dioFault := true }
      (d.cpFault n).bayPost n Ev.DIODE_FAIL
    else d

/-- DIODE_OK_RESTORE (R133): CP_DEB periods with it at or below −10.5 V in X2. -/
def execDiodeOkRestore (n : Bay) (s : State) : Out :=
  s.on fun d =>
    if d.get (BAY.CFG_CP_DEB n) ≤ d.bay[n].dioGood then
      ((d.setBit (BAY.CP_STAT_DIODE_OK n) true).modBay n fun b => { b with dioFault := false }).cpFault n
    else d

/-! ### Proximity and limits (R134–R136) -/

/-- CODE of a coding resistance in Ω (R134). -/
def ppCode (r : Rat) : Nat :=
  if 4500 < r then 0 else if 1100 ≤ r ∧ r ≤ 2700 then 1 else if 400 ≤ r ∧ r ≤ 930 then 2
  else if 160 ≤ r ∧ r ≤ 330 then 3 else if 75 ≤ r ∧ r ≤ 140 then 4 else 7

/-- Cable rating of a CODE in 0.1 A. -/
def ppRating : Nat → Nat
  | 1 => 130 | 2 => 200 | 3 => 320 | 4 => 630 | _ => 0

/-- PP_MEASURE (R134): the voltage at PP_SNS in mV; three equal samples make a code. -/
def execPpMeasure (n : Bay) (mv : BitVec 12) (s : State) : Out :=
  s.on fun d =>
    if !d.bit (BAY.CFG_PP_EN n) then d
    else
      let v := mv.toNat
      let opn := decide (3300 ≤ v)
      let r : Rat := if opn then 1000000 else ((d.get (BAY.PPCFG_RPU n) * v : Nat) : Rat) / (3300 - v : Nat)
      let code := ppCode r
      let d := d.set (BAY.PP_STAT_R n) (if opn then 0xFFFF else satAt 0xFFFF (roundRat r).toNat)
      let b := d.bay[n]
      let cnt := if code = b.ppCand then satInc 3 b.ppCnt else 1
      let d := d.modBay n fun b => { b with ppCand := code, ppCnt := cnt }
      if cnt < 3 then d
      else
        let was := d.get (BAY.PP_STAT_CODE n)
        let d := (d.set (BAY.PP_STAT_CODE n) code).wrN (BAY.LIM n 1) (ppRating code + 0xFFFF * 65536)
        if code = was then d
        else (d.raise (BAY.page n) BAY.ev_PP).bayPost n (if code = 7 then Ev.PP_INVALID else Ev.PP_CHANGE)

/-- Who writes a limit register (R135). -/
def Dev.limWriter (d : Dev) (m : Master) (n : Bay) (k : Nat) : Bool :=
  match k with
  | 0 => d.owns m (.BAY n)
  | 2 => m == .saf
  | 4 => m == .ylr
  | 5 => m == .hif
  | 6 => isApp m
  | _ => false

/-- LIMIT_REGISTER_WRITE (R135). -/
def execLimitRegisterWrite (m : Master) (n : Bay) (k : Fin 8) (w : Word) (s : State) : Out :=
  s.on fun d =>
    let d := d.noKey
    if !d.hasBay n then d.reject (BAY.page n) Err.NOT_FUSED
    else if d.limWriter m n k.val then d.wr (BAY.LIM n k.val) w
    else d.reject (BAY.page n) Err.NOT_OWNER

/-- Duty of an AC effective current of 6.0 A or more, both in tenths (R136). -/
def autoDuty (i : Nat) : Nat := if i ≤ 510 then i * 10 / 6 else if i ≤ 800 then i * 2 / 5 + 640 else 960

/-- SET_DUTY AUTO at work (R136). -/
def Dev.bayAuto (d : Dev) (n : Bay) : Dev :=
  if !d.bit (BAY.CP_DUTY_AUTO n) || d.bit (BAY.CFG_DC n) then d
  else
    let i := d.get (BAY.LIM_EFF_I n)
    if i < 60 then
      if d.bay[n].limitLow then d else (d.modBay n fun b => { b with limitLow := true }).bayPost n Ev.LIMIT_LOW
    else
      let d := if d.bay[n].limitLow then (d.modBay n fun b => { b with limitLow := false }).bayPost n Ev.LIMIT_OK else d
      d.modBay n fun b => { b with pendDuty := some (autoDuty i) }

/-- The least of the eight values and its lowest index. -/
def leastOf (v : Nat → Nat) : Nat × Nat := (List.range 8).foldl (fun b k => if v k < b.1 then (v k, k) else b) (v 0, 0)

/-- LIM_EFF and LIM_SRC (R136), at every carousel tick. -/
def Dev.bayLimits (n : Bay) (d : Dev) : Dev :=
  let i := leastOf fun k => d.get (BAY.LIM_I n k)
  let p := leastOf fun k => d.get (BAY.LIM_P n k)
  let d := if i.1 < d.get (BAY.LIM_EFF_I n) then d.modSafBay n fun b => { b with sinceFall := 0 } else d
  let d := (d.wrN (BAY.LIM_EFF n) (i.1 + p.1 * 65536)).wrN (BAY.LIM_SRC n) (i.2 + p.2 * 16)
  d.bayAuto n

/-! ### The built-in tables (R149, R150, R566) -/

/-- The action lists of the built-in tables as (opcode, argument). -/
def defLists : List (List (Nat × Nat)) := [
  [(0x0F, 0), (0x08, 1), (0x12, 0), (0x06, 3), (0x01, 50), (0x03, 0), (0x05, 0), (0x0C, 20000 * 256)],
  [(0x0D, 0)], [(0x02, 0)], [(0x01, 0xFFFF), (0x03, 0)], [(0x10, 0), (0x0A, 0)], [(0x07, 0x301)], [(0x0B, 0)], [(0x0A, 0)],
  [(0x15, 0)], [(0x05, 0), (0x0C, 2 + 60000 * 256)], [(0x0D, 2), (0x15, 0)],
  [(0x02, 0), (0x09, 0), (0x0C, 1 + 0xFFFF * 256)], [(0x0D, 1), (0x11, 0)], [(0x02, 0), (0x11, 0), (0x07, 0x302)],
  [(0x02, 0), (0x0B, 0), (0x11, 0), (0x07, 0x303)], [(0x08, 0)]] ++ [
  [(0x02, 0), (0x11, 0), (0x07, 0x304)], [(0x0D, 0), (0x13, 1)]]

/-- Cells of some states and some events: next state (none: the same) and list. -/
def defCells (ss es : List Nat) (next : Option Nat) (list : Nat) : List (Nat × Nat) :=
  ss.flatMap fun s => es.map fun e => (s * 64 + e, (next.getD s) + 0x80 + list * 256)

/-- Cells common to DEF_AC and DEF_DC. -/
def defCommon : List (Nat × Nat) :=
  defCells [0] [1, 2] (some 1) 1 ++ defCells [1] [17] (some 2) 0 ++ defCells [1, 2, 3, 4, 13] [31, 27] none 0 ++
  defCells [5] [2] (some 6) 5 ++ defCells [6, 14] [24] none 6 ++ defCells [6] [1] (some 7) 7 ++ defCells [7] [2] (some 6) 8 ++
  defCells [6, 7, 14, 15] [44] none 9 ++ defCells [11] [11] (some 8) 12 ++
  defCells [1, 2, 3, 4, 5, 6, 7, 11, 13, 14, 15] [37, 38, 39, 40, 41, 42, 22] (some 8) 12 ++
  defCells [8] [1, 0, 10] (some 9) 7 ++ defCells [9] [25] (some 10) 13 ++
  defCells [1, 2, 3, 4, 13] [33, 18, 32, 28] (some 10) 14 ++
  defCells [1, 2, 3, 4, 5, 6, 7, 8, 9, 10, 11, 12, 13, 14, 15] [36, 4, 46, 6, 26] (some 12) 15 ++
  defCells [10, 12] [0] (some 0) 16

/-- Cells of DEF_AC alone. -/
def defAcCells : List (Nat × Nat) :=
  defCells [1, 2] [19] (some 4) 2 ++ defCells [1] [9, 20] (some 3) 3 ++ defCells [2] [9, 20] (some 5) 4 ++
  defCells [3] [17] (some 5) 4 ++ defCells [4] [21] (some 13) 0 ++ defCells [13] [2] (some 14) 5 ++
  defCells [14] [1] (some 15) 7 ++ defCells [15] [2] (some 14) 8 ++ defCells [6, 7] [34] none 3 ++
  defCells [6, 7] [35] none 4 ++ defCells [14, 15] [23, 43, 45] (some 11) 10 ++ defCells [11] [21] (some 14) 11

/-- Cells of DEF_DC alone. -/
def defDcCells : List (Nat × Nat) :=
  defCells [1, 2] [19] (some 4) 18 ++ defCells [1, 2] [9, 20] (some 10) 17 ++ defCells [4] [21] (some 5) 0 ++
  defCells [6, 7] [23, 43, 45] (some 11) 10 ++ defCells [11] [21] (some 6) 11

/-- DEF_AC or DEF_DC. -/
def defTable (dc : Bool) : BayTable :=
  { nStates := 17, nEvents := 64, initState := 0, failState := 16, idleMask := 0x401,
    timerDef := [20000, 5000, 60000, 1000, 1000, 1000, 1000, 1000], tableId := if dc then 0xDC01 else 0xAC01,
    crc := Config.defTableCrc dc, cells := defCommon ++ (if dc then defDcCells else defAcCells), lists := defLists }

/-! ### Loading a table (R137–R140) -/

/-- Address and size of the running TBL slot (R24, R25). -/
def Dev.tblBase (d : Dev) : Nat := if d.flag SYS.BANKSEL_SEL 4 then 0x10B00000 else 0x10500000
def tblSize : Nat := 0x100000

/-- Words of an action list. -/
def Dev.listWords (d : Dev) (a : Nat) : List (Nat × Nat) :=
  (List.range 8).map fun k => (d.rdLe (a + 4 * k) 1, d.rdLe (a + 4 * k + 1) 3)

/-- Words of a list up to its first END. -/
def upToEnd (l : List (Nat × Nat)) : List (Nat × Nat) := l.takeWhile fun w => !(w.1 == 0 && w.2 == 0)

/-- Cause of a word that a list may not hold (R140), if any. -/
def wordCause (dcPart dcTable : Bool) (w : Nat × Nat) : Option Nat :=
  if 0x15 < w.1 ∨ w.1 = 0 then some 4
  else if (w.1 = 0x13 ∧ !dcPart) ∨ (w.1 = 0x0A ∧ w.2 % 2 = 1 ∧ !dcTable) then some 5
  else none

/-- The first cause in a list of words. -/
def firstCause (dcPart dcTable : Bool) : List (Nat × Nat) → Option Nat
  | [] => none
  | w :: l => match wordCause dcPart dcTable w with
    | some c => some c
    | none => firstCause dcPart dcTable l

/-- Validate the table at a byte offset of the running TBL slot (R138–R140): its cause of refusal, or the table. A reserved field
other than 0 is cause 3 (assumption 163). -/
def Dev.tblCheck (d : Dev) (dc : Bool) (ofs : Nat) : Nat ⊕ BayTable :=
  let b := d.tblBase + ofs
  let r := fun o n => d.rdLe (b + o) n
  if r 0 4 ≠ 0x31425442 ∨ r 4 2 ≠ 1 then .inl 1
  else if tblSize < ofs + 64 then .inl 6
  else
    let ns := r 8 1
    let ne := r 9 1
    let nl := r 0x0A 2
    let cellOfs := r 0x30 4
    let listOfs := r 0x34 4
    let total := r 0x38 4
    if cellOfs ≠ 0x40 ∨ listOfs ≠ 0x40 + 2 * ns * ne ∨ total ≠ listOfs + 32 * nl ∨ 16416 < total ∨ tblSize < ofs + total then
      .inl 6
    else if crc32 (d.rdBytes b 0x3C ++ [0, 0, 0, 0] ++ d.rdBytes (b + 0x40) (total - 0x40)) ≠ r 0x3C 4 then .inl 2
    else
      let flags := r 6 2
      let init := r 0x0C 1
      let idle := r 0x10 8
      let tm := (List.range 8).map fun k => r (0x18 + 2 * k) 2
      if !flags.testBit (if dc then 1 else 0) || ns == 0 || decide (64 < ns) || ne == 0 || decide (64 < ne) ||
          decide (255 < nl) || decide (ns ≤ init) || decide (ns ≤ r 0x0D 1) || r 0x0E 2 != 0 || !idle.testBit init || tm.any (· == 0) then .inl 3
      else
        let cells := (List.range (ns * ne)).map fun i => (i, r (0x40 + 2 * i) 2)
        if cells.any fun c => decide (ns ≤ c.2 % 64) || c.2.testBit 6 || decide (nl < c.2 / 256) then .inl 3
        else
          let lists := (List.range nl).map fun k => upToEnd (d.listWords (b + listOfs + 32 * k))
          match firstCause d.chip.variant.dc (flags.testBit 1) lists.flatten with
          | some c => .inl c
          | none => .inr { nStates := ns, nEvents := ne, initState := init, failState := r 0x0D 1, idleMask := idle,
                           timerDef := tm, tableId := r 0x28 4, crc := BitVec.ofNat 32 (r 0x3C 4),
                           cells := cells.filter fun c => c.2 != 0, lists := lists }

/-- TABLE_LOAD (R137): a write of TBL_SEL. -/
def execTableLoad (m : Master) (n : Bay) (w : Word) (s : State) : Out :=
  s.on fun d => d.guard m (.BAY n) 0x044 fun d =>
    if w.toNat % 16 ≠ 0 then d.reject (BAY.page n) Err.RANGE
    else if w.toNat.testBit 31 && !d.bayIdle n then d.reject (BAY.page n) Err.BUSY
    else
      let d := d.wr (BAY.TBL_SEL n) (w &&& 0x400FFFFF)
      if w.toNat.testBit 31 then d.modBay n fun b => { b with loading := true } else d

/-- A TBL loader has loaded (R497): it no longer reads the bank that does not run. -/
def Dev.tblRead (d : Dev) (loader : Nat) : Dev :=
  let d : Dev := { d with upd := { d.upd with tblOld := d.upd.tblOld.filter (· != loader) } }
  d.setBit UPD.STAT_TBL_HELD (!d.upd.tblOld.isEmpty)

/-- A table may run: the bay engine is on, and no hold-up has stopped it (R151). -/
def Dev.tableMay (d : Dev) (n : Bay) : Bool := d.enabled (.BAY n) && !d.bit PWR.STAT_HOLDUP

/-- A table is entered (R137, R138): its INIT_STATE. -/
def Dev.tblInstall (d : Dev) (n : Bay) (t : BayTable) : Dev :=
  let d := ((d.setBit (BAY.TBL_STAT_LOADED n) true).setBit (BAY.TBL_STAT_BAD n) false).set (BAY.TBL_STAT_CAUSE n) 0
  let d := (d.wrN (BAY.TBL_ID n) t.tableId).wr (BAY.TBL_CRC n) t.crc
  let d := (d.set (BAY.STATE_PREV n) (d.get (BAY.STATE_CUR n))).set (BAY.STATE_CUR n) t.initState
  let on := d.tableMay n
  ((d.idleSet n true).modBay n fun b =>
    { b with table := t, running := none, postQ := [], selfStop := false, live := on }).raise (BAY.page n) BAY.ev_STATE
    |>.tblRead n.val

/-- TABLE_VALIDATION_DONE (R137–R140). After a failed one the previous table goes on. -/
def execTableValidationDone (n : Bay) (s : State) : Out :=
  s.on fun d =>
    if !d.bay[n].loading then d
    else
      let d := d.modBay n fun b => { b with loading := false }
      let dc := d.bit (BAY.CFG_DC n)
      if d.bit (BAY.TBL_SEL_DEF n) then d.tblInstall n (defTable dc)
      else match d.tblCheck dc (d.get (BAY.TBL_SEL_OFFSET n)) with
        | .inr t => d.tblInstall n t
        | .inl c =>
          let d := d.modBay n fun b => { b with live := b.live || (d.bit (BAY.TBL_STAT_LOADED n) && d.tableMay n) }
          (((d.setBit (BAY.TBL_STAT_BAD n) true).set (BAY.TBL_STAT_CAUSE n) c).raise (BAY.page n) BAY.ev_TBL_BAD).reject
            (BAY.page n) Err.RANGE

/-! ### Sessions (R145, R147) -/

/-- The causes for which a session is refused, as DENY numbers (R145). -/
def Dev.denied (d : Dev) (n : Bay) (k : Nat) : Bool :=
  match k with
  | 1 => decide (2 ≤ d.get PWR.STAT_LEVEL)
  | 2 => (d.legalPart && !d.led.ready) || d.vlt.zeroised || (d.chip.variant.legal && !d.vlt.rootOk)
  | 3 => decide (16 ≤ d.led.unsigned.length)
  | 4 => d.legalPart && d.mpl.mismatch
  | 5 => (d.chMode != 0 && (!d.bit SAF.EXPCFG_SINGLE_START || decide (4 ≤ d.chMode))) || d.latchedFault n || d.saf.overdue
  | 6 => d.present .PAIR && d.pairState != Pr.DISABLED && d.pairState != Pr.ACTIVE
  | 7 => d.draining (.BAY n)
  | 8 => !d.bit (MET.STAT_SCALE_OK (Bay.met n)) || d.bit (MET.STAT_INVALID (Bay.met n)) || d.selfCheckBad
  | _ => false

/-- Primitive OPEN_SESSION (R39, R88, R145, R226, R289, R308). A bay whose session is open keeps it. -/
def Dev.openSession (d : Dev) (n : Bay) : Dev :=
  if d.inSession n then d
  else
    let d := if d.legalPart && d.led.ready then d.mapCompare else d
    match [1, 2, 3, 4, 5, 6, 7, 8].find? (d.denied n) with
    | some k =>
      let d := (d.set (BAY.SESSION_STAT_DENY n) k).raise (BAY.page n) BAY.ev_DENY
      let d := if k = 4 then d.reject (BAY.page n) Err.LEGAL_DENIED
        else if k = 7 then d.reject (BAY.page n) Err.DRAINING else d
      d.bayPost n Ev.START_DENIED
    | none =>
      let num := (d.log.sessNum + 1) % 2 ^ 32
      let d : Dev := { d with log := { d.log with sessNum := num } }
      let d := ((d.set (BAY.SESSION_STAT_DENY n) 0).wrN (BAY.SESSION n) num).setBit (BAY.STATE_SESSION n) true
      let d := (d.set (BAY.STOPSRC_SRC n) 0).modBay n fun b => { b with metered := false, endWait := false, stopHeld := none }
      let d := (d.sessOpen n num).acctOpen n
      if d.chMode ≠ 0 then (d.limSafety n (d.netLimit n)).modSafBay n fun b => { b with single := true } else d

/-- Primitive START_METERING (R106, R140, R286, R308). -/
def Dev.startMetering (d : Dev) (n : Bay) : Dev :=
  if d.inSession n && !d.bay[n].metered && !d.bay[n].endWait then
    ((d.setMetering n true).modBay n fun b => { b with metered := true }).sessStart n
  else d

/-- Primitive END_SESSION (R147): the close waits for OPEN or WELD. -/
def Dev.endSession (d : Dev) (n : Bay) : Dev :=
  if d.inSession n then (d.modBay n fun b => { b with endWait := true }).modAcct n fun a => { a with opened := false } else d

/-- Primitive CT_OPEN_AT (R140): at once answered if the path is open. -/
def Dev.ctAskOpen (d : Dev) (n : Bay) (arg : Nat) : Dev :=
  if d.ctState n = Ct.OPEN then d.bayPost n Ev.CT_OPENED else d.ctRequestOpen n arg

/-- Primitive CT_CLOSE_AT. -/
def Dev.ctAskClose (d : Dev) (n : Bay) (arg : Nat) : Dev := d.modCtc n fun c => { c with reqClose := c.reqClose ++ [arg] }

/-! ### Timers and duty (R128, R136, R144) -/

/-- T_OBEY of the stop being handled (R147). -/
def Dev.tObey (d : Dev) (n : Bay) : Nat :=
  if d.bay[n].stopHeld = some 5 then min 6000 d.led.acct[n].tObey else d.get (BAY.STOPCFG_T_OBEY n)

/-- Primitive START_TIMER. -/
def Dev.startTimer (d : Dev) (n : Bay) (k ms : Nat) : Dev :=
  let t := if ms = 0 then (d.bay[n].table.timerDef[k]?).getD 0 else if ms = 0xFFFF then d.tObey n else ms
  (d.setFlag (BAY.TMR_ACT_ACT n) k true).modBay n fun b => { b with tmrMs := b.tmrMs.set k t }

/-- Primitive STOP_TIMER: the pending event of an expired timer goes too. -/
def Dev.stopTimer (d : Dev) (n : Bay) (k : Nat) : Dev :=
  let t := d.tickNo
  (d.setFlag (BAY.TMR_ACT_ACT n) k false).modBay n fun b => b.without t fun e => e == Ev.TIMER0 + k

/-- Primitive SET_DUTY; an argument beyond 1,000 that is not AUTO changes nothing. -/
def Dev.setDuty (d : Dev) (n : Bay) (arg : Nat) : Dev :=
  if arg = 0xFFFF then
    if d.bit (BAY.CFG_DC n) then d.setBit (BAY.CP_DUTY_AUTO n) false else (d.setBit (BAY.CP_DUTY_AUTO n) true).bayAuto n
  else if arg ≤ 1000 then
    (d.setBit (BAY.CP_DUTY_AUTO n) false).modBay n fun b => { b with pendDuty := some arg, limitLow := false }
  else d

/-- Primitive IMD_RUN; a refused start returns as IMD_FAIL. -/
def Dev.imdRun (d : Dev) (n : Bay) (on : Bool) : Dev :=
  if on then match d.imdRefusal n with
    | some e => (d.reject (IMD.page n) e).bayPost n Ev.IMD_FAIL
    | none => d.imdStart n
  else d.imdStop n

/-- One primitive (R140). -/
def Dev.bayPrim (d : Dev) (n : Bay) (op arg : Nat) : Dev :=
  match op with
  | 0x01 => d.setDuty n (arg % 65536)
  | 0x02 => d.cpMode n 1
  | 0x03 => d.cpMode n 2
  | 0x04 => d.cpMode n 3
  | 0x05 => d.bayReq n 1 0
  | 0x06 => d.bayReq n 2 (arg % 8)
  | 0x07 => d.bayReq n 3 (arg % 65536)
  | 0x08 => d.bayReq n 4 (arg % 2)
  | 0x09 => d.bayReq n 5 0
  | 0x0A => d.ctAskClose n (arg % 2)
  | 0x0B => d.ctAskOpen n (arg % 2)
  | 0x0C => d.startTimer n (arg % 8) (arg / 256 % 65536)
  | 0x0D => d.stopTimer n (arg % 8)
  | 0x0E => d.set (BAY.LIM_I n 7) arg
  | 0x0F => d.openSession n
  | 0x10 => d.startMetering n
  | 0x11 => d.endSession n
  | 0x12 => d.rcdAsk n fun r => { r with bay := true }
  | 0x13 => d.imdRun n (arg % 2 == 1)
  | 0x14 => d.modBay n fun b => { b with postQ := b.postQ ++ [arg % 64] }
  | 0x15 => d.netResume n
  | _ => d

/-- A primitive that needs a place in the request queue. -/
def needsReq (op : Nat) : Bool := decide (5 ≤ op ∧ op ≤ 9)

/-! ### Handling events (R141–R146, R148) -/

/-- The bay engine stops the session itself (R148). -/
def Dev.selfStop (d : Dev) (n : Bay) : Dev :=
  let d := if d.inSession n then d.set (BAY.STOPSRC_SRC n) (d.get (BAY.STOPSRC_SRC n) ||| 2 ^ 9) else d
  let d := (((d.cpMode n 1).ctAskOpen n 0).endSession n).setBit (Hdr.FAULT (BAY.page n)) true
  let d := d.modBay n fun b => { b with selfStop := true, running := none }
  if d.get (BAY.CP_STAT_STATE n) = 0 then d.selfEndA n else d

/-- Enter the next state (R141). -/
def Dev.bayEnter (d : Dev) (n : Bay) (next : Nat) : Dev :=
  let cur := d.get (BAY.STATE_CUR n)
  let t := d.bay[n].table
  let d := ((d.set (BAY.STATE_PREV n) cur).set (BAY.STATE_CUR n) next).idleSet n (t.idleMask.testBit next)
  let d := (d.modBay n fun b => { b with running := none }).raise (BAY.page n) BAY.ev_STATE
  if next = t.failState ∧ next ≠ cur then d.selfStop n else d

/-- Run a list, blocked while a primitive waits for a place in the request queue (R141, R153). -/
def Dev.bayRun (d : Dev) (n : Bay) (next : Nat) : List (Nat × Nat) → Dev
  | [] => d.bayEnter n next
  | w :: l =>
    if needsReq w.1 && d.reqFull n then d.modBay n fun b => { b with running := some (next, w :: l) }
    else (d.bayPrim n w.1 w.2).bayRun n next l

/-- Take the next event: those of POST_EVENT first, then the queue; a pending event fills the place (R140, R143). -/
def Dev.bayTake (d : Dev) (n : Bay) : Option (Nat × Dev) :=
  let b := d.bay[n]
  match b.postQ with
  | e :: l => some (e, d.modBay n fun b => { b with postQ := l })
  | [] => match b.queue with
    | [] => none
    | e :: l => some (e, d.modBay n fun b => ({ b with queue := l } : BayInt).fill)

/-- One event in the present state (R139, R141, R146). -/
def Dev.bayHandle (d : Dev) (n : Bay) (e : Nat) : Dev :=
  let d := d.set (BAY.STATE_LAST_EVT n) e
  let vehicle := (e == Ev.HLC_STOP || e == Ev.CP_A) && d.inSession n && d.get (BAY.STOPSRC_SRC n) == 0
  let d := if vehicle then
      ((d.set (BAY.STOPSRC_SRC n) (2 ^ 8)).modBay n fun b => { b with stopHeld := some 8 }).raise (BAY.page n) BAY.ev_STOP
    else d
  let t := d.bay[n].table
  let w := match t.cells.find? fun c => c.1 == d.get (BAY.STATE_CUR n) * t.nEvents + e with
    | some c => c.2
    | none => 0
  if t.nEvents ≤ e ∨ !w.testBit 7 then d.bump (BAY.EVT_STAT_UNHANDLED n)
  else d.bayRun n (w % 64) (if w / 256 = 0 then [] else (t.lists[w / 256 - 1]?).getD [])

/-- The unit's tables run: not on a pair's standby (R152). -/
def Dev.tableRuns (d : Dev) : Bool :=
  !d.present .PAIR || d.pairState == Pr.DISABLED || d.pairState == Pr.ACTIVE

/-- BAY_EVENT_HANDLE (R141, R143): one event, unless a list still runs. -/
def execBayEventHandle (n : Bay) (s : State) : Out :=
  s.on fun d =>
    let b := d.bay[n]
    if !b.live || b.running.isSome || b.selfStop || !d.tableRuns then d
    else match d.bayTake n with
      | some (e, d) => d.bayHandle n e
      | none => d

/-- Events software may post (R142). -/
def postable (e : Nat) : Bool :=
  decide (17 ≤ e ∧ e ≤ 23) || e == 31 || e == 32 || e == 44 || decide (48 ≤ e)

/-- EVT_POST (R142). -/
def execEvtPost (m : Master) (n : Bay) (e : BitVec 6) (s : State) : Out :=
  s.on fun d => d.guard m (.BAY n) 0x068 fun d =>
    if postable e.toNat then d.bayPost n e.toNat else d.reject (BAY.page n) Err.RANGE

/-- BAY_TIMER_EXPIRY (R144). -/
def execBayTimerExpiry (n : Bay) (k : Fin 8) (s : State) : Out :=
  s.on fun d =>
    if d.flag (BAY.TMR_ACT_ACT n) k.val then (d.setFlag (BAY.TMR_ACT_ACT n) k.val false).bayPost n (Ev.TIMER0 + k.val) else d

/-- REQ_POP (R153): a read of REQ; a blocked list goes on. -/
def execReqPop (n : Bay) (s : State) : Out :=
  s.on fun d =>
    let d := d.modBay n fun b => { b with reqs := b.reqs.drop 1 }
    match d.bay[n].running with
    | some (next, l) => d.bayRun n next l
    | none => d

/-- STOP_REQ_HOST (R135, R146, R153): by the page owner or HIF. -/
def execStopReqHost (m : Master) (n : Bay) (s : State) : Out :=
  s.on fun d =>
    let d := d.noKey
    if !d.hasBay n then d.reject (BAY.page n) Err.NOT_FUSED
    else if m = .hif ∨ d.owns m (.BAY n) then d.stopRequest n (2 ^ 7)
    else d.reject (BAY.page n) Err.NOT_OWNER

/-- STOP_REQUEST (R146): the sources of bits 0–7 that ask in one tick. -/
def execStopRequest (n : Bay) (mask : BitVec 8) (s : State) : Out := s.on fun d => d.stopRequest n mask.toNat

/-- BAY_STOP_TIMEOUT (R148): STATE.IDLE has stayed 0 for 8 s after a stop event. -/
def execBayStopTimeout (n : Bay) (s : State) : Out :=
  s.on fun d => if d.bay[n].stopHeld.isSome && !d.bayIdle n && !d.bay[n].selfStop then d.selfStop n else d

/-! ### The primitives as steps of their own (R140) -/

/-- Primitive END: the running list ends and NEXT is entered. -/
def execEndList (n : Bay) (s : State) : Out :=
  s.on fun d => match d.bay[n].running with
    | some (next, _) => d.bayEnter n next
    | none => d

/-- Primitive SET_DUTY. -/
def execSetDuty (n : Bay) (arg : BitVec 16) (s : State) : Out := s.on fun d => d.setDuty n arg.toNat
/-- Primitive SET_STATE_X1. -/
def execSetStateX1 (n : Bay) (s : State) : Out := s.on fun d => d.cpMode n 1
/-- Primitive SET_STATE_X2. -/
def execSetStateX2 (n : Bay) (s : State) : Out := s.on fun d => d.cpMode n 2
/-- Primitive CP_NEG. -/
def execCpNeg (n : Bay) (s : State) : Out := s.on fun d => d.cpMode n 3

/-- A primitive that queues a request; with the queue full it waits (R153). -/
def Dev.askApp (d : Dev) (n : Bay) (code arg : Nat) : Dev := if d.reqFull n then d else d.bayReq n code arg

/-- Primitive START_SLAC. -/
def execStartSlac (n : Bay) (s : State) : Out := s.on fun d => d.askApp n 1 0
/-- Primitive REQUEST_AUTH. -/
def execRequestAuth (n : Bay) (methods : BitVec 3) (s : State) : Out := s.on fun d => d.askApp n 2 methods.toNat
/-- Primitive NOTIFY_HOST. -/
def execNotifyHost (n : Bay) (code : BitVec 16) (s : State) : Out := s.on fun d => d.askApp n 3 code.toNat
/-- Primitive LOCK. -/
def execLock (n : Bay) (on : Bool) (s : State) : Out := s.on fun d => d.askApp n 4 (if on then 1 else 0)
/-- Primitive HLC_STOP. -/
def execHlcStop (n : Bay) (s : State) : Out := s.on fun d => d.askApp n 5 0
/-- Primitive CT_CLOSE_AT. -/
def execCtCloseAt (n : Bay) (pre : Bool) (s : State) : Out := s.on fun d => d.ctAskClose n (if pre then 1 else 0)
/-- Primitive CT_OPEN_AT. -/
def execCtOpenAt (n : Bay) (pre : Bool) (s : State) : Out := s.on fun d => d.ctAskOpen n (if pre then 1 else 0)
/-- Primitive START_TIMER. -/
def execStartTimer (n : Bay) (k : Fin 8) (ms : BitVec 16) (s : State) : Out := s.on fun d => d.startTimer n k.val ms.toNat
/-- Primitive STOP_TIMER. -/
def execStopTimer (n : Bay) (k : Fin 8) (s : State) : Out := s.on fun d => d.stopTimer n k.val
/-- Primitive LIMIT_CURRENT. -/
def execLimitCurrent (n : Bay) (i : BitVec 16) (s : State) : Out := s.on fun d => d.set (BAY.LIM_I n 7) i.toNat
/-- Primitive OPEN_SESSION. -/
def execOpenSession (n : Bay) (s : State) : Out := s.on fun d => d.openSession n
/-- Primitive START_METERING. -/
def execStartMetering (n : Bay) (s : State) : Out := s.on fun d => d.startMetering n
/-- Primitive END_SESSION. -/
def execEndSession (n : Bay) (s : State) : Out := s.on fun d => d.endSession n
/-- Primitive RCD_TEST. -/
def execRcdTest (n : Bay) (s : State) : Out := s.on fun d => d.rcdAsk n fun r => { r with bay := true }
/-- Primitive IMD_RUN. -/
def execImdRun (n : Bay) (on : Bool) (s : State) : Out := s.on fun d => d.imdRun n on
/-- Primitive POST_EVENT. -/
def execPostEvent (n : Bay) (e : BitVec 6) (s : State) : Out :=
  s.on fun d => d.modBay n fun b => { b with postQ := b.postQ ++ [e.toNat] }
/-- Primitive SNET_RESUME. -/
def execSnetResume (n : Bay) (s : State) : Out := s.on fun d => d.netResume n

/-- The bay engine is switched on (R137, R151): X1 at once, since no period runs; then its table is loaded. -/
def Dev.bayStart (d : Dev) (n : Bay) : Dev :=
  (d.set (BAY.CP_STAT_MODE n) 1).modBay n fun b => { b with loading := true, pendMode := none }

/-- The bay engine stops, in hold-up or as it goes off (R151): its table no longer runs, the pilot goes to X1 with the next period. -/
def Dev.bayStop (d : Dev) (n : Bay) : Dev :=
  d.modBay n fun b => { b with live := false, loading := false, pendMode := some 1, running := none, queue := [], pendMap := [], postQ := [] }

end Sys2Proof.Machine
end

