-- ==== Sys2Proof/Machine/Sha384.lean ====
section
/-!
DEFINITION. SHA-384 (FIPS 180-4), which R345, R486 and R490 name.
-/
namespace Sys2Proof.Machine

open Sys2Proof

/-- The first primes, those up to 409: the eightieth prime. -/
def sha5Primes : List Nat :=
  (List.range 410).filter fun n => 1 < n && (List.range 21).all fun q => q < 2 || n < q * q || n % q != 0

/-- The greatest `r` below 2^`k` with `r ^ e ≤ n`, one bit at a time from the top. -/
def sha5Root (e n k : Nat) : Nat :=
  (List.range k).foldr (fun j r => if (r + 2 ^ j) ^ e ≤ n then r + 2 ^ j else r) 0

/-- The first 64 bits of the fraction of the `e`th root of `p`. -/
def sha5Frac (e p : Nat) : BitVec 64 := BitVec.ofNat 64 (sha5Root e (p * 2 ^ (64 * e)) 70)

/-- The round constants: the cube roots of the first eighty primes, in their order (FIPS 180-4, 4.2.3). -/
def sha5K : List (BitVec 64) := sha5Primes.map (sha5Frac 3)

/-- SHA-384 starts from the square roots of the ninth to sixteenth primes (FIPS 180-4, 5.3.4). -/
def sha5Init : List (BitVec 64) := ((sha5Primes.drop 8).take 8).map (sha5Frac 2)

/-- Message schedule: `n` more words behind the sixteen of `w`, newest first. -/
def sha5Sched : Nat → List (BitVec 64) → List (BitVec 64)
  | 0, w => w
  | n + 1, w =>
    let a := (w[14]?).getD 0
    let b := (w[1]?).getD 0
    let s0 := a.rotateRight 1 ^^^ a.rotateRight 8 ^^^ (a >>> 7)
    let s1 := b.rotateRight 19 ^^^ b.rotateRight 61 ^^^ (b >>> 6)
    sha5Sched n (((w[15]?).getD 0 + s0 + (w[6]?).getD 0 + s1) :: w)

/-- One round. -/
def sha5Round (h : List (BitVec 64)) (kw : BitVec 64 × BitVec 64) : List (BitVec 64) :=
  match h with
  | [a, b, c, d, e, f, g, hh] =>
    let s1 := e.rotateRight 14 ^^^ e.rotateRight 18 ^^^ e.rotateRight 41
    let ch := (e &&& f) ^^^ (~~~e &&& g)
    let t1 := hh + s1 + ch + kw.1 + kw.2
    let s0 := a.rotateRight 28 ^^^ a.rotateRight 34 ^^^ a.rotateRight 39
    let mj := (a &&& b) ^^^ (a &&& c) ^^^ (b &&& c)
    [t1 + (s0 + mj), a, b, c, d + t1, e, f, g]
  | _ => h

/-- One block of sixteen words. -/
def sha5Block (h blk : List (BitVec 64)) : List (BitVec 64) :=
  let w := (sha5Sched 64 blk.reverse).reverse
  let r := (sha5K.zip w).foldl sha5Round h
  (h.zip r).map fun x => x.1 + x.2

/-- The first `n` big-endian 64-bit words of a list of bytes. -/
def beWords64 : Nat → List Byte → List (BitVec 64)
  | 0, _ => []
  | n + 1, l => BitVec.ofNat 64 (ofBe (l.take 8)) :: beWords64 n (l.drop 8)

/-- Hash `n` blocks. -/
def sha5Blocks : Nat → List (BitVec 64) → List (BitVec 64) → List (BitVec 64)
  | 0, h, _ => h
  | n + 1, h, w => sha5Blocks n (sha5Block h (w.take 16)) (w.drop 16)

/-- SHA-384. -/
def sha384 (m : List Byte) : List Byte :=
  let z := (239 - m.length % 128) % 128
  let p := m ++ [0x80] ++ List.replicate z 0 ++ beBytes 16 (8 * m.length)
  ((sha5Blocks (p.length / 128) sha5Init (beWords64 (p.length / 8) p)).take 6).flatMap fun w => beBytes 8 w.toNat

end Sys2Proof.Machine
end

