-- ==== Sys2Proof/Machine/Vault.lean ====
section
/-!
DEFINITION. The key vault (ch. 14): messages of R349, slots and blobs (R334–R338), randomness (R341), roles and role
sessions (R342–R344), attestation (R345), lifecycle and debug (R346, R347), anti-rollback (R348), zeroisation (R330, R331).
A request is served in the step that brings it; signatures, nonces, random bytes and ciphertexts are free values.
-/
namespace Sys2Proof.Machine

open Sys2Proof

/-- Change the vault. -/
def Dev.modVlt (d : Dev) (f : VltInt → VltInt) : Dev := { d with vlt := f d.vlt }

/-- `n` bytes the spec leaves open. -/
def Dev.freeBytes (d : Dev) (n : Nat) : List Byte × Dev := (leBytes n d.free.1, d.free.2)

/-- Bytes as message values. -/
def vals (l : List Byte) : List Nat := l.map (·.toNat)

/-- The lifecycle's code (R345 key 9). -/
def lcCode : Lifecycle → Nat
  | .manufacture => 0 | .provisioned => 1 | .field => 2 | .returned => 3 | .dead => 4

/-! ### Answers and common checks (R340, R341, R349) -/

/-- Answer a vault request: to the host link, or on the mailbox with bit 15 set and the status first (R349). -/
def Dev.vltAnswer (d : Dev) (q : VltReq) (typ status : Nat) (body : List Nat := []) : Dev :=
  match q.host with
  | some h => d.toHost { link := h.link, typ := typ, tag := h.tag, status := status, role := h.role, body := body }
  | none => d.mail { src := .vlt, dst := q.dom, typ := typ + 0x8000, body := status :: body }

/-- A role session is open for a request: on its link, or on any link for a domain's own request. -/
def Dev.sessionOpen (d : Dev) (q : VltReq) (role : Nat) : Bool :=
  match q.host with
  | some h => d.roles.any fun x => x.role == role && x.link == h.link
  | none => d.roles.any fun x => x.role == role

/-- The random source delivers (R341). -/
def Dev.randomOk (d : Dev) : Bool := d.bit VLT.STAT_TRNG_OK && d.bit VLT.STAT_DRBG_OK

/-- What a message of R349 asks before its own checks: the host roles it takes, none for "Domain"; fresh randomness; the
root secret. -/
structure VltNeed where
  role : Nat → Bool := fun _ => true
  domain : Bool := false
  random : Bool := false
  root : Bool := true
  /-- The boot ROM serves it itself in recovery (R506). -/
  boot : Bool := false

/-- Why a request is refused before its own checks, if it is (R329, R340, R341, R349). -/
def Dev.vltError (d : Dev) (q : VltReq) (need : VltNeed) : Option Nat :=
  let hostBad : Bool := match q.host with
    | some h => need.domain || !need.role h.role || !d.roleOpen h
    | none => q.dom == .saf && need.root
  if hostBad then some Err.ROLE_DENIED
  else if need.boot && d.bit SYS.STAT_RECOVERY then none
  else if !d.bit VLT.STAT_READY then some Err.BUSY
  else if need.root && !d.vlt.rootOk then some Err.SEQUENCE
  else if need.random && !d.randomOk then some Err.BUSY
  else none

/-- Serve a vault message: the common checks, then its own work, which gives the status and the answer's values. -/
def Dev.vltServe (d : Dev) (q : VltReq) (typ : Nat) (need : VltNeed) (work : Dev → Nat × List Nat × Dev) : Dev :=
  match d.vltError q need with
  | some e => d.vltAnswer q typ e
  | none =>
    let d := if need.random then d.modVlt fun v => { v with drbgReqs := v.drbgReqs + 1 } else d
    let r := work d
    r.2.2.vltAnswer q typ r.1 r.2.1

/-- Count a key operation (R351). -/
def Dev.vltOp (d : Dev) : Dev := d.wrN VLT.CNT_OPS (d.rdN VLT.CNT_OPS + 1)

/-! ### Slots (R334–R338) -/

/-- KEY_LEN of an ALG code (R335), 0 for no code. -/
def keyLen (alg : Nat) : Nat :=
  match alg with
  | 0x01 => 16 | 0x02 => 32 | 0x10 => 32 | 0x11 => 48 | 0x12 => 66 | 0x20 => 57 | 0x21 => 56
  | _ => 0

/-- Bytes of a public key and of a signature of an algorithm (R339). -/
def pubLen (alg : Nat) : Nat :=
  match alg with
  | 0x10 => 64 | 0x11 => 96 | 0x12 => 132 | 0x20 => 57 | 0x21 => 56
  | _ => 0

/-- Bytes of a signature. -/
def sigLen (alg : Nat) : Nat :=
  match alg with
  | 0x10 => 64 | 0x11 => 96 | 0x12 => 132 | 0x20 => 114
  | _ => 0

/-- The algorithms a usage takes (R335, R337). -/
def usageFits (usage alg : Nat) : Bool :=
  match usage with
  | 0x01 => decide (alg ∈ [0x10, 0x11, 0x12, 0x20, 0x21])
  | 0x03 => alg == 0x10
  | 0x04 => alg == 0x01 || alg == 0x02
  | 0x05 => alg == 0x01
  | 0x06 => alg == 0x10 || alg == 0x11
  | 0x08 => decide (alg ∈ [0x10, 0x11, 0x12, 0x20])
  | _ => false

/-- An operation of the usage matrix (R337). -/
inductive VltOp where
  | sign | ecdh | mac | transfer | toTag | attest
deriving DecidableEq, Repr

/-- The usage matrix (R337). -/
def KeyUse.allows (u : KeyUse) (alg : Nat) : VltOp → Bool
  | .sign => match u with
    | .receipt => true | .identity => true | .attest => false
    | .blob k => (k == 0x01 && alg != 0x21) || k == 0x03 || k == 0x08
  | .ecdh => match u with
    | .identity => true
    | .blob k => k == 0x01 && alg != 0x20
    | _ => false
  | .mac => u == .blob 0x04
  | .transfer => u == .blob 0x04
  | .toTag => u == .blob 0x05
  | .attest => u == .attest

/-- Place a key in a slot and its registers. -/
def Dev.slotPut (d : Dev) (k : Fin 32) (s : KeySlot) (alg usage roles domains keyId : Nat) : Dev :=
  let d := d.modVlt fun v => { v with slots := v.slots.set k (some s) }
  let d := ((((d.set (VLT.SLOT_ALG k) alg).set (VLT.SLOT_USAGE k) usage).set (VLT.SLOT_ROLES k) roles).set
    (VLT.SLOT_DOMAINS k) domains).wrN (VLT.KEY_ID k) keyId
  (d.wrN VLT.SLOT_USED (setBitN (d.rdN VLT.SLOT_USED) k true)).wrN VLT.SLOT_BAD (setBitN (d.rdN VLT.SLOT_BAD) k false)

/-- Empty a slot. -/
def Dev.slotDrop (d : Dev) (k : Fin 32) : Dev :=
  let d := d.modVlt fun v => { v with slots := v.slots.set k none }
  let d := (d.wrN (VLT.SLOT k) 0).wrN (VLT.KEY_ID k) 0
  (d.wrN VLT.SLOT_USED (setBitN (d.rdN VLT.SLOT_USED) k false)).wrN VLT.SLOT_BAD (setBitN (d.rdN VLT.SLOT_BAD) k false)

/-- Derive one of the device keys (R334). The legal slot is empty in N variants. -/
def Dev.deriveSlot (d : Dev) (k : Fin 32) : Dev :=
  let u := Config.deviceUsage k.val
  match k.val with
  | 0 => d.slotPut k { use := .attest } 0x11 u 0 0x08 0
  | 1 => if d.chip.variant.legal then d.slotPut k { use := .receipt } 0x10 u 0 0x04 0 else d.slotDrop k
  | 2 => d.slotPut k { use := .identity } 0x10 u 0 0x01 0
  | _ => d

/-- Derive slots 0 to 2, or leave them empty without a root (R329, R334). -/
def Dev.deriveSlots (d : Dev) : Dev :=
  if d.vlt.rootOk then ((d.deriveSlot 0).deriveSlot 1).deriveSlot 2 else ((d.slotDrop 0).slotDrop 1).slotDrop 2

/-- Empty slots 4 to 31. -/
def Dev.slotsClear (d : Dev) : Dev := (List.finRange 32).foldl (fun d k => if 4 ≤ k.val then d.slotDrop k else d) d

/-- The requester may use a slot: its domain is in DOMAINS and, for a host request, its role in ROLES (R336, R337). -/
def slotRights (q : VltReq) (roles domains : Nat) : Bool :=
  domains.testBit (domainNo q.dom) && (match q.host with
    | some h => roles.testBit h.role
    | none => true)

/-- A slot's integrity check failed (R338). -/
def Dev.slotBad (d : Dev) (k : Fin 32) : Dev :=
  let d := ((d.wrN VLT.SLOT_BAD (setBitN (d.rdN VLT.SLOT_BAD) k true)).raise VLT.page VLT.ev_SLOT_BAD).bump VLT.CNT_FAIL_CMAC
  let d := d.glog .vlt 0x000A 0xFF (leBytes 1 k.val ++ leBytes 1 (d.get (VLT.SLOT_ALG k)) ++ leBytes 2 0 ++
    leBytes 4 (d.rdN (VLT.KEY_ID k)))
  if k.val < 3 then d.deriveSlot k else d

/-- Use a slot for an operation (R337, R338): its checks, then the work. -/
def Dev.useSlot (d : Dev) (q : VltReq) (slot : Nat) (op : VltOp) (intact : Bool)
    (work : Dev → Fin 32 → KeySlot → Nat → Nat × List Nat × Dev) : Nat × List Nat × Dev :=
  if h : slot < 32 then
    let k : Fin 32 := ⟨slot, h⟩
    match d.vlt.slots[k] with
    | none => (Err.SEQUENCE, [], d)
    | some s =>
      let alg := d.get (VLT.SLOT_ALG k)
      if op ≠ .attest ∧ !slotRights q (d.get (VLT.SLOT_ROLES k)) (d.get (VLT.SLOT_DOMAINS k)) then (Err.ROLE_DENIED, [], d)
      else if !s.use.allows alg op then (Err.RANGE, [], d)
      else if (d.rdN VLT.SLOT_BAD).testBit slot then (Err.SEQUENCE, [], d)
      else if !intact then (Err.SEQUENCE, [], d.slotBad k)
      else work d.vltOp k s alg
  else (Err.RANGE, [], d)

/-! ### Keys (R335–R337) -/

/-- The 32-byte header of a blob (R335). -/
def keyHeader (h : KeyHdr) (gen : Nat) (iv : List Byte) : List Byte :=
  leBytes 4 0x31424B56 ++ leBytes 1 h.alg.toNat ++ leBytes 1 h.usage.toNat ++ leBytes 1 h.roles.toNat ++
    leBytes 1 h.domains.toNat ++ leBytes 2 h.policy.toNat ++ leBytes 2 (keyLen h.alg.toNat) ++ leBytes 4 h.keyId.toNat ++
    leBytes 4 gen ++ padTo 12 iv

/-- A little-endian field of a list of bytes. -/
def fieldLe (l : List Byte) (o n : Nat) : Nat := ofLe ((l.drop o).take n)

/-- KEY_GENERATE (R335). -/
def execKeyGenerate (q : VltReq) (h : KeyHdr) (s : State) : Out :=
  s.on fun d => d.vltServe q 0x0505 { role := fun r => r == 1, random := true } fun d =>
    let alg := h.alg.toNat
    if keyLen alg = 0 ∨ !usageFits h.usage.toNat alg ∨ 3 < h.policy.toNat then (Err.RANGE, [], d)
    else
      let (iv, d) := d.freeBytes 12
      let (ct, d) := d.freeBytes (keyLen alg + 16)
      let blob := keyHeader h (d.rdN VLT.ROOT_GEN) iv ++ ct
      let pub := if h.policy.toNat.testBit 0 then (List.range (pubLen alg)).map (Config.blobKey blob) else []
      (Err.NONE, vals (blob ++ pub), d.vltOp)

/-- KEY_LOAD (R336). -/
def execKeyLoad (q : VltReq) (blob : List Byte) (slot : BitVec 8) (tagOk : Bool) (s : State) : Out :=
  s.on fun d => d.vltServe q 0x0506 {} fun d =>
    let f := fieldLe blob
    let alg := f 4 1
    let free := (List.finRange 32).filter fun k => decide (4 ≤ k.val) && (d.vlt.slots[k]).isNone
    let tgt := if slot = 0xFF then free.head? else free.find? fun k => k.val == slot.toNat
    if f 0 4 ≠ 0x31424B56 ∨ keyLen alg = 0 ∨ !usageFits (f 5 1) alg ∨ f 10 2 ≠ keyLen alg ∨ 3 < f 8 2 ∨
        blob.length ≠ 48 + keyLen alg then (Err.RANGE, [], d)
    else if f 16 4 ≠ d.rdN VLT.ROOT_GEN then (Err.SEQUENCE, [], d)
    else if !tagOk then (Err.RANGE, [], d)
    else if !slotRights q (f 6 1) (f 7 1) then (Err.ROLE_DENIED, [], d)
    else if (f 8 2).testBit 1 ∧ d.chip.lifecycle ≠ .field then (Err.SEQUENCE, [], d)
    else if slot ≠ 0xFF ∧ (slot.toNat < 4 ∨ 31 < slot.toNat) then (Err.RANGE, [], d)
    else match tgt with
      | none => (Err.BUSY, [], d)
      | some k =>
        let d := d.slotPut k { use := .blob (f 5 1), policy := f 8 2, blob := blob } alg (f 5 1) (f 6 1) (f 7 1) (f 12 4)
        (Err.NONE, [k.val], d.vltOp)

/-- KEY_UNLOAD (R349, R338). -/
def execKeyUnload (q : VltReq) (slot : BitVec 8) (s : State) : Out :=
  s.on fun d => d.vltServe q 0x0507 {} fun d =>
    if h : 4 ≤ slot.toNat ∧ slot.toNat < 32 then
      let k : Fin 32 := ⟨slot.toNat, h.2⟩
      if (d.vlt.slots[k]).isNone then (Err.SEQUENCE, [], d)
      else if !slotRights q (d.get (VLT.SLOT_ROLES k)) (d.get (VLT.SLOT_DOMAINS k)) then (Err.ROLE_DENIED, [], d)
      else (Err.NONE, [], d.slotDrop k)
    else (Err.RANGE, [], d)

/-- The public key of a device slot. -/
def Dev.deviceKey (d : Dev) (k : Nat) : List Byte :=
  (List.range (if k = 0 then 96 else 64)).map (Config.deviceKey k d.chip.uid.toNat (d.rdN VLT.ROOT_GEN))

/-- KEY_PUBLIC (R349). -/
def execKeyPublic (q : VltReq) (slot : BitVec 8) (s : State) : Out :=
  s.on fun d => d.vltServe q 0x0508 {} fun d =>
    if h : slot.toNat < 32 then
      let k : Fin 32 := ⟨slot.toNat, h⟩
      match d.vlt.slots[k] with
      | none => (Err.SEQUENCE, [], d)
      | some x => match x.use with
        | .blob _ =>
          let n := pubLen (d.get (VLT.SLOT_ALG k))
          if x.policy.testBit 0 ∧ 0 < n then (Err.NONE, vals ((List.range n).map (Config.blobKey x.blob)), d)
          else (Err.RANGE, [], d)
        | _ => (Err.NONE, vals (d.deviceKey slot.toNat), d)
    else (Err.RANGE, [], d)

/-- SIGN (R337, R341): a receipt key signs a SHA-256 digest; Ed448 needs no fresh randomness. -/
def execSign (q : VltReq) (slot : BitVec 8) (data : List Byte) (intact : Bool) (s : State) : Out :=
  s.on fun d => d.vltServe q 0x0509 { random := d.get (VLT.SLOT_ALG (slot.toNat % 32)) != 0x20 } fun d =>
    d.useSlot q slot.toNat .sign intact fun d _ x alg =>
      if (x.use = .receipt ∨ x.use = .blob 0x03) ∧ data.length ≠ 32 then (Err.RANGE, [], d)
      else
        let (sig, d) := d.freeBytes (sigLen alg)
        (Err.NONE, vals sig, d)

/-- ECDH (R337, R349). -/
def execEcdh (q : VltReq) (slot : BitVec 8) (peer : List Byte) (intact : Bool) (s : State) : Out :=
  s.on fun d => d.vltServe q 0x050A { domain := true, random := true } fun d =>
    d.useSlot q slot.toNat .ecdh intact fun d _ _ alg =>
      if peer.length ≠ pubLen alg then (Err.RANGE, [], d)
      else
        let (z, d) := d.freeBytes (keyLen alg)
        (Err.NONE, vals z, d)

/-- MAC (R337, R349): generate a tag, or compare one. -/
def execMac (q : VltReq) (slot : BitVec 8) (data : List Byte) (tag : Option (List Byte)) (intact : Bool) (s : State) : Out :=
  s.on fun d => d.vltServe q 0x050B { domain := true } fun d =>
    d.useSlot q slot.toNat .mac intact fun d _ x _ =>
      let m := (List.range 16).map (Config.blobCmac x.blob data)
      match tag with
      | none => (Err.NONE, vals m, d)
      | some t => (Err.NONE, [if t = m then 1 else 0], d)

/-- KEY_TRANSFER (R337, R349). -/
def execKeyTransfer (q : VltReq) (slot : BitVec 8) (peer : List Byte) (intact : Bool) (s : State) : Out :=
  s.on fun d => d.vltServe q 0x050F { domain := true, random := true } fun d =>
    d.useSlot q slot.toNat .transfer intact fun d _ _ alg =>
      if peer.length ≠ 64 then (Err.RANGE, [], d)
      else
        let (b, d) := d.freeBytes (48 + keyLen alg)
        (Err.NONE, vals b, d)

/-- RANDOM (R349). -/
def execRandom (q : VltReq) (n : BitVec 16) (s : State) : Out :=
  s.on fun d => d.vltServe q 0x050D { domain := true, random := true, root := false } fun d =>
    if n.toNat = 0 ∨ 1024 < n.toNat then (Err.RANGE, [], d)
    else
      let (b, d) := d.freeBytes n.toNat
      (Err.NONE, vals b, d)

/-- VLT_INFO (R349): lifecycle, ROOT_GEN, slot map, certificates of slots 0 to 2. -/
def execVltInfo (q : VltReq) (s : State) : Out :=
  s.on fun d => d.vltServe q 0x0501 {} fun d =>
    let cert := fun k => (List.range (Config.certificateLen k)).map fun i => (Config.certificate k i).toNat
    (Err.NONE, [lcCode d.chip.lifecycle, d.rdN VLT.ROOT_GEN, d.rdN VLT.SLOT_USED] ++ cert 0 ++ cert 1 ++ cert 2, d)

/-! ### Randomness (R341) -/

/-- TRNG_HEALTH_FAIL. -/
def execTrngHealthFail (s : State) : Out :=
  s.on fun d => (((d.setBit VLT.STAT_TRNG_OK false).raise VLT.page VLT.ev_TRNG_FAIL).setBit (Hdr.FAULT VLT.page) true).bump
    VLT.CNT_FAIL_TRNG

/-- TRNG_RETEST: the repeated start-up tests; service returns after 1,024 passing samples. -/
def execTrngRetest (pass : Bool) (s : State) : Out :=
  s.on fun d =>
    if pass && !d.bit VLT.STAT_TRNG_OK then (d.setBit VLT.STAT_TRNG_OK true).setBit (Hdr.FAULT VLT.page) false else d

/-- DRBG_RESEED: from the TRNG, while that passes its tests; due at the start, after 2^20 requests and after 60 s. -/
def execDrbgReseed (s : State) : Out :=
  s.on fun d =>
    if d.bit VLT.STAT_TRNG_OK && (!d.bit VLT.STAT_DRBG_OK || decide (2 ^ 20 ≤ d.vlt.drbgReqs) || decide (60 ≤ d.vlt.drbgSec)) then
      (d.modVlt fun v => { v with drbgReqs := 0, drbgSec := 0 }).setBit VLT.STAT_DRBG_OK true
    else d

/-! ### Role sessions (R342–R344) -/

/-- Show the open sessions in VLT.SESS and LED.ROLES. -/
def Dev.sessShow (d : Dev) : Dev :=
  let m := fun (l : Link) => (d.roles.filter fun x => x.link == l).foldl (fun n x => setBitN n x.role true) 0
  ((d.set VLT.SESS_SPI (m .spi)).set VLT.SESS_RMII (m .rmii)).set LED.ROLES_OPEN (m .spi ||| m .rmii)

/-- EXPERT_EN clears, and with it every expert area closes (R43). -/
def Dev.expertShut (d : Dev) : Dev :=
  allPages.foldl (fun d p => d.setBit (Hdr.EXPERT_OPEN p.base) false) (d.setBit SYS.EXPERT_EN_EN false)

/-- The OPERATOR session ended (R43, R344): EXPERT_EN clears, and the loops the host closed open (R522). -/
def Dev.expertEnd (d : Dev) : Dev :=
  let d := d.expertShut
  (d.loopHost.foldl (fun d p => d.setBit (Hdr.LOOP_ENABLE p) false) d).loopsShow

/-- Requests queued under a key that is given up are answered ROLE_DENIED, without a trailer (R474, R481). -/
def Dev.roleStale (d : Dev) (p : HifReq → Bool) : Dev :=
  (d.hif.rx.filter p).foldl (fun d r => d.toHost { link := r.link, typ := r.typ, tag := r.tag, status := Err.ROLE_DENIED }) d

/-- End the sessions that `p` selects (R344). -/
def Dev.roleEnd (d : Dev) (p : RoleSess → Bool) : Dev :=
  if d.roles.any p then
    let oper := d.roles.any fun x => p x && x.role == 1
    let d : Dev := { d with roles := d.roles.filter fun x => !p x }
    let d := d.sessShow.raise VLT.page VLT.ev_SESSION
    if oper then d.expertEnd else d
  else d

/-- A role that a session can be opened for (R6, R343); in recovery OPERATOR and VENDOR alone (R506). -/
def Dev.rolesOpenable (d : Dev) (r : Nat) : Bool :=
  if d.bit SYS.STAT_RECOVERY then r == 1 || r == 7
  else [1, 2, 3, 4, 7].contains r && (r != 4 || d.legalPart)

/-- ROLE_CHALLENGE (R343): a 32-byte nonce for a role, valid for 60 s and one use. -/
def execRoleChallenge (q : Req) (role : BitVec 8) (s : State) : Out :=
  s.on fun d => d.vltServe { host := some q } 0x0502 { random := true, boot := true } fun d =>
    let r := role.toNat
    if !d.rolesOpenable r then (Err.ROLE_DENIED, [], d)
    else
      let (n, d) := d.free
      let n := n % 2 ^ 256
      let d := d.modVlt fun v => { v with chals :=
        (v.chals.filter fun c => !(c.link == q.link && c.what == r)) ++ [{ link := q.link, what := r, nonce := n }] }
      (Err.NONE, vals (leBytes 32 n), d)

/-- The anchor a signature is checked against is there (R342): VENDOR's are fused. In recovery the store of a vault that
failed cannot be read (R506). -/
def Dev.hasAnchor (d : Dev) (role idx : Nat) : Bool :=
  role == 7 || !(d.bit SYS.STAT_RECOVERY && d.flag SYS.STAT_IMG_FAIL 0) && d.vlt.anchors.any fun a => a.1 == role && a.2.1 == idx

/-- ROLE_OPEN (R343): `ok` is what the signature check gives. -/
def execRoleOpen (q : Req) (role : BitVec 8) (idx : Fin 2) (eph : List Byte) (ok : Bool) (s : State) : Out :=
  s.on fun d => d.vltServe { host := some q } 0x0503 { random := true, boot := true } fun d =>
    let r := role.toNat
    let has := d.vlt.chals.any fun c => c.link == q.link && c.what == r && decide (c.age < 60)
    if !d.rolesOpenable r then (Err.ROLE_DENIED, [], d)
    else if eph.length ≠ 64 then (Err.RANGE, [], d)
    else if !d.hasAnchor r idx.val ∨ !has then (Err.SEQUENCE, [], d)
    else
      let d := d.modVlt fun v => { v with chals := v.chals.filter fun c => !(c.link == q.link && c.what == r) }
      if !ok then (Err.ROLE_DENIED, [], d)
      else
        let same := fun (x : RoleSess) => x.link == q.link && x.role == r
        if !d.roles.any same ∧ 4 ≤ (d.roles.filter fun x => x.link == q.link).length then (Err.BUSY, [], d)
        else
          let d := if d.roles.any same then d.roleStale (fun x => x.link == q.link && x.role == r && !(x.typ == 0x0503 && x.tag == q.tag)) else d
          let d := d.roleEnd same
          let d : Dev := { d with roles := d.roles ++ [({ role := r, link := q.link } : RoleSess)] }
          let d := (d.sessShow.raise VLT.page VLT.ev_SESSION).vltOp
          let (e, d) := d.freeBytes 64
          (Err.NONE, vals e, d)

/-- ROLE_CLOSE (R344). -/
def execRoleClose (q : Req) (role : BitVec 8) (s : State) : Out :=
  s.on fun d => d.vltServe { host := some q } 0x0504 { role := fun r => r == role.toNat && r != 0, root := false, boot := true } fun d =>
    (Err.NONE, [], d.roleEnd fun x => x.link == q.link && x.role == role.toNat)

/-- ROLE_SESSION_IDLE_TIMEOUT (R344): no authenticated message for IDLE minutes. -/
def execRoleSessionIdleTimeout (link : Link) (role : Role) (s : State) : Out :=
  s.on fun d => d.roleEnd fun x => x.link == link && x.role == role && decide (60 * d.get VLT.SESS_CFG_IDLE ≤ x.idle)

/-- ANCHOR_SET (R342). -/
def execAnchorSet (q : VltReq) (role : BitVec 8) (idx : BitVec 8) (key : List Byte) (s : State) : Out :=
  s.on fun d => d.vltServe q 0x050E {} fun d =>
    let r := role.toNat
    let have1 := d.vlt.anchors.any fun a => a.1 == r
    let may :=
      if r = 1 ∨ r = 4 then (d.chip.lifecycle == .provisioned && !have1) || d.sessionOpen q r
      else (r == 2 || r == 3) && d.sessionOpen q 1
    if (r = 4 ∧ !d.legalPart) ∨ !may then (Err.ROLE_DENIED, [], d)
    else if 1 < idx.toNat ∨ (key.length ≠ 64 ∧ key.length ≠ 96) then (Err.RANGE, [], d)
    else
      let d := d.modVlt fun v => { v with anchors :=
        (v.anchors.filter fun a => !(a.1 == r && a.2.1 == idx.toNat)) ++ [(r, idx.toNat, key)] }
      let by_ := match q.host with
        | some h => h.role
        | none => 0
      let d := if r = 4 then d.llog by_ 0x010C 0xFF (leBytes 1 idx.toNat ++ leBytes 1 (if key.length = 64 then 0 else 1) ++
          leBytes 2 0 ++ sha256 key) else d
      (Err.NONE, [], d)

/-! ### Attestation (R345) -/

/-- The image the claims name: that in trial only counts once it is confirmed (R493). -/
def Dev.claimImg (d : Dev) (k : Fin 5) : Img :=
  if d.upd.trial = some k.val then (d.upd.other[k]).getD d.upd.run[k] else d.upd.run[k]

/-- SHA-384 of the image a slot's claim names. -/
def Dev.imageHash (d : Dev) (k : Fin 5) : List Byte :=
  let h := (d.claimImg k).hash
  if h.isEmpty then (List.range 48).map (Config.imageHash k.val) else h

/-- A text string of CBOR. -/
def cborText (l : List Byte) : List Byte := cborHead 3 l.length ++ l

/-- The TAMPER claim (R345 key 10). -/
def Dev.tamperClaim (d : Dev) : Nat :=
  d.get LGL.TMP_STAT_UNACK + 16 * d.get LGL.TMP_STAT_ACTIVE + 256 * d.get VLT.TAMPER_CFG_MESH_EN +
    512 * d.get VLT.LC_DBG_SCOPE

/-- The PAIR claim (R345 key 11). -/
def Dev.pairClaim (d : Dev) : Nat :=
  if !d.present .PAIR ∨ d.pairState = Pr.DISABLED then 0
  else (if d.bit PAIR.STAT_UNIT then 2 else 1) + (if d.pairState = Pr.STANDBY then 4 else 0)

/-- The claims of an attestation token. -/
def Dev.claims (d : Dev) (nonce : List Byte) : List Byte :=
  let name := (leBytes 4 d.chip.variant.code).filter fun b => b != 0x20
  let img := fun (k : Fin 5) => cborBytes (d.imageHash k)
  let legal := cborBytes ((List.range 12).flatMap fun k => leBytes 4 (d.rdN (LGL.IMG_HASH k)))
  let arb := fun k => cborUint (d.get (VLT.ARB_CNT k))
  cborMap [(1, cborBytes (leBytes 8 d.chip.uid.toNat)), (2, cborText name),
    (3, cborBytes ((List.range 48).map Config.fuseHash)), (4, cborUint (d.rdN SYS.BOOTVER)),
    (5, cborMap [(0, img 0), (1, img 1), (2, legal), (3, img 2), (4, img 3)]), (6, img 4),
    (7, cborHead 4 d.chip.variant.bays ++ (allBays.filter d.hasBay).flatMap fun n => cborUint d.bay[n].table.crc.toNat),
    (8, cborMap [(0, arb 0), (1, arb 1), (3, arb 2), (4, arb 3), (5, arb 4)]),
    (9, cborUint (lcCode d.chip.lifecycle)), (10, cborUint d.tamperClaim), (11, cborUint d.pairClaim),
    (12, cborBytes nonce), (13, cborUint (d.rdN VLT.ROOT_GEN))]

/-- The COSE_Sign1 around a payload (R345): the kid is of the uncompressed point of slot 0. -/
def Dev.token (d : Dev) (payload sig : List Byte) : List Byte :=
  [0xD2, 0x84, 0x44, 0xA1, 0x01, 0x38, 0x22, 0xA1, 0x04] ++ cborBytes ((sha256 (0x04 :: d.deviceKey 0)).take 8) ++
    cborBytes payload ++ cborBytes sig

/-- ATTEST (R345). -/
def execAttest (q : VltReq) (nonce : List Byte) (intact : Bool) (s : State) : Out :=
  s.on fun d => d.vltServe q 0x050C { random := true } fun d =>
    if nonce.length < 8 ∨ 64 < nonce.length then (Err.RANGE, [], d)
    else d.useSlot q 0 .attest intact fun d _ _ _ =>
      let (sig, d) := d.freeBytes 96
      (Err.NONE, vals (d.token (d.claims nonce) sig), d)

/-! ### Lifecycle, debug, anti-rollback, mesh (R332, R346–R348) -/

/-- ROLLBACK_SET (R348): domains numbered as in attestation claim 8. -/
def rollbackIndex (dom : Nat) : Option Nat :=
  match dom with
  | 0 => some 0 | 1 => some 1 | 3 => some 2 | 4 => some 3 | 5 => some 4
  | _ => none

/-- Raise an anti-rollback counter, or say why not (R348). -/
def Dev.rollbackRaise (d : Dev) (dom v : Nat) : Nat × Dev :=
  match rollbackIndex dom with
  | none => (Err.RANGE, d)
  | some k =>
    if 65535 < v then (Err.RANGE, d)
    else if v ≤ d.get (VLT.ARB_CNT k) then (Err.SEQUENCE, d)
    else (Err.NONE, d.set (VLT.ARB_CNT k) v)

/-- ROLLBACK_SET (R348, R349). -/
def execRollbackSet (q : VltReq) (dom : BitVec 8) (v : Word) (s : State) : Out :=
  s.on fun d => d.vltServe q 0x0511 { domain := true } fun d =>
    let r := d.rollbackRaise dom.toNat v.toNat
    (r.1, [], r.2)

/-- Take a new lifecycle state: it shows, and every role session ends (R344, R346). -/
def Dev.lifecycleTo (d : Dev) (l : Lifecycle) : Dev :=
  let d : Dev := { d with chip := { d.chip with lifecycle := l } }
  ((d.set VLT.LC_STATE (lcCode l)).raise VLT.page VLT.ev_LIFECYCLE).roleEnd fun _ => true

/-- Provisioning writes a root and blows the next check slot (R328, R329, R346). A part in DEAD stays there. -/
def Dev.provision (d : Dev) (gen : Nat) : Dev :=
  let d := (((d.modVlt fun v => { v with rootOk := true }).wrN VLT.ROOT_GEN gen).setBit VLT.STAT_ROOT_OK true).deriveSlots
  if d.chip.lifecycle = .dead then d else d.lifecycleTo .provisioned

/-- LIFECYCLE_SET (R13, R14, R346). Target 1 is the provisioning station's: in test mode, with no role (assumption 159). -/
def execLifecycleSet (q : VltReq) (target : BitVec 8) (s : State) : Out :=
  s.on fun d => d.vltServe q 0x0512 {} fun d =>
    match target.toNat with
    | 1 =>
      if !d.chip.testMode then (Err.SEQUENCE, [], d)
      else match d.chip.lifecycle with
        | .manufacture => (Err.NONE, [], d.provision 1)
        | .returned | .dead =>
          if 8 ≤ d.rdN VLT.ROOT_GEN then (Err.SEQUENCE, [], d) else (Err.NONE, [], d.provision (d.rdN VLT.ROOT_GEN + 1))
        | _ => (Err.SEQUENCE, [], d)
    | 2 =>
      if d.chip.lifecycle ≠ .provisioned then (Err.SEQUENCE, [], d)
      else if !d.sessionOpen q 1 then (Err.ROLE_DENIED, [], d)
      else if d.legalPart ∧ !d.vlt.anchors.any (fun a => a.1 == 4) then (Err.SEQUENCE, [], d)
      else (Err.NONE, [], d.lifecycleTo .field)
    | 3 =>
      if d.chip.lifecycle ≠ .field then (Err.SEQUENCE, [], d)
      else if !(d.roles.any fun x => x.role == 7 && d.roles.any fun y => y.role == 1 && y.link == x.link &&
          (match q.host with
            | some h => h.link == x.link
            | none => true)) then (Err.ROLE_DENIED, [], d)
      else
        let d := (d.modVlt fun v => { v with anchors := [] }).slotsClear
        (Err.NONE, [], d.lifecycleTo .returned)
    | _ => (Err.SEQUENCE, [], d)

/-- DEBUG_CHALLENGE (R347). -/
def execDebugChallenge (q : VltReq) (scope : BitVec 8) (s : State) : Out :=
  s.on fun d => d.vltServe q 0x0513 { role := fun r => r == 1, random := true } fun d =>
    if !d.sessionOpen q 1 then (Err.ROLE_DENIED, [], d)
    else if d.chip.lifecycle ≠ .field then (Err.SEQUENCE, [], d)
    else if scope.toNat = 0 ∨ 7 < scope.toNat then (Err.RANGE, [], d)
    else
      let (n, d) := d.free
      let n := n % 2 ^ 256
      let l := match q.host with
        | some h => h.link
        | none => .spi
      (Err.NONE, vals (leBytes 32 n), d.modVlt fun v => { v with dbgChal := some { link := l, what := scope.toNat, nonce := n } })

/-- DEBUG_OPEN (R347): `ok` is what the signature check gives. A good signature opens the scope for 8 h. -/
def execDebugOpen (q : VltReq) (ok : Bool) (s : State) : Out :=
  s.on fun d => d.vltServe q 0x0514 { role := fun r => r == 1 } fun d =>
    if !d.sessionOpen q 1 then (Err.ROLE_DENIED, [], d)
    else match d.vlt.dbgChal with
      | none => (Err.SEQUENCE, [], d)
      | some c =>
        if d.chip.lifecycle ≠ .field then (Err.SEQUENCE, [], d)
        else if c.what.testBit 1 ∧ !d.allIdle then (Err.BUSY, [], d)
        else
          let d := d.modVlt fun v => { v with dbgChal := none }
          if !ok then (Err.ROLE_DENIED, [], d)
          else
            let d := ((d.modVlt fun v => { v with dbgSec := 0 }).set VLT.LC_DBG_SCOPE c.what).raise VLT.page VLT.ev_DEBUG
            let d := d.llog 1 0x010E 0xFF (leBytes 1 c.what ++ leBytes 3 0 ++ (sha256 (leBytes 32 c.nonce)).take 16 ++
              leBytes 4 (d.rtc.sec + 28800))
            (Err.NONE, [], d)

/-- DEBUG_SCOPE_EXPIRY (R347): 8 h after it was opened. -/
def execDebugScopeExpiry (s : State) : Out :=
  s.on fun d => if 28800 ≤ d.vlt.dbgSec then d.set VLT.LC_DBG_SCOPE 0 else d

/-- VAULT_TAMPER_CFG (R332). -/
def execVaultTamperCfg (q : VltReq) (en : Bool) (s : State) : Out :=
  s.on fun d => d.vltServe q 0x0515 { role := fun r => r == 1 } fun d =>
    if d.chip.lifecycle ≠ .provisioned then (Err.SEQUENCE, [], d)
    else (Err.NONE, [], (d.setBit VLT.TAMPER_CFG_MESH_EN en).setBit TMP.STAT_MESH_EN en)

/-! ### Vault-domain reset and zeroisation (R330, R331, R350) -/

/-- SYS_EVENT (R479): kind 0 shed level, 1 hold-up entry, 2 domain reset, 3 zeroisation cause; its value. -/
def Dev.sysEvent (d : Dev) (kind v : Nat) : Dev := d.notice 0x0103 [kind, v]

/-- OWNER code of a domain (R37), none for the vault. -/
def ownerOf : Domain → Option Nat
  | .app => some 0 | .saf => some 2 | .lgl => some 3 | .vlt => none

/-- What every domain reset does (R30, R43, R507): counted, told to the host, mailboxes, expert areas and loops of the pages it owns; in
hold-up the domain stays off (R516). -/
def Dev.domMark (d : Dev) (x : Domain) : Dev :=
  let d := ((d.bump ⟨SYS.DRST_CNT, 8 * domainNo x, 8⟩).raise SYS.page SYS.ev_DOMAIN_RESET).sysEvent 2 (domainNo x)
  let d := allPages.foldl (fun d p =>
    if ownerOf x = some (d.get (Hdr.OWNER p.base)) then
      (d.setBit (Hdr.EXPERT_OPEN p.base) false).setBit (Hdr.LOOP_ENABLE p.base) false
    else d) d
  let d := d.loopsShow.mboxReset x
  if d.bit PWR.STAT_HOLDUP then { d with pwr := { d.pwr with domOff := setBitN d.pwr.domOff (domainNo x) true } } else d

/-- What a vault-domain reset does to the vault (R344, R350). The vault is ready again when its start-up stages end. -/
def Dev.vaultClear (d : Dev) : Dev :=
  let d := (((d.domMark .vlt).roleStale fun x => x.role != 0).roleEnd fun _ => true).slotsClear.setBit VLT.STAT_READY false
  d.modVlt fun v => { v with chals := [], dbgChal := none, drbgReqs := 0 }

/-- Zeroise the root secret for cause 1 to 5 (R330, R331). -/
def Dev.zeroise (d : Dev) (cause : Nat) : Dev :=
  let d := d.modVlt fun v => { v with rootOk := false, zeroised := true }
  let d := (d.set VLT.ZCAUSE_CAUSE cause).wrN VLT.ZTIME d.rtc.sec
  if d.pwr.off then d else
  let d := d.setBit VLT.STAT_ROOT_OK false
  let d := ((d.raise VLT.page VLT.ev_ZEROISED).vaultClear.deriveSlots).sysEvent 3 cause
  let d := d.llog 0 0x010D 0xFF (leBytes 1 cause ++ leBytes 3 0 ++ leBytes 4 d.rtc.sec)
  d.forBays fun n d => if d.hasBay n then d.stopRequest n (2 ^ 2) else d

/-- Both supplies of the VBAT domain are lost (R17): clock and tamper records start anew; the zeroisation record stays (R331). -/
def Dev.vbatReset (d : Dev) : Dev :=
  ({ d with rtc := {} } : Dev).modLed fun l => { l with tamper := Vector.replicate 4 {}, tmpLevel := 0 }

/-- ZEROISATION (R330, R331): cause 5 is the loss of VBAT with VSUP absent, which resets the VBAT domain (R17). -/
def execZeroisation (cause : Fin 5) (s : State) : Out :=
  s.vbat fun d =>
    let d := d.zeroise (cause.val + 1)
    if cause = 4 then d.vbatReset else d

/-- MESH_CHECK (R326, R330): the second failure in a row zeroises. -/
def execMeshCheck (ok : Bool) (s : State) : Out :=
  s.vbat fun d =>
    if !d.bit VLT.TAMPER_CFG_MESH_EN then d
    else if ok then ((d.modVlt fun v => { v with meshFail := false }).setBit VLT.STAT_MESH_OK true).setBit TMP.STAT_MESH_OK true
    else if d.vlt.meshFail then d.zeroise 4
    else (((d.modVlt fun v => { v with meshFail := true }).setBit VLT.STAT_MESH_OK false).setBit TMP.STAT_MESH_OK false).raise
      TMP.page TMP.ev_MESH

end Sys2Proof.Machine
end

