-- ==== Sys2Proof/Machine/Contactless.lean ====
section
/-!
DEFINITION. The contactless reader (R352–R356, R372, R373) and the witness tag with its mirror (R357–R371, R374).
-/
namespace Sys2Proof.Machine

open Sys2Proof

/-! ### Reader -/

/-- Change the reader. -/
def Dev.modNfr (d : Dev) (f : NfrInt → NfrInt) : Dev := { d with nfr := f d.nfr }

/-- The shed level holds the reader off (R372). -/
def Dev.nfrShed (d : Dev) : Bool := decide (1 ≤ d.get PWR.STAT_LEVEL)

/-- The running exchange ends. -/
def Dev.nfrIdle (d : Dev) : Dev := (d.modNfr fun n => { n with job := none }).setBit NFR.STAT_BUSY false

/-- Field and detection off (R372). -/
def Dev.nfrOff (d : Dev) : Dev :=
  ((((d.nfrIdle.setBit NFR.CTL_FIELD false).setBit NFR.CTL_LPCD false).setBit NFR.STAT_FIELD_ON false).setBit
    NFR.STAT_LPCD_ARMED false).set NFR.TX_CUR_MA 0

/-- Field and detection off at a shed level; IRQ SHED_OFF if there was something to switch off (R372). -/
def Dev.nfrShedOff (d : Dev) : Dev :=
  if d.bit NFR.STAT_FIELD_ON || d.bit NFR.STAT_LPCD_ARMED then d.nfrOff.raise NFR.page NFR.ev_SHED_OFF else d.nfrOff

/-- CTL.FIELD = 1 (R353, R372). Detection ends: it needs FIELD = 0 (R354). -/
def execNfrFieldOn (m : Master) (s : State) : Out :=
  s.on fun d => d.startWork m .NFR 0x044 (fun d =>
      if d.nfrShed then some Err.BUSY else if d.isStandby then some Err.SEQUENCE else none) fun d =>
    let (i, d) := d.free
    (((d.setBit NFR.CTL_FIELD true).setBit NFR.STAT_FIELD_ON true).setBit NFR.STAT_LPCD_ARMED false).set NFR.TX_CUR_MA i

/-- CTL.FIELD = 0. -/
def execNfrFieldOff (m : Master) (s : State) : Out :=
  s.on fun d => d.guard m .NFR 0x044 fun d =>
    let d := ((d.nfrIdle.setBit NFR.CTL_FIELD false).setBit NFR.STAT_FIELD_ON false).set NFR.TX_CUR_MA 0
    if d.bit NFR.CTL_LPCD then (d.setBit NFR.STAT_LPCD_ARMED true).modNfr fun n => { n with lpcdFirst := true } else d

/-- CTL.LPCD = 1 (R354). -/
def execLpcdStart (m : Master) (s : State) : Out :=
  s.on fun d => d.startWork m .NFR 0x044 (fun d => if d.nfrShed then some Err.BUSY else none) fun d =>
    let d := (d.setBit NFR.CTL_LPCD true).setBit NFR.STAT_CARD_DET false
    if d.bit NFR.STAT_FIELD_ON then d
    else (d.setBit NFR.STAT_LPCD_ARMED true).modNfr fun n => { n with lpcdFirst := true }

/-- A detection pulse measured an amplitude (R354). -/
def execLpcdPulse (amp : BitVec 16) (s : State) : Out :=
  s.on fun d =>
    if !d.bit NFR.STAT_LPCD_ARMED then d
    else
      let d := d.set NFR.LPCD_MEAS_AMP amp.toNat
      if d.nfr.lpcdFirst then (d.set NFR.LPCD_REF_AMP amp.toNat).modNfr fun n => { n with lpcdFirst := false }
      else
        let r := d.get NFR.LPCD_REF_AMP
        let dev := (max r amp.toNat - min r amp.toNat) * 1000
        if d.get NFR.LPCD_CFG_THRESH * r < dev then
          (((d.setBit NFR.STAT_CARD_DET true).setBit NFR.STAT_LPCD_ARMED false).setBit NFR.CTL_LPCD false).raise NFR.page
            NFR.ev_CARD_DET
        else d

/-- Write bytes into an array of word registers at page offsets, low byte first. -/
def Dev.wrWords (d : Dev) (reg : Nat → Nat) (l : List Byte) : Dev :=
  (List.range ((l.length + 3) / 4)).foldl (fun d k => d.wrN (reg k) (ofLe ((l.drop (4 * k)).take 4))) d

/-- Bytes of `n` word registers, low byte first. -/
def Dev.rdWords (d : Dev) (reg : Nat → Nat) (n : Nat) : List Byte :=
  (List.range n).flatMap fun k => leBytes 4 (d.rdN (reg k))

/-- The frame in TXBUF (R373). -/
def Dev.nfrFrame (d : Dev) : List Byte := (d.rdWords NFR.TXBUF 64).take (d.get NFR.TXLEN_BYTES)

/-- The reader's loop is closed (R372, R521). -/
def Dev.nfrLooped (d : Dev) : Bool := d.bit (Hdr.LOOP_ENABLE NFR.page)

/-- Start an exchange: it needs the field, or a closed loop, and one at a time (R352, R353, R372); TRANSCEIVE sends TXBUF. -/
def Dev.nfrStart (d : Dev) (m : Master) (j : NfrJob) : Dev :=
  d.startWork m .NFR 0x044 (fun d =>
      if !d.bit NFR.STAT_FIELD_ON && !d.nfrLooped then some Err.SEQUENCE else if d.nfr.job.isSome then some Err.BUSY else none) fun d =>
    let f := if j = .transceive then [(d.nfrFrame, d.get NFR.TXLEN_LASTBITS)] else []
    let d := (d.modNfr fun n => { n with job := some j, sent := n.sent ++ f }).setBit NFR.STAT_BUSY true
    let d := ((d.setBit NFR.STAT_RX_DONE false).setBit NFR.STAT_TIMEOUT false).setBit NFR.STAT_CRC_ERR false
    ((d.setBit NFR.STAT_COLL false).setBit NFR.STAT_LISTED false).set NFR.STAT_RXLEN 0

/-- CTL.TRANSCEIVE (R352). -/
def execTransceive (m : Master) (s : State) : Out := s.on fun d => d.nfrStart m .transceive

/-- CTL.ANTICOLL (R352, R356). -/
def execAnticoll (m : Master) (s : State) : Out := s.on fun d => d.nfrStart m .anticoll

/-- CTL.ABORT (R373): the running exchange ends. -/
def execNfrAbort (m : Master) (s : State) : Out := s.on fun d => d.guard m .NFR 0x044 fun d => d.nfrIdle

/-- The allow-list's entries as numbers (R355). -/
def listEntries : List Nat → List Nat
  | a :: b :: l => (a + 2 ^ 32 * b) :: listEntries l
  | _ => []

/-- Look a card up in the allow-list (R355, R356). -/
def Dev.listCheck (d : Dev) (uid : List Byte) : Dev :=
  if !d.bit NFR.LIST_CFG_VALID then d
  else
    let e := ofLe ((sha256 (d.rdWords NFR.LIST_SALT 4 ++ uid)).take 8)
    if (listEntries d.nfr.listWords).contains e then (d.setBit NFR.STAT_LISTED true).raise NFR.page NFR.ev_LISTED
    else (d.setBit NFR.STAT_LISTED false).raise NFR.page NFR.ev_NOT_LISTED

/-- What ends an exchange: the outside, or in a closed loop the frame sent, and for ANTICOLL silence (R372, R521, R522). -/
def Dev.nfrHeard (d : Dev) (j : NfrJob) (r : NfrRx) : NfrRx :=
  if !d.nfrLooped then r
  else { timeout := j == .anticoll, data := d.nfrFrame, uid := [], crcErr := false, coll := false }

/-- The response, or the timeout, of the running exchange (R356, R373). -/
def execNfrRxDone (r : NfrRx) (s : State) : Out :=
  s.on fun d =>
    match d.nfr.job with
    | none => d
    | some j =>
      let r := d.nfrHeard j r
      let d := d.nfrIdle
      if r.timeout then (d.setBit NFR.STAT_TIMEOUT true).raise NFR.page NFR.ev_TIMEOUT
      else
        let l := r.data.take 256
        let d := ((d.wrWords NFR.RXBUF l).set NFR.STAT_RXLEN l.length).setBit NFR.STAT_RX_DONE true
        let d := ((d.setBit NFR.STAT_CRC_ERR r.crcErr).setBit NFR.STAT_COLL r.coll).raise NFR.page NFR.ev_RX_DONE
        if r.crcErr || r.coll then d.raise NFR.page NFR.ev_ERROR
        else if j = .anticoll then
          let d := ((d.wrN NFR.UID0 (ofLe (r.uid.take 4))).wrN NFR.UID1 (ofLe ((r.uid.drop 4).take 4))).set NFR.UIDLEN_LEN
            r.uid.length
          d.listCheck r.uid
        else d

/-- LIST_CTL.CLEAR (R355). -/
def execListClear (m : Master) (s : State) : Out :=
  s.on fun d => d.guard m .NFR 0x088 fun d => (d.modNfr fun n => { n with listWords := [] }).wrN NFR.LIST_CFG 0

/-- A write of LIST_DATA (R355). -/
def execListDataWrite (m : Master) (w : Word) (s : State) : Out :=
  s.on fun d => d.guard m .NFR 0x084 fun d =>
    if d.bit NFR.LIST_CFG_VALID then d.reject NFR.page Err.SEQUENCE
    else if 8192 ≤ d.nfr.listWords.length then d.reject NFR.page Err.RANGE
    else
      let l := d.nfr.listWords ++ [w.toNat]
      (d.modNfr fun n => { n with listWords := l }).set NFR.LIST_CFG_COUNT (l.length / 2)

/-- Strictly ascending. -/
def ascending : List Nat → Bool
  | a :: b :: l => decide (a < b) && ascending (b :: l)
  | _ => true

/-- LIST_CTL.LOAD_DONE (R355). -/
def execLoadDone (m : Master) (s : State) : Out :=
  s.on fun d => d.guard m .NFR 0x088 fun d =>
    if d.nfr.listWords.length % 2 = 0 ∧ ascending (listEntries d.nfr.listWords) then d.setBit NFR.LIST_CFG_VALID true
    else (d.setBit NFR.LIST_CFG_VALID false).reject NFR.page Err.RANGE

/-! ### Mirror (R366, R367) -/

/-- Write a tag log entry (R367). -/
def Dev.tagLog (d : Dev) (code arg txn : Nat) : Dev :=
  let seq := (d.tag.logSeq + 1) % 2 ^ 32
  let d := (d.modTag fun t => { t with logSeq := seq }).wrN WTG.LOG_SEQ seq
  d.mirrorPut (0x3C00 + 16 * (seq % 64))
    (withCrc (leBytes 4 seq ++ leBytes 1 code ++ leBytes 1 arg ++ leBytes 2 txn ++ leBytes 4 d.tag.snapSeq))

/-- The header that the vault writes at each start (R364, R367). -/
def Dev.mirrorHeader (d : Dev) : Dev :=
  let u := d.chip.uid.toNat
  let role := d.pairClaim % 4 + (if d.legalPart then 0 else 4)
  d.mirrorPut 0 (padTo 128 (leBytes 8 u ++ leBytes 4 (Config.pupi u).toNat ++ leBytes 4 d.chip.variant.code ++
    (List.range 64).map (Config.originality u d.chip.variant.code) ++ leBytes 2 1 ++ leBytes 1 role ++
    leBytes 1 d.tag.keyVer ++ leBytes 4 (lcCode d.chip.lifecycle)))

/-- MIRROR_REFRESH (R370): the legal domain does it while it is ready, and redraws its rectangle with it (R318). -/
def execMirrorRefresh (s : State) : Out := s.on fun d => if d.led.ready then d.mirrorRefresh.redraw else d

/-! ### Tag states (R358–R362) -/

/-- Tag states (R374). -/
def Tg.OFF : Nat := 0
def Tg.IDLE : Nat := 1
def Tg.READY : Nat := 2
def Tg.PUBLIC : Nat := 3
def Tg.AUTH : Nat := 4
def Tg.HALT : Nat := 5
def Tg.OPEN : Nat := 6
def Tg.SECURED : Nat := 7

/-- The tag's state. -/
def Dev.tagState (d : Dev) : Nat := d.get WTG.STAT_STATE

/-- The tag is that of a full variant (R2, R9). -/
def Dev.fullTag (d : Dev) : Bool := d.chip.variant.fullTag

/-- The tag ignores its antenna (R358). -/
def Dev.tagMuted (d : Dev) : Bool := d.tag.cfg.testBit 0 && d.bit NFR.STAT_FIELD_ON

/-- A frame reaches the tag: it is powered and not muted. -/
def Dev.tagHears (d : Dev) : Bool := d.tagState != Tg.OFF && !d.tagMuted

/-- The tag sends a frame. -/
def Dev.tagSend (d : Dev) (l : List Byte) : Dev := d.modTag fun t => { t with sent := t.sent ++ [l] }

/-- The tag's PUPI. -/
def Dev.pupi (d : Dev) : Word := Config.pupi d.chip.uid.toNat

/-- ATQB (R357). -/
def Dev.atqb (d : Dev) : List Byte :=
  0x50 :: leBytes 4 d.pupi.toNat ++ (leBytes 8 d.chip.uid.toNat).take 4 ++ [0x00, 0x81, 0x50]

/-- A field reaches 1.5 A/m at the antenna: FD_N pulls low, but for the muted field of the own reader (R358, R371). -/
def Dev.fieldSeen (d : Dev) (own : Bool) : Dev := if own && d.tag.cfg.testBit 0 then d else d.modTag fun t => { t with fdLow := true }

/-- TAG_FIELD_ON (R358, R359, R362, R368, R371): `own`, the field is that of the own reader, which is on or pulses. -/
def execTagFieldOn (own : Bool) (s : State) : Out :=
  s.vbat fun d =>
    if own && !d.bit NFR.STAT_FIELD_ON && !d.bit NFR.STAT_LPCD_ARMED then d
    else
    let d := d.fieldSeen own
    if d.tagState ≠ Tg.OFF ∨ d.tagMuted ∨ (own && d.tag.cfg.testBit 0) then d
    else
      let d := if d.tag.shadow then ((d.modTag fun t => { t with shadow := false }).tagLog 7 0 0).raise WTG.page
        WTG.ev_ROLLBACK else d
      let d := (d.modTag fun t => { t with slot := 0, authPend := false, fails := 0 }).tagLog 1 0 0
      let d := ((d.setBit WTG.STAT_FIELD true).set WTG.STAT_STATE (if d.fullTag then Tg.IDLE else Tg.OPEN)).setBit
        WTG.STAT_BLOCKED false
      (d.wrN WTG.FIELD_CNT (d.rdN WTG.FIELD_CNT + 1)).raise WTG.page WTG.ev_FIELD_ON

/-- The field is lost (R17, R359). -/
def Dev.tagOff (d : Dev) : Dev :=
  if d.tagState = Tg.OFF then d
  else
    let d := (d.modTag fun t => { t with slot := 0, authPend := false, fails := 0 }).set WTG.STAT_STATE Tg.OFF
    ((d.setBit WTG.STAT_FIELD false).setBit WTG.STAT_BLOCKED false).raise WTG.page WTG.ev_FIELD_OFF

/-- The field falls below 1.5 A/m (R359, R371): FD_N is released. -/
def Dev.fieldLost (d : Dev) : Dev := d.tagOff.modTag fun t => { t with fdLow := false }

/-- TAG_FIELD_LOSS (R359, R371). -/
def execTagFieldLoss (s : State) : Out := s.vbat fun d => d.fieldLost

/-- A request names an AFI the tag answers (R359). -/
def Dev.afiOk (d : Dev) (afi : Nat) : Bool :=
  let own := d.tag.cfg / 256 % 256
  afi == 0 || own == 0 || afi == own

/-- A round of `n` slots begins (R359, R362). -/
def Dev.tagRound (d : Dev) (n afi : Nat) (wake : Bool) : Dev :=
  if !d.tagHears || !d.afiOk afi then d
  else if !d.fullTag then d.tagSend d.atqb
  else
    let st := d.tagState
    if st = Tg.IDLE ∨ st = Tg.READY ∨ (st = Tg.HALT ∧ wake) then
      let (r, d) := d.free
      let k := r % n + 1
      let d := (d.modTag fun t => { t with slot := k }).set WTG.STAT_STATE Tg.READY
      if k = 1 then d.tagSend d.atqb else d
    else d

/-- REQB or WUPB with N = 2^n (R359). -/
def execReqb (n : Fin 5) (afi : BitVec 8) (wake : Bool) (s : State) : Out :=
  s.vbat fun d => d.tagRound (2 ^ n.val) afi.toNat wake

/-- XREQB (R360). -/
def execXreqb (afi param : BitVec 8) (s : State) : Out :=
  s.vbat fun d =>
    let n := param.toNat % 16
    if d.tag.cfg.testBit 1 ∧ n ≤ 8 ∧ param.toNat < 32 then d.tagRound (2 ^ n) afi.toNat (param.toNat.testBit 4) else d

/-- A slot marker, or XMARK, for slot S + 1 (R359, R360). -/
def execXmark (std : Bool) (sl : BitVec 8) (s : State) : Out :=
  s.vbat fun d =>
    if d.tagHears ∧ d.fullTag ∧ d.tagState = Tg.READY ∧ 1 ≤ sl.toNat ∧ (std → sl.toNat ≤ 15) ∧ d.tag.slot = sl.toNat + 1 then
      d.tagSend d.atqb
    else d

/-- The originality signature as the mirror holds it (R367). -/
def Dev.sigB (d : Dev) : List Byte := d.mirror 0x10 64

/-- READ_SIG_B (R360, R364): full tags in READY; small ones whenever they are powered. -/
def execReadSigB (pupi : Word) (s : State) : Out :=
  s.vbat fun d =>
    if d.tagHears ∧ pupi = d.pupi ∧ (!d.fullTag ∨ d.tagState = Tg.READY) then d.tagSend d.sigB else d

/-- ATTRIB (R359, R362). -/
def execAttrib (pupi : Word) (s : State) : Out :=
  s.vbat fun d =>
    if !d.tagHears ∨ pupi ≠ d.pupi then d
    else if !d.fullTag then d.tagSend [0x00]
    else if d.tagState = Tg.READY then (d.set WTG.STAT_STATE Tg.PUBLIC).tagSend [0x00]
    else d

/-- HLTB with a PUPI, or S(DESELECT) (R359, R362). -/
def execHltb (pupi : Option Word) (s : State) : Out :=
  s.vbat fun d =>
    let ans : List Byte := if pupi.isSome then [0x00] else [0xC2]
    let mine := match pupi with
      | some p => p == d.pupi
      | none => true
    if !d.tagHears ∨ !mine then d
    else if !d.fullTag then d.tagSend ans
    else
      let st := d.tagState
      if st = Tg.READY ∨ st = Tg.PUBLIC ∨ st = Tg.AUTH then
        ((d.modTag fun t => { t with authPend := false }).set WTG.STAT_STATE Tg.HALT).tagSend ans
      else d

/-! ### Commands of the tag (R363–R365, R368) -/

/-- An APDU is taken: a full tag is ACTIVE, a small one powered. -/
def Dev.tagActive (d : Dev) : Bool :=
  d.tagHears && (!d.fullTag || d.tagState == Tg.PUBLIC || d.tagState == Tg.AUTH)

/-- The reader has SERVICE rights (R256, R362). -/
def Dev.tagService (d : Dev) : Bool := d.tagState == Tg.AUTH || d.tagState == Tg.SECURED

/-- After an RF command the tag commits a host record that waits (R369). -/
def Dev.hostCommit (d : Dev) : Dev :=
  match d.tag.host with
  | none => d
  | some (r, l) =>
    let d := (d.mirrorPut (64 * r) l).modTag fun t => { t with host := none, txns := t.txns.filter fun x => x.1 != r }
    ((d.setBit WTG.WSTAT_PENDING false).setBit WTG.WSTAT_DONE true).raise WTG.page WTG.ev_HOST_DONE

/-- Answer an APDU: data and status word (R365). -/
def Dev.apdu (d : Dev) (data : List Byte) (sw : Nat) : Dev := (d.tagSend (data ++ beBytes 2 sw)).hostCommit

/-- Run an APDU if the tag takes it. -/
def Dev.onApdu (d : Dev) (k : Dev → Dev) : Dev := if d.tagActive then k d else d

/-- READ_BINARY (R365, R366). -/
def execReadBinary (ofs le : BitVec 16) (s : State) : Out :=
  s.vbat fun d => d.onApdu fun d =>
    let a := ofs.toNat
    let e := a + le.toNat
    if le.toNat < 1 ∨ 240 < le.toNat then d.apdu [] 0x6700
    else if 0x4000 < e ∨ (a < 0x100 ∧ 0x80 < e) then d.apdu [] 0x6A82
    else if 0x3000 < e ∧ !d.tagService then d.apdu [] 0x6982
    else d.apdu (d.mirror a le.toNat) 0x9000

/-- GET_SIG (R365). -/
def execGetSig (p le : BitVec 16) (s : State) : Out :=
  s.vbat fun d => d.onApdu fun d =>
    if p ≠ 0 then d.apdu [] 0x6A86 else if le ≠ 64 then d.apdu [] 0x6700 else d.apdu d.sigB 0x9000

/-- GET_INFO (R365). -/
def execGetInfo (p le : BitVec 16) (s : State) : Out :=
  s.vbat fun d => d.onApdu fun d =>
    if p ≠ 0 then d.apdu [] 0x6A86
    else if le ≠ 12 then d.apdu [] 0x6700
    else d.apdu (leBytes 4 d.chip.variant.code ++ leBytes 1 d.tagState ++ leBytes 1 d.tag.keyVer ++ leBytes 4 d.tag.snapSeq ++
      leBytes 2 d.tag.logSeq) 0x9000

/-- AUTH_BEGIN (R363): the encrypted tag random is a free value. -/
def execAuthBegin (p le : BitVec 16) (s : State) : Out :=
  s.vbat fun d => d.onApdu fun d =>
    if !d.fullTag ∨ d.tagState ≠ Tg.PUBLIC then d.apdu [] 0x6985
    else if d.bit WTG.STAT_BLOCKED then d.apdu [] 0x6983
    else if p.toNat % 256 ≠ 0 ∨ p.toNat / 256 ≠ d.tag.keyVer ∨ !d.tag.keySet then d.apdu [] 0x6A86
    else if le ≠ 16 then d.apdu [] 0x6700
    else
      let (r, d) := d.freeBytes 16
      (d.modTag fun t => { t with authPend := true }).apdu r 0x9000

/-- A failed authentication (R363): counted; the third in a field session blocks. -/
def Dev.tagFail (d : Dev) (code : Nat) : Dev :=
  let d := d.modTag fun t => { t with authPend := false, fails := t.fails + 1 }
  let d := ((d.bump WTG.AUTH_FAIL_CNT).tagLog code 0 0).raise WTG.page WTG.ev_AUTH_FAIL
  if d.tag.fails = 3 then (d.setBit WTG.STAT_BLOCKED true).tagLog 8 0 0 else d

/-- AUTH_END (R363): `ok` is what the check of rot(RndT) gives. -/
def execAuthEnd (p len : BitVec 16) (ok : Bool) (s : State) : Out :=
  s.vbat fun d => d.onApdu fun d =>
    if !d.fullTag ∨ !d.tag.authPend then d.apdu [] 0x6985
    else if p ≠ 0 then d.apdu [] 0x6A86
    else if len ≠ 32 then d.apdu [] 0x6700
    else if ok then
      let d := (d.modTag fun t => { t with authPend := false }).set WTG.STAT_STATE Tg.AUTH
      let d := (d.tagLog 2 0 0).raise WTG.page WTG.ev_AUTH
      let (r, d) := d.freeBytes 16
      d.apdu r 0x9000
    else (d.tagFail 3).apdu [] 0x6982

/-- VERIFY_PWD (R362, R363). -/
def execVerifyPwd (p : BitVec 16) (pwd : List Byte) (s : State) : Out :=
  s.vbat fun d => d.onApdu fun d =>
    if d.fullTag then d.apdu [] 0x6985
    else if d.bit WTG.STAT_BLOCKED then d.apdu [] 0x6983
    else if p ≠ 0 then d.apdu [] 0x6A86
    else if pwd.length ≠ 8 then d.apdu [] 0x6700
    else if d.tag.pwd = 0 then d.apdu [] 0x6985
    else if ofLe pwd = d.tag.pwd then
      (((d.set WTG.STAT_STATE Tg.SECURED).tagLog 4 0 0).raise WTG.page WTG.ev_AUTH).apdu [] 0x9000
    else (d.tagFail 5).apdu [] 0x6982

/-- A record write commits (R368). -/
def Dev.recordPut (d : Dev) (r txn : Nat) (data : List Byte) : Dev :=
  let d := (d.mirrorPut (64 * r) data).modTag fun t => { t with txns := (r, txn) :: t.txns.filter fun x => x.1 != r }
  (d.tagLog 6 (r % 256) txn).raise WTG.page WTG.ev_WRITE

/-- WRITE_RECORD (R365, R368): P1 is the record; `cut` says how the write goes. -/
def execWriteRecord (p txn : BitVec 16) (data : List Byte) (macOk : Bool) (cut : Collapse) (s : State) : Out :=
  s.vbat fun d => d.onApdu fun d =>
    let r := p.toNat / 256
    if p.toNat % 256 ≠ 0 ∨ r < 192 ∨ 239 < r then d.apdu [] 0x6A86
    else if data.length ≠ 64 then d.apdu [] 0x6700
    else if !d.tagService then d.apdu [] 0x6982
    else if d.fullTag ∧ !macOk then (d.set WTG.STAT_STATE Tg.PUBLIC).apdu [] 0x6982
    else if d.tag.txns.contains (r, txn.toNat) then
      (if d.mirror (64 * r) 64 = data then d.apdu [] 0x9000 else d.apdu [] 0x6985)
    else match cut with
      | .none => (d.recordPut r txn.toNat data).apdu [] 0x9000
      | .crc => d.apdu [] 0x6581
      | .before => d.fieldLost
      | .during => d.fieldLost
      | .between => (d.modTag fun t => { t with shadow := true }).fieldLost
      | .after => (d.recordPut r txn.toNat data).fieldLost

/-! ### Host side of the tag (R369, R374) -/

/-- WCMD.GO with a RECORD (R369, R374). -/
def execHostRecordWrite (m : Master) (rec : BitVec 8) (s : State) : Out :=
  s.on fun d => d.guard m .WTG 0x0C0 fun d =>
    if rec.toNat < 192 ∨ 239 < rec.toNat then d.reject WTG.page Err.RANGE
    else if d.tag.host.isSome then d.reject WTG.page Err.BUSY
    else
      let l := d.rdWords WTG.WBUF 16
      let d := (d.set WTG.WCMD_RECORD rec.toNat).modTag fun t => { t with host := some (rec.toNat, l) }
      ((d.setBit WTG.WSTAT_PENDING true).setBit WTG.WSTAT_DONE false).setBit WTG.WSTAT_FAIL false

/-- HOST_RECORD_COMMIT (R369). -/
def execHostRecordCommit (s : State) : Out := s.on fun d => d.hostCommit

/-- A read of HOST_DATA (R369, R374): HOST_DATA holds what was read; `busy`, an RF command did not end within 5 ms. -/
def execHostDataRead (m : Master) (busy : Bool) (s : State) : Out :=
  s.on fun d =>
    if m = .ylr ∨ m = .upd then d
    else if busy then (d.wrN WTG.HOST_DATA 0).reject WTG.page Err.BUSY
    else
      let a := d.get WTG.HOST_ADDR_ADDR / 4 * 4
      let v := if 0x80 ≤ a ∧ a < 0x100 then 0 else ofLe (d.mirror a 4)
      (d.wrN WTG.HOST_DATA v).set WTG.HOST_ADDR_ADDR (a + 4)

/-- KEY_TO_TAG (R337, R349, R363): the vault writes key and version; the message carries no version, so it is free. -/
def execKeyToTag (q : VltReq) (slot : BitVec 8) (intact : Bool) (s : State) : Out :=
  s.on fun d => d.vltServe q 0x0510 { domain := true } fun d =>
    if !d.fullTag then (Err.NOT_FUSED, [], d)
    else d.useSlot q slot.toNat .toTag intact fun d _ _ _ =>
      let (v, d) := d.free
      let d := d.modTag fun t => { t with keySet := true, keyVer := v % 256 }
      (Err.NONE, [], d.set WTG.STAT_KEY_VER (v % 256))

end Sys2Proof.Machine
end

