-- ==== Sys2Proof/Machine/EPaper.lean ====
section
/-!
DEFINITION. The e-paper controller (ch. 16): rails, waveform table and bands, regions of the panel, the legal rectangle,
blink regions, and the dirty record.
-/
namespace Sys2Proof.Machine

open Sys2Proof

/-! ### DMA channels (R419) -/

/-- A channel number of a 4-bit field. -/
def chan (n : Nat) : Fin 16 := ⟨n % 16, Nat.mod_lt _ (by decide)⟩

/-- A channel is active. -/
def Dev.chActive (d : Dev) (c : Fin 16) : Bool := d.bit (DMA.CH_STAT_ACTIVE c)

/-- EXI (1) or EPD (2) claims a channel, or releases it (R419). -/
def Dev.claim (d : Dev) (c : Fin 16) (who : Nat) : Dev :=
  let d := (d.setBit (DMA.CH_STAT_CLAIMED c) (who != 0)).set (DMA.CH_STAT_CLAIMER c) who
  d.setFlag DMA.CH_CLAIM_CLAIM c.val (who != 0)

/-! ### The controller -/

/-- Change the controller. -/
def Dev.modEpd (d : Dev) (f : EpdInt → EpdInt) : Dev := { d with epd := f d.epd }

/-! ### Rectangles -/

/-- Two rectangles share a pixel. -/
def Rect.meets (a b : Rect) : Bool :=
  decide (max a.x b.x < min (a.x + a.w) (b.x + b.w) ∧ max a.y b.y < min (a.y + a.h) (b.y + b.h))

/-- A pixel lies in a rectangle. -/
def Rect.has (r : Rect) (x y : Nat) : Bool := decide (r.x ≤ x ∧ x < r.x + r.w ∧ r.y ≤ y ∧ y < r.y + r.h)

/-- A rectangle lies on the panel (R385). -/
def Dev.onPanel (d : Dev) (r : Rect) : Bool := decide (r.x + r.w ≤ d.get EPD.PANEL_W ∧ r.y + r.h ≤ d.get EPD.PANEL_H)

/-- The legal rectangle (R387); empty while its width or height is 0. -/
def Dev.legalRect (d : Dev) : Rect :=
  ⟨d.get EPDR.RECT_XY_X, d.get EPDR.RECT_XY_Y, d.get EPDR.RECT_WH_W, d.get EPDR.RECT_WH_H⟩

/-- Blink region `k` (R388). -/
def Dev.blinkRect (d : Dev) (k : Nat) : Rect :=
  ⟨d.get (EPD.BLINK_XY_X k), d.get (EPD.BLINK_XY_Y k), d.get (EPD.BLINK_WH_W k), d.get (EPD.BLINK_WH_H k)⟩

/-- A rectangle overlaps an enabled blink region. -/
def Dev.meetsBlink (d : Dev) (r : Rect) : Bool :=
  (List.range 4).any fun k => d.bit (EPD.BLINK_CTL_EN k) && r.meets (d.blinkRect k)

/-! ### Waveform table and bands (R383, R384) -/

/-- Every entry of the table lies in it, with the frame counts its modes allow (R383). -/
def dirOk (modes total : Nat) (dir : List Nat) : Option Nat :=
  let bad3 := dir.zipIdx.any fun x =>
    let n := x.1 / 2 ^ 24
    x.1 % 64 != 0 || (if modes.testBit (x.2 / 16) then n == 0 || decide (128 < n) else n != 0)
  let bad4 := dir.any fun w => w / 2 ^ 24 != 0 && decide (total < w % 2 ^ 24 + 64 * (w / 2 ^ 24))
  if bad3 then some 3 else if bad4 then some 4 else none

/-- A byte holds no code 0b11. -/
def codesOk (b : Byte) : Bool := (List.range 4).all fun i => b.toNat / 4 ^ i % 4 != 3

/-- Check the waveform table at an address (R383): the cause, or the table. Of several faults the first in this order is named
(assumption 174). -/
def Dev.wfCheck (d : Dev) (a : Nat) : Nat ⊕ WfTable :=
  let modes := d.rdLe (a + 6) 2
  let lo := (List.range 16).map fun b => signed 16 (d.rdLe (a + 0x10 + 2 * b) 2)
  let dir := (List.range 128).map fun i => d.rdLe (a + 0x30 + 4 * i) 4
  let total := d.rdLe (a + 0x230) 4
  let asc := (lo.zip (lo.drop 1)).all fun x => decide (x.1 < x.2)
  if d.rdLe a 4 ≠ 0x31564157 ∨ d.rdLe (a + 4) 2 ≠ 1 then .inl 1
  else if 524288 < total ∨ total < 0x240 then .inl 4
  else if crc32 (d.rdBytes a 0x234 ++ [0, 0, 0, 0] ++ d.rdBytes (a + 0x238) (total - 0x238)) ≠ d.rdLe (a + 0x234) 4 then .inl 2
  else if !modes.testBit 0 ∨ 255 < modes ∨ !asc then .inl 3
  else match dirOk modes total dir with
    | some c => .inl c
    | none =>
      let codes := dir.all fun w => (d.rdBytes (a + w % 2 ^ 24) (64 * (w / 2 ^ 24))).all codesOk
      if codes then .inr { modes := modes, id := d.rdLe (a + 8) 4, bandLo := lo, dir := dir, addr := a } else .inl 5

/-- TEMP (R384). -/
def Dev.epdTemp (d : Dev) : Int := signed 12 (d.get EPD.TEMP_TEMP)

/-- The measured band (R384). -/
def Dev.band (d : Dev) : Nat :=
  match d.epd.table with
  | none => 0
  | some t => if 600 ≤ d.epdTemp then 15 else ((t.bandLo.filter fun lo => decide (lo ≤ d.epdTemp)).length - 1)

/-- TEMP_RANGE follows TEMP (R384). -/
def Dev.tempShow (d : Dev) : Dev :=
  let low := match d.epd.table with
    | none => false
    | some t => decide (d.epdTemp < (t.bandLo.head?).getD 0)
  d.setBit EPD.STAT_TEMP_RANGE (low || decide (600 ≤ d.epdTemp))

/-- Frames of a mode in a band; none where the mode is absent. -/
def Dev.modeFrames (d : Dev) (mode band : Nat) : Nat :=
  match d.epd.table with
  | none => 0
  | some t => ((t.dir[16 * mode + band]?).getD 0) / 2 ^ 24

/-- A mode is present in the loaded table (R385). -/
def Dev.modeIn (d : Dev) (mode : Nat) : Bool :=
  match d.epd.table with
  | none => false
  | some t => t.modes.testBit mode

/-- WF_SEL with LOAD (R384). -/
def execWfLoad (m : Master) (w : Word) (s : State) : Out :=
  s.on fun d => d.startWork m .EPD 0x080 (fun d =>
      if w.toNat % 16 ≠ 0 then some Err.RANGE else if !d.epd.running.isEmpty then some Err.BUSY else none) fun d =>
    let ofs := w.toNat % 2 ^ 20
    let d := d.set EPD.WF_SEL_OFFSET ofs
    match d.wfCheck (d.tblBase + ofs) with
    | .inl c =>
      (((d.setBit EPD.WF_STAT_BAD true).set EPD.WF_STAT_CAUSE c).raise EPD.page EPD.ev_WF_BAD).reject EPD.page Err.RANGE
    | .inr t =>
      let d := d.modEpd fun e => { e with table := some t, lut := [] }
      let d := d.tblRead 5
      (((d.setBit EPD.WF_STAT_LOADED true).setBit EPD.WF_STAT_BAD false).set EPD.WF_STAT_CAUSE 0).wrN EPD.WF_ID t.id |>.tempShow

/-- The bytes of a mode's frames in a band of the table. -/
def Dev.modeBytes (d : Dev) (t : WfTable) (mode band : Nat) : List Byte :=
  let w := (t.dir[16 * mode + band]?).getD 0
  d.rdBytes (t.addr + w % 2 ^ 24) (64 * (w / 2 ^ 24))

/-- BAND_LOAD (R384): with nothing running and the measured band not the loaded one. -/
def execBandLoad (s : State) : Out :=
  s.on fun d =>
    let b := d.band
    match d.epd.table with
    | none => d
    | some t =>
    if !d.epd.running.isEmpty || (!d.epd.lut.isEmpty && b == d.get EPD.STAT_BAND) || !d.enabled .EPD then d
    else
      let d := (d.set EPD.STAT_BAND b).modEpd fun e => { e with lut := (List.range 8).map fun m => d.modeBytes t m b }
      let n := fun k => d.modeFrames k b
      let w := fun k => n k + n (k + 1) * 2 ^ 8 + n (k + 2) * 2 ^ 16 + n (k + 3) * 2 ^ 24
      (d.wrN (EPD.NFRAMES 0) (w 0)).wrN (EPD.NFRAMES 1) (w 4)

/-- TEMP has not been written for MAX_AGE (R384). -/
def execTempStale (s : State) : Out :=
  s.on fun d => if d.get EPD.TEMPCFG_MAX_AGE ≤ d.epd.tempSec then d.setBit EPD.STAT_TEMP_STALE true else d

/-- A second passes for TEMP's age (R384). -/
def Dev.tempSecond (d : Dev) : Dev := d.modEpd fun e => { e with tempSec := e.tempSec + 1 }

/-- TEMP has been written (R384). -/
def Dev.tempWritten (d : Dev) : Dev :=
  ((d.modEpd fun e => { e with tempSec := 0 }).setBit EPD.STAT_TEMP_STALE false).tempShow

/-! ### Rails (R378–R380) -/

/-- Run a sequence table on the balls: EPD_EN and VCOM. -/
def railSeq : List Nat → Nat × Bool → Nat × Bool
  | [], p => p
  | w :: l, p =>
    let pin := w / 16 % 4
    match w % 8 with
    | 0 => p
    | 1 => railSeq l (setBitN p.1 pin true, p.2)
    | 2 => railSeq l (setBitN p.1 pin false, p.2)
    | 3 => railSeq l (p.1, true)
    | 4 => railSeq l (p.1, false)
    | _ => railSeq l p

/-- The steps of a sequence up to its END (R378). -/
def seqSteps (l : List Nat) : List Nat := l.takeWhile fun w => w % 8 != 0

/-- The ON and the OFF table. -/
def Dev.onTable (d : Dev) : List Nat := seqSteps ((List.range 8).map fun k => d.get (EPD.RSEQ_ON_STEP k))
def Dev.offTable (d : Dev) : List Nat := seqSteps ((List.range 8).map fun k => d.get (EPD.RSEQ_OFF_STEP k))

/-- The ON sequence, to its end with EPD_PG high (R378, R379). -/
def Dev.railsOn (d : Dev) : Dev :=
  if d.bit EPD.STAT_RAILS_ON then d
  else
    let p := railSeq d.onTable (d.epd.en, d.epd.vcom)
    ((d.modEpd fun e => { e with en := p.1, vcom := p.2 }).setBit EPD.STAT_RAILS_ON true).setBit EPD.STAT_PG true

/-- The OFF sequence, to its end: EPD_DSCH is high for the sum of its DELAYs (R378, R380). -/
def Dev.offSeq (d : Dev) : Dev :=
  let p := railSeq d.offTable (d.epd.en, d.epd.vcom)
  let len := (d.offTable.map fun w => w / 256 % 256).sum
  ((d.modEpd fun e => { e with en := p.1, vcom := p.2, dsch := len }).setBit EPD.STAT_RAILS_ON false).setBit EPD.STAT_PG false

/-- The rails go off, if they are on. -/
def Dev.railsOff (d : Dev) : Dev := if d.bit EPD.STAT_RAILS_ON then d.offSeq else d

/-- The ON sequence as far as a WAIT_PG that times out (R379). -/
def Dev.railsTry (d : Dev) : Dev :=
  let p := railSeq (d.onTable.takeWhile fun w => w % 8 != 5) (d.epd.en, d.epd.vcom)
  d.modEpd fun e => { e with en := p.1, vcom := p.2 }

/-! ### Regions (R385, R386, R390) -/

/-- The controller's two channels (R377). -/
def Dev.epdChans (d : Dev) : List (Fin 16) := [chan (d.get EPD.DMA_DMA_RD), chan (d.get EPD.DMA_DMA_WR)]

/-- One of them is active under software, or the codec claims it: no region starts (R419). -/
def Dev.epdChanBusy (d : Dev) : Bool := d.epdChans.any fun c => d.chActive c || d.get (DMA.CH_STAT_CLAIMER c) == 1

/-- The controller gives its channels back (R419). -/
def Dev.epdRelease (d : Dev) : Dev :=
  (List.finRange 16).foldl (fun d (c : Fin 16) => if d.get (DMA.CH_STAT_CLAIMER c) = 2 then d.claim c 0 else d) d

/-- REG_ACT, the legal processor's RUNNING and QUEUED and the claims (R419) follow the lists. -/
def Dev.epdShow (d : Dev) : Dev :=
  let d := if d.epd.running.isEmpty then d.epdRelease else d
  let m := fun (l : List Region) => l.foldl (fun n r => if r.id < 16 then setBitN n r.id true else n) 0
  let lg := fun (l : List Region) => l.any fun r => r.src == .legal
  let d := (d.set EPD.REG_ACT_RUN (m d.epd.running)).set EPD.REG_ACT_QUEUE (m d.epd.queue)
  let d := (d.setBit EPDR.STAT_RUNNING (lg d.epd.running)).setBit EPDR.STAT_QUEUED (lg d.epd.queue)
  d.setBit EPD.UPD_RES_QUEUED (d.epd.queue.any fun r => r.id == d.get EPD.UPD_RES_ID)

/-- DIRTY_CNT and DIRTYk follow the record (R390). -/
def Dev.dirtyShow (d : Dev) : Dev :=
  let d := d.set EPD.DIRTY_CNT_CNT d.epd.dirty.length
  (List.range 20).foldl (fun d k =>
    match d.epd.dirty[k]? with
    | some r => (d.wrN (EPD.DIRTY_XY k) (r.x + r.y * 2 ^ 16)).wrN (EPD.DIRTY_WH k) (r.w + r.h * 2 ^ 16)
    | none => (d.wrN (EPD.DIRTY_XY k) 0).wrN (EPD.DIRTY_WH k) 0) d

/-- Record the running regions and toggles as dirty, at most 20 rectangles; they run no more (R389, R390). -/
def Dev.dirtyRunning (d : Dev) : Dev :=
  let new := d.epd.running.map (·.rect)
  let all := new.foldl (fun l r => if l.contains r then l else l ++ [r]) d.epd.dirty
  ((d.modEpd fun e => { e with dirty := all.take 20, running := [] }).dirtyShow).epdShow

/-- The shed level defers new updates and pauses toggles (R391). -/
def Dev.epdDeferred (d : Dev) : Bool := decide (1 ≤ d.get PWR.STAT_LEVEL)

/-- The region ID of a new request, none with 16 queued (R385): the lowest that no request holds, else the lowest that no queued one
holds (assumption 175). -/
def Dev.freeRegion (d : Dev) : Option Nat :=
  let free := fun (l : List Region) => (List.range 16).find? fun i => !l.any fun r => r.id == i
  if 16 ≤ d.epd.queue.length then none else (free (d.epd.queue ++ d.epd.running)).or (free d.epd.queue)

/-- Queue a request (R385). -/
def Dev.queueRegion (d : Dev) (id : Nat) (r : Rect) (mode : Nat) (src : RegSrc) : Dev :=
  let d := d.modEpd fun e => { e with queue := e.queue ++ [{ id := id, rect := r, mode := mode, src := src }] }
  (if d.epdDeferred then d.setBit EPD.STAT_DEFERRED true else d).epdShow

/-- UPD_CTL with GO (R385). -/
def execUpdXyGo (m : Master) (mode : BitVec 3) (s : State) : Out :=
  s.on fun d => d.startWork m .EPD 0x06C (fun _ => none) fun d =>
    let d := d.set EPD.UPD_CTL_MODE mode.toNat
    let r : Rect := ⟨d.get EPD.UPD_XY_X, d.get EPD.UPD_XY_Y, d.get EPD.UPD_WH_W, d.get EPD.UPD_WH_H⟩
    if !d.onPanel r ∨ !d.modeIn mode.toNat then d.reject EPD.page Err.RANGE
    else if r.meets d.legalRect then d.reject EPD.page Err.LEGAL_DENIED
    else if d.meetsBlink r then d.reject EPD.page Err.SEQUENCE
    else match d.freeRegion with
      | none => d.reject EPD.page Err.BUSY
      | some id => (d.set EPD.UPD_RES_ID id).queueRegion id r mode.toNat .epd

/-- EPDR.CTL with GO (R385, R387). -/
def execEpdrGo (m : Master) (mode : BitVec 3) (s : State) : Out :=
  s.on fun d => d.guard m .EPDR 0x04C fun d =>
    let d := d.set EPDR.CTL_MODE mode.toNat
    let r := d.legalRect
    if d.bit EPDR.STAT_WB_REQ then d.reject EPDR.page Err.SEQUENCE
    else if !d.onPanel r ∨ !d.modeIn mode.toNat then d.reject EPDR.page Err.RANGE
    else if d.meetsBlink r then d.reject EPDR.page Err.SEQUENCE
    else match d.freeRegion with
      | none => d.reject EPDR.page Err.BUSY
      | some id => (d.setBit EPDR.STAT_TEMP_SHIFT false).queueRegion id r mode.toNat .legal

/-- The order in which starts are made (R385, R390): the legal processor's requests ahead of the others. -/
def Dev.startOrder (d : Dev) : List Region :=
  (d.epd.queue.filter fun r => r.src == .legal) ++ d.epd.queue.filter fun r => r.src != .legal

/-- The first request that may start: no earlier request, running or queued, overlaps it. -/
def startable (running : List Region) : List Region → List Region → Option Region
  | _, [] => none
  | seen, r :: l =>
    if (running ++ seen).any fun x => x.rect.meets r.rect then startable running (seen ++ [r]) l else some r

/-- The dirty rectangle that is cleaned next, with the first region number from 16 on (R390). -/
def Dev.nextClean (d : Dev) : Option Region :=
  let todo := d.epd.dirty.filter fun x => !d.epd.running.any fun r => r.src == .clean && r.rect == x
  let id := ((List.range 20).find? fun k => !d.epd.running.any fun r => r.id == 16 + k).getD 0
  (todo.head?).map fun x => { id := 16 + id, rect := x, mode := 0, src := .clean }

/-- Start a region at a frame start: it latches the loaded band and claims the channels (R385, R419). -/
def Dev.regionRun (d : Dev) (r : Region) : Dev :=
  let b := d.get EPD.STAT_BAND
  let d := d.epdChans.foldl (fun d c => d.claim c 2) d
  let d := d.railsOn.modEpd fun e =>
    { e with queue := e.queue.erase r,
             running := e.running ++ [{ r with frame := 0, frames := d.modeFrames r.mode b, band := b }] }
  d.epdShow

/-- The panel takes new regions: on and not draining, not in hold-up, the measured band loaded, fewer than 16 running. -/
def Dev.panelReady (d : Dev) : Bool :=
  d.takesWork .EPD && !d.epd.halted && !d.epdDeferred && !d.epd.lut.isEmpty && d.band == d.get EPD.STAT_BAND &&
    decide (d.epd.running.length < 16)

/-- Start a region, unless software runs one of its channels: BUSY then, and the region waits (R419). -/
def Dev.regionTry (d : Dev) (r : Region) : Dev := if d.epdChanBusy then d.reject EPD.page Err.BUSY else d.regionRun r

/-- The region that starts next (R385, R390): the cleaning's before any request. -/
def Dev.nextRegion (d : Dev) : Option Region :=
  if d.bit EPD.STAT_CLEANING then
    d.nextClean.filter fun r => !d.epd.running.any fun x => x.rect.meets r.rect
  else startable d.epd.running [] d.startOrder

/-- REGION_START (R385, R390, R391, R419). -/
def execRegionStart (s : State) : Out :=
  s.on fun d =>
    if !d.panelReady then d
    else match d.nextRegion with
      | some r => d.regionTry r
      | none => d

/-- Where a pixel lies in the pixel store (R381), and in the legal display region (R387). -/
def Dev.psAddr (d : Dev) (x y : Nat) : Nat := d.rdN EPD.PS_BASE + y * d.get EPD.PS_STRIDE_STRIDE + x
def Dev.lgAddr (d : Dev) (x y : Nat) : Nat :=
  let r := d.legalRect
  d.rdN EPDR.LS_BASE + (y - r.y) * r.w + (x - r.x)

/-- Where the blink SRAM's bytes lie among the byte memories: above every bus address. -/
def blinkBase : Nat := 0x100010000

/-- Bytes of the two images of a blink region. -/
def Dev.blinkBytes (d : Dev) (k : Nat) : Nat := 2 * ((d.get (EPD.BLINK_WH_W k) * d.get (EPD.BLINK_WH_H k) + 1) / 2)

/-- Pixel `i` of blink region `k`'s image A, or B (R388): four bits each, the lower ones first (assumption 176). -/
def Dev.blinkPixel (d : Dev) (k : Nat) (b : Bool) (i : Nat) : Nat :=
  let a := blinkBase + 32 * d.get (EPD.BLINK_BASE_BASE k) + (if b then d.blinkBytes k / 2 else 0) + i / 2
  (d.rdByte a).toNat / 16 ^ (i % 2) % 16

/-- The old and the new level of a region's pixel (R381, R385, R387, R388); what the address filter blocks reads 0 (R20). -/
def Dev.levels (d : Dev) (r : Region) (x y : Nat) : Nat × Nat :=
  if r.mode = 0 then (0, 15)
  else match r.src with
    | .blink k =>
      let i := (y - r.rect.y) * r.rect.w + (x - r.rect.x)
      let b := d.bit (EPD.BLINK_CTL_SHOW_B k.val)
      (d.blinkPixel k.val b i, d.blinkPixel k.val (!b) i)
    | _ =>
      let a := if d.legalRect.has x y then d.lgAddr x y else d.psAddr x y
      let v := if d.filterAllows .dma a false then (d.rdByte a).toNat else 0
      (v / 16, v % 16)

/-- What the source driver gives a pixel in the present frame (R375, R377, R383): 0 no drive, 1 VPOS, 2 VNEG; `late` is a line whose data
was not ready. -/
def Dev.pixelDrive (d : Dev) (late : Option (BitVec 11)) (x y : Nat) : Nat :=
  match d.epd.running.find? fun r => r.rect.has x y with
  | none => 0
  | some r =>
    if r.frames ≤ r.frame ∨ late.map BitVec.toNat = some y then 0
    else
      let (o, n) := d.levels r x y
      let b := (((d.epd.lut[r.mode]?).getD [])[r.frame * 64 + o * 4 + n / 4]?).getD 0
      b.toNat / 4 ^ (n % 4) % 4

/-- The first pixel of a region that the controller may not read from the pixel store (R377): INIT, the legal rectangle and blink images
read nothing there. -/
def Dev.blockedPixel (d : Dev) (r : Region) : Option Nat :=
  if r.mode = 0 ∨ r.src == .legal ∨ decide (40 ≤ r.id) then none
  else (List.range r.rect.h).findSome? fun j => ((List.range r.rect.w).map fun i => (r.rect.x + i, r.rect.y + j)).findSome? fun p =>
    let a := d.psAddr p.1 p.2
    if d.legalRect.has p.1 p.2 || (memRegion a).isNone || d.filterAllows .dma a false then none else some a

/-- Every running region counts the frame that has ended; `hit`: a line of the region was not driven (R377, R385). -/
def Dev.frameCount (d : Dev) (hit : Region → Bool) : Dev :=
  d.modEpd fun e => { e with lastFrame := false, running := e.running.map fun r =>
    { r with frame := min r.frames (r.frame + 1), under := r.under || hit r } }

/-- EPD_FRAME (R376, R377, R379, R385): every running region counts a frame; `late`, a line whose data was not ready; `sns`, VCOM_SNS
read back. A region whose pixels the filter blocks makes one blocked access a frame (assumption 177). In hold-up only the frame in
progress ends (R389). -/
def execEpdFrame (late : Option (BitVec 11)) (sns : BitVec 12) (s : State) : Out :=
  s.on fun d =>
    if d.epd.running.isEmpty || (d.epd.halted && !d.epd.lastFrame) then d
    else
      let hit := fun (r : Region) => match late with
        | some y => decide (r.rect.y ≤ y.toNat ∧ y.toNat < r.rect.y + r.rect.h)
        | none => false
      let d := d.epd.running.foldl (fun d r => match d.blockedPixel r with
        | some a => d.fwBlock .dma a false
        | none => d) d
      let d := d.frameCount hit
      let d := if d.epd.vcom then d.set EPD.VCOM_SNS sns.toNat else d
      if late.isSome then (d.setBit EPD.STAT_UNDERRUN true).raise EPD.page EPD.ev_UNDERRUN else d

/-- Write OLD of the pixels of a finished region that lie outside the legal rectangle (R381, R385, R387) and where the DMA
column of R19 lets the controller write (R377); a pixel it may not write is a blocked access (R20). -/
def Dev.writeOld (d : Dev) (r : Rect) (init : Bool) : Dev :=
  let lg := d.legalRect
  (List.range r.h).foldl (fun d j => (List.range r.w).foldl (fun d i =>
    let x := r.x + i
    let y := r.y + j
    let a := d.psAddr x y
    if lg.has x y then d
    else if !d.filterAllows .dma a true then (if (memRegion a).isNone then d else d.fwBlock .dma a true)
    else
      let new := (d.rdByte a).toNat % 16
      d.wrByte a (BitVec.ofNat 8 (16 * (if init then 15 else new) + new))) d) d

/-- The legal rectangle is owed its write-back (R387). -/
def Dev.wbAsk (d : Dev) (init : Bool) : Dev :=
  ((d.setBit EPDR.STAT_WB_REQ true).setBit EPDR.STAT_WB_INIT (init || d.bit EPDR.STAT_WB_INIT)).raise EPDR.page EPDR.ev_WB_REQ

/-- Queue a redo: INIT, then the mode (R386), while there is room. -/
def Dev.redo (d : Dev) (r : Region) : Dev :=
  [0, r.mode].foldl (fun d m =>
    match d.freeRegion with
    | some id => d.queueRegion id r.rect m .epd
    | none => d) d

/-- A region ended with the band shifted by more than one, or with a line not driven (R377, R386). No toggle is redone, and no
cleaned rectangle that meets the legal one (assumption 178). -/
def Dev.tempShift (d : Dev) (r : Region) : Dev :=
  let b := d.band
  if 1 < max b r.band - min b r.band ∨ r.under then
    match r.src with
    | .legal => (d.setBit EPDR.STAT_TEMP_SHIFT true).raise EPDR.page EPDR.ev_TEMP_SHIFT
    | .epd =>
      let d := (d.setBit EPD.STAT_TEMP_SHIFT true).raise EPD.page EPD.ev_TEMP_SHIFT
      if d.bit EPD.CFG_AUTO_REDO then d.redo r else d
    | .clean =>
      let d := (d.setBit EPD.STAT_TEMP_SHIFT true).raise EPD.page EPD.ev_TEMP_SHIFT
      if d.bit EPD.CFG_AUTO_REDO && !r.rect.meets d.legalRect then d.redo r else d
    | .blink _ => (d.setBit EPD.STAT_TEMP_SHIFT true).raise EPD.page EPD.ev_TEMP_SHIFT
  else d

/-- What a finished region leaves, by its source (R385–R388, R390). -/
def Dev.regionDone (d : Dev) (r : Region) : Dev :=
  let init := r.mode == 0
  match r.src with
  | .epd =>
    let d := d.writeOld r.rect init
    (d.set EPD.REG_DONE_DONE (setBitN (d.get EPD.REG_DONE_DONE) r.id true)).raise EPD.page EPD.ev_DONE
  | .legal => (d.wbAsk init).raise EPDR.page EPDR.ev_DONE
  | .clean =>
    let d := (d.writeOld r.rect true).modEpd fun e => { e with dirty := e.dirty.filter fun x => x != r.rect }
    let d := if r.rect.meets d.legalRect then d.wbAsk true else d
    let d := d.dirtyShow
    if d.epd.dirty.isEmpty then (d.setBit EPD.STAT_CLEANING false).raise EPD.page EPD.ev_CLEAN_DONE else d
  | .blink k =>
    (d.setBit (EPD.BLINK_CTL_SHOW_B k.val) !(d.bit (EPD.BLINK_CTL_SHOW_B k.val))).raise EPD.page EPD.ev_BLINK

/-- REGION_END (R385): requests are numbered 0–15, the cleaning's regions 16–35, the blink regions' toggles 40–43. -/
def execRegionEnd (id : Fin 64) (s : State) : Out :=
  s.on fun d =>
    match d.epd.running.find? fun r => r.id == id.val && r.frame == r.frames with
    | none => d
    | some r =>
      let d := (d.modEpd fun e => { e with running := e.running.erase r }).regionDone r
      (d.tempShift r).epdShow

/-- WB_ACK (R387). -/
def execWbAck (m : Master) (s : State) : Out :=
  s.on fun d => d.guard m .EPDR 0x04C fun d => (d.setBit EPDR.STAT_WB_REQ false).setBit EPDR.STAT_WB_INIT false

/-- A legal region runs or waits. -/
def Dev.legalBusy (d : Dev) : Bool := (d.epd.queue ++ d.epd.running).any fun r => r.src == .legal

/-- A write of RECT_XY, or of RECT_WH (R387). -/
def execRectWrite (m : Master) (wh : Bool) (w : Word) (s : State) : Out :=
  s.on fun d => d.guard m .EPDR (if wh then 0x044 else 0x040) fun d =>
    let old := d.legalRect
    let a := w.toNat % 2 ^ 11
    let b := w.toNat / 2 ^ 16 % 2 ^ 11
    let r : Rect := if wh then ⟨old.x, old.y, a, b⟩ else ⟨a, b, old.w, old.h⟩
    if d.legalBusy then d.reject EPDR.page Err.BUSY
    else if !d.onPanel r ∨ 524288 < r.w * r.h ∨ d.meetsBlink r then d.reject EPDR.page Err.RANGE
    else if wh then (d.set EPDR.RECT_WH_W a).set EPDR.RECT_WH_H b
    else (d.set EPDR.RECT_XY_X a).set EPDR.RECT_XY_Y b

/-- No region runs, waits or blinks. -/
def Dev.panelIdle (d : Dev) : Bool :=
  d.epd.running.isEmpty && d.epd.queue.isEmpty && (List.range 4).all fun k => !d.bit (EPD.BLINK_CTL_EN k)

/-- RAIL_IDLE_OFF (R378). -/
def execRailIdleOff (s : State) : Out := s.on fun d => if d.panelIdle then d.railsOff else d

/-- The fault can be: a PG timeout while the rails come on for a region or a toggle, EPD_PG low with the rails on, or VCOM_SNS more
than 50 mV off (R379); VCOM_SNS is read. -/
def Dev.railBad (d : Dev) (c : RailCause) : Option Dev :=
  let on := d.bit EPD.STAT_RAILS_ON
  match c with
  | .pgTimeout =>
    let due := d.nextRegion.isSome || (List.range 4).any fun k => d.bit (EPD.BLINK_CTL_EN k)
    if !on && d.panelReady && due && d.onTable.any (fun w => w % 8 == 5) then some d.railsTry.offSeq else none
  | .pgLow => if on then some d else none
  | .vcom sns =>
    let dif := max sns.toNat (d.get EPD.VCOM_CODE) - min sns.toNat (d.get EPD.VCOM_CODE)
    if on && d.epd.vcom && decide (50 * 4096 < 2500 * dif) then some (d.set EPD.VCOM_SNS sns.toNat) else none

/-- RAIL_FAULT (R379). -/
def execRailFault (cause : RailCause) (s : State) : Out :=
  s.on fun d =>
    match d.railBad cause with
    | none => d
    | some d =>
      let d := ((d.setBit EPD.STAT_RAIL_FAULT true).setBit (Hdr.FAULT EPD.page) true).raise EPD.page EPD.ev_RAIL_FAULT
      (d.dirtyRunning.railsOff.modEpd fun e => { e with queue := [] }).epdShow

/-! ### Blink regions (R388) -/

/-- BLINK_TOGGLE (R388): SNAP2 to the other image. -/
def execBlinkToggle (k : Fin 4) (s : State) : Out :=
  s.on fun d =>
    if !d.bit (EPD.BLINK_CTL_EN k.val) ∨ !d.panelReady ∨ d.epd.running.any (fun r => r.rect.meets (d.blinkRect k.val)) then d
    else d.regionTry { id := 40 + k.val, rect := d.blinkRect k.val, mode := 3, src := .blink k }

/-- Why a blink region cannot be enabled, if it cannot (R388); it lies on the panel and its images in the SRAM (assumption 176). -/
def Dev.blinkError (d : Dev) (k : Nat) : Option Nat :=
  let r := d.blinkRect k
  let px := ((List.range 4).map fun j => if j = k ∨ d.bit (EPD.BLINK_CTL_EN j) then
    d.get (EPD.BLINK_WH_W j) * d.get (EPD.BLINK_WH_H j) else 0).sum
  let past := decide (131072 < 32 * d.get (EPD.BLINK_BASE_BASE k) + d.blinkBytes k)
  if r.meets d.legalRect ∨ d.epd.running.any (fun x => x.rect.meets r) ∨ 131072 < px ∨ past ∨ !d.onPanel r then some Err.RANGE
  else none

/-- A write of BL_DATA (R388). -/
def execBlDataWrite (m : Master) (w : Word) (s : State) : Out :=
  s.on fun d => d.guard m .EPD 0x0E4 fun d =>
    let a := d.get EPD.BL_ADDR_ADDR / 4 * 4
    let used := (List.range 4).any fun k => d.bit (EPD.BLINK_CTL_EN k) &&
      decide (32 * d.get (EPD.BLINK_BASE_BASE k) < a + 4 ∧ a < 32 * d.get (EPD.BLINK_BASE_BASE k) + d.blinkBytes k)
    if used then d.reject EPD.page Err.BUSY
    else (d.wrLe (blinkBase + a) 4 w.toNat).set EPD.BL_ADDR_ADDR (a + 4)

/-! ### Register rules, resets and hold-up (R376, R378, R389–R391) -/

/-- The panel and timing fit the source clock (R376): (W/8 + HBLANK)(H + VBLANK)·FRAME_HZ ≤ 800 MHz / DIV. -/
def timingFits (panel timing : Nat) : Bool :=
  let w := panel % 2 ^ 11
  let h := panel / 2 ^ 16 % 2 ^ 11
  let div := timing % 2 ^ 7
  decide (w % 8 = 0 ∧ w ≤ 1600 ∧ h ≤ 1200 ∧ 13 ≤ div ∧ div ≤ 80 ∧
    (w / 8 + timing / 2 ^ 8 % 2 ^ 8) * (h + timing / 2 ^ 16 % 2 ^ 8) * (timing / 2 ^ 24 % 2 ^ 7) * div ≤ 800000000)

/-- The OFF table with one step replaced is allowed (R378). -/
def Dev.offTableOk (d : Dev) (k w : Nat) : Bool :=
  let l := (List.range 8).map fun j => if j = k then w else d.get (EPD.RSEQ_OFF_STEP j)
  decide ((l.map fun x => x / 256 % 256).sum ≤ 80) && l.all fun x => x % 8 != 5

/-- EN = 1: the dirty record is cleaned first (R390); the marks of a rail fault clear (assumption 179). -/
def Dev.epdEnable (d : Dev) : Dev :=
  let d := (d.setBit EPD.STAT_RAIL_FAULT false).setBit (Hdr.FAULT EPD.page) false
  d.dirtyShow.setBit EPD.STAT_CLEANING (!d.epd.dirty.isEmpty)

/-- A drain ends, or hold-up step 2 (R46, R389): dirty regions recorded, rails off. -/
def Dev.epdStop (d : Dev) : Dev := (d.dirtyRunning.railsOff.modEpd fun e => { e with queue := [] }).epdShow

/-- Hold-up entry (R389): no further frame, region or toggle; queued requests are dropped. -/
def Dev.epdHoldup (d : Dev) : Dev := (d.modEpd fun e => { e with halted := true, queue := [], lastFrame := !e.running.isEmpty }).epdShow

/-- Hold-up step 2 begins when the frame in progress has ended (R389). -/
def Dev.epdLastFrame (d : Dev) : Dev := if d.epd.lastFrame then d.frameCount fun _ => false else d

/-- An application-domain reset drops the queued requests of the EPD page (R391). -/
def Dev.epdAppReset (d : Dev) : Dev := (d.modEpd fun e => { e with queue := e.queue.filter fun r => r.src == .legal }).epdShow

/-- The shed level defers or no longer defers (R391). -/
def Dev.epdLevel (d : Dev) : Dev :=
  if d.epdDeferred then (if d.epd.queue.isEmpty then d else d.setBit EPD.STAT_DEFERRED true)
  else d.setBit EPD.STAT_DEFERRED false

end Sys2Proof.Machine
end

