-- ==== Sys2Proof/Machine/Wav.lean ====
section
/-!
DEFINITION. Channels named by the blocks that pace them (R418), claims (R419), and the waveform capture (R97–R99, R102).
-/
namespace Sys2Proof.Machine

open Sys2Proof

/-! ### DMA channels as the blocks see them (R418, R419) -/

/-- Change a channel. -/
def Dev.modCh (d : Dev) (c : Fin 16) (f : DmaCh → DmaCh) : Dev := { d with dma := { d.dma with ch := d.dma.ch.set c (f d.dma.ch[c]) } }

/-- The namings of a channel by blocks that are on: whether each produces (R418). -/
def Dev.pacers (d : Dev) (c : Fin 16) : List Bool :=
  let f := fun (on : Bool) (fld : Fld) (prod : Bool) => if on && d.get fld == c.val then [prod] else []
  (allBays.flatMap fun n =>
    f (d.enabled (.PLC n)) (PLC.CFG_DMA_TX n) false ++ f (d.enabled (.PLC n)) (PLC.CFG_DMA_RX n) true ++
    f (d.enabled (.T1S n)) (T1S.CFG_DMA_TX n) false ++ f (d.enabled (.T1S n)) (T1S.CFG_DMA_RX n) true) ++
    f (d.enabled .WAV) WAV.CFG_DMA_CH true

/-- A pacing block lets a burst go, with the bytes it delivers (R418). -/
def Dev.pace (d : Dev) (c : Fin 16) (data : List Byte) : Dev :=
  if d.chActive c then d.modCh c fun x => { x with reqs := x.reqs ++ [data] } else d

/-- Bytes of a burst of a channel (R416). -/
def Dev.burstBytes (d : Dev) (c : Fin 16) : Nat :=
  (d.dma.ch[c].ctl % 16 + 1) * (if d.dma.ch[c].ctl.testBit 14 then 4 else 8)

/-- Cut bytes into bursts of `k` bytes, at most `n` of them. -/
def cutBursts (k : Nat) : Nat → List Byte → List (List Byte)
  | 0, _ => []
  | n + 1, l => if l.isEmpty then [] else l.take (max 1 k) :: cutBursts k n (l.drop (max 1 k))

/-! ### Waveform capture -/

/-- Channel `i` of the capture: enabled, map slot (R102). -/
def Dev.wavCh (d : Dev) (i : Nat) : Bool × Nat :=
  let w := d.rdN (WAV.CHSEL (i / 4)) / 2 ^ (8 * (i % 4)) % 256
  (decide (128 ≤ w), w % 128)

/-- Bytes of a record (R97). -/
def Dev.wavRecord (d : Dev) : Nat := 4 * ((List.range 16).filter fun i => (d.wavCh i).1).length

/-- A map slot is a DC slot (R85). -/
def dcSlot (s : Nat) : Bool := decide (10 ≤ s % 16 ∧ s % 16 ≤ 13)

/-- CTL.ARM (R97, R98); while a capture is armed, it starts anew (assumption 158). -/
def execWavArm (m : Master) (s : State) : Out :=
  s.on fun d => d.startWork m .WAV 0x060 (fun d =>
      let c := chan (d.get WAV.CFG_DMA_CH)
      if !d.chActive c || !d.dma.ch[c].circ then some Err.SEQUENCE
      else if d.bit WAV.CFG_RATE && (List.range 16).any (fun i => (d.wavCh i).1 && dcSlot (d.wavCh i).2) then some Err.RANGE
      else none) fun d =>
    let d := ((d.wrN WAV.STAT 1).wrN WAV.REC_CNT 0).setBit (Hdr.BUSY WAV.page) true
    { d with wav := {} }

/-- The channel that carries the capture (R102). -/
def Dev.wavDma (d : Dev) : Fin 16 := chan (d.get WAV.CFG_DMA_CH)

/-- Bytes in the FIFO (R99): those of bursts let go that the engine has not taken, and those after them. -/
def Dev.wavFill (d : Dev) : Nat := (d.dma.ch[d.wavDma].reqs.map List.length).sum + d.wav.fifo.length

/-- A source is in a cross-fade (R90 phase 4). -/
def Dev.fading (d : Dev) (src : Nat) : Bool :=
  [0, 1, 2, 3].any fun (g : Fin 4) => d.mpl.grp[g].fadeIn == some src && decide (d.wheel < d.mpl.grp[g].fadeEnd)

/-- A word of a record (R97): the sample `x` of a map slot, clipped, with SAT, SWAP, INVALID and FW; an inactive slot delivers
zero (R87). -/
def Dev.wavWord (d : Dev) (slot : Nat) (x : Int) : List Byte :=
  let m := slot / 16
  let s := slot % 16
  let on := d.slotActive m s
  let x := if on then x else 0
  let flag := fun (c : Bool) (k : Nat) => if c then 2 ^ k else 0
  leBytes 4 (toUnsigned 24 (clip24 x) + flag (clip24 x != x) 24 + flag (on && d.fading (d.mapEntry m s % 128)) 25 +
    flag (d.slotInvalid m s) 26 + flag (!d.locked) 27)

/-- The capture has taken the POST records that follow the trigger's (R98). -/
def Dev.wavFull (d : Dev) : Bool :=
  d.bit WAV.STAT_TRIGGERED && decide (d.rdN WAV.TRIG_IDX + 1 + d.wav.left ≤ d.rdN WAV.REC_CNT)

/-- Bursts' worth of the FIFO goes to the engine; with `all`, what is left too. -/
def Dev.wavPace (d : Dev) (all : Bool) : Dev :=
  let c := d.wavDma
  let k := max 1 (d.burstBytes c)
  let n := if all then d.wav.fifo.length else d.wav.fifo.length / k * k
  let go := d.wav.fifo.take n
  let d : Dev := { d with wav := { d.wav with fifo := d.wav.fifo.drop n } }
  (cutBursts k n go).foldl (fun d b => d.pace c b) d

/-- One record (R97, R99), `raw` the samples of the enabled channels in ascending order, 32 bits each, before clipping. A full FIFO
drops it; it still counts. -/
def Dev.wavPush (d : Dev) (raw : List Byte) : Dev :=
  if !d.bit WAV.STAT_ARMED || d.wavFull then d
  else
    let chs := (List.range 16).filterMap fun i => if (d.wavCh i).1 then some (d.wavCh i).2 else none
    let rec' := ((List.range chs.length).zip chs).flatMap fun e => d.wavWord e.2 (signed 32 (ofLe ((raw.drop (4 * e.1)).take 4)))
    let room := decide (d.wavFill + rec'.length ≤ 4096)
    let d := d.wrN WAV.REC_CNT (d.rdN WAV.REC_CNT + 1)
    if room then ({ d with wav := { d.wav with fifo := d.wav.fifo ++ rec' } } : Dev).wavPace false
    else (d.setBit WAV.STAT_OVR true).raise WAV.page WAV.ev_OVR

/-- Samples of the capture's channels, whole records of them. -/
def Dev.wavData (d : Dev) (data : List Byte) : Dev :=
  (List.range (data.length / max 4 d.wavRecord)).foldl (fun (d : Dev) i => d.wavPush (data.drop (i * max 4 d.wavRecord))) d

/-- Two successive samples of slot LVL_SLOT cross LEVEL in the direction of LVL_FALL (R98, R102). -/
def Dev.wavCrosses (d : Dev) (old new : BitVec 24) : Bool :=
  let l := signed 24 (d.get WAV.LEVEL_LEVEL)
  if d.bit WAV.TRIG_LVL_FALL then decide (l ≤ old.toInt ∧ new.toInt < l) else decide (old.toInt < l ∧ l ≤ new.toInt)

/-- WAV_TRIGGER (R98): a seat's pulse, TRIG.SW written by the page's owner, two samples of the watched slot, a safety trip. -/
def execWavTrigger (m : Master) (cause : WavCause) (s : State) : Out :=
  s.on fun d => match cause with
    | .seat k => d.wavTrig k.val
    | .software => d.guard m .WAV 0x054 fun d => d.wavTrig 4
    | .level old new => if d.wavCrosses old new then d.wavTrig 5 else d
    | .safety => d.wavTrig 6

/-- The capture ends; what the FIFO holds still goes to the engine. -/
def Dev.wavEnd (d : Dev) : Dev :=
  let d := d.wavPace true
  (((d.setBit WAV.STAT_ARMED false).setBit WAV.STAT_DONE true).setBit (Hdr.BUSY WAV.page) false).raise WAV.page WAV.ev_DONE

/-- WAV_DONE (R98): POST records have followed the trigger's. -/
def execWavDone (s : State) : Out :=
  s.on fun d =>
    if d.bit WAV.STAT_ARMED && d.wavFull then d.wavEnd else d

/-- CTL.STOP (R102). -/
def execWavStop (m : Master) (s : State) : Out := s.on fun d => d.guard m .WAV 0x060 fun d => d.wavEnd

/-- WAV_OVERRUN (R99): `n` records come while the FIFO has no room for one: dropped; they still count. -/
def execWavOverrun (n : Word) (s : State) : Out :=
  s.on fun d =>
    if d.bit WAV.STAT_ARMED && decide (4096 < d.wavFill + max 4 d.wavRecord) then
      ((d.setBit WAV.STAT_OVR true).wrN WAV.REC_CNT (d.rdN WAV.REC_CNT + n.toNat)).raise WAV.page WAV.ev_OVR
    else d

end Sys2Proof.Machine
end

