-- ==== Sys2Proof/Machine/Vehicle.lean ====
section
/-!
DEFINITION. Vehicle communication (ch. 7): powerline modems with SLAC sound capture and arbitration, 10BASE-T1S, the EXI
codec, CAN FD.
-/
namespace Sys2Proof.Machine

open Sys2Proof

/-! ### Powerline modems (R155–R161, R175, R176) -/

/-- Start the microcode load (R156). -/
def Dev.plcLoad (d : Dev) (n : Bay) : Dev :=
  (d.modPlc n fun p => { p with loading := true, stale := false }).setBit (PLC.STAT_AFE_ON n) false

/-- UCODE_LOADED (R156): a modem shed meanwhile stays powered down (R176). -/
def execUcodeLoaded (n : Bay) (ok : Bool) (ver : BitVec 16) (s : State) : Out :=
  s.on fun d =>
    if !d.plc[n].loading then d
    else
      let d := d.modPlc n fun p => { p with loading := false, loaded := ok }
      if ok then
        (((d.set (PLC.STAT_UCODE_VER n) ver.toNat).setBit (PLC.STAT_AFE_ON n) (!d.bit (PLC.STAT_SHED n))).setBit
          (Hdr.FAULT (PLC.page n)) false).setBit (Hdr.READY (PLC.page n)) true
      else (d.setBit (Hdr.FAULT (PLC.page n)) true).setBit (Hdr.READY (PLC.page n)) false

/-- UCODE_RELOAD (R156): after a bank switch, once the bay is idle and the link down. -/
def execUcodeReload (n : Bay) (s : State) : Out :=
  s.on fun d =>
    if d.plc[n].stale && d.enabled (.PLC n) && d.bayIdle n && !d.bit (PLC.STAT_LINK_UP n) then d.plcLoad n else d

/-- The modem hears and sends: loaded and powered (R156, R176). -/
def Dev.plcOn (d : Dev) (n : Bay) : Bool := d.enabled (.PLC n) && d.bit (PLC.STAT_AFE_ON n) && !d.bit (PLC.STAT_SHED n)

/-- The modem takes part in the arbitration. -/
def Dev.arbOn (d : Dev) (n : Bay) : Bool := d.plcOn n && d.bit (PLC.CFG_ARB_EN n)

/-- CTL.KEY_SET (R157). -/
def execKeySet (m : Master) (n : Bay) (s : State) : Out :=
  s.on fun d => d.startWork m (.PLC n) 0x044 (fun _ => none) fun d =>
    let k := d.rdN (PLC.NMK n 0) + 2 ^ 32 * d.rdN (PLC.NMK n 1) + 2 ^ 64 * d.rdN (PLC.NMK n 2) + 2 ^ 96 * d.rdN (PLC.NMK n 3)
    let id := Config.networkId k
    let d := d.modPlc n fun p => { p with nmk := k, keyed := true }
    ((d.wrN (PLC.NID_LO n) id).set (PLC.NID_HI_NID n) (id / 2 ^ 32)).setBit (PLC.STAT_CCO n) true

/-- The link falls (R178). -/
def Dev.plcDown (d : Dev) (n : Bay) : Dev :=
  if d.bit (PLC.STAT_LINK_UP n) then
    (((d.setBit (PLC.STAT_LINK_UP n) false).wrN (PLC.PEER_LO n) 0).wrN (PLC.PEER_HI n) 0).raise (PLC.page n) PLC.ev_LINK_DOWN
  else d

/-- The modem leaves its network: no key, no station (R157, R172). -/
def Dev.networkClear (d : Dev) (n : Bay) : Dev :=
  let d := (d.plcDown n).modPlc n fun p => { p with nmk := 0, keyed := false }
  let d := [0, 1, 2, 3].foldl (fun d k => d.wrN (PLC.NMK n k) 0) d
  ((d.wrN (PLC.NID_LO n) 0).wrN (PLC.NID_HI n) 0).setBit (PLC.STAT_CCO n) false

/-- CTL.LINK_RESET (R157, R159). -/
def execLinkReset (m : Master) (n : Bay) (s : State) : Out :=
  s.on fun d => d.guard m (.PLC n) 0x044 fun d => (d.networkClear n).soundsDrop n

/-- The modem's loop is closed: it serves no outside traffic (R522). -/
def Dev.plcLooped (d : Dev) (n : Bay) : Bool := d.bit (Hdr.LOOP_ENABLE (PLC.page n))

/-- The slots of a modem that a result marks. -/
def Dev.slotsWith (d : Dev) (n : Bay) (r : Nat) : List (Fin 4) :=
  fourSlots.filter fun k => (d.plc[n].slots[k]).isSome && d.get (PLC.SND_STAT_RESULT n k) == r

/-- PLC_STATION_JOIN (R157, R159). -/
def execPlcStationJoin (n : Bay) (mac : BitVec 48) (s : State) : Out :=
  s.on fun d =>
    if !d.plcOn n || d.plcLooped n || !d.plc[n].keyed || d.bit (PLC.STAT_LINK_UP n) then d
    else
      let d := ((d.setBit (PLC.STAT_LINK_UP n) true).wrN (PLC.PEER_LO n) mac.toNat).set (PLC.PEER_HI_MAC n) (mac.toNat / 2 ^ 32)
      ((d.slotsWith n 1).foldl (fun d k => d.soundDrop n k) d).raise (PLC.page n) PLC.ev_LINK_UP

/-- PLC_LINK_DOWN (R178). -/
def execPlcLinkDown (n : Bay) (s : State) : Out := s.on fun d => d.plcDown n

/-- The slot of a modem that captures a RunID. -/
def Dev.soundSlot (d : Dev) (n : Bay) (run : Nat) : Option (Fin 4) :=
  fourSlots.find? fun k => match d.plc[n].slots[k] with
    | some x => x.run == run
    | none => false

/-- A modem's lowest free slot. -/
def Dev.soundFree (d : Dev) (n : Bay) : Option (Fin 4) := fourSlots.find? fun k => (d.plc[n].slots[k]).isNone

/-- A slot of a modem opens for a RunID (R158). -/
def Dev.soundOpen (d : Dev) (n : Bay) (k : Fin 4) (run : Nat) : Dev :=
  let d := d.modPlc n fun p => { p with slots := p.slots.set k (some { run := run }) }
  let d := ((d.wrN (PLC.SND_RUN_LO n k) run).wrN (PLC.SND_RUN_HI n k) (run / 2 ^ 32)).wrN (PLC.SND_STAT n k) 0
  let d := (List.range 15).foldl (fun d i => d.wrN (PLC.PROF n (16 * k.val + i)) 0) d
  (d.setBit (PLC.SND_STAT_VALID n k) true).setBit (PLC.SND_STAT_CAND n k) (d.plc[n].cands.contains run)

/-- A RunID is heard for the first time: every modem that takes part captures it, or counts it in OVF (R158). -/
def Dev.soundsOpen (d : Dev) (run : Nat) : Dev :=
  d.forBays fun n d =>
    if !d.arbOn n then d
    else match d.soundFree n with
      | some k => d.soundOpen n k run
      | none => d.bump (PLC.ARBSTAT_OVF n)

/-- A sound is heard: COUNT, averages, MEAN (R158). -/
def Dev.soundHear (d : Dev) (n : Bay) (k : Fin 4) (x : PlcSlot) (a : List Byte) : Dev :=
  let c := d.get (PLC.SND_STAT_COUNT n k) + 1
  if 15 < c then d
  else
    let sums := (x.sums.zip (padTo 58 a)).map fun y => y.1 + y.2.toNat
    let d := d.modPlc n fun p => { p with slots := p.slots.set k (some { x with sums := sums }) }
    let prof := (sums.map fun v => BitVec.ofNat 8 (roundDiv v c)) ++ [0, 0]
    let d := (List.range 15).foldl (fun d i => d.wrN (PLC.PROF n (16 * k.val + i)) (ofLe ((prof.drop (4 * i)).take 4))) d
    (d.set (PLC.SND_STAT_COUNT n k) c).set (PLC.SND_STAT_MEAN n k) (roundDiv (10 * sums.sum) (58 * c))

/-- Deliver a frame to a channel, burst by burst (R155, R418). -/
def Dev.deliver (d : Dev) (c : Fin 16) (data : List Byte) : Dev :=
  (cutBursts (d.burstBytes c) data.length data).foldl (fun d b => d.pace c b) d

/-- A received frame goes to DMA_RX, or is dropped and counted where the channel has no descriptor (R155). -/
def Dev.plcDeliver (d : Dev) (n : Bay) (data : List Byte) (mme : Bool) : Dev :=
  let c := chan (d.get (PLC.CFG_DMA_RX n))
  let d := if d.chActive c then d.deliver c data else d.bump (PLC.RXSTAT_DROP n)
  if mme then d.raise (PLC.page n) PLC.ev_RX_MME else d

/-- The receiver takes a frame: the two sound messages are consumed, every other one is delivered (R155, R158). -/
def Dev.plcTake (d : Dev) (n : Bay) (f : PlcFrame) : Dev :=
  match f with
  | .startAtten run => if allBays.any fun b => (d.soundSlot b run.toNat).isSome then d else d.soundsOpen run.toNat
  | .sound run a =>
    if !d.arbOn n then d
    else match d.soundSlot n run.toNat with
      | some k => match d.plc[n].slots[k] with
        | some x => if x.closed then d else d.soundHear n k x a
        | none => d
      | none => d
  | .slacParmCnf _ data => d.plcDeliver n data true
  | .attenChar _ data => d.plcDeliver n data true
  | .slacMatch _ data => d.plcDeliver n data true
  | .other data mme => d.plcDeliver n data mme

/-- PLC_FRAME_RX (R155, R158). -/
def execPlcFrameRx (n : Bay) (f : PlcFrame) (s : State) : Out :=
  s.on fun d => if !d.plcOn n || d.plcLooped n then d else d.plcTake n f

/-- The modem transmits: TX_EN, not the pair's standby, not in hold-up (R175). -/
def Dev.plcSends (d : Dev) (n : Bay) : Bool :=
  d.plcOn n && d.bit (PLC.CTL_TX_EN n) && !d.isStandby && !d.bit PWR.STAT_HOLDUP

/-- What only the ASSIGNED bay may send for a RunID is to be dropped (R160). -/
def Dev.gated (d : Dev) (n : Bay) (run : Nat) : Bool :=
  d.bit (PLC.CFG_ARB_EN n) && match d.soundSlot n run with
    | some k => d.get (PLC.SND_STAT_RESULT n k) != 1
    | none => true

/-- The frame leaves the transmitter: with the loop closed it comes back to the receiver (R177). -/
def Dev.plcEcho (d : Dev) (n : Bay) (f : PlcFrame) : Dev := if d.plcLooped n then d.plcTake n f else d

/-- A gated frame: sent, or dropped and counted (R160). -/
def Dev.plcGate (d : Dev) (n : Bay) (run : Nat) (f : PlcFrame) : Dev :=
  if d.gated n run then (d.bump (PLC.TXSTAT_GATED n)).raise (PLC.page n) PLC.ev_GATED else d.plcEcho n f

/-- The bay becomes a candidate for a RunID (R158). -/
def Dev.candidate (d : Dev) (n : Bay) (run : Nat) : Dev :=
  let d := d.modPlc n fun p => { p with cands := if p.cands.contains run then p.cands else p.cands ++ [run] }
  match d.soundSlot n run with
  | some k => d.setBit (PLC.SND_STAT_CAND n k) true
  | none => d

/-- PLC_FRAME_TX (R158, R160, R177). -/
def execPlcFrameTx (n : Bay) (f : PlcFrame) (s : State) : Out :=
  s.on fun d =>
    if !d.plcSends n then d
    else match f with
      | .slacParmCnf run _ => (d.candidate n run.toNat).plcEcho n f
      | .attenChar run _ => d.plcGate n run.toNat f
      | .slacMatch run _ => d.plcGate n run.toNat f
      | .startAtten _ => d.plcEcho n f
      | .sound _ _ => d.plcEcho n f
      | .other _ _ => d.plcEcho n f

/-- The bays that heard a RunID's sounds, with their mean attenuation (R159, R176). -/
def Dev.heardBays (d : Dev) (run : Nat) : List (Bay × Nat) :=
  allBays.filterMap fun n =>
    match d.soundSlot n run with
    | some k =>
      if d.arbOn n && decide (d.get (PLC.ARBCFG_MIN_SOUNDS 0) ≤ d.get (PLC.SND_STAT_COUNT n k)) then
        some (n, d.get (PLC.SND_STAT_MEAN n k))
      else none
    | none => none

/-- The lowest of a list, the first on a tie. -/
def lowest : List (Bay × Nat) → Option (Bay × Nat)
  | [] => none
  | x :: l => match lowest l with
    | some y => if y.2 < x.2 then some y else some x
    | none => some x

/-- The arbiter's decision for a RunID (R159): the result for all, or the assigned bay. -/
def Dev.arbitrate (d : Dev) (run : Nat) : Nat ⊕ Bay :=
  let h := d.heardBays run
  match lowest h with
  | none => .inl 2
  | some b =>
    let own := d.soundSlot b.1 run
    let cand := match own with
      | some k => d.bit (PLC.SND_STAT_CAND b.1 k)
      | none => false
    let near := match lowest (h.filter fun x => x.1 != b.1) with
      | some x => decide (x.2 - b.2 < 5 * d.get (PLC.ARBCFG_MARGIN 0))
      | none => false
    if 5 * d.get (PLC.ARBCFG_ATTEN_MAX 0) < b.2 then .inl 5
    else if !cand then .inl 2
    else if near then .inl 3
    else if (d.slotsWith b.1 1).any fun j => some j != own then .inl 4
    else .inr b.1

/-- ARBITRATION_DECISION (R159): the window of a RunID has closed. -/
def execArbitrationDecision (run : BitVec 64) (s : State) : Out :=
  s.on fun d =>
    let r := d.arbitrate run.toNat
    d.forBays fun n d =>
      match d.soundSlot n run.toNat with
      | none => d
      | some k =>
        if (d.plc[n].slots[k]).all fun x => x.closed then d
        else
          let v := match r with
            | .inl c => c
            | .inr b => if n = b then 1 else 2
          let d := d.modPlc n fun p => { p with slots := p.slots.set k ((p.slots[k]).map fun x => { x with closed := true }) }
          (d.set (PLC.SND_STAT_RESULT n k) v).raise (PLC.page n) PLC.ev_SND_DONE

/-- SOUND_SLOT_EXPIRY (R159). -/
def execSoundSlotExpiry (n : Bay) (k : Fin 4) (s : State) : Out := s.on fun d => d.soundDrop n k

/-- Shed level L1 powers down the modems of idle bays (R176). -/
def Dev.plcShed (d : Dev) : Dev := d.forBays fun n d => d.plcShed1 n

/-- The modem comes on: the microcode load starts (R156); that of an idle bay powers down where a shed level stands (R176). -/
def Dev.plcStart (d : Dev) (n : Bay) : Dev := (d.plcLoad n).plcLevel n

/-- MODEM_WAKE (R176): a modem whose microcode did not load stays off (R156). -/
def execModemWake (n : Bay) (s : State) : Out :=
  s.on fun d =>
    if d.bit (PLC.STAT_SHED n) && (!d.bayIdle n || d.get PWR.STAT_LEVEL == 0) then
      (d.setBit (PLC.STAT_SHED n) false).setBit (PLC.STAT_AFE_ON n) d.plc[n].loaded
    else d

/-! ### 10BASE-T1S (R162, R179) -/

/-- T1S_FRAME_RX (R162, R179): a frame that collided is counted and lost; the first one from a peer shows it. A closed loop keeps
the segment's traffic out (R522). -/
def execT1sFrameRx (n : Bay) (mac : BitVec 48) (data : List Byte) (collided : Bool) (s : State) : Out :=
  s.on fun d =>
    if !d.enabled (.T1S n) || !d.present (.T1S n) || d.bit (Hdr.LOOP_ENABLE (T1S.page n)) then d
    else if collided then d.bump (T1S.STAT_COLL n)
    else
      let d := if d.bit (T1S.STAT_PEER_SEEN n) then d else
        (((d.setBit (T1S.STAT_PEER_SEEN n) true).wrN (T1S.PEER_LO n) mac.toNat).set (T1S.PEER_HI_MAC n)
          (mac.toNat / 2 ^ 32)).raise (T1S.page n) T1S.ev_PEER
      let c := chan (d.get (T1S.CFG_DMA_RX n))
      if d.chActive c then d.deliver c data else d

/-- PLCA_STATUS_CHANGE (R179). -/
def execPlcaStatusChange (n : Bay) (up : Bool) (s : State) : Out :=
  s.on fun d =>
    if d.bit (T1S.STAT_PLCA_STATUS n) = up ∨ (up ∧ (!d.enabled (.T1S n) ∨ !d.bit (T1S.CFG_PLCA_EN n))) then d
    else (d.setBit (T1S.STAT_PLCA_STATUS n) up).raise (T1S.page n) (if up then T1S.ev_PLCA_UP else T1S.ev_PLCA_DOWN)

/-! ### EXI codec (R165–R168, R180) -/

/-- Change the codec. -/
def Dev.modExi (d : Dev) (f : ExiInt → ExiInt) : Dev := { d with exi := f d.exi }

/-- A grammar table at an address is valid (R166). -/
def Dev.grammarOk (d : Dev) (a : Nat) : Bool :=
  let n := d.rdLe (a + 8) 2
  let q := d.rdLe (a + 10) 2
  let len := d.rdLe (a + 0x38) 4
  d.rdLe a 4 == 0x52475845 && d.rdLe (a + 4) 2 == 1 && decide (1 ≤ n ∧ n ≤ 4096 ∧ 1 ≤ q ∧ q ≤ 4096) &&
    decide (0x40 ≤ len ∧ len ≤ 262144) && decide (d.rdLe (a + 0x30) 4 < len ∧ d.rdLe (a + 0x34) 4 < len) &&
    crc32 (d.rdBytes a 0x3C ++ [0, 0, 0, 0] ++ d.rdBytes (a + 0x40) (len - 0x40)) == d.rdLe (a + 0x3C) 4

/-- GSLOTk with LOAD (R166). -/
def execGslotLoad (m : Master) (k : Fin 8) (w : Word) (s : State) : Out :=
  s.on fun d => d.startWork m .EXI (0x044 + 4 * k.val) (fun d =>
      if w.toNat % 16 ≠ 0 then some Err.RANGE
      else if d.exi.job.any fun j => j.slot == k then some Err.BUSY else none) fun d =>
    let ofs := w.toNat % 2 ^ 20
    let a := d.tblBase + ofs
    let d := d.set (EXI.GSLOT_OFFSET k) ofs
    if d.grammarOk a then
      let d := d.modExi fun e => { e with slots := e.slots.set k (some (d.rdLe (a + 6) 2)) }
      let d := d.tblRead 4
      ((d.setBit (EXI.GSLOT_LOADED k) true).wrN (EXI.GID k) (d.rdLe (a + 12) 4)).setFlag EXI.GSTAT_BAD k.val false
    else (d.setFlag EXI.GSTAT_BAD k.val true).reject EXI.page Err.RANGE

/-- The codec's two channels. -/
def Dev.exiChans (d : Dev) : Fin 16 × Fin 16 := (chan (d.get EXI.CFG_DMA_RD), chan (d.get EXI.CFG_DMA_WR))

/-- The job ends with a code (R168): its channels are released; JOB_POS says where it failed. -/
def Dev.exiEnd (d : Dev) (code pos out : Nat) : Dev :=
  match d.exi.job with
  | none => d
  | some j =>
    let d := (((d.modExi fun e => { e with job := none }).claim j.rd 0).claim j.wr 0).setBit (Hdr.BUSY EXI.page) false
    let d := ((d.set EXI.JOB_RES_CODE code).setBit EXI.JOB_RES_DONE true).raise EXI.page EXI.ev_DONE
    if code = 0 then d.wrN EXI.JOB_OUT out
    else
      let d := (d.wrN EXI.JOB_POS pos).raise EXI.page EXI.ev_ERROR
      if code = 1 then d.raise EXI.page EXI.ev_GRAMMAR else d

/-- A running job is cut off with ABORT (R168, R175): how far it had come is a free value. -/
def Dev.exiAbort (d : Dev) : Dev := if d.exi.job.isSome then d.free.2.exiEnd 8 d.free.1 0 else d

/-- Software runs one of the codec's channels, or the e-paper controller claims it: no job starts (R419). -/
def Dev.exiChanBusy (d : Dev) : Bool :=
  [d.exiChans.1, d.exiChans.2].any fun c => d.chActive c || d.get (DMA.CH_STAT_CLAIMER c) == 2

/-- The job that a START takes from the registers (R167, R180). -/
def Dev.exiJob (d : Dev) : ExiJob :=
  { slot := ⟨d.get EXI.JOB_CTL_GSLOT % 8, Nat.mod_lt _ (by decide)⟩, enc := d.bit EXI.JOB_CTL_DIR,
    src := d.rdN EXI.JOB_SRC, srcLen := d.rdN EXI.JOB_SRCLEN, dst := d.rdN EXI.JOB_DST, dstLen := d.rdN EXI.JOB_DSTLEN,
    val := d.rdN EXI.JOB_VAL, valLen := d.rdN EXI.JOB_VALLEN, rd := d.exiChans.1, wr := d.exiChans.2 }

/-- JOB_CTL with START (R167, R168, R419). A slot with no grammar ends the job with NO_GRAMMAR; in hold-up the codec has stopped
(R175). -/
def execExiJobStart (m : Master) (w : Word) (s : State) : Out :=
  s.on fun d => d.startWork m .EXI 0x0A8 (fun d =>
      if d.exi.job.isSome || d.exiChanBusy || d.bit PWR.STAT_HOLDUP then some Err.BUSY
      else if 65536 < d.rdN EXI.JOB_SRCLEN then some Err.RANGE
      else none) fun d =>
    let d := ((d.set EXI.JOB_CTL_DIR (w.toNat % 2)).set EXI.JOB_CTL_GSLOT (w.toNat / 2)).set EXI.JOB_CTL_FRAGMENT (w.toNat / 16)
    let d := ((d.wrN EXI.JOB_RES 0).wrN EXI.JOB_OUT 0).wrN EXI.JOB_POS 0
    let j := d.exiJob
    let d := (((d.modExi fun e => { e with job := some j }).claim j.rd 1).claim j.wr 1).setBit (Hdr.BUSY EXI.page) true
    if d.exi.slots[j.slot].isNone then d.exiEnd 5 0 0 else d

/-- An address of a range that the DMA column of R19 blocks, sought at its start, its end and every 4 KB. -/
def Dev.dmaBlocked (d : Dev) (a n : Nat) (wr : Bool) : Option (Nat × Bool) :=
  ((((List.range (n / 4096 + 1)).map fun i => a + 4096 * i) ++ [a + (n - 1)]).find? fun x =>
    decide (x < a + n) && !d.filterAllows .dma x wr).map fun x => (x, wr)

/-- A token's 8 bytes (R167). -/
def tokenBytes (t : ExiToken) : List Byte :=
  leBytes 4 (t.kind.toNat + 256 * t.qname.toNat + 2 ^ 24 * t.typ.toNat) ++ leBytes 4 t.value.toNat

/-- The value that a token of type string or binary names in the value area: address and length (R167). -/
def tokenValue (val : Nat) (w : Nat) : Option (Nat × Nat) :=
  let typ := w / 2 ^ 24 % 16
  if typ = 4 ∨ typ = 5 then some (val + 8 * (w / 2 ^ 48 % 65536), w / 2 ^ 32 % 65536) else none

/-- What a job has read when it ends (R167): the input up to where it failed or to its end, and for an encode the values that the
tokens read name. -/
def Dev.exiReads (d : Dev) (j : ExiJob) (r : ExiResult) : List (Nat × Nat) :=
  let used := if r.stop = .ok then j.srcLen else min j.srcLen (if j.enc then 8 * (r.pos.toNat + 1) else r.pos.toNat / 8 + 1)
  (j.src, used) ::
    if j.enc then (List.range (used / 8)).filterMap fun i => tokenValue j.val (d.rdLe (j.src + 8 * i) 8) else []

/-- What a job writes (R167, R177): tokens and values, or the stream; in the closed loop the stream is decoded again. -/
def Dev.exiWrites (d : Dev) (j : ExiJob) (r : ExiResult) : List Byte × List Byte :=
  let tokens := r.tokens.flatMap tokenBytes
  if j.enc then (if d.bit (Hdr.LOOP_ENABLE EXI.page) then tokens else r.stream, []) else (tokens, r.vals)

/-- The code a job's own finding gives (R168). -/
def exiCode : ExiStop → Nat
  | .ok => 0
  | .grammar => 1
  | .srcEnd => 3
  | .valueRange => 4
  | .unsupported => 6

/-- EXI_JOB_DONE (R167, R168): the codec's result goes to JOB_DST and JOB_VAL as far as it fits, DST_FULL where it does not; a
blocked address ends the job with FIREWALL. -/
def execExiJobDone (r : ExiResult) (s : State) : Out :=
  s.on fun d =>
    match d.exi.job with
    | none => d
    | some j =>
      let w := d.exiWrites j r
      let full := decide (j.dstLen < w.1.length ∨ j.valLen < w.2.length)
      let out := w.1.take j.dstLen
      let vals := w.2.take j.valLen
      let bad := ((d.exiReads j r).findSome? fun x => d.dmaBlocked x.1 x.2 false).or
        ((d.dmaBlocked j.dst out.length true).or (d.dmaBlocked j.val vals.length true))
      match bad with
      | some x => (d.fwBlock .dma x.1 x.2).exiEnd 7 r.pos.toNat 0
      | none => ((d.wrBytes j.dst out).wrBytes j.val vals).exiEnd (if full then 2 else (exiCode r.stop)) r.pos.toNat out.length

/-! ### CAN FD (R173, R174) -/

/-- Change a controller. -/
def Dev.modCan (d : Dev) (k : Fin 4) (f : CanInt → CanInt) : Dev := { d with can := d.can.set k (f d.can[k]) }

/-- Payload bytes that a record holds (R174), by its FDF and its DLC (ISO 11898-1): a classical frame holds at most 8. -/
def canWords (rec' : List Nat) : Nat :=
  let dlc : Fin 16 := ⟨((rec'[1]?).getD 0) % 16, Nat.mod_lt _ (by decide)⟩
  (canBytes (((rec'[0]?).getD 0).testBit 30) dlc + 3) / 4

/-- FIFO_STAT follows the FIFOs. -/
def Dev.canShow (d : Dev) (k : Fin 4) : Dev :=
  (d.set (CAN.FIFO_STAT_TX_FREE k) (16 - d.can[k].tx.length)).set (CAN.FIFO_STAT_RX_FRAMES k) d.can[k].rx.length

/-- A write of TX_DATA (R174). -/
def execCanTxPush (m : Master) (k : Fin 4) (w : Word) (s : State) : Out :=
  s.on fun d => d.startWork m (.CAN k) 0x060 (fun d => if 16 ≤ d.can[k].tx.length then some Err.BUSY else none) fun d =>
    let p := d.can[k].part ++ [w.toNat]
    let d := if 2 ≤ p.length ∧ 2 + canWords p ≤ p.length then d.modCan k fun c => { c with part := [], tx := c.tx ++ [p] }
      else d.modCan k fun c => { c with part := p }
    d.canShow k

/-- A read of RX_DATA (R174): the register holds the word popped. -/
def execCanRxPop (m : Master) (k : Fin 4) (s : State) : Out :=
  s.on fun d =>
    if m = .ylr ∨ m = .upd then d
    else match d.can[k].rx with
      | (w :: ws) :: l =>
        ((d.modCan k fun c => { c with rx := if ws.isEmpty then l else ws :: l }).wrN (CAN.RX_DATA k) w).canShow k
      | [] :: l => (d.modCan k fun c => { c with rx := l }).canShow k
      | [] => d.wrN (CAN.RX_DATA k) 0

/-- An enabled acceptance filter takes the identifier (R174). -/
def Dev.canAccepts (d : Dev) (k : Fin 4) (id : Nat) : Bool :=
  (List.range 32).any fun i => d.bit (CAN.FILT_EN k i) &&
    (id &&& d.get (CAN.MASK_MASK k i)) == (d.get (CAN.FILT_ID k i) &&& d.get (CAN.MASK_MASK k i))

/-- The record of a received frame (R174), with the wheel time at its start. -/
def Dev.canRecord (d : Dev) (f : CanFrame) : List Nat :=
  let b := fun (x : Bool) (i : Nat) => if x then 2 ^ i else 0
  [f.id.toNat + b f.ide 29 + b f.fdf 30 + b f.brs 31, f.dlc.val + 16 * (d.wheel % 2 ^ 28)] ++
    (List.range ((f.data.length + 3) / 4)).map fun i => ofLe ((f.data.drop (4 * i)).take 4)

/-- A frame on the bus as the receiver takes it (R173): FD only with FD_EN, by an acceptance filter, while the FIFO has room. -/
def Dev.canTake (d : Dev) (k : Fin 4) (id : Nat) (fdf : Bool) (rec' : List Nat) : Dev :=
  if (fdf && !d.bit (CAN.MODE_FD_EN k)) || !d.canAccepts k id || decide (32 ≤ d.can[k].rx.length) then d
  else (d.modCan k fun c => { c with rx := c.rx ++ [rec'] }).canShow k

/-- STAT.BUS follows the error counters: passive above 127, off above 255 (PRESUMED: ISO 11898-1, assumption 131). -/
def Dev.canErrors (d : Dev) (k : Fin 4) (tec rec' : Nat) : Dev :=
  let bus := if 255 < tec then 2 else if 127 < tec ∨ 127 < rec' then 1 else 0
  ((d.set (CAN.STAT_TEC k) (min tec 255)).set (CAN.STAT_REC k) (min rec' 255)).set (CAN.STAT_BUS k) bus

/-- A frame received well or badly moves REC (PRESUMED: ISO 11898-1, assumption 131): up by one on an error, down by one on a good
frame, from above 127 to 127. -/
def Dev.canHeard (d : Dev) (k : Fin 4) (err : Bool) : Dev :=
  let r := d.get (CAN.STAT_REC k)
  d.canErrors k (d.get (CAN.STAT_TEC k)) (if err then min 255 (r + 1) else if 127 < r then 127 else r - 1)

/-- The controller takes part in the bus's traffic: out of init, not bus-off. -/
def Dev.canOn (d : Dev) (k : Fin 4) : Bool :=
  d.enabled (.CAN k) && d.present (.CAN k) && d.get (CAN.MODE_MODE k) != 0 && d.get (CAN.STAT_BUS k) != 2

/-- CAN_FRAME_RX (R173, R174): a good frame is filtered and kept, with the wheel time at its start; an error is counted. A full FIFO
loses the frame; a closed loop keeps the bus out (R522). -/
def execCanFrameRx (k : Fin 4) (f : CanFrame) (err : Bool) (s : State) : Out :=
  s.on fun d =>
    if !d.canOn k || d.bit (Hdr.LOOP_ENABLE (CAN.page k)) then d
    else
      let d := if d.get (CAN.MODE_MODE k) = 1 then d.canHeard k err else d
      if err then d else d.canTake k f.id.toNat f.fdf (d.canRecord f)

/-- The controller transmits: in normal mode only (PRESUMED: ISO 11898-1, assumption 131), not bus-off, nor in hold-up (R173,
R175). -/
def Dev.canSends (d : Dev) (k : Fin 4) : Bool :=
  d.canOn k && d.get (CAN.MODE_MODE k) == 1 && !d.bit PWR.STAT_HOLDUP

/-- CAN_FRAME_TX (R173, R175): the frame at the front leaves, to the own receiver where the loop is closed (R177); after an error
it stays for another attempt and TEC rises by 8. -/
def execCanFrameTx (k : Fin 4) (ok : Bool) (s : State) : Out :=
  s.on fun d =>
    if !d.canSends k then d
    else match d.can[k].tx with
      | [] => d
      | fr :: rest =>
        let tec := d.get (CAN.STAT_TEC k)
        let r := d.get (CAN.STAT_REC k)
        if !ok then d.canErrors k (tec + 8) r
        else
          let d := ((d.canErrors k (tec - 1) r).modCan k fun c => { c with tx := rest }).canShow k
          if d.bit (Hdr.LOOP_ENABLE (CAN.page k)) then
            let w0 := (fr[0]?).getD 0
            d.canTake k (w0 % 2 ^ 29) (w0.testBit 30) ([w0, ((fr[1]?).getD 0) % 16 + 16 * (d.wheel % 2 ^ 28)] ++ fr.drop 2)
          else d

/-- MODE leaves init: the error counters start anew (PRESUMED, assumption 131). -/
def Dev.canModed (d : Dev) (k : Fin 4) (old new : Nat) : Dev :=
  if old % 4 = 0 ∧ new % 4 ≠ 0 then d.wrN (CAN.STAT k) 0 else d

end Sys2Proof.Machine
end

