-- ==== Sys2Proof/Machine/Fabric.lean ====
section
/-!
DEFINITION. The link fabric (ch. 19): ports (R425–R427), packets and forwarding (R428–R432), roll call (R433–R438), wheel
time (R439), power sharing (R440, R441) and application messages (R442).
-/
namespace Sys2Proof.Machine

open Sys2Proof

/-- Change the router. -/
def Dev.modYlr (d : Dev) (f : YlrInt → YlrInt) : Dev := { d with ylr := f d.ylr }
/-- Change a port. -/
def Dev.modYl (d : Dev) (p : Fin 3) (f : YlInt → YlInt) : Dev := d.modYlr fun y => { y with port := y.port.set p (f y.port[p]) }

/-- The part's unique identifier. -/
def Dev.uidN (d : Dev) : Nat := d.chip.uid.toNat

/-- The router runs, its loop open (R522). -/
def Dev.ylrOn (d : Dev) : Bool := d.enabled .YLR && !d.bit (Hdr.LOOP_ENABLE YLR.page)

/-- The router's loop is closed (R443): what the application sends comes back. -/
def Dev.ylrLooped (d : Dev) : Bool := d.enabled .YLR && d.bit (Hdr.LOOP_ENABLE YLR.page)

/-- Own address; 0 before admission (R428). -/
def Dev.ownAddr (d : Dev) : Nat := d.get YLR.STAT_ADDR

/-- The unit is the ringmaster. -/
def Dev.isRm (d : Dev) : Bool := d.bit YLR.STAT_RINGMASTER

/-- Packets of a class are stopped by shedding, temperature or hold-up (R443). -/
def Dev.classStopped (d : Dev) (c : Nat) : Bool :=
  (c == 3 && (decide (2 ≤ d.get PWR.STAT_LEVEL) || d.bit TSEN.STAT_HOT140)) ||
    (d.bit PWR.STAT_HOLDUP && (decide (2 ≤ c) || decide (5 ≤ d.get PWR.STAT_HU_STEP)))

/-! ### Routes (R430, R436) -/

/-- The entry of an address in ROUTE0–31: primary and alternate port. -/
def Dev.routeEntry (d : Dev) (a : Nat) : Nat × Nat :=
  let e := d.rdN (YLR.ROUTE ((a - 1) / 8)) / 16 ^ ((a - 1) % 8) % 16
  (e % 4, e / 4)

/-- A port carries routed packets. -/
def Dev.portUsable (d : Dev) (p : Fin 3) : Bool := d.bit (YL.STAT_LINK_UP p) && !(p == 0 && d.pairLink)

/-- Port of a number of a routing entry, if it is up. -/
def Dev.portUp (d : Dev) (n : Nat) : Option (Fin 3) :=
  if h : n < 3 then (if d.portUsable ⟨n, h⟩ then some ⟨n, h⟩ else none) else none

/-- The port towards an address: primary, or the alternate while the primary is down (R430). -/
def Dev.route (d : Dev) (a : Nat) : Option (Fin 3) :=
  if a = 0 ∨ 250 < a then none
  else match d.portUp (d.routeEntry a).1 with
    | some p => some p
    | none => d.portUp (d.routeEntry a).2

/-- Send an own message to a unit. -/
def Dev.sendTo (d : Dev) (a typ : Nat) (body : List Nat) : Dev :=
  match d.route a with
  | some p => d.link { port := p.val, typ := typ, dst := a, body := body }
  | none => d.bump YLR.CNT1_NOROUTE

/-! ### Ports (R426, R437) -/

/-- LINK_UP follows HELLO in both directions (R426); the ringmaster learns of it (R434). -/
def Dev.linkCheck (d : Dev) (p : Fin 3) : Dev :=
  let y := d.ylr.port[p]
  if y.sent && y.heard && d.bit (YL.STAT_SYNC p) && !d.bit (YL.STAT_LINK_UP p) then
    let d := (d.setBit (YL.STAT_LINK_UP p) true).raise (YL.page p) YL.ev_LINK_UP
    if d.isRm then d.modYlr fun y => { y with hold := true } else d
  else d

/-- 128 valid idle symbols in a row (R426). -/
def execLinkSync (p : Fin 3) (s : State) : Out :=
  s.on fun d =>
    if d.present (.YL p) && d.enabled (.YL p) && !d.bit (YL.STAT_SYNC p) && !d.portLooped p.val then
      (d.setBit (YL.STAT_SYNC p) true).modYl p fun y => { y with sent := false, heard := false }
    else d

/-- A HELLO has come in on a port. -/
def Dev.helloTake (d : Dev) (p : Fin 3) (uid addr : Nat) : Dev :=
  let d := ((d.wrN (YL.NEIGH_UID_LO p) (uid % 2 ^ 32)).wrN (YL.NEIGH_UID_HI p) (uid / 2 ^ 32)).set (YL.NEIGH_ADDR p) addr
  (d.modYl p fun y => { y with heard := true }).linkCheck p

/-- A HELLO arrives (R426). -/
def execHello (p : Fin 3) (uid : BitVec 64) (addr : BitVec 8) (s : State) : Out :=
  s.on fun d => if d.bit (YL.STAT_SYNC p) && !d.portLooped p.val then d.helloTake p uid.toNat addr.toNat else d

/-- Every 10 ms a HELLO goes out on every port in SYNC (R426); a closed loop brings it back (R522). -/
def execHelloPeriod (s : State) : Out :=
  s.on fun d => ylPorts.foldl (fun d p =>
    if d.bit (YL.STAT_SYNC p) then
      let d := d.link { port := p.val, typ := 0x01, body := [d.uidN, d.ownAddr] }
      let d := (d.modYl p fun y => { y with sent := true }).linkCheck p
      if d.portLooped p.val then d.helloTake p d.uidN d.ownAddr else d
    else d) d

/-- A port loses its link (R426): its packets are dropped and counted, the ringmaster learns of it (R434). -/
def Dev.portDown (d : Dev) (p : Fin 3) : Dev :=
  if !d.bit (YL.STAT_SYNC p) then d
  else
    let d := ((d.setBit (YL.STAT_SYNC p) false).setBit (YL.STAT_LINK_UP p) false).raise (YL.page p) YL.ev_LINK_DOWN
    let n := d.ylr.port[p].queue.length
    let d := d.set (YL.CNT_DROP p) (satAt 0xFFFF (d.get (YL.CNT_DROP p) + n))
    let d := d.modYl p fun _ => {}
    if p == 0 && d.pairLink then d
    else
      let d := d.raise YLR.page YLR.ev_ROUTE_CHANGE
      if d.isRm then d.modYlr fun y => { y with hold := true }
      else if d.bit YLR.STAT_ADMITTED then d.sendTo (d.get YLR.STAT_RM_ADDR) 0x06 [d.uidN, p.val]
      else d

/-- LINK_DOWN (R426, R437): `viol` code violations within 256 symbols are counted; more than 16, or no valid symbol for 50 µs, bring the
port down. -/
def execLinkDown (p : Fin 3) (silent : Bool) (viol : BitVec 16) (s : State) : Out :=
  s.on fun d =>
    if !d.bit (YL.STAT_SYNC p) || d.portLooped p.val then d
    else
      let n := viol.toNat
      let d := if n = 0 then d
        else (d.set (YL.ERR_CODE_ERR p) (satAt 0xFFFF (d.get (YL.ERR_CODE_ERR p) + n))).raise (YL.page p) YL.ev_ERR
      if silent || decide (16 < n) then d.portDown p else d

/-! ### Packets (R427–R431) -/

/-- Queue a packet on a port, or drop it and count it while its class is stopped (R427, R443). -/
def Dev.queuePkt (d : Dev) (p : Fin 3) (k : Pkt) : Dev :=
  if d.classStopped k.cls.val then d.bump (YL.CNT_DROP p) else d.modYl p fun y => { y with queue := y.queue ++ [k] }

/-- A hop raises the hop count of a SYNC, which follows its wheel time and flags (R439). -/
def syncHop (k : Pkt) : Pkt :=
  if k.typ = 0x10 then { k with payload := k.payload.set 9 (((k.payload[9]?).getD 0) + 1) } else k

/-- Forward a packet: TTL falls at each hop (R429), never back on the arrival port, never on the pair link (R430, R438). -/
def Dev.forward (d : Dev) (arrival : Fin 3) (k : Pkt) : Dev :=
  if k.ttl.toNat ≤ 1 then d.bump YLR.CNT1_TTL
  else
    let k : Pkt := syncHop { k with ttl := k.ttl - 1 }
    if k.dst = 255 then (d.floodPorts.filter (· != arrival)).foldl (fun d p => d.queuePkt p k) d
    else match d.route k.dst.toNat with
      | some p => if p = arrival then d.bump YLR.CNT1_NOROUTE else d.queuePkt p k
      | none => d.bump YLR.CNT1_NOROUTE

/-- S' (R431): the 64-bit value with these low 32 bits nearest to the last accepted counter. -/
def nearest (last seq : Nat) : Nat :=
  let c := last - last % 2 ^ 32 + seq
  if c + 2 ^ 31 < last then c + 2 ^ 32 else if last + 2 ^ 31 < c ∧ 2 ^ 32 ≤ c then c - 2 ^ 32 else c

/-- Last accepted counter of a source and class, with the packets accepted. -/
def Dev.floorOf (d : Dev) (src cls : Nat) : Nat × Nat :=
  match d.ylr.floor.find? fun e => e.1 == (src, cls) with
  | some e => e.2
  | none => (0, 0)

/-- Replace the entry of a key. -/
def putKey {α : Type} (l : List ((Nat × Nat) × α)) (k : Nat × Nat) (x : α) : List ((Nat × Nat) × α) :=
  (k, x) :: l.filter fun e => e.1 != k

/-- Authentication of a packet taken locally (R431, R432): what it leaves, and whether the packet is taken. -/
def Dev.authenticate (d : Dev) (k : Pkt) : Bool × Dev :=
  if !k.auth then (k.cls != 0, d)
  else if !d.keyOk then (false, d)
  else
    let key := (k.src.toNat, k.cls.val)
    let (last, n) := d.floorOf key.1 key.2
    let s := nearest last k.seq.toNat
    if !k.tagOk then (false, (d.bump YLR.CNT0_AUTH_FAIL).raise YLR.page YLR.ev_AUTH_FAIL)
    else if s ≤ last then (false, d.bump YLR.CNT0_REPLAY)
    else
      let d := d.modYlr fun y => { y with floor := putKey y.floor key (s, n + 1) }
      (true, if (n + 1) % 2 ^ 20 = 0 then d.modYlr fun y => { y with floorMram := putKey y.floorMram key (s / 2 ^ 20) } else d)

/-- One bit of CRC-16, polynomial 0x1021 (R428). -/
def crc16Bit (c : Nat) : Nat := if 0x8000 ≤ c then ((2 * c) % 65536) ^^^ 0x1021 else 2 * c

/-- CRC-16 of a list of bytes. -/
def crc16 (l : List Byte) : Nat :=
  l.foldl (fun c b => (List.range 8).foldl (fun c _ => crc16Bit c) (c ^^^ (b.toNat * 256))) 0xFFFF

/-- The header of a packet (R428). -/
def pktHead (k : Pkt) : List Byte :=
  let h := leBytes 1 (1 + 16 * k.cls.val + (if k.auth then 64 else 0) + (if k.mgmt then 128 else 0)) ++ [k.typ, k.dst, k.src,
    k.ttl, k.epoch] ++ leBytes 2 k.payload.length ++ leBytes 4 k.seq.toNat ++ leBytes 2 k.cyc.toNat
  h ++ leBytes 2 (crc16 h)

/-- A class 3 packet for this unit goes into the RX ring (R442), written as the router may (R19). -/
def Dev.ringStore (d : Dev) (p : Fin 3) (k : Pkt) : Dev :=
  let size := 2 ^ d.get YLR.RXQ_CTL_LOG2
  let wr := d.get YLR.RXQ_WR_WR
  let nxt := (wr + 1) % size
  if nxt = d.get YLR.RXQ_RD_RD then d.bump YLR.CNT1_RXFULL
  else
    let d := d.masterWrite .ylr (d.rdN YLR.RXQ_BASE + 288 * wr)
      (pktHead k ++ padTo 256 k.payload ++ leBytes 1 p.val ++ leBytes 3 0 ++ leBytes 8 d.wheel ++ leBytes 4 0)
    (d.set YLR.RXQ_WR_WR nxt).raise YLR.page YLR.ev_RX

/-- What a packet taken locally does here: class 3 is stored, LINKDOWN is noted by the ringmaster; the other types act through
the command of their name. -/
def Dev.takePkt (d : Dev) (p : Fin 3) (k : Pkt) : Dev :=
  if !k.crcOk then d
  else
    let (ok, d) := d.authenticate k
    if !ok then d
    else if k.cls = 3 then (if d.classStopped 3 || d.ylr.ringsOff then d.bump (YL.CNT_DROP p) else d.ringStore p k)
    else if k.typ = 0x06 ∧ d.isRm then d.modYlr fun y => { y with hold := true }
    else d

/-- A packet has come in on a port (R429–R431). -/
def Dev.pktIn (d : Dev) (p : Fin 3) (k : Pkt) : Dev :=
    if !d.bit (YL.STAT_SYNC p) then d
    else if !k.hcrcOk then (d.bump (YL.ERR_CRC_ERR p)).raise (YL.page p) YL.ev_ERR
    else if !d.ylrOn then d
    else if k.dst = 0 then d.takePkt p k
    else if k.dst = 255 then
      let key := (k.src.toNat, k.seq.toNat)
      if d.ylr.seen.contains key then d
      else ((d.modYlr fun y => { y with seen := key :: y.seen }).takePkt p k).forward p k
    else if k.dst.toNat = d.ownAddr then d.takePkt p k
    else d.forward p k

/-- PACKET_RECEIVE (R429–R431): what a packet's type does here beyond that is the command of the message's name (assumption 185). -/
def execPacketReceive (p : Fin 3) (k : Pkt) (s : State) : Out :=
  s.on fun d => if d.portLooped p.val then d else d.pktIn p k

/-- The packet a port sends next: class 0 first, then 1, 2, 3 (R427). -/
def nextPkt (q : List Pkt) : Option Pkt := [0, 1, 2, 3].findSome? fun c => q.find? fun k => k.cls.val == c

/-- A packet of the unit's own takes CYC as it is sent (R428). -/
def Dev.pktStamp (d : Dev) (k : Pkt) : Pkt :=
  if k.src.toNat = d.ownAddr ∧ k.ttl = 32 then { k with cyc := BitVec.ofNat 16 (d.wheel / 65536) } else k

/-- A port sends its next packet; class 0 is inserted into a packet that is being sent (R427); a closed loop brings it back (R522). -/
def execPacketTransmit (p : Fin 3) (busy : Bool) (s : State) : Out :=
  s.on fun d =>
    match nextPkt d.ylr.port[p].queue with
    | none => d
    | some k =>
      if busy && k.cls != 0 then d
      else
        let d := d.modYl p fun y => { y with queue := y.queue.erase k }
        if d.classStopped k.cls.val then d.bump (YL.CNT_DROP p)
        else
          let d := if busy then d.bump (YL.CNT_PREEMPT p) else d
          let k := d.pktStamp k
          let body := (pktHead k ++ k.payload).map BitVec.toNat
          let m : LinkMsg := { port := p.val, typ := k.typ.toNat, dst := k.dst.toNat, seq := k.seq.toNat, body := body }
          if d.portLooped p.val then d.pktIn p k else d.linkPut [m]

/-! ### Election and roll call (R433–R436) -/

/-- A candidate that hears no SYNC for ELECT_WAIT (R433). -/
def execElectionStart (s : State) : Out :=
  s.on fun d =>
    if d.ylrOn && d.bit YLR.CFG_ROOT_CAND && !d.isRm && !d.ylr.electing then
      (d.modYlr fun y => { y with electing := true, beacons := 0 }).flood 0x02 [d.uidN]
    else d

/-- Every 20 ms of an election (R433). -/
def execBeaconPeriod (s : State) : Out :=
  s.on fun d =>
    if d.ylr.electing then (d.modYlr fun y => { y with beacons := y.beacons + 1 }).flood 0x02 [d.uidN] else d

/-- A BEACON arrives (R433). -/
def execBeacon (uid : BitVec 64) (s : State) : Out :=
  s.on fun d => if d.ylrOn && d.ylr.electing && decide (uid.toNat < d.uidN) then d.modYlr fun y => { y with electing := false } else d

/-- The address this unit asks for (R435). -/
def Dev.wantAddr (d : Dev) : Nat := if d.get YLR.CFG_ADDR_REQ ≠ 0 then d.get YLR.CFG_ADDR_REQ else d.ylr.addrMram

/-- UID of a port's neighbour. -/
def Dev.neighUid (d : Dev) (p : Fin 3) : BitVec 64 :=
  BitVec.ofNat 64 (d.rdN (YL.NEIGH_UID_LO p) + 2 ^ 32 * d.rdN (YL.NEIGH_UID_HI p))

/-- The unit's own REPORT (R434). -/
def Dev.ownReport (d : Dev) : Report :=
  { uid := d.chip.uid, addr := BitVec.ofNat 8 d.wantAddr
    neigh := ylPorts.map fun p => if d.portUsable p then some (d.neighUid p) else none, key := 4 :: d.deviceKey 2 }

/-- A REPORT as it goes out. -/
def reportBody (r : Report) : List Nat :=
  [r.uid.toNat, r.addr.toNat] ++ r.neigh.flatMap (fun n => match n with | some u => [1, u.toNat] | none => [0, 0]) ++
    r.key.map BitVec.toNat

/-- The ringmaster starts a roll call with a new EPOCH (R433, R434). -/
def Dev.rollcall (d : Dev) : Dev :=
  let e := (d.rdN YLR.EPOCH + 1) % 2 ^ 32
  let d := d.wrN YLR.EPOCH e
  (d.modYlr fun y => { y with hold := false, reports := [d.ownReport], parent := none }).flood 0x03 [e]

/-- A candidate has sent beacons for 100 ms, five of its periods, without hearing a lower UID (R433). -/
def execRingmasterElect (s : State) : Out :=
  s.on fun d =>
    if d.ylr.electing && decide (5 ≤ d.ylr.beacons) then ((d.modYlr fun y => { y with electing := false }).setBit YLR.STAT_RINGMASTER true).rollcall else d

/-- A ROLLCALL arrives on a port (R434): the first one of its EPOCH fixes the parent port and is answered. -/
def execRollcall (p : Fin 3) (epoch : Word) (s : State) : Out :=
  s.on fun d =>
    if !d.ylrOn || d.isRm || !d.portUsable p || (d.ylr.parent.map Prod.snd) == some epoch.toNat then d
    else
      (d.modYlr fun y => { y with parent := some (p.val, epoch.toNat) }).link
        { port := p.val, typ := 0x04, body := reportBody d.ownReport }

/-- A REPORT arrives (R434). -/
def execReport (r : Report) (s : State) : Out :=
  s.on fun d =>
    if !d.ylrOn then d
    else if d.isRm then d.modYlr fun y => { y with reports := r :: y.reports.filter fun x => x.uid != r.uid }
    else match d.ylr.parent with
      | some (p, _) => d.link { port := p, typ := 0x04, body := reportBody r }
      | none => d

/-- Insert a report by ascending UID. -/
def insertReport (r : Report) : List Report → List Report
  | [] => [r]
  | x :: l => if r.uid.toNat < x.uid.toNat then r :: x :: l else x :: insertReport r l

/-- Units adjacent to a unit, by port. -/
def neighbours (rs : List Report) (u : BitVec 64) : List (Nat × BitVec 64) :=
  match rs.find? fun r => r.uid == u with
  | some r => (r.neigh.zipIdx).filterMap fun x => match x.1 with
    | some v => if rs.any fun q => q.uid == v then some (x.2, v) else none
    | none => none
  | none => []

/-- Hop counts from a unit: breadth first, `fuel` levels. -/
def hops (rs : List Report) : Nat → Nat → List (BitVec 64) → List (BitVec 64 × Nat) → List (BitVec 64 × Nat)
  | 0, _, _, m => m
  | fuel + 1, n, front, m =>
    let nxt := ((front.flatMap fun u => (neighbours rs u).map Prod.snd).eraseDups).filter fun v => !m.any fun e => e.1 == v
    if nxt.isEmpty then m else hops rs fuel (n + 1) nxt (m ++ nxt.map fun v => (v, n + 1))

/-- Hop count from `a` in a map. -/
def hopOf (m : List (BitVec 64 × Nat)) (u : BitVec 64) : Option Nat := (m.find? fun e => e.1 == u).map Prod.snd

/-- The best of (port, UID, hops): fewest hops, then the lower UID, then the lower port (R436). -/
def bestHop (l : List (Nat × BitVec 64 × Nat)) : Option (Nat × BitVec 64 × Nat) :=
  l.foldl (fun b x => match b with
    | none => some x
    | some y => if x.2.2 < y.2.2 ∨ (x.2.2 = y.2.2 ∧ x.2.1.toNat < y.2.1.toNat) then some x else some y) none

/-- The neighbours of a unit with their hop counts to a destination whose map is `m`. -/
def ways (rs : List Report) (m : List (BitVec 64 × Nat)) (u : BitVec 64) : List (Nat × BitVec 64 × Nat) :=
  (neighbours rs u).filterMap fun x => (hopOf m x.2).map fun h => (x.1, x.2, h)

/-- The primary path from a unit passes through `avoid` before it reaches the destination. -/
def passes (rs : List Report) (m : List (BitVec 64 × Nat)) (avoid dest : BitVec 64) : Nat → BitVec 64 → Bool
  | 0, _ => false
  | fuel + 1, u =>
    if u = avoid then true else if u = dest then false
    else match bestHop (ways rs m u) with
      | some x => passes rs m avoid dest fuel x.2.1
      | none => false

/-- The routing nibble of a unit for a destination (R436). -/
def nibble (rs : List Report) (u dest : BitVec 64) : Nat :=
  if u = dest then 15
  else
    let m := hops rs rs.length 0 [dest] [(dest, 0)]
    match bestHop (ways rs m u) with
    | none => 15
    | some x =>
      let alts := (ways rs m u).filter fun y => y.1 != x.1 && !passes rs m u dest rs.length y.2.1
      x.1 + 4 * (match bestHop alts with | some y => y.1 | none => 3)

/-- The addresses of the units, in ascending UID order (R435): requests that no lower UID shares, then the lowest free ones. -/
def assignAddrs (rs : List Report) : List (BitVec 64 × Nat) :=
  let asked := fun (r : Report) => decide (1 ≤ r.addr.toNat ∧ r.addr.toNat ≤ 250)
  let granted := rs.filterMap fun r =>
    if asked r && !(rs.any fun q => decide (q.uid.toNat < r.uid.toNat) && q.addr == r.addr) then some (r.uid, r.addr.toNat) else none
  rs.foldl (fun a r =>
    if a.any fun e => e.1 == r.uid then a
    else match (List.range 250).find? fun i => !a.any fun e => e.2 == i + 1 with
      | some i => a ++ [(r.uid, i + 1)]
      | none => a ++ [(r.uid, 0)]) granted

/-- ROUTES of one unit (R436). -/
def routesBody (rs : List Report) (addrs : List (BitVec 64 × Nat)) (u rm : BitVec 64) (epoch : Nat) : List Byte :=
  let addr := (hopOf addrs u).getD 0
  let nib := fun a => match addrs.find? fun e => e.2 == a with
    | some e => nibble rs u e.1
    | none => 15
  leBytes 8 u.toNat ++ leBytes 1 addr ++ leBytes 1 ((hopOf addrs rm).getD 0) ++ leBytes 4 epoch ++ leBytes 2 0 ++
    (List.range 125).map fun i => BitVec.ofNat 8 (nib (2 * i + 1) + 16 * nib (2 * i + 2))

/-- A ROUTES payload is taken if it names this unit (R434): address, table, EPOCH. -/
def Dev.routesTake (d : Dev) (l : List Byte) : Dev :=
  if ofLe (l.take 8) ≠ d.uidN ∨ l.length < 141 then d
  else
    let addr := ofLe ((l.drop 8).take 1)
    let rm := ofLe ((l.drop 9).take 1)
    let tab := (l.drop 16).take 125 ++ List.replicate 3 255
    let d := (List.range 32).foldl (fun d i => d.wrN (YLR.ROUTE i) (ofLe ((tab.drop (4 * i)).take 4))) d
    let d := ((d.set YLR.STAT_ADDR addr).set YLR.STAT_RM_ADDR rm).wrN YLR.EPOCH (ofLe ((l.drop 10).take 4))
    let d := (d.setBit YLR.STAT_ADMITTED (addr != 0)).setBit YLR.STAT_RINGMASTER (d.isRm && rm == addr)
    let d := if addr = 0 then d else d.modYlr fun y => { y with addrMram := addr }
    d.raise YLR.page YLR.ev_ROLLCALL_DONE

/-- RC_WAIT after the last REPORT (R434): addresses, routes, one ROUTES per unit. Units beyond 32 hops get address 0 (R435). -/
def execRoutesCompute (s : State) : Out :=
  s.on fun d =>
    if !d.isRm || d.ylr.reports.isEmpty then d
    else
      let all := d.ylr.reports.foldl (fun a r => insertReport r a) []
      let near := hops all 32 0 [d.chip.uid] [(d.chip.uid, 0)]
      let rs := all.filter fun r => near.any fun e => e.1 == r.uid
      let addrs := assignAddrs rs
      let bodies := all.map fun r =>
        if rs.any fun q => q.uid == r.uid then routesBody rs addrs r.uid d.chip.uid (d.rdN YLR.EPOCH)
        else leBytes 8 r.uid.toNat ++ leBytes 1 0 ++ leBytes 1 ((hopOf addrs d.chip.uid).getD 0) ++
          leBytes 4 (d.rdN YLR.EPOCH) ++ leBytes 2 0 ++ List.replicate 125 255
      let d := bodies.foldl (fun d b => d.flood 0x05 (b.map BitVec.toNat)) d
      bodies.foldl (fun d b => d.routesTake b) (d.modYlr fun y => { y with reports := [] })

/-- A ROUTES arrives (R434). -/
def execRoutes (data : List Byte) (s : State) : Out := s.on fun d => if d.ylrOn then d.routesTake data else d

/-- RC_HOLD after a link change (R434). -/
def execRollcallHoldExpiry (s : State) : Out := s.on fun d => if d.isRm && d.ylr.hold then d.rollcall else d

/-- RC_CTL.START (R434). -/
def execRcCtlStart (m : Master) (s : State) : Out :=
  s.on fun d => d.startWork m .YLR 0x04C (fun d => if d.isRm then none else some Err.SEQUENCE) Dev.rollcall

/-! ### Wheel time (R439) -/

/-- A SYNC arrives: own wheel time minus 1.1 µs per hop minus the received time. -/
def execSync (wt : BitVec 64) (fw : Bool) (hops : BitVec 8) (s : State) : Out :=
  s.on fun d =>
    if d.ylrOn && !d.isRm then
      let delay := roundDiv (hops.toNat * 1100 * d.get CAR.FREQ_FREQ * 65536) 1000000000000
      (d.wrI YLR.SYNC_OFS ((d.wheel : Int) - delay - wt.toNat)).setBit YLR.STAT_RM_FW fw
    else d

/-! ### Power sharing (R440, R441) -/

/-- Enabled phases of a bay's meter. -/
def Dev.phases (d : Dev) (n : Bay) : Nat := ((List.range 3).filter fun i => d.flag (MET.CFG_PH_EN (Bay.met n)) i).length

/-- A current in 0.1 A as power in 0.1 kW (R440). -/
def Dev.currentPower (d : Dev) (n : Bay) (i : Nat) : Nat :=
  if d.bit (BAY.CFG_DC n) then i * (signed 32 (d.rdN (MET.VDC_VEH (Bay.met n)))).toNat / 1000000
  else i * d.get (MET.NOM_UNOM (Bay.met n)) * d.phases n / 1000

/-- P_CAP (R440), in 0.1 kW. -/
def Dev.pCap (d : Dev) (n : Bay) : Nat :=
  ((List.range 8).filter (· != 4)).foldl (fun a k =>
    min a (min (d.get (BAY.LIM_P n k)) (d.currentPower n (d.get (BAY.LIM_I n k))))) (d.get (BAY.LIM_P n 0))

/-- P_MIN (R440), in 0.1 kW. -/
def Dev.pMin (d : Dev) (n : Bay) : Nat := d.currentPower n (if d.bit (BAY.CFG_DC n) then d.get (BAY.IMIN_DC_I n) else 60)

/-- P_MEAS (R440), in 0.1 kW. -/
def Dev.pMeas (d : Dev) (n : Bay) : Nat :=
  (signed 32 (d.rdN (if d.bit (BAY.CFG_DC n) then MET.PDC (Bay.met n) else MET.P (Bay.met n) 3))).toNat / 1000

/-- This unit's DEMAND (R440): the bays with a session, and the site power. -/
def Dev.ownDemand (d : Dev) : List BayDemand × Option Nat :=
  ((allBays.filter fun n => d.hasBay n && d.inSession n).map fun n =>
      let start := match d.led.sess[n] with | some r => r.tStart / 1000 | none => 0
      let dem := min (d.pCap n) (d.pMeas n + d.get YLR.SHARE_HEAD_V)
      { bay := n, d := dem, pMin := d.pMin n, pMeas := d.pMeas n, start := start },
    if d.bit YLR.CFG_SITE_SRC then some ((signed 32 (d.rdN (MET.P 4 3))).toNat / 1000) else none)

/-- Messages of class 2 are sent and taken (R431, R432); hold-up stops them (R443). -/
def Dev.class2 (d : Dev) : Bool := d.ylrOn && !d.classStopped 2 && (!d.bit YLR.CFG_SHARE_AUTH || d.keyOk)

/-- Keep a unit's DEMAND for the coming division. -/
def Dev.demandKeep (d : Dev) (src : Nat) (bays : List BayDemand) (site : Option Nat) : Dev :=
  d.modYlr fun y => { y with demands := (y.demands.filter fun e => e.1 != src) ++ [(src, bays, site)] }

/-- The router at a second tick (R440, R444): AGE counts, DEMAND is sent. The standby of a pair sends none (R452). -/
def Dev.shareSecond (d : Dev) : Dev :=
  if !d.bit YLR.CFG_SHARE_EN || !d.ylrOn then d
  else
    let d := d.bump YLR.SHARE_STAT_AGE
    if d.isStandby || !d.class2 then d
    else
      let (bays, site) := d.ownDemand
      if d.isRm then d.demandKeep d.ownAddr bays site
      else if d.bit YLR.STAT_ADMITTED then
        d.sendTo (d.get YLR.STAT_RM_ADDR) 0x20 (bays.flatMap (fun b => [b.bay.val, b.d, b.pMin, b.pMeas, b.start]) ++
          (match site with | some p => [p] | none => []))
      else d

/-- A DEMAND arrives at the ringmaster (R440). -/
def execDemand (src : BitVec 8) (bays : List BayDemand) (site : Option Nat) (s : State) : Out :=
  s.on fun d => if d.isRm && d.class2 then d.demandKeep src.toNat bays site else d

/-- Take the newest session off the set (the last of those that share its start). -/
def dropNewest (l : List (Nat × BayDemand)) : List (Nat × BayDemand) :=
  match l.foldl (fun (b : Option (Nat × BayDemand)) x => match b with
    | none => some x
    | some y => if y.2.start ≤ x.2.start then some x else some y) none with
  | some x => l.erase x
  | none => l

/-- The set that the budget carries (R440). -/
def fitSet (budget : Int) : Nat → List (Nat × BayDemand) → List (Nat × BayDemand)
  | 0, l => l
  | fuel + 1, l => if budget < ((l.map fun x => x.2.pMin).sum : Nat) ∧ l ≠ [] then fitSet budget fuel (dropNewest l) else l

/-- Water-filling (R440): shares of (address, bay). -/
def waterFill : Nat → Int → List (Nat × BayDemand) → List ((Nat × Bay) × Nat)
  | 0, _, _ => []
  | fuel + 1, rest, l =>
    if l = [] then []
    else
      let s := rest / (l.length : Int)
      let low := l.filter fun x => decide ((x.2.d : Int) ≤ s)
      if low = [] then l.map fun x => ((x.1, x.2.bay), s.toNat)
      else
        (low.map fun x => ((x.1, x.2.bay), x.2.d)) ++
          waterFill fuel (rest - ((low.map fun x => x.2.d).sum : Nat)) (l.filter fun x => !decide ((x.2.d : Int) ≤ s))

/-- The division of the site's budget (R440): shares of every bay with a demand. -/
def divide (limit base : Int) (ds : List (Nat × BayDemand)) : List ((Nat × Bay) × Nat) :=
  let budget := limit - base
  let set := fitSet budget ds.length ds
  let sh := waterFill (set.length + 1) budget set
  ds.map fun x =>
    let k := (x.1, x.2.bay)
    (k, if set.contains x then max (match sh.find? fun e => e.1 == k with | some e => e.2 | none => 0) x.2.pMin else 0)

/-- A SHARE takes effect (R441): LIM_FABRIC of each bay; a bay without a session gets P_MIN. -/
def Dev.shareApply (d : Dev) : Dev :=
  match d.ylr.shares with
  | none => d
  | some l =>
    let d := d.forBays fun n d =>
      if d.hasBay n then
        let v := if d.inSession n then (l[n.val]?).getD 0 else d.pMin n
        d.wrN (BAY.LIM n 4) (v * 65536 + 0xFFFF)
      else d
    d.modYlr fun y => { y with shares := none, late := false }

/-- A SHARE is taken (R441): seat 32 at the converted cycle, or the next tick. -/
def Dev.shareTake (d : Dev) (bays : List Nat) (cyc : Nat) : Dev :=
  let d := ((d.setBit YLR.STAT_SHARE_OK true).setBit YLR.STAT_FALLBACK false).set YLR.SHARE_STAT_AGE 0
  let d := (d.bump YLR.SHARE_STAT_COUNT).raise YLR.page YLR.ev_SHARE
  let own : Int := ((cyc : Int) * 65536 + signed 32 (d.rdN YLR.SYNC_OFS) + 32768) / 65536
  if own < (d.wheel / 65536 : Nat) + 2 then
    (d.bump YLR.SHARE_STAT_LATE).modYlr fun y => { y with shares := some bays, late := true }
  else
    ((d.seatCancel 32).hwSeat 32 (own.toNat * 65536) 0x10 0 0).2.modYlr fun y => { y with shares := some bays, late := false }

/-- 100 ms after its second tick the ringmaster divides the budget and sends SHARE (R440). -/
def execShareDivision (s : State) : Out :=
  s.on fun d =>
    if !d.isRm || !d.bit YLR.CFG_SHARE_EN || !d.class2 then d
    else
      let dm := d.ylr.demands
      let ds := dm.flatMap fun e => e.2.1.map fun b => (e.1, b)
      let base : Int := match dm.findSome? fun e => e.2.2 with
        | some p => (p : Int) - ((ds.map fun x => x.2.pMeas).sum : Nat)
        | none => d.get YLR.SHARE_BASE_V
      let sh := divide (d.get YLR.SHARE_LIMIT_V) base ds
      let cyc := d.wheel / 65536 + 10
      let of := fun a => allBays.map fun n => match sh.find? fun e => e.1 == (a, n) with | some e => e.2 | none => 0
      let d := d.modYlr fun y => { y with demands := [] }
      dm.foldl (fun d e =>
        if e.1 = d.ownAddr then d.shareTake (of e.1) cyc else d.sendTo e.1 0x21 (of e.1 ++ [cyc])) d

/-- A SHARE arrives (R441). -/
def execShare (bays : List Nat) (cyc : Nat) (s : State) : Out :=
  s.on fun d => if d.bit YLR.CFG_SHARE_EN && d.class2 && !d.isStandby then d.shareTake bays cyc else d

/-- No SHARE for 3 s (R441): as many second ticks have passed since the last one. -/
def execShareTimeout (s : State) : Out :=
  s.on fun d =>
    if d.bit YLR.CFG_SHARE_EN && d.ylrOn && !d.isStandby && decide (3 ≤ d.get YLR.SHARE_STAT_AGE) && !d.bit YLR.STAT_FALLBACK then
      let d := ((d.setBit YLR.STAT_SHARE_OK false).setBit YLR.STAT_FALLBACK true).raise YLR.page YLR.ev_SHARE_LOST
      d.forBays fun n d => if d.hasBay n then d.wr (BAY.LIM n 4) (d.rd (YLR.SHARE_FB n.val)) else d
    else d

/-- SHARE_EN falls (R441): LIM_FABRIC carries no limit again, and no SHARE waits. -/
def Dev.shareOff (d : Dev) : Dev :=
  (d.forBays fun n d => if d.hasBay n then d.wrN (BAY.LIM n 4) 0xFFFFFFFF else d).modYlr fun y =>
    { y with shares := none, late := false }

/-! ### Application messages and the key (R431, R432, R442) -/

/-- The first 8 bytes of the CMAC of an own packet under the key of KEY.SLOT (R431): over S, the header with TTL and HCRC as zero, and the
payload but its last 8 bytes, which they become. -/
def Dev.tagged (d : Dev) (k : Pkt) (n : Nat) : Pkt :=
  if !k.auth ∨ k.payload.length < 8 then k
  else
    let blob := if h : d.get YLR.KEY_SLOT < 32 then (match d.vlt.slots[d.get YLR.KEY_SLOT] with | some x => x.blob | none => []) else []
    let body := k.payload.take (k.payload.length - 8)
    let msg := leBytes 8 n ++ (pktHead { k with ttl := 0 }).take 14 ++ [0, 0] ++ body
    { k with payload := body ++ (List.range 8).map (Config.fabricTag blob msg) }

/-- One TX slot (R442), read as the router may (R19). -/
def Dev.txSlot (d : Dev) : Dev :=
  let size := 2 ^ d.get YLR.TXQ_CTL_LOG2
  let rd := d.get YLR.TXQ_RD_RD
  let (slot, d) := d.masterRead .ylr (d.rdN YLR.TXQ_BASE + 288 * rd) 288
  let b := fun i => ((slot[i]?).getD 0).toNat
  let d' := d.set YLR.TXQ_RD_RD ((rd + 1) % size)
  if b 0 / 16 % 4 ≠ 3 ∨ b 1 < 0x80 then d'.bump YLR.CNT1_BADTX
  else
    let (n, d') := d'.sendNext 3
    let k : Pkt := {
      cls := 3, auth := b 0 / 64 % 2 == 1, typ := BitVec.ofNat 8 (b 1), dst := BitVec.ofNat 8 (b 2),
      src := BitVec.ofNat 8 d.ownAddr, epoch := BitVec.ofNat 8 (d.rdN YLR.EPOCH), seq := BitVec.ofNat 32 n,
      cyc := BitVec.ofNat 16 (d.wheel / 65536), payload := (slot.drop 16).take (min 256 ((b 6 + 256 * b 7) % 512)) }
    let k := d.tagged k n
    if d.ylrLooped then d'.takePkt 0 k
    else if k.dst = 255 then (d'.floodNote n).floodPorts.foldl (fun d p => d.queuePkt p k) (d'.floodNote n)
    else match d'.route k.dst.toNat with
      | some p => d'.queuePkt p k
      | none => d'.bump YLR.CNT1_NOROUTE

/-- Slots up to TXQ_WR. -/
def Dev.txRing : Nat → Dev → Dev
  | 0, d => d
  | n + 1, d => if d.get YLR.TXQ_RD_RD = d.get YLR.TXQ_WR_WR then d else Dev.txRing n d.txSlot

/-- A write of TXQ_WR (R442). -/
def execTxqWrWrite (m : Master) (w : Word) (s : State) : Out :=
  s.on fun d => d.guard m .YLR 0x108 fun d =>
    let size := 2 ^ d.get YLR.TXQ_CTL_LOG2
    if size ≤ w.toNat % 1024 then d.reject YLR.page Err.RANGE
    else
      let d := d.set YLR.TXQ_WR_WR w.toNat
      if d.enabled .YLR && !d.ylr.ringsOff && d.get YLR.TXQ_RD_RD != d.get YLR.TXQ_WR_WR then
        (Dev.txRing size d).raise YLR.page YLR.ev_TX_SPACE
      else d

/-- A write of KEY (R431, R432): VALID while the slot holds a FABRIC_MAC key. -/
def execYlrKeyWrite (m : Master) (w : Word) (s : State) : Out :=
  s.on fun d => d.guard m .YLR 0x050 fun d =>
    let d := (d.set YLR.KEY_SLOT w.toNat).setBit YLR.KEY_VALID true
    let ok := d.keyOk
    (d.setBit YLR.KEY_VALID ok).setBit YLR.STAT_KEY_OK ok

end Sys2Proof.Machine
end

