-- ==== Sys2Proof/Machine/Pair.lean ====
section
/-!
DEFINITION. Active and standby pairing (ch. 20): states (R450), messages (R452), heartbeat and token (R453–R455),
replication and cross-check (R456–R458), the report card (R459, R460), resigning (R461, R462), takeover (R463, R464),
return and planned handover (R465, R466), host messages (R467), coinciding events (R468).
-/
namespace Sys2Proof.Machine

open Sys2Proof

/-- Change the pair's state. -/
def Dev.modPair (d : Dev) (f : PairInt → PairInt) : Dev := { d with pair := f d.pair }

/-- PAIR runs. -/
def Dev.pairOn (d : Dev) : Bool := d.present .PAIR && d.pairState != Pr.DISABLED

/-- The unit follows a peer. -/
def Dev.follows (d : Dev) : Bool :=
  d.pairState == Pr.SYNC || d.pairState == Pr.PARALLEL || d.pairState == Pr.STANDBY

/-- A message of the peer is taken: it comes over YL0 (R438), whose loop is open (R522), and needs the key (R449). -/
def Dev.pairTakes (d : Dev) : Bool := d.pairOn && d.keyOk && d.bit (YL.STAT_SYNC 0) && !d.portLooped 0

/-- The monitors that keep items of the own card up to date (R459): IMD results (10), vault (12), legal domain (13), fabric and
supplies (14). -/
def Dev.cardWatch (d : Dev) : Dev :=
  if !d.present .PAIR then d
  else
    let imd := fun (f : Bay → Fld) => allBays.any fun n => d.bit (f n)
    let d := d.cardOf 10 (imd IMD.STAT_FAULT || imd IMD.STAT_NORESULT) (imd IMD.STAT_VALID)
    let d := d.cardOf 12 (d.bit (Hdr.FAULT VLT.page) || d.rdN VLT.SLOT_BAD != 0) (d.bit VLT.STAT_TRNG_OK)
    let d := d.cardOf 13 (d.llogFull || (!d.led.ready && d.get (PAIR.CARD_RESULT 13) == 1)) d.led.ready
    let yl := ([1, 2] : List (Fin 3)).filter fun k => d.present (.YL k) && d.bit (Hdr.EN (YL.page k))
    let up := yl.all fun k => d.bit (YL.STAT_LINK_UP k)
    d.cardOf 14 (d.bit PWR.STAT_VLS_LOW || d.bit PWR.STAT_VBAT_LOW || (!up && d.get (PAIR.CARD_RESULT 14) == 1)) up

/-- FAIL in items 0–4 of the own card. -/
def Dev.hardFail (d : Dev) : Bool := [0, 1, 2, 3, 4].any fun k => d.get (PAIR.CARD_RESULT k) == 2

/-- FAIL bit per item of the own card. -/
def Dev.failMask (d : Dev) : Nat :=
  (List.range 16).foldl (fun a k => if d.get (PAIR.CARD_RESULT k) = 2 then a + 2 ^ k else a) 0

/-- A standby in hold-up, at L3 or lower, or with FAIL in items 0–4 does not take the token (R453). -/
def Dev.noToken (d : Dev) : Bool := d.bit PWR.STAT_HOLDUP || decide (3 ≤ d.get PWR.STAT_LEVEL) || d.hardFail

/-- PAIR_TOK_I as it reads. -/
def Dev.tokIn (d : Dev) (b : Bool) : Dev := d.setBit PAIR.STAT_TOK_I b

/-! ### What the active sends (R452, R456) -/

/-- The 8 timers of a bay: ms, 0 while inactive. -/
def Dev.timersOf (d : Dev) (n : Bay) : List Nat :=
  (List.range 8).map fun k => if d.flag (BAY.TMR_ACT_ACT n) k then (d.bay[n].tmrMs[k]?).getD 0 else 0

/-- SESSION of a bay (R452). -/
def Dev.sessionOf (d : Dev) (n : Bay) : PairSess :=
  { open_ := d.inSession n, num := d.rdN (BAY.SESSION n), state := d.get (BAY.STATE_CUR n), timers := d.timersOf n,
    stopsrc := d.get (BAY.STOPSRC_SRC n), lims := [0, 5, 6, 7, 4].map fun k => d.rdN (BAY.LIM n k),
    cpMode := d.get (BAY.CP_STAT_MODE n), duty := d.get (BAY.CP_DUTY_DUTY n), drv := d.ctc[n].drv,
    pre := d.bit (CTC.STATE_PRE n),
    learned := ([0, 1, 2].map fun k => (d.get (CTC.MAKE_TIME n k), d.get (CTC.MAKE_N n k))) ++
      ([0, 1, 2].map fun k => (d.get (CTC.BREAK_TIME n k), d.get (CTC.BREAK_N n k))),
    rcdPass := d.rcd[n].lastPass, rcdAge := d.rdN (RCD.TEST_AGE n),
    imd := [d.rdN (IMD.STAT n), d.rdN (IMD.RISO n), d.rdN (IMD.RP n), d.rdN (IMD.RN n)],
    net := d.rdN (SAF.SNET_STAT n.val), netMs := d.saf.bay[n].netMs }

/-- The values of a SESSION message, in the order of R452. -/
def sessionBody (n : Bay) (v : PairSess) : List Nat :=
  [n.val, if v.open_ then 1 else 0, v.num, v.state] ++ v.timers ++ [v.stopsrc] ++ v.lims ++
    [v.cpMode, v.duty, v.drv, if v.pre then 1 else 0] ++ v.learned.flatMap (fun x => [x.1, x.2]) ++
    [if v.rcdPass then 1 else 0, v.rcdAge] ++ v.imd ++ [v.net, v.netMs]

/-- Send SESSION of a bay. -/
def Dev.sessionSend (d : Dev) (n : Bay) : Dev :=
  let v := d.sessionOf n
  (d.pairSend 0x32 (sessionBody n v)).modPair fun p => { p with sent := p.sent.set n (some { v with rcdAge := 0, netMs := 0 }) }

/-- The values of a replicated record (R456, R458). -/
def recBody : PairRec → List Nat
  | .session n r => [0, n.val, r.num, if r.metering then 1 else 0] ++ (r.auth.getD []).map BitVec.toNat ++
      [r.tariff, r.flags, r.loss, r.startWt, r.tStart, r.impStart, r.expStart, r.calId]
  | .account n a => [1, n.val, if a.prepaid then 1 else 0, a.state, toUnsigned 64 a.credit, a.loaded, a.ecG, a.ec, a.warn1,
      a.warn2, a.tObey, a.tFb, a.reconnect]
  | .disconnect n => [2, n.val]
  | .closed n => [3, n.val]
  | .registers p m ap an qp qn rq => [4, p.val, m] ++ ap ++ an ++ [qp, qn] ++ rq

/-- Register records of a page for a minute (R458). -/
def Dev.registersOf (d : Dev) (minute : Nat) (p : Fin 5) : PairRec :=
  let x := d.led.pages[p]
  .registers p minute x.ap x.an x.qp x.qn x.rq

/-- A session as it is replicated (R456). -/
def sessRep (r : SessRec) : SessRep where
  num := r.num
  metering := r.metering
  auth := r.auth
  tariff := r.tariff
  flags := r.flags
  loss := r.loss
  startWt := r.startWt
  tStart := r.tStart
  impStart := r.impStart
  expStart := r.expStart
  calId := r.calId

/-- An account as it is replicated (R456). -/
def acctRep (a : Account) : AcctRep where
  prepaid := a.prepaid
  state := a.state
  credit := a.credit
  loaded := a.loaded
  ecG := a.ecG
  ec := a.ec
  warn1 := a.warn1
  warn2 := a.warn2
  tObey := a.tObey
  tFb := a.tFb
  reconnect := a.reconnect

/-- What the standby is to hold of a bay (R456). -/
def Dev.recsOf (d : Dev) (n : Bay) : List PairRec :=
  let a := d.led.acct[n]
  (match d.led.sess[n] with
    | some r => [PairRec.session n (sessRep r)]
    | none => []) ++
  (if a.state = 0 then [] else [PairRec.account n (acctRep a)]) ++
  (if a.stop then [PairRec.disconnect n] else [])

/-- Without what moves with every entry, so that only transactions are sent. -/
def settled : PairRec → PairRec
  | .session n r => .session n { r with loss := 0, flags := 0 }
  | r => r

/-- The bay of a session record. -/
def sessBay : PairRec → Option Bay
  | .session n _ => some n
  | _ => none

/-- The PAIR hardware of the active (R452, R456, R457): a changed output, session or replicated record is sent, and the sums of
a minute that has closed. It runs in the bridge cycle that follows a command. -/
def Dev.pairFollow (d : Dev) : Dev :=
  let st := d.get PAIR.STAT_PEER_STATE
  if !d.pairOn then d
  else
    let d := match d.pair.minute with
      | some (m, l) =>
        if d.pair.sentMin = some m then d
        else
          let d := (d.pairSend 0x40 (m :: l.flatMap fun x => [x.1, x.2.1, x.2.2.1, x.2.2.2])).modPair fun p =>
            { p with sentMin := some m }
          if d.pairState = Pr.ACTIVE then
            l.foldl (fun d x => if h : x.1 < 5 then d.pairSend 0x33 (recBody (d.registersOf m ⟨x.1, h⟩)) else d) d
          else d
      | none => d
    if d.pairState ≠ Pr.ACTIVE then d
    else
      let d := d.forBays fun n d =>
        if !d.hasBay n then d
        else
          let v := d.sessionOf n
          let o := (v.drv, v.pre, v.cpMode, v.duty)
          let d := if d.pair.sentOut[n] = some o then d
            else (d.pairSend 0x37 [n.val, v.drv, if v.pre then 1 else 0, v.cpMode, v.duty]).modPair fun p =>
              { p with sentOut := p.sentOut.set n (some o) }
          if d.pair.sent[n] = some { v with rcdAge := 0, netMs := 0 } then d else d.sessionSend n
      if st = Pr.SYNC ∨ st = Pr.PARALLEL ∨ st = Pr.STANDBY then
        let recs := allBays.flatMap d.recsOf
        let keys := recs.map settled
        let new := recs.filter fun r => !d.pair.sentRecs.contains (settled r)
        let gone := (d.pair.sentRecs.filterMap sessBay).filter fun n => !(recs.filterMap sessBay).contains n
        let d := (new ++ gone.map PairRec.closed).foldl (fun d r => d.pairSend 0x33 (recBody r)) d
        d.modPair fun p => { p with sentRecs := keys }
      else d

/-! ### Takeover (R463) -/

/-- Contactor state from the outputs followed (R202). -/
def Dev.pathState (d : Dev) (n : Bay) (drv : Nat) (pre : Bool) : Nat :=
  if drv ≠ 0 then Ct.CLOSED else if pre && d.ctDc n then Ct.PRECHARGE else Ct.OPEN

/-- The new active's part of one bay. -/
def Dev.takeBay (n : Bay) (d : Dev) : Dev :=
  match d.pair.sess[n] with
  | none => d.modBay n fun b => { b with live := true }
  | some v =>
    let d := (d.modBay n fun b => { b with live := true, tmrMs := (List.range 8).map fun k => (v.timers[k]?).getD 0 }).set
      (BAY.STATE_CUR n) v.state
    let d := (List.range 8).foldl (fun d k => d.setFlag (BAY.TMR_ACT_ACT n) k (decide (0 < (v.timers[k]?).getD 0))) d
    let d := (d.set (BAY.STOPSRC_SRC n) v.stopsrc).idleSet n (d.bay[n].table.idleMask.testBit v.state)
    let d := ([0, 5, 6, 7, 4].zipIdx).foldl (fun d k => d.wrN (BAY.LIM n k.1) ((v.lims[k.2]?).getD 0xFFFFFFFF)) d
    let d := ([0, 1, 2] : List Nat).foldl (fun d k =>
      let m := (v.learned[k]?).getD (0, 0)
      let b := (v.learned[k + 3]?).getD (0, 0)
      (((d.set (CTC.MAKE_TIME n k) m.1).set (CTC.MAKE_N n k) m.2).set (CTC.BREAK_TIME n k) b.1).set (CTC.BREAK_N n k) b.2) d
    let d := d.ctEnter n (d.pathState n d.ctc[n].drv (d.bit (CTC.STATE_PRE n)))
    let d := (d.modRcd n fun r => { r with lastPass := v.rcdPass }).wrN (RCD.TEST_AGE n) v.rcdAge
    let d := match v.imd with
      | [st, ri, rp, rn] =>
        let d := (((d.wrN (IMD.STAT n) st).wrN (IMD.RISO n) ri).wrN (IMD.RP n) rp).wrN (IMD.RN n) rn
        if d.bit (IMD.STAT_RUNNING n) then
          (d.modImd n fun i => { i with primed := false, hist := [], warnOk := 0, okPosted := true }).imdArm n
            (d.get (IMD.STAT_HALF_EFF n))
        else d
      | _ => d
    let d := (d.modSafBay n fun b => { b with netMs := v.netMs }).wrN (SAF.SNET_STAT n.val) v.net
    if v.open_ then
      let d := (d.wrN (BAY.SESSION n) v.num).setBit (BAY.STATE_SESSION n) true
      (d.netCause n Net.PAIR).bayPost n Ev.PAIR_TAKEOVER
    else d

/-- A replica becomes the unit's own (R463, R464): the session carries SIGNER of the new active with bit 2, and HANDOVER. -/
def Dev.takeRec (d : Dev) (r : PairRec) : Dev :=
  match r with
  | .session n s =>
    let signer := (if d.bit PAIR.STAT_UNIT then 2 else 1) + 4
    d.modLed fun l =>
      let imp := l.pages[Bay.met n].energy 0
      let exp := l.pages[Bay.met n].energy 9
      let r : SessRec := { num := s.num, metering := s.metering, auth := s.auth, tariff := s.tariff, flags := s.flags ||| 0x1000,
                           loss := s.loss, startWt := s.startWt, tStart := s.tStart, impStart := s.impStart,
                           expStart := s.expStart, impEnd := imp, expEnd := exp, tEnd := s.tStart, calId := s.calId,
                           signer := signer }
      { l with sess := l.sess.set n (some r) }
  | .account n a => d.modLed fun l =>
      let b : Account := l.acct[n]
      let b : Account := { b with prepaid := a.prepaid, state := a.state, credit := a.credit, loaded := a.loaded, ecG := a.ecG,
                                  ec := a.ec, warn1 := a.warn1, warn2 := a.warn2, tObey := a.tObey, tFb := a.tFb,
                                  reconnect := a.reconnect, opened := true }
      { l with acct := l.acct.set n b }
  | .disconnect n => d.modLed fun l => { l with acct := l.acct.set n { l.acct[n] with stop := true } }
  | .closed _ => d
  | .registers _ _ _ _ _ _ _ => d

/-- The token is asserted and the new active takes over (R463). -/
def Dev.takeover (d : Dev) : Dev :=
  let gap := if d.pair.gap = 0 then 0 else satAt 0xFFFF (1000 * d.pair.gap - 1)
  let reason := d.pair.reason
  let d := ((d.setBit PAIR.STAT_TOKEN true).bump PAIR.TAKEOVER_COUNT).set PAIR.TAKEOVER_GAP gap
  let d := (d.pairEnter Pr.ACTIVE).raise PAIR.page PAIR.ev_TAKEOVER
  let d := d.pair.replicas.foldl Dev.takeRec d
  let d := d.modPair fun p =>
    { p with tokenNext := false, handover := false, swapIn := none, guard := false, replicas := [],
             sent := Vector.replicate 4 none, sentOut := Vector.replicate 4 none, sentRecs := [] }
  let d := d.forBays fun n d => if d.hasBay n then Dev.takeBay n (d.networkClear n) else d
  (d.modPair fun p => { p with sess := Vector.replicate 4 none, reason := 0 }).safEval.pairLog reason

/-! ### Periods, heartbeats and the token (R448, R453–R455) -/

/-- The sessions and accounts that the unit kept as the active are no longer its own (R456). -/
def Dev.ledgerYield (d : Dev) : Dev :=
  d.modLed fun l => { l with sess := Vector.replicate 4 none, acct := Vector.replicate 4 {} }

/-- The active drops its token at a planned handover and goes to STANDBY (R466): what was its own is now what it keeps for the new active. -/
def Dev.swapAway (d : Dev) : Dev :=
  let d := (d.setBit PAIR.STAT_TOKEN false).set PAIR.RESIGN_CAUSE 0x21
  let recs := allBays.flatMap d.recsOf
  let sess := Vector.ofFn fun n : Bay => if d.hasBay n then some (d.sessionOf n) else none
  let d := d.ledgerYield
  ((d.modPair fun p => { p with handover := false, swapIn := none, deferCause := none, replicas := recs, sess := sess }).setBit PAIR.STAT_DEFER false).pairEnter
    Pr.STANDBY |>.pairLog 0x21

/-- The token may change at a period start. -/
def Dev.periodToken (d : Dev) : Dev :=
  match d.pair.swapIn with
  | some n =>
    if 1 < n then d.modPair fun p => { p with swapIn := some (n - 1) }
    else if d.pairState = Pr.ACTIVE then d.swapAway
    else if d.pairState = Pr.STANDBY then (d.modPair fun p => { p with reason := 0x21 }).takeover
    else d.modPair fun p => { p with swapIn := none }
  | none =>
    if d.pair.tokenNext && d.pair.waitMs = 0 then
      if d.pairState = Pr.STANDBY then d.takeover
      else if d.pairState = Pr.ACTIVE then (d.setBit PAIR.STAT_TOKEN true).modPair fun p => { p with tokenNext := false }
      else d.modPair fun p => { p with tokenNext := false }
    else d

/-- A 1 ms period starts (R448, R452, R453), with PAIR_TOK_I as it reads (R469). -/
def execPairPeriodStart (tokI : Bool) (s : State) : Out :=
  s.on fun d =>
    let d := if d.present .PAIR then d.tokIn tokI else d
    if !d.pairOn then d
    else
      let d := d.modPair fun p => { p with gap := p.gap + 1, waitMs := p.waitMs - 1, raceWait := decide (1 < p.waitMs) }
      let d := d.periodToken
      if d.pairState = Pr.START then d
      else
        let fl := (if d.bit PWR.STAT_HOLDUP then 1 else 0) + (if 3 ≤ d.get PWR.STAT_LEVEL then 2 else 0)
        let d := d.modPair fun p => { p with hbSeq := p.hbSeq + 1 }
        d.pairSend 0x30 [d.pairState, d.get PAIR.STAT_UNIT, d.get PAIR.STAT_TOKEN, fl, d.failMask, d.pair.hbSeq]

/-- Strap clash (R468). -/
def Dev.roleClash (d : Dev) : Dev :=
  if d.bit PAIR.STAT_ROLE_CLASH then d else (d.setBit PAIR.STAT_ROLE_CLASH true).raise PAIR.page PAIR.ev_ROLE_CLASH

/-- What a unit in SYNC needs (R465): registers, sessions and accounts, session states. -/
def Dev.syncSend2 (d : Dev) : Dev :=
  let recs := (([0, 1, 2, 3, 4] : List (Fin 5)).map (d.registersOf d.led.bndMin)) ++ allBays.flatMap d.recsOf
  let d := (recs.zipIdx).foldl (fun d r => d.pairSend 0x36 ((100 * (r.2 + 1) / recs.length) :: recBody r.1)) d
  (d.forBays fun n d => if d.hasBay n then d.sessionSend n else d).modPair fun p =>
    { p with sentRecs := (allBays.flatMap d.recsOf).map settled }

/-- Resynchronisation begins (R450, R465). -/
def Dev.syncStart (d : Dev) : Dev :=
  ((d.ledgerYield.set PAIR.SYNC_PROGRESS 0).modPair fun p => { p with replicas := [], sess := Vector.replicate 4 none }).pairEnter
    Pr.SYNC

/-- A heartbeat of the peer (R448, R450, R452, R454, R460): `phase`, the own period start after the peer's in ns, the link's delay taken
off, to which a unit that follows aligns its grid. -/
def execHeartbeat (st : Fin 8) (unit _tok : Bool) (_flags : BitVec 2) (fail : BitVec 16) (_seq : Word) (phase : BitVec 16)
    (s : State) : Out :=
  s.on fun d =>
    if !d.pairTakes then d
    else
      let was := d.get PAIR.STAT_PEER_STATE
      let ok := d.bit PAIR.STAT_PEER_OK
      let d := ((d.set PAIR.STAT_PEER_STATE st.val).setBit PAIR.STAT_PEER_OK true).set PAIR.HB_RUN 0
      let d := d.setBit PAIR.STAT_LINK_SPLIT false
      let d := if d.follows then d.set PAIR.PWM_ERR_ERR phase.toNat else d
      let d := d.modPair fun p => { p with gap := 0, guard := false, peerFail := fail.toNat }
      let d := if unit = d.bit PAIR.STAT_UNIT then d.roleClash else d
      if d.pairState = Pr.LISTEN ∧ st = 6 ∧ !d.bit PAIR.STAT_ROLE_CLASH then
        d.syncStart
      else if d.pairState = Pr.ACTIVE then
        let d := if st ≠ 5 then d.setBit PAIR.STAT_ELIGIBLE false else d
        if st = 3 ∧ (was ≠ 3 ∨ !ok) then d.syncSend2 else d
      else d

/-- The peer is lost to a unit that synchronises (R450). -/
def Dev.peerLost (d : Dev) : Dev :=
  let d := (d.setBit PAIR.STAT_PEER_OK false).raise PAIR.page PAIR.ev_PEER_LOST
  if d.pairState = Pr.SYNC ∨ d.pairState = Pr.PARALLEL then
    (d.modPair fun p => { p with replicas := [], sess := Vector.replicate 4 none, counting := false }).pairEnter Pr.LISTEN
  else if d.pairState = Pr.STANDBY then d.modPair fun p => { p with guard := true }
  else if d.pairState = Pr.ACTIVE then d.setBit PAIR.STAT_ELIGIBLE false
  else d

/-- A heartbeat has not arrived within 50 µs after its due time (R453, R454), which follows an own period start: the third in a row loses
the peer. -/
def execHeartbeatMissed (s : State) : Out :=
  s.on fun d =>
    if !d.pairOn || d.pairState = Pr.START || !d.bit PAIR.STAT_PEER_OK || decide (d.pair.gap ≤ d.get PAIR.HB_RUN) then d
    else
      let d := (d.bump PAIR.HB_MISSED).bump PAIR.HB_RUN
      if d.get PAIR.HB_RUN = 3 then d.peerLost else d

/-- The 2 ms guard ends (R453, R454), with PAIR_TOK_I as it reads. -/
def execTakeoverGuardEnd (tokI : Bool) (s : State) : Out :=
  s.on fun d =>
    if !d.pair.guard || d.pairState != Pr.STANDBY then d
    else
      let d := (d.tokIn tokI).modPair fun p => { p with guard := false }
      if tokI then (d.setBit PAIR.STAT_LINK_SPLIT true).raise PAIR.page PAIR.ev_LINK_SPLIT
      else if d.noToken then d
      else d.modPair fun p => { p with tokenNext := true, reason := 0, swapIn := none }

/-- START_WAIT without a heartbeat (R450), as many periods of 1 ms. -/
def execPairStartWaitExpiry (tokI : Bool) (s : State) : Out :=
  s.on fun d =>
    if !d.pairOn || d.pairState != Pr.LISTEN then d
    else
      let d := d.tokIn tokI
      if tokI || d.pair.raceWait || decide (d.pair.gap < d.get PAIR.CFG_START_WAIT) then d else (d.modPair fun p => { p with tokenNext := true }).pairEnter Pr.ACTIVE

/-- Units of the same strap both drop the token, wait a random 1–50 ms and go back to LISTEN (R468). -/
def Dev.raceLost (d : Dev) : Dev :=
  let (v, d) := d.roleClash.free
  ((d.setBit PAIR.STAT_TOKEN false).modPair fun p => { p with waitMs := 1 + v % 50, raceWait := true }).pairEnter Pr.LISTEN

/-- PAIR_TOK_I rises within 50 µs after the own token (R454, R468); `stays`, it is still high 50 µs on, which unit A sees only of a unit
with its own strap. -/
def execTokenRace (stays : Bool) (s : State) : Out :=
  s.on fun d =>
    if !d.bit PAIR.STAT_TOKEN then d
    else
      let d := d.tokIn true
      if d.bit PAIR.STAT_ROLE_CLASH then d.raceLost
      else if d.bit PAIR.STAT_UNIT then (d.setBit PAIR.STAT_TOKEN false).pairEnter Pr.LISTEN
      else if stays then d.raceLost
      else d.tokIn false

/-! ### Resigning (R461, R462) -/

/-- An immediate cause (R461). -/
def execResign (cause : BitVec 8) (s : State) : Out :=
  s.on fun d => if 1 ≤ cause.toNat ∧ cause.toNat ≤ 6 then d.pairResign cause.toNat else d

/-- RESIGN of the peer (R453); in a hold-up that both units share the replicas are discarded (R468). -/
def execResignReceived (reason item : BitVec 8) (s : State) : Out :=
  s.on fun d =>
    if !d.pairTakes then d
    else
      let d := d.set PAIR.RESIGN_PEER_CAUSE reason.toNat
      if d.pairState = Pr.STANDBY ∧ !d.noToken then
        d.modPair fun p => { p with tokenNext := true, reason := reason.toNat, guard := false, swapIn := none, peerFail :=
          if item.toNat < 16 then p.peerFail ||| 2 ^ item.toNat else p.peerFail }
      else if d.pairState = Pr.STANDBY ∧ d.bit PWR.STAT_HOLDUP then
        d.modPair fun p => { p with replicas := [], sess := Vector.replicate 4 none }
      else if d.pairState = Pr.STANDBY ∧ d.bit PAIR.STAT_TOK_I then d.setBit PAIR.STAT_LINK_SPLIT true
      else d

/-- No bay meters and every contactor is OPEN (R462). -/
def Dev.restful (d : Dev) : Bool := allBays.all fun n => !d.bit (MET.STAT_METERING (Bay.met n)) && d.ctState n == Ct.OPEN

/-- DEFERRED_RESIGN (R462): DEFER comes due at rest or DEFER_MAX after the cause; a drain of PAIR at rest, and R48 ends it. -/
def execDeferredResign (s : State) : Out :=
  s.on fun d =>
    if d.pairState ≠ Pr.ACTIVE then d
    else match d.pair.deferCause with
      | some c => if d.restful || decide (3600 * d.get PAIR.CFG_DEFER_MAX ≤ d.pair.deferSec) then d.pairResign c else d
      | none => if d.pair.drainWait && d.restful then d.pairResign 0x20 else d

/-- The token is asserted after a resign or the guard (R463). -/
def execTakeover (s : State) : Out :=
  s.on fun d => if d.pair.tokenNext && d.pairState == Pr.STANDBY then d.takeover else d

/-! ### Replication and the cross-check (R452, R456–R458) -/

/-- The outputs the standby repeats (R448, R452); its own gate holds those of the power path low (R182). -/
def Dev.followOut (d : Dev) (n : Bay) (drv : Nat) (pre : Bool) (mode duty : Nat) : Dev :=
  let d := if d.bit (CTC.STAT_PERMIT n) then (d.ctDrive n drv).setBit (CTC.STATE_PRE n) pre else d.ctLow n
  (d.set (BAY.CP_STAT_MODE n) mode).set (BAY.CP_DUTY_DUTY n) duty

/-- SESSION of a bay (R452): LIM_FABRIC takes the value it carries. -/
def execSession (n : Bay) (v : PairSess) (s : State) : Out :=
  s.on fun d =>
    if !d.pairTakes || !d.follows || !d.hasBay n then d
    else
      let d := d.modPair fun p => { p with sess := p.sess.set n (some v) }
      (d.followOut n v.drv v.pre v.cpMode v.duty).wrN (BAY.LIM n 4) ((v.lims[4]?).getD 0xFFFFFFFF)

/-- Every 100 ms the active sends SESSION of each bay (R452). -/
def execSessionPeriod (s : State) : Out :=
  s.on fun d =>
    if d.pairState = Pr.ACTIVE ∧ d.pairOn then d.forBays fun n d => if d.hasBay n then d.sessionSend n else d else d

/-- OUTPUT of a bay (R452). -/
def execOutput (n : Bay) (drv : BitVec 3) (pre : Bool) (mode : BitVec 2) (duty : BitVec 10) (s : State) : Out :=
  s.on fun d =>
    if !d.pairTakes || !d.follows || !d.hasBay n then d else d.followOut n drv.toNat pre mode.toNat duty.toNat

/-- Adopt the active's registers of a page (R458): in one transaction; ALIGN_MAX keeps the largest step. -/
def Dev.adopt (d : Dev) (p : Fin 5) (ap an : List Nat) (qp qn : Nat) (rq : List Nat) : Dev :=
  let x := d.led.pages[p]
  let step := fun (a b : List Nat) => ((a.zip b).map fun e => (if e.1 < e.2 then e.2 - e.1 else e.1 - e.2) * 1000 / 2 ^ 32).foldl max 0
  let m := max (step x.ap ap) (step x.an an)
  let d := d.modLedPage p fun x => { x with ap := ap, an := an, qp := qp, qn := qn, rq := rq }
  (if d.rdN PAIR.ALIGN_MAX < m then d.wrN PAIR.ALIGN_MAX (satAt 0xFFFFFFFF m) else d).ledTxn

/-- A record replaces the one it succeeds. -/
def putRec (l : List PairRec) (r : PairRec) : List PairRec :=
  match r with
  | .session n _ => r :: l.filter fun x => match x with | .session m _ => m != n | _ => true
  | .account n _ => r :: l.filter fun x => match x with | .account m _ => m != n | _ => true
  | .disconnect n => r :: l.filter fun x => match x with | .disconnect m => m != n | _ => true
  | .closed n => l.filter fun x => match x with | .session m _ => m != n | .disconnect m => m != n | _ => true
  | .registers _ _ _ _ _ _ _ => l

/-- LEDGER (R456, R458): a replica, or the register records of a page whose comparison has passed. -/
def execLedger (r : PairRec) (s : State) : Out :=
  s.on fun d =>
    if !d.pairTakes || !d.follows then d
    else match r with
      | .registers p minute ap an qp qn rq =>
        if d.pair.passed.1 = minute ∧ d.pair.passed.2.contains p.val then d.adopt p ap an qp qn rq else d
      | r => d.modPair fun p => { p with replicas := putRec p.replicas r }

/-- PAIR_MARK (R33, R452): peer wheel minus own; the peer's FW flag is seen. -/
def execPairMark (mark : WheelMark) (s : State) : Out :=
  s.on fun d =>
    if d.pairTakes then (d.wrI PAIR.WOFS ((mark.wt.toNat : Int) - d.wheel)).modPair fun x => { x with peerFw := mark.fw } else d

/-- The sums of one direction agree (R457), in mWh. -/
def sumsAgree (tolR tolF a b : Nat) : Bool := decide ((max a b - min a b) * 100000 ≤ tolR * max a b + tolF * 100000)

/-- Compare one page of a minute (R457): none while it is not compared. -/
def Dev.comparePage (d : Dev) (own peer : Nat × Nat × Nat × Nat) : Option Bool :=
  let bad := fun (f : Nat) => f.testBit Fl.INVALID || f.testBit Fl.MERGED
  if bad own.2.2.2 || bad peer.2.2.2 then none
  else
    let ok := sumsAgree (d.get PAIR.XCHK_CFG_TOL_R) (d.get PAIR.XCHK_CFG_TOL_F)
    some (ok own.2.1 peer.2.1 && ok own.2.2.1 peer.2.2.1)

/-- Saturate an integer to 16 bits signed. -/
def sat16 (i : Int) : Nat := toUnsigned 16 (max (-32768) (min 32767 i))

/-- The peer's sums of a minute (R457, R458). -/
def execCrossCheck (minute : Nat) (pages : List (Nat × Nat × Nat × Nat)) (late : Bool) (s : State) : Out :=
  s.on fun d =>
    match d.pair.minute with
    | none => d
    | some (m, own) =>
      if !d.pairTakes || late || m != minute then d
      else
        let res := own.filterMap fun x => match pages.find? fun y => y.1 == x.1 with
          | some y => (d.comparePage x y).map fun ok => (ok, x, y)
          | none => none
        if res.isEmpty then d
        else
          let bad := res.filter fun r => !r.1
          let d := d.wrN PAIR.XCHK_MIN minute
          let mask := bad.foldl (fun a r => a ||| 2 ^ r.2.1.1) 0
          let d := (d.set PAIR.XCHK_PAGES mask).set PAIR.XCHK_FAILS (satAt 0xFFFF (d.get PAIR.XCHK_FAILS + bad.length))
          let d := d.set PAIR.XCHK_RUN (if bad.isEmpty then 0 else satInc 255 (d.get PAIR.XCHK_RUN))
          let d := bad.foldl (fun d r => d.glogHw 0x000B 0xFF (leBytes 1 r.2.1.1 ++ leBytes 1 0 ++ leBytes 4 r.2.1.2.1 ++
            leBytes 4 r.2.2.2.1 ++ leBytes 2 (sat16 ((r.2.1.2.2.1 : Int) - r.2.2.2.2.1)))) d
          let d := if bad.isEmpty then d else d.raise PAIR.page PAIR.ev_XCHK_FAIL
          let d := d.modPair fun p => { p with passed := (minute, (res.filter fun r => r.1).map fun r => r.2.1.1) }
          let d := if d.pairState = Pr.PARALLEL ∧ !bad.isEmpty then d.modPair fun p => { p with counting := false } else d
          if d.pairState = Pr.ACTIVE then d
          else if d.get PAIR.XCHK_LIM_LIM ≤ d.get PAIR.XCHK_RUN then d.card 5 2
          else if bad.isEmpty then d.card 5 1
          else d

/-! ### The report card (R459, R460) -/

/-- The standby's card reaches the active (R459, R460, R462). -/
def execStandbyReport (card : List (Nat × Nat)) (eligible : Bool) (s : State) : Out :=
  s.on fun d =>
    if !d.pairTakes || d.pairState != Pr.ACTIVE then d
    else
      let d := (card.zipIdx.take 16).foldl (fun d c => d.wrN (PAIR.PCARD c.2) (c.1.1 % 4 + 256 * satAt 0xFFFFFF c.1.2)) d
      ((d.setBit PAIR.STAT_ELIGIBLE eligible).raise PAIR.page PAIR.ev_CARD).deferShow

/-- The card as it is sent (R459). -/
def Dev.cardBody (d : Dev) : List Nat :=
  [d.get PAIR.STAT_UNIT, d.pairState, d.get PAIR.STAT_ELIGIBLE, 0, d.pair.cardSeq] ++
    (List.range 16).map fun k => d.rdN (PAIR.CARD k)

/-- The outgoing messages of a link without the PAIR_STATUS notices held back behind the first 16 (R475). -/
def dropHeld (l : Link) : Nat → List HostMsg → List HostMsg
  | _, [] => []
  | n, m :: ms =>
    if m.link = l then (if 16 ≤ n ∧ m.typ = 0x0820 then dropHeld l n ms else m :: dropHeld l (n + 1) ms)
    else m :: dropHeld l n ms

/-- PAIR_STATUS notices that are held back merge into the newest (R475). -/
def Dev.heldMerge (d : Dev) : Dev := { d with hostOut := dropHeld .rmii 0 (dropHeld .spi 0 d.hostOut) }

/-- Every 1 s (R459, R467): the card goes to the host, and from the standby to the active. -/
def execPairStatus (s : State) : Out :=
  s.on fun d =>
    if !d.pairOn then d
    else
      let d := d.modPair fun p => { p with cardSeq := p.cardSeq + 1 }
      let d := if d.pairState = Pr.STANDBY then d.pairSend 0x34 d.cardBody else d
      d.heldMerge.notice 0x0820 ([d.pairState, d.rdN PAIR.STAT] ++ d.cardBody)

/-- The ages of the card at a second tick. -/
def Dev.cardSecond (d : Dev) : Dev :=
  if !d.present .PAIR then d
  else
    let d := d.modPair fun p => { p with deferSec := p.deferSec + 1 }
    (List.range 16).foldl (fun d k => (d.bump (PAIR.CARD_AGE k)).bump (PAIR.PCARD_AGE k)) d

/-! ### Return, handover and host messages (R449, R450, R465–R467) -/

/-- HANDOVER (R466): a request at the standby, which names a period start 6 ms ahead, or the acknowledgement at the active. -/
def execHandover (ack : Option (BitVec 16)) (s : State) : Out :=
  s.on fun d =>
    if !d.pairTakes then d
    else match ack with
      | none =>
        if d.pairState = Pr.STANDBY ∧ d.bit PAIR.STAT_ELIGIBLE then
          (d.modPair fun p => { p with handover := true, swapIn := some 6 }).pairSend 0x35 [1, 6]
        else d
      | some n =>
        if d.pairState = Pr.ACTIVE ∧ d.pair.handover then d.modPair fun p => { p with swapIn := some n.toNat } else d

/-- SYNC_BLOCK (R465). -/
def execSyncBlock (progress : BitVec 7) (r : List PairRec) (s : State) : Out :=
  s.on fun d =>
    if !d.pairTakes || d.pairState != Pr.SYNC then d
    else
      let d := d.set PAIR.SYNC_PROGRESS (satAt 100 progress.toNat)
      r.foldl (fun d x => match x with
        | .registers p _ ap an qp qn rq => d.adopt p ap an qp qn rq
        | x => d.modPair fun p => { p with replicas := putRec p.replicas x }) d

/-- Resynchronisation is complete (R450, R465). -/
def execPairSyncComplete (s : State) : Out :=
  s.on fun d =>
    if d.pairOn && d.pairState == Pr.SYNC then
      ((d.set PAIR.SYNC_PROGRESS 100).modPair fun p => { p with counting := false }).pairEnter Pr.PARALLEL
    else d

/-- Why a planned handover is refused, if it is (R466). -/
def Dev.handoverError (d : Dev) : Option Nat :=
  if d.pairState = Pr.ACTIVE ∧ d.bit PAIR.STAT_ELIGIBLE then none else some Err.SEQUENCE

/-- The active asks for a planned handover. -/
def Dev.handoverAsk (d : Dev) : Dev := (d.modPair fun p => { p with handover := true }).pairSend 0x35 [0]

/-- Why a rejoin is refused, if it is (R450). -/
def Dev.rejoinError (d : Dev) : Option Nat := if d.pairState = Pr.OUT ∧ !d.hardFail then none else some Err.SEQUENCE

/-- A pair message of the host (R467): OPERATOR, then the request's own check. -/
def Dev.pairHost (d : Dev) (q : Req) (typ : Nat) (e : Dev → Option Nat) (k : Dev → Dev) : Dev :=
  if !d.roleOpen q || q.role != 1 then d.ledAnswer q typ Err.ROLE_DENIED
  else if !d.present .PAIR then d.ledAnswer q typ Err.NOT_FUSED
  else match e d with
    | some c => d.ledAnswer q typ c
    | none => (k d).ledAnswer q typ Err.NONE

/-- CTL.HANDOVER, or PAIR_HANDOVER (R466, R467). -/
def execPairHandover (w : Master ⊕ Req) (s : State) : Out :=
  s.on fun d => match w with
    | .inl m => d.startWork m .PAIR 0x044 Dev.handoverError Dev.handoverAsk
    | .inr q => d.pairHost q 0x0821 Dev.handoverError Dev.handoverAsk

/-- CTL.REJOIN, or PAIR_REJOIN (R450, R467). -/
def execPairRejoin (w : Master ⊕ Req) (s : State) : Out :=
  s.on fun d => match w with
    | .inl m => d.startWork m .PAIR 0x044 Dev.rejoinError Dev.syncStart
    | .inr q => d.pairHost q 0x0822 Dev.rejoinError Dev.syncStart

/-- PAIR_KEY (R449): the firmware passes the blob on to the vault. -/
def execPairKey (q : Req) (blob : List Byte) (s : State) : Out :=
  s.on fun d => d.pairHost q 0x0823 (fun _ => none) fun d =>
    d.mail { src := .app, dst := .vlt, typ := 0x0506, body := blob.map BitVec.toNat }

end Sys2Proof.Machine
end

