-- ==== Sys2Proof/Machine/DmaCore.lean ====
section
/-!
DEFINITION. Ends of DMA channels: aborts and their write-back (R421, R423).
-/
namespace Sys2Proof.Machine

/-- Memory in which descriptors and abort status lie: system SRAM outside the legal region, or an application TCM (R415,
R421). -/
def dmaHome (a : Nat) : Bool :=
  match memRegion a with
  | some .sram | some .tcm => true
  | _ => false

/-- A channel stops being active. -/
def Dev.chStop (d : Dev) (c : Fin 16) : Dev :=
  let d := ((d.setBit (DMA.CH_STAT_ACTIVE c) false).setFlag DMA.CH_ACT_ACT c.val false).modCh c fun x => { x with reqs := [] }
  if d.get WAV.CFG_DMA_CH = c.val ∧ d.bit WAV.STAT_ARMED then d.wavEnd else d

/-- An abort (R421): the status is written back, the cause shown, the page's event raised for causes 2 to 4 and 8. -/
def Dev.chAbort (d : Dev) (c : Fin 16) (cause : Nat) : Dev :=
  if !d.chActive c then d
  else
    let x := d.dma.ch[c]
    let wb := d.rdN (DMA.CH_WB c)
    let residue := if x.circ then 0 else d.get (DMA.CH_REM_REM c)
    let status := leBytes 4 residue ++ leBytes 4 x.last ++ leBytes 4 (d.rdN (DMA.CH_CUR c)) ++ leBytes 1 cause ++ [0, 0, 0]
    let d := ((d.chStop c).set (DMA.CH_STAT_CAUSE c) cause).setBit (DMA.CH_STAT_ABORTED c) true
    let d :=
      if wb = 0 then d
      else if !d.filterAllows .dma wb true then (d.fwBlock .dma wb true).setBit (DMA.CH_STAT_WB_FAIL c) true
      else if dmaHome wb ∧ wb % 16 = 0 then d.wrBytes wb status
      else d.setBit (DMA.CH_STAT_WB_FAIL c) true
    if (2 ≤ cause ∧ cause ≤ 4) ∨ cause = 8 then d.raise DMA.page DMA.ev_ABORT else d

/-- Abort every channel that `p` selects. -/
def Dev.dmaAbortAll (d : Dev) (p : Dev → Fin 16 → Bool) (cause : Nat) : Dev :=
  (List.finRange 16).foldl (fun d c => if p d c then d.chAbort c cause else d) d

/-- CONFLICT of every channel (R418): set while two blocks name it. -/
def Dev.conflictShow (d : Dev) : Dev :=
  (List.finRange 16).foldl (fun d c =>
    let now := decide (2 ≤ (d.pacers c).length)
    if now = d.bit (DMA.CH_STAT_CONFLICT c) then d
    else
      let d := d.setBit (DMA.CH_STAT_CONFLICT c) now
      if now then d.raise DMA.page DMA.ev_CONFLICT else d) d

/-- A wrap field bounds an address that increments, as a circular descriptor needs (R416). -/
def wrapOk (ctl inc wrap : Nat) : Bool := !ctl.testBit inc || ctl / 2 ^ wrap % 16 != 0

/-- A descriptor keeps the rules of R416 on a channel with these pacers: its eight words in order. -/
def descOk (pacers : List Bool) (w : List Nat) : Bool :=
  match w with
  | [src, dst, len, ctl, _, _, _, w7] =>
    let beat := if ctl.testBit 14 then 4 else 8
    decide (len < 2 ^ 24 ∧ ctl < 2 ^ 17 ∧ w7 = 0 ∧ src % beat = 0 ∧ dst % beat = 0 ∧ len % beat = 0) &&
      (len != 0 || (wrapOk ctl 12 4 && wrapOk ctl 13 8)) &&
      (!pacers.contains true || src == 0) && (!pacers.contains false || dst == 0)
  | _ => false

/-- Fetch a descriptor (R415). -/
def Dev.chFetch (d : Dev) (c : Fin 16) (a : Nat) : Dev :=
  let d := d.wrN (DMA.CH_CUR c) a
  if !dmaHome a ∨ a % 32 ≠ 0 then d.chAbort c 4
  else if !d.filterAllows .dma a false then (d.fwBlock .dma a false).chAbort c 4
  else
    let w := (List.range 8).map fun i => d.rdLe (a + 4 * i) 4
    if !descOk (d.pacers c) w then d.chAbort c 4
    else
      let f := fun i => w.getD i 0
      let d := ((d.wrN (DMA.CH_SADDR c) (f 0)).wrN (DMA.CH_DADDR c) (f 1)).set (DMA.CH_REM_REM c) (f 2)
      d.modCh c fun x => { x with circ := f 2 == 0, ctl := f 3, next := f 4, cwAddr := f 5, cwData := f 6 }

/-- Why a channel cannot be started, if it cannot (R418, R419, R422–R424). -/
def Dev.startError (d : Dev) (c : Fin 16) : Option Nat :=
  if d.bit (DMA.CH_STAT_CLAIMED c) then some Err.BUSY
  else if d.draining .DMA then some Err.DRAINING
  else if !d.enabled .DMA then some Err.SEQUENCE
  else if d.chActive c then some Err.BUSY
  else if 2 ≤ (d.pacers c).length then some Err.SEQUENCE
  else none

/-- Start a channel's chain (R415). -/
def Dev.chStart (d : Dev) (c : Fin 16) : Dev :=
  let d := (d.setBit (DMA.CH_STAT_ACTIVE c) true).setFlag DMA.CH_ACT_ACT c.val true
  let d := d.modCh c fun x => { x with reqs := [], last := 0 }
  d.chFetch c (d.rdN (DMA.CH_DESC c))

/-- A seat's DMA_START (R68, R422): on a channel that is active or claimed it is lost. -/
def Dev.seatStart (d : Dev) (c : Fin 16) : Dev :=
  match d.startError c with
  | none => d.chStart c
  | some _ => if d.chActive c || d.bit (DMA.CH_STAT_CLAIMED c) then d.setBit (DMA.CH_STAT_START_LOST c) true else d

/-- A channel is not claimed. -/
def Dev.unclaimed (d : Dev) (c : Fin 16) : Bool := !d.bit (DMA.CH_STAT_CLAIMED c)

end Sys2Proof.Machine
end

