-- ==== Sys2Proof/Machine/Reset.lean ====
section
/-!
DEFINITION. Resets (R16, R17, R43, R49, R507, R508), power good and start-up (R502, R504–R506), the watchdogs.
-/
namespace Sys2Proof.Machine

/-! ### Chip reset (R507) -/

/-- A byte keeps its value over a chip reset: code and ledger MRAM, the external memory, the witness mirror. -/
def keptByte (a : Nat) : Bool :=
  decide (0x10000000 ≤ a ∧ a < 0x10C00000) || decide (0x30000000 ≤ a ∧ a < 0x30400000) ||
  decide (0x60000000 ≤ a ∧ a < 0x70000000) || decide (mirrorBase ≤ a ∧ a < mirrorBase + 0x4000)

/-- Registers that show MRAM, fuses or the VBAT domain, which a chip reset leaves as they are. -/
def keptRegs : List Nat :=
  [SYS.BANKSEL, SYS.RST_CAUSE, PWR.HU_LAST, RTC.STAT, TMP.STAT, VLT.ROOT_GEN, VLT.ARB 0, VLT.ARB 1, VLT.ARB 2, VLT.ARB 3,
   VLT.ARB 4, VLT.TAMPER_CFG, VLT.ZCAUSE, VLT.ZTIME, WTG.STAT, WTG.SNAP_SEQ, WTG.LOG_SEQ]

/-- The legal domain loses what its private memory held (R16). -/
def ledCut (l : LedInt) : LedInt :=
  { l with ready := false, started := false, replayed := false, auths := [], measuring := Vector.replicate 5 none,
           vaultWait := false, redrawDue := false, caps := [] }

/-- The router after a chip reset (R431, R435): counters above and floors at their stored values. -/
def ylrCut (y : YlrInt) : YlrInt :=
  let stored := y.sendCnt.map fun n => n / 2 ^ 20
  { sendCnt := stored.map fun n => (n + 1) * 2 ^ 20, sendMram := stored,
    floor := y.floorMram.map fun e => (e.1, (e.2 * 2 ^ 20, 0)), floorMram := y.floorMram, addrMram := y.addrMram }

/-- DOMAIN code (R486) of a code slot: APP, SAF, VLT, PLCU, TBL. -/
def slotDom (k : Nat) : Nat := if k < 2 then k else k + 1

/-- The update engine after a chip reset (R491, R495, R499): `o` is the device before it. -/
def Dev.updCut (d o : Dev) : Dev :=
  let u := o.upd
  let e : UpdInt := { run := u.run, other := u.other, tblOld := u.tblOld, reverted := u.reverted }
  match u.trial with
  | some k =>
    let s : Fin 5 := ⟨k % 5, Nat.mod_lt _ (by decide)⟩
    let e := match u.other[s] with
      | some i => { e with run := e.run.set s i, other := e.other.set s (some u.run[s]) }
      | none => e
    let e : UpdInt := { e with reverted := e.reverted.set s true }
    let d := d.setFlag SYS.BANKSEL_SEL k (!d.flag SYS.BANKSEL_SEL k)
    let d := (d.set UPD.REV_DOMAIN (slotDom k)).set UPD.REV_CAUSE 10
    let d := ((d.set UPD.STAT_STATE 7).setBit UPD.STAT_REVERTED true).set UPD.STAT_CAUSE 10
    { d with upd := e }
  | none =>
    let all := u.imgs.map fun x => { x with missing := List.range (blocksOf x.size), ended := false, ready := false }
    let lost := fun (d : Dev) =>
      ({ (d.set UPD.STAT_STATE 7).set UPD.STAT_CAUSE 12 with upd := { e with imgs := all } } : Dev).updShow
    if !o.bundleOpen then { d with upd := e }
    else
      match u.ckpt with
      | some (_, i, _) =>
        if o.bit UPD.CFG_STG_OSPI then
          let d := (((d.wr UPD.CFG (o.rd UPD.CFG)).wr UPD.STG_BASE (o.rd UPD.STG_BASE)).wr UPD.STG_SIZE (o.rd UPD.STG_SIZE)).wr
            UPD.BUNDLE (o.rd UPD.BUNDLE)
          let (c, f) := o.ckptTake
          ({ d.set UPD.STAT_STATE 1 with
              fresh := f.fresh,
              upd := { e with imgs := u.imgs.filter fun x => x.index == i, used := u.used, ckpt := c } } : Dev).updShow
        else lost d
      | none => lost d

/-- The lifecycle opens the forced tests and debug areas (R13). -/
def Dev.openPart (d : Dev) : Bool := d.chip.lifecycle == .manufacture || d.chip.lifecycle == .returned

/-- What the fuses and straps show after a chip reset (R446, R507, R528), and the boot check of the root (R14, R328): a part not yet
provisioned has no check value to fail, unless its root was zeroised. A fused-off page
has EN = 0 (R4), and PAIR_ROLE is ignored without pairing (R8). -/
def Dev.bootShow (d : Dev) : Dev :=
  let dead := !d.vlt.rootOk && !d.chip.deadFuse && (d.chip.lifecycle != .manufacture || d.vlt.zeroised)
  let d : Dev := if dead then { d with chip := { d.chip with lifecycle := .dead, deadFuse := true } } else d
  let d : Dev := { d with vlt := { d.vlt with zeroised := false } }
  let d := d.set VLT.LC_STATE (lcCode d.chip.lifecycle)
  let d := (d.setBit TST.STAT_FORCED_OK d.openPart).setBit TST.STAT_PROD (d.openPart && d.chip.testMode)
  let d := allPages.foldl (fun d p =>
    if d.present p then d else (d.setBit (Hdr.EN p.base) false).setBit (Hdr.READY p.base) false) d
  d.setBit PAIR.STAT_UNIT (d.chip.pairRole && d.chip.variant.pairing)

/-- A chip reset with a cause of R507 and the straps read at its end. -/
def Dev.chipReset (d : Dev) (cause : Nat) (pairRole testMode : Bool) : Dev :=
  let chip := { d.chip with pairRole := pairRole, testMode := testMode }
  let lsw : LswInt := { recCfg := d.lsw.recCfg, recHm := d.lsw.recHm }
  let mpl : MplInt := { fingerprint := d.mpl.fingerprint }
  let vlt : VltInt := { rootOk := d.vlt.rootOk, zeroised := d.vlt.zeroised, anchors := d.vlt.anchors }
  let epd : EpdInt := { dirty := d.epd.dirty }
  let n : Dev :=
    { chip := chip, ctc := d.ctc.map fun c => { fbHigh := c.fbHigh }, mem := d.mem.filter fun c => keptByte c.1, rtc := d.rtc,
      log := d.log, lsw := lsw, mpl := mpl,
      led := ledCut d.led, vlt := vlt, tag := { d.tag with host := none }, epd := epd, ylr := ylrCut d.ylr,
      linkOut := d.linkOut, fresh := d.fresh }
  let n := keptRegs.foldl (fun n a => n.wr a (d.rd a)) n
  let n := (n.set SYS.RST_CAUSE_CHIP cause).bump SYS.RST_CAUSE_COUNT
  let n := (n.wrN WTG.CFG d.tag.cfg).setBit TSEN.STAT_SHUTDOWN (cause == 5)
  let n := n.setBit PWR.CFG_NOM (d.bit PWR.CFG_NOM)
  ((n.updCut d).bootShow).lswLoadRecord.dirtyShow.rtcRefresh

/-- CHIP_RESET (R507): cause 1 to 6. -/
def execChipReset (cause : Fin 6) (pairRole testMode : Bool) (s : State) : Out :=
  s.vbat fun d => d.chipReset (cause.val + 1) pairRole testMode

/-- POWER_ON_RESET (R507). -/
def execPowerOnReset (pairRole testMode : Bool) (s : State) : Out := s.vbat fun d => d.chipReset 1 pairRole testMode

/-- PORST_N (R507). -/
def execPorstN (pairRole testMode : Bool) (s : State) : Out := s.vbat fun d => d.chipReset 2 pairRole testMode

/-- RESET_N (R507). -/
def execResetN (pairRole testMode : Bool) (s : State) : Out := s.vbat fun d => d.chipReset 3 pairRole testMode

/-- TRST_N (R507): the debug port only, of which the spec names no state. -/
def execTrstN (s : State) : Out := s.vbat fun d => d

/-! ### Domain resets (R16, R507, R508) -/

/-- The block that runs a page's tests belongs to a domain (R527). -/
def testDomain : PageId → Option Domain
  | .SAF => some .saf
  | .VLT => some .vlt
  | .NFR | .PLC _ | .T1S _ => some .app
  | _ => none

/-- Tests that a domain runs are abandoned with its reset (R527). -/
def Dev.testsCut (d : Dev) (x : Domain) : Dev :=
  allPages.foldl (fun d p => if testDomain p = some x then d.testAbandon p 4 else d) d

/-- Seats 36 to 63, which an application-domain reset disarms (ch. 3). -/
def firmwareSeats : List Nat := (List.range 28).map fun i => 36 + i

/-- Waiting requests are answered BUSY (R481). -/
def Dev.rxBusy (d : Dev) : Dev :=
  d.hif.rx.foldl (fun d r => d.toHost { link := r.link, typ := r.typ, tag := r.tag, status := Err.BUSY, role := r.role }) d

/-- What a target still holds back is not transferred (R546). -/
def Dev.i2cUnhold (d : Dev) (n : Fin 2) : Dev :=
  let i := d.i2c[n]
  { d with i2c := d.i2c.set n { i with rx := if i.hold then i.rx.take 16 else i.rx, hold := false } }

/-- A running I2C transfer ends with a stop (R546). -/
def Dev.i2cCut (d : Dev) (n : Fin 2) : Dev :=
  let d := d.i2cUnhold n
  if d.bit (I2C.STAT_BUSY n) then
    (((d.setBit (I2C.STAT_BUSY n) false).setBit (I2C.STAT_HELD n) false).setBit (I2C.STAT_DONE n) true).raise (I2C.page n)
      I2C.ev_DONE
  else d

/-- Transmissions an application-domain reset discards: CAN and UART TX FIFOs (R174, R544), SAR starts that wait (R542),
I2C transfers (R546). -/
def Dev.serialCut (d : Dev) : Dev :=
  let d := ([0, 1, 2, 3] : List (Fin 4)).foldl (fun d k => (d.modCan k fun c => { c with part := [], tx := [] }).canShow k) d
  let d := ([0, 1, 2, 3] : List (Fin 4)).foldl (fun d k =>
    let d : Dev := { d with uart := d.uart.set k { d.uart[k] with tx := [] } }
    (d.set (UART.FIFO_STAT_TX_FREE k) 32).setBit (UART.STAT_TX_IDLE k) d.uart[k].shift.isNone) d
  let d : Dev := { d with sar := { d.sar with wait := [] } }
  ((d.set SAR.STAT_WAITING 0).i2cCut 0).i2cCut 1

/-- What the application domain holds of its own beside the TCMs (R16, assumption 147): core-local timer, interrupt controller and
SYS.WDT. -/
def Dev.appPrivate (d : Dev) : Dev :=
  let d := (d.blankRange 0x02000000 0x10000).blankRange plicBase 0x4000000
  { d.wr SYS.WDT (resetWord SYS.WDT) with plic := {}, pwr := { d.pwr with wdtMs := 200 } }

/-- What a reset of the application domain does beyond every domain reset. -/
def Dev.appCut (d : Dev) : Dev :=
  let d := (d.setBit HIF.STAT_FW_READY false).rxBusy.roleEnd fun _ => true
  let d := (firmwareSeats.foldl Dev.seatCancel d).modYlr fun y => { y with ringsOff := true }
  let d := d.forBays fun n d =>
    let d := d.bayPost n Ev.APP_LOST
    if d.inSession n then d.netCause n Net.APP else d
  let d := d.exiAbort
  let d := (d.dmaAbortAll Dev.unclaimed 6).serialCut.nfrOff.epdAppReset
  let d := (d.blankRange 0x21000000 0x40000).appPrivate
  if d.legalPart then d else (d.modLed ledCut).legalShow

/-- A reset of a domain. One of the legal domain in hold-up step 1 ends that step (R516). -/
def Dev.domReset (d : Dev) (x : Domain) : Dev :=
  match x with
  | .app => ((d.domMark .app).testsCut .app).appCut
  | .saf => ((d.domMark .saf).testsCut .saf).procLost
  | .lgl =>
    if d.legalPart then
      let d := (((d.domMark .lgl).testsCut .lgl).modLed ledCut).legalShow
      if d.get PWR.STAT_HU_STEP = 1 then d.epdLastFrame.set PWR.STAT_HU_STEP 2 else d
    else d
  | .vlt => (d.testsCut .vlt).vaultClear

/-- WATCHDOG_EXPIRY (R16, R507): SYS.WDT counts only while it is enabled. -/
def execWatchdogExpiry (dom : Domain) (s : State) : Out :=
  s.on fun d => if dom = .app ∧ !d.bit SYS.WDT_EN then d else d.domReset dom

/-- PROCESSOR_FAULT (R16, R227); one that an uncorrectable error in the safety TCM causes is logged with its address (R27). -/
def execProcessorFault (f : CoreFault) (s : State) : Out :=
  s.on fun d =>
    let d := match f.dom, f.ecc with
      | .saf, some a => d.eccLost a.toNat (masterNo .saf)
      | _, _ => d
    d.domReset f.dom

/-- DRST.APP (R508). -/
def execDrstApp (m : Master) (s : State) : Out := s.on fun d => d.guard m .SYS 0x064 fun d => d.domReset .app

/-- DRST.SAF (R508). -/
def execDrstSaf (m : Master) (s : State) : Out :=
  s.on fun d => d.guard m .SYS 0x064 fun d => if d.openPart then d.domReset .saf else d.reject SYS.page Err.SAFETY_DENIED

/-- DRST.LGL (R508). -/
def execDrstLgl (m : Master) (s : State) : Out :=
  s.on fun d => d.guard m .SYS 0x064 fun d => if d.openPart then d.domReset .lgl else d.reject SYS.page Err.LEGAL_DENIED

/-- DRST.VLT (R508). -/
def execDrstVlt (m : Master) (s : State) : Out := s.on fun d => d.guard m .SYS 0x064 fun d => d.domReset .vlt

/-- Why a write of CRST is rejected (R508). -/
def Dev.crstError (d : Dev) (w : Word) : Option Nat :=
  if w.toNat % 65536 ≠ 0xC3A5 ∨ d.bit PWR.STAT_HOLDUP then some Err.SEQUENCE
  else if (allBays.any fun n => d.inSession n) && !w.toNat.testBit 31 then some Err.BUSY
  else none

/-- CRST (R508). -/
def execCrst (m : Master) (w : Word) (s : State) : Out :=
  s.on fun d => d.guard m .SYS 0x06C fun d => match d.crstError w with
    | some e => d.reject SYS.page e
    | none => d.chipReset 4 d.chip.pairRole d.chip.testMode

/-- WDT_KICK (R517): SYS.WDT starts again. -/
def execWdtKick (m : Master) (s : State) : Out :=
  s.on fun d => d.guard m .SYS 0x05C fun d => { d with pwr := { d.pwr with wdtMs := d.get SYS.WDT_TIMEOUT } }

/-! ### Power good and start-up (R502, R504, R505) -/

/-- POWER_GOOD (R502): NOM is detected. -/
def execPowerGood (vsup : BitVec 16) (s : State) : Out :=
  s.vbat fun d =>
    let d := (d.set PWR.VSUP_VSUP vsup.toNat).setBit PWR.CFG_NOM (decide (18000 ≤ vsup.toNat))
    (d.modLed fun l => { l with pgSec := d.rtc.sec }).setBit TMP.STAT_VMON true

/-- SYS.BANKSEL bit of an image the boot ROM checks. -/
def bootSlot (s : Fin 3) : Fin 5 := match s with | 0 => 2 | 1 => 1 | 2 => 0

/-- Neither bank of a slot passes (R505). -/
def Dev.imgFail (d : Dev) (s : Fin 3) : Dev :=
  let d := d.setFlag SYS.STAT_IMG_FAIL s.val true
  match s with
  | 0 => d
  | 1 => d.setMode 4
  | 2 => d.setBit SYS.STAT_RECOVERY true

/-- An image passes and its domain starts (R504). -/
def Dev.imgStart (d : Dev) (s : Fin 3) : Dev :=
  match s with
  | 0 => ((d.setBit VLT.STAT_TRNG_OK true).setBit VLT.STAT_DRBG_OK true).setBit VLT.STAT_MESH_OK true
  | 1 => d
  | 2 => d.setBit SYS.STAT_BOOT_DONE true

/-- The other bank of a slot runs (R505). -/
def Dev.bankFallback (d : Dev) (s : Fin 3) (cause : Nat) : Dev :=
  let k := bootSlot s
  let was := d.flag SYS.BANKSEL_SEL k.val
  let d := (d.setFlag SYS.BANKSEL_SEL k.val (!was)).setBit SYS.STAT_BANK_FALLBACK true
  let u := d.upd
  let d : Dev := match u.other[k] with
    | some i => { d with upd := { u with run := u.run.set k i, other := u.other.set k (some u.run[k]) } }
    | none => d
  d.glogHw 0x000C 0xFF (leBytes 1 k.val ++ leBytes 1 (if was then 1 else 0) ++ leBytes 1 cause)

/-- The domain an image starts. -/
def bootDomain (s : Fin 3) : Domain := match s with | 0 => .vlt | 1 => .saf | 2 => .app

/-- Why a bank does not pass (R505): what the check of signature and hash gives, or a ROLLBACK below the counter of the vault. -/
def Dev.bankCause (d : Dev) (k : Fin 5) (i : Option Img) (c : Option (Fin 3)) : Option (Fin 3) :=
  c.or (if i.any fun i => decide (i.rollback < d.get (VLT.ARB_CNT k.val)) then some 2 else none)

/-- BOOT_STAGE_DONE (R504, R505, R528): in production test neither SAF nor APP starts; a bank that was reverted does not pass
(R495), nor one whose ROLLBACK lies below its counter; a domain that was reset in hold-up stays off (R516). -/
def execBootStageDone (g : BootStage) (s : State) : Out :=
  s.on fun d => match g with
    | .clocks =>
      let d := (((d.setBit CLK.STAT_XTAL_OK true).setBit CLK.STAT_SYS_LOCK true).setBit CLK.STAT_PLC_LOCK true).setBit
        CLK.STAT_ADC_LOCK true
      ((d.setBit CLK.STAT_BACKUP false).setBit CLK.STAT_XT32_OK d.rtc.xt32).setBit CLK.STAT_RC_OK true
    | .image s first other =>
      let k := bootSlot s
      if (d.bit TST.STAT_PROD && s != 0) || d.domainOff (bootDomain s) then d
      else match d.bankCause k (some d.upd.run[k]) first, d.bankCause k d.upd.other[k] other with
        | none, _ => d.imgStart s
        | some c, none =>
          if d.upd.reverted[k] then d.imgFail s else (d.bankFallback s (c.val + 1)).imgStart s
        | some _, some _ => d.imgFail s
    | .keys =>
      if !d.bit VLT.STAT_TRNG_OK || d.domainOff .vlt then d
      else
        let d := (d.deriveSlots.setBit VLT.STAT_ROOT_OK d.vlt.rootOk).setBit VLT.STAT_READY true
        let d := if d.vlt.rootOk then d.mirrorHeader else d
        if d.led.started then d.resubmit else d

end Sys2Proof.Machine
end

