-- ==== Sys2Proof/Machine/Power.lean ====
section
/-!
DEFINITION. Clock monitor (R32), shed levels (R509, R510, R512), die temperature (R511), supply monitor (R503), the hold-up
sequence (R513–R516).
-/
namespace Sys2Proof.Machine

/-! ### Clock monitor (R32, R518) -/

/-- CLOCK_FAULT (R32): the CLK.STAT conditions lost; crystal or a PLL (bits 0 to 3) is a metrology self-check failure
and ends calibrations and steps: R89 follows the relock (R95). -/
def execClockFault (lost : BitVec 7) (s : State) : Out :=
  s.on fun d =>
    if lost = 0 then d
    else
      let now := d.rdN CLK.STAT % 128
      let d := d.wrN CLK.STAT (now - (now &&& lost.toNat))
      let d := ((d.set CLK.FAULT_LOST (d.get CLK.FAULT_LOST ||| lost.toNat)).bump CLK.FAULT_COUNT).raise CLK.page CLK.ev_FAULT
      if lost.toNat % 16 = 0 then d
      else
        let d := d.setBit CLK.STAT_BACKUP true
        let d : Dev := ({ d with mpl := { d.mpl with clockFault := true } } : Dev).mplStop
        d.selfCheckFail 0xFF 1 0

/-- CLOCK_RECOVERED (R32): crystal and PLLs are locked again. -/
def execClockRecovered (s : State) : Out :=
  s.on fun d =>
    let d := (((d.setBit CLK.STAT_XTAL_OK true).setBit CLK.STAT_SYS_LOCK true).setBit CLK.STAT_PLC_LOCK true).setBit
      CLK.STAT_ADC_LOCK true
    let d : Dev := { d with mpl := { d.mpl with clockFault := false } }
    let d := d.card 3 1
    (d.setBit CLK.STAT_BACKUP false).raise CLK.page CLK.ev_RECOVERED

/-! ### Shed levels (R509, R510) -/

/-- Millivolts of a percentage of NOM. -/
def Dev.ofNom (d : Dev) (pct : Nat) : Nat := pct * (if d.bit PWR.CFG_NOM then 240 else 120)

/-- Threshold of L1 to L3 in % (R509). -/
def Dev.shedPct (d : Dev) (lvl : Nat) : Nat :=
  if lvl = 1 then d.get PWR.THR_L1 else if lvl = 2 then d.get PWR.THR_L2 else d.get PWR.THR_L3

/-- LIM_SHED of every bay (R151): the minimum current at L3, else no limit. -/
def Dev.limShed (d : Dev) (on : Bool) : Dev :=
  d.forBays fun n d =>
    let i := if d.bit (BAY.CFG_DC n) then d.get (BAY.IMIN_DC_I n) else 60
    d.wrN (BAY.LIM n 3) (if on then i + 0xFFFF0000 else 0xFFFFFFFF)

/-- What entering one level does (R510). -/
def Dev.levelIn (d : Dev) (k : Nat) : Dev :=
  match k with
  | 1 => (((d.bump PWR.LVL_CNT_L1).nfrShedOff.plcShed).epdLevel).setBit CLK.APPCLK_HALF true
  | 2 =>
    let d := d.bump PWR.LVL_CNT_L2
    (if d.bit WAV.STAT_ARMED then d.wavEnd else d).setBit UPD.STAT_PAUSED true
  | 3 => (d.bump PWR.LVL_CNT_L3).limShed true
  | _ => d

/-- What leaving down to a level does: deferred functions resume (R510). -/
def Dev.levelOut (d : Dev) (new : Nat) : Dev :=
  let d := if new < 3 then d.limShed false else d
  let d := if new < 2 then d.setBit UPD.STAT_PAUSED false else d
  if new < 1 then
    let d := (d.setBit CLK.APPCLK_HALF false).epdLevel
    if d.led.redrawDue then d.redraw else d
  else d

/-- The effective level becomes the deeper of the supply and the thermal level; its actions apply in level order (R509). -/
def Dev.levelEval (d : Dev) : Dev :=
  let old := d.get PWR.STAT_LEVEL
  let new := max (d.get PWR.STAT_SUP_LVL) (d.get PWR.STAT_THERM_LVL)
  if old = new then d
  else
    let d := (d.set PWR.STAT_LEVEL new).raise PWR.page PWR.ev_LEVEL
    let d := ([1, 2, 3] : List Nat).foldl (fun d k => if old < k ∧ k ≤ new then d.levelIn k else d) d
    let d := if new < old then d.levelOut new else d
    (d.lswShed new).sysEvent 0 new

/-- SUPPLY_LEVEL_ENTER (R509): VSUP has been below a threshold for 1 ms. -/
def execSupplyLevelEnter (lvl : Fin 3) (vsup : BitVec 16) (s : State) : Out :=
  s.on fun d =>
    let k := lvl.val + 1
    let d := d.set PWR.VSUP_VSUP vsup.toNat
    if vsup.toNat < d.ofNom (d.shedPct k) ∧ d.get PWR.STAT_SUP_LVL < k then (d.set PWR.STAT_SUP_LVL k).levelEval else d

/-- SUPPLY_LEVEL_LEAVE (R509): VSUP has stayed at or above a threshold plus HYST for 100 ms. L4 is never left. -/
def execSupplyLevelLeave (lvl : Fin 3) (vsup : BitVec 16) (s : State) : Out :=
  s.on fun d =>
    let k := lvl.val + 1
    let d := d.set PWR.VSUP_VSUP vsup.toNat
    if d.ofNom (d.shedPct k + d.get PWR.THR_HYST) ≤ vsup.toNat ∧ d.get PWR.STAT_SUP_LVL = k then
      (d.set PWR.STAT_SUP_LVL (k - 1)).levelEval
    else d

/-- SHED_STOP_TIMEOUT (R151, R512): T_SHED after LIM_SHED fell, if it has not risen again. -/
def execShedStopTimeout (n : Bay) (s : State) : Out :=
  s.on fun d => if 3 ≤ d.get PWR.STAT_LEVEL then d.stopRequest n (2 ^ 4) else d

/-! ### Hold-up (R513, R514, R516) -/

/-- Every loop opens (R522). -/
def Dev.loopsOpen (d : Dev) : Dev :=
  let d := allPages.foldl (fun (d : Dev) p => d.setBit (Hdr.LOOP_ENABLE p.base) false) d
  let d : Dev := { d with loopHost := [] }
  d.tstShow

/-- The bay's part of hold-up entry (R151, R201): table stopped, CP in X1, contactors open at the next tick. -/
def Dev.bayHoldup (n : Bay) (d : Dev) : Dev :=
  let d := d.bayStop n
  let d := d.ctForce n
  (if d.bit (IMD.STAT_RUNNING n) then d.imdStop n else d).modImd n fun i => { i with level := 0 }

/-- The serial pages at hold-up entry (R542, R544, R546). -/
def Dev.serialHoldup (d : Dev) : Dev :=
  let d : Dev := { d with sar := {}, uart := d.uart.map fun u => { u with shift := none, tx := [] } }
  let d := ([0, 1, 2, 3] : List (Fin 4)).foldl (fun d k =>
    (d.set (UART.FIFO_STAT_TX_FREE k) 32).setBit (UART.STAT_TX_IDLE k) true) d
  let d := (d.set SAR.STAT_WAITING 0).set SAR.STAT_RUNNING 0
  ([0, 1] : List (Fin 2)).foldl (fun d n => ((d.i2cUnhold n).setBit (I2C.STAT_BUSY n) false).setBit (I2C.STAT_HELD n) false) d

/-- Hold-up entry (R513), with the partial cycle up to that instant (R126). -/
def Dev.holdupEnter (d : Dev) (thermal : Bool) (c : CycleData) : Dev :=
  let note := fun (l : Link) => ({ link := l, typ := 0x0103, notify := true, body := [1, 4] } : HostMsg)
  let d : Dev := { d with hostOut := [note .spi, note .rmii] ++ d.hostOut, pwr := { d.pwr with thermal := thermal } }
  let d := ((d.setBit PWR.STAT_HOLDUP true).set PWR.STAT_HU_STEP 1).raise PWR.page PWR.ev_HOLDUP
  let d := ((d.bump PWR.LVL_CNT_HU).set PWR.STAT_SUP_LVL 4).levelEval
  let d := d.forBays fun n d => if d.hasBay n then Dev.bayHoldup n d else d
  let d := (d.metPartial c).pairResign 5
  let d := (d.dmaAbortAll Dev.unclaimed 7).epdHoldup.serialHoldup
  let d := d.exiAbort
  (allPages.foldl (fun d p => d.testAbandon p 3) d).loopsOpen

/-- HOLDUP_ENTRY (R509, R513). -/
def execHoldupEntry (vsup vsense : BitVec 16) (c : CycleData) (s : State) : Out :=
  s.on fun d =>
    let d := (d.set PWR.VSUP_VSUP vsup.toNat).set PWR.VSUP_VSENSE vsense.toNat
    let lost := decide (vsup.toNat < d.ofNom 55) ||
      (d.bit PWR.CFG_VSENSE_EN && decide (vsense.toNat < d.ofNom (d.get PWR.VSENSE_CFG_LOSS)))
    if lost && !d.bit PWR.STAT_HOLDUP then d.holdupEnter false c else d

/-- Step 1 (R271): FIFOs drained, boundaries still missed being rebuilt first, with this instant for the capture to come (assumption
162); power-fail receipts, log entry. A legal domain that is not ready does nothing. -/
def Dev.holdupLedger (d : Dev) : Dev :=
  if !d.led.ready then d
  else
    let d := (d.rebuildMissed d.rtc.sec d.wheel).catchUp d.wheel
    let d := d.forBays fun n d => if d.led.sess[n].isSome then d.rcptCommit n 0xB 4 else d
    let d := d.glog .lgl 0x0001 0xFF (leBytes 2 (d.get PWR.VSUP_VSUP / 100) ++ leBytes 2 (d.get PWR.VSUP_VSENSE / 100))
    (d.modLed fun l => { l with powerFail := true, pfSec := d.rtc.sec }).legalRefresh

/-- Step 5 (R514): permits withdrawn, load channels off, VBAT domain on VBAT; the hold-up is recorded. -/
def Dev.holdupOff (d : Dev) (dur vend : Nat) : Dev :=
  let d := (((d.set SAF.PERMIT_EFF 0).set SAF.PERMIT_PROC 0).set SAF.PERMIT_HL 0).lswAllOff
  let d := d.forBays fun n d => (d.setBit (CTC.STAT_PERMIT n) false).ctCut n
  let d := ((d.set PWR.HU_LAST_DUR dur).set PWR.HU_LAST_VEND vend).setBit TMP.STAT_VMON false
  { d with pwr := { d.pwr with off := true }, rtc := { d.rtc with vbatRun := true } }

/-- HOLDUP_STEP_ADVANCE (R514): the step in STAT.HU_STEP ends, with what it does; step 2 waits for the frame in progress. -/
def execHoldupStepAdvance (dur vend : BitVec 16) (s : State) : Out :=
  s.on fun d =>
    let next := fun (d : Dev) => d.set PWR.STAT_HU_STEP (d.get PWR.STAT_HU_STEP + 1)
    match d.get PWR.STAT_HU_STEP with
    | 1 => next d.holdupLedger.epdLastFrame
    | 2 => next d.epdStop
    | 3 => next (if d.led.ready then d.mirrorRefresh else d)
    | 4 => next { d with pwr := { d.pwr with armed := true } }
    | 5 => d.holdupOff dur.toNat vend.toNat
    | _ => d

/-- SUPPLY_RETURN_RESET (R515): VSUP has been at least 8.5 V, and VSENSE at least LOSS + HYST of NOM if it counts, for 100 ms. -/
def execSupplyReturnReset (vsup vsense : BitVec 16) (s : State) : Out :=
  s.vbat fun d =>
    let good := decide (8500 ≤ vsup.toNat) &&
      (!d.bit PWR.CFG_VSENSE_EN || decide (d.ofNom (d.get PWR.VSENSE_CFG_LOSS + d.get PWR.THR_HYST) ≤ vsense.toNat))
    if d.pwr.off && !d.pwr.thermal && good then d.chipReset 6 d.chip.pairRole d.chip.testMode else d

/-! ### Die temperature (R511, R520) -/

/-- Insert into a rising list of temperatures. -/
def insertInt (x : Int) : List Int → List Int
  | [] => [x]
  | y :: l => if x ≤ y then x :: y :: l else y :: insertInt x l

/-- Twice the median of four readings. -/
def median2 (l : List Int) : Int :=
  let s := l.foldr insertInt []
  (s[1]?).getD 0 + (s[2]?).getD 0

/-- A sensor's reading is valid among the four (R511). -/
def tempValid (l : List Int) (t : Int) : Bool :=
  decide (-550 ≤ t ∧ t ≤ 1750) && decide ((2 * t - median2 l).natAbs ≤ 300)

/-- TJ in 0.1 °C (R511). -/
def junction (l : List Int) : Int :=
  let v := l.filter (tempValid l)
  if v.length < 2 then 1410 else v.foldl max (-550)

/-- The thermal level from TJ and the level held (R511). -/
def thermalLevel (t : Nat) (tj : Int) : Nat :=
  if 1470 < tj ∨ (t = 3 ∧ 1420 ≤ tj) then 3 else if 1400 < tj ∨ (2 ≤ t ∧ 1350 ≤ tj) then 2 else 0

/-- THERMAL_LEVEL_CHANGE (R511): the four sensors and the VBAT-domain sensor are read. -/
def execThermalLevelChange (v : Vector (BitVec 12) 4) (tvb : BitVec 12) (s : State) : Out :=
  s.on fun d =>
    let l := v.toList.map BitVec.toInt
    let bad := ((List.finRange 4).map fun k => if tempValid l v[k].toInt then 0 else 2 ^ k.val).sum
    let tj := junction l
    let d := (List.finRange 4).foldl (fun d k =>
      (d.set (TSEN.S_T k.val) v[k].toNat).setBit (TSEN.S_VALID k.val) (tempValid l v[k].toInt)) d
    let d := if bad ≠ 0 ∧ bad ≠ d.get TSEN.STAT_INVALID then d.raise TSEN.page TSEN.ev_SENSOR else d
    let d := ((d.set TSEN.STAT_INVALID bad).set TSEN.TJ_TJ (toUnsigned 12 tj)).set TSEN.TVB_T tvb.toNat
    let d := if signed 12 (d.get TSEN.TMAX_T) < tj then d.set TSEN.TMAX_T (toUnsigned 12 tj) else d
    let t := d.get PWR.STAT_THERM_LVL
    let t' := thermalLevel t tj
    let d := (d.setBit TSEN.STAT_HOT140 (decide (2 ≤ t'))).setBit TSEN.STAT_HOT147 (t' == 3)
    if t' = t then d
    else
      let d := (d.set PWR.STAT_THERM_LVL t').raise PWR.page PWR.ev_THERM
      let d := if t < 2 ∧ 2 ≤ t' then d.raise TSEN.page TSEN.ev_T140 else d
      let d := if t' = 3 then d.raise TSEN.page TSEN.ev_T147 else d
      let d := if t' = 0 then d.raise TSEN.page TSEN.ev_CLEAR else d
      d.levelEval

/-- THERMAL_SHUTDOWN (R511): TJ above 149.0 °C runs the hold-up sequence. -/
def execThermalShutdown (c : CycleData) (s : State) : Out :=
  s.on fun d =>
    if 1490 < signed 12 (d.get TSEN.TJ_TJ) ∧ !d.bit PWR.STAT_HOLDUP then d.holdupEnter true c else d

/-- THERMAL_SHUTDOWN_END (R511): below 125.0 °C, a chip reset with cause 5. -/
def execThermalShutdownEnd (tj : BitVec 12) (s : State) : Out :=
  s.vbat fun d =>
    if d.pwr.off && d.pwr.thermal && decide (tj.toInt < 1250) then d.chipReset 5 d.chip.pairRole d.chip.testMode else d

/-! ### Supply monitor (R503) -/

/-- SUPPLY_MONITOR (R503, R519): VSUP, VSENSE, VLS, VBAT in mV, I33 and ICORE in mA. -/
def execSupplyMonitor (vsup vsense vls vbat i33 icore : BitVec 16) (s : State) : Out :=
  s.on fun d =>
    let d := (d.wrN PWR.VSUP (vsup.toNat + 65536 * vsense.toNat)).wrN PWR.VAUX (vls.toNat + 65536 * vbat.toNat)
    let d := d.wrN PWR.ILOAD (i33.toNat + 65536 * icore.toNat)
    let d := d.setBit PWR.STAT_VSENSE_OK (decide (d.ofNom (d.get PWR.VSENSE_CFG_LOSS) ≤ vsense.toNat))
    let low := decide (vls.toNat < 7500)
    let d := if low && !d.bit PWR.STAT_VLS_LOW then d.raise PWR.page PWR.ev_VLS_LOW else d
    let d := d.setBit PWR.STAT_VLS_LOW low
    let lowB := decide (vbat.toNat < 2200)
    let d := if lowB && !d.bit PWR.STAT_VBAT_LOW then d.raise PWR.page PWR.ev_VBAT_LOW else d
    d.setBit PWR.STAT_VBAT_LOW lowB

end Sys2Proof.Machine
end

