-- ==== Sys2Proof/Machine/Serial.lean ====
section
/-!
DEFINITION. General-purpose pages: GPIO (R539–R541), SAR (R542, R543), UART (R544, R545), I2C (R546, R547), OSPI (R548–R550).
-/
namespace Sys2Proof.Machine

open Sys2Proof

/-! ### GPIO -/

/-- GPIO pins of the package (R540). -/
def Dev.gpioPins (d : Dev) : Nat := if d.chip.variant.pkgB then 16 else 8

/-- The mask of the pins present. -/
def Dev.gpioMask (d : Dev) : Nat := 2 ^ d.gpioPins - 1

/-- Pins the power path holds (R539): GPIO(4n) and GPIO(4n + 1) while CTCn.CFG.MODE is 1. -/
def Dev.heldPins (d : Dev) : Nat :=
  (allBays.map fun n => if d.get (CTC.CFG_MODE n) = 1 then 3 * 2 ^ (4 * n.val) else 0).sum

/-- Commanded levels of the held pins: poles B and C. -/
def Dev.heldLevels (d : Dev) : Nat :=
  (allBays.map fun n => if d.get (CTC.CFG_MODE n) = 1 then (d.ctc[n].drv / 2 % 4) * 2 ^ (4 * n.val) else 0).sum

/-- Pin `k`'s event is posted if IEDGE selects the edge. -/
def Dev.gpioEdge (d : Dev) (k : Nat) (level : Bool) : Dev :=
  let e := d.rdN GPIO.IEDGE / 4 ^ k % 4
  if d.enabled .GPIO && (if level then e.testBit 0 else e.testBit 1) then d.raise GPIO.page k else d

/-- IN follows the pins that drive, with their edges (R541). -/
def Dev.gpioPads (d : Dev) : Dev :=
  let held := d.heldPins
  let lv := d.heldLevels
  (List.range d.gpioPins).foldl (fun d k =>
    let drives := held.testBit k || d.flag GPIO.DIR_DIR k
    let v := if held.testBit k then lv.testBit k else d.flag GPIO.OUT_OUT k
    if drives && d.flag GPIO.IN_IN k != v then (d.setFlag GPIO.IN_IN k v).gpioEdge k v else d) d

/-- A write of SET, CLR or TGL (R539–R541): a mask with an absent pin, then one with a held pin, is rejected as a whole. -/
def Dev.gpioPut (d : Dev) (m : Master) (o mask : Nat) (f : Nat → Nat → Nat) : Dev :=
  d.guard m .GPIO o fun d =>
    let k := mask % 65536
    if k / 2 ^ d.gpioPins ≠ 0 then d.reject GPIO.page Err.NOT_FUSED
    else if k &&& d.heldPins ≠ 0 then d.reject GPIO.page Err.NOT_OWNER
    else (d.set GPIO.OUT_OUT (f (d.get GPIO.OUT_OUT) k)).gpioPads

/-- GPIO_SET (R541). -/
def execGpioSet (m : Master) (w : Word) (s : State) : Out := s.on fun d => d.gpioPut m 0x048 w.toNat (· ||| ·)

/-- GPIO_CLR (R541). -/
def execGpioClr (m : Master) (w : Word) (s : State) : Out := s.on fun d => d.gpioPut m 0x04C w.toNat clearBits

/-- GPIO_TGL (R541). -/
def execGpioTgl (m : Master) (w : Word) (s : State) : Out := s.on fun d => d.gpioPut m 0x050 w.toNat (· ^^^ ·)

/-- GPIO_EDGE (R541): a pad the block does not drive changes. -/
def execGpioEdge (k : Fin 16) (level : Bool) (s : State) : Out :=
  s.on fun d =>
    if d.gpioPins ≤ k.val || d.heldPins.testBit k.val || d.flag GPIO.DIR_DIR k.val || d.flag GPIO.IN_IN k.val == level then d
    else (d.setFlag GPIO.IN_IN k.val level).gpioEdge k.val level

/-- A seat's GPIO action on a pin (R68, R539): 0 set, 1 clear, 2 toggle. -/
def Dev.gpioSeat (d : Dev) (act k : Nat) : Dev :=
  if d.gpioPins ≤ k then d
  else if d.heldPins.testBit k then (d.bump GPIO.STAT_SEAT_DROP).raise GPIO.page GPIO.ev_SEAT_DROP
  else (d.setFlag GPIO.OUT_OUT k (if act = 0 then true else if act = 1 then false else !d.flag GPIO.OUT_OUT k)).gpioPads

/-! ### SAR -/

/-- The entry bytes of a sequence, in order. -/
def Dev.sarEntries (d : Dev) (k : Nat) : List Nat :=
  let lo := d.rdN (SAR.SEQ_LO k)
  let hi := d.rdN (SAR.SEQ_HI k)
  (List.range 8).map fun i => (if i < 4 then lo / 256 ^ i else hi / 256 ^ (i - 4)) % 256

/-- STAT.RUNNING and STAT.WAITING. -/
def Dev.sarShow (d : Dev) : Dev :=
  (d.set SAR.STAT_RUNNING (match d.sar.run with | some k => 2 ^ k | none => 0)).set SAR.STAT_WAITING
    (d.sar.wait.map fun k => 2 ^ k).sum

/-- A sequence runs or waits. -/
def Dev.sarBusy (d : Dev) (k : Nat) : Bool := d.sar.run == some k || d.sar.wait.contains k

/-- Start a sequence or let it wait (R542). -/
def Dev.sarStart (d : Dev) (k : Nat) : Dev :=
  match d.sar.run with
  | none => ({ d with sar := { d.sar with run := some k } }).sarShow
  | some _ => ({ d with sar := { d.sar with wait := d.sar.wait ++ [k] } }).sarShow

/-- The sequences of a START mask. -/
def sarMask (mask : Nat) : List Nat := [0, 1, 2, 3].filter fun k => mask.testBit k

/-- SAR_SEQUENCE_START (R542): a register start of a sequence that runs or waits is rejected. -/
def execSarSequenceStart (m : Master) (mask : BitVec 4) (s : State) : Out :=
  s.on fun d => d.startWork m .SAR 0x064
    (fun d => if (sarMask mask.toNat).any d.sarBusy then some Err.BUSY else none) fun d =>
    (sarMask mask.toNat).foldl Dev.sarStart d

/-- A seat's SAR_START (R68, R542). -/
def Dev.sarSeat (d : Dev) (k : Nat) : Dev :=
  if !d.takesWork .SAR || d.bit PWR.STAT_HOLDUP then d
  else if d.sarBusy k then (d.bump SAR.STAT_START_LOST).raise SAR.page SAR.ev_START_LOST
  else d.sarStart k

/-- One result (R542): a result that replaces an unread one is an overrun. -/
def Dev.sarResult (d : Dev) (ch value angle : Nat) : Dev :=
  let d := if d.bit (SAR.RESULT_NEW ch) then (d.setBit SAR.STAT_OVR true).raise SAR.page SAR.ev_OVR else d
  d.wrN (SAR.RESULT ch) (value % 4096 + 32768 + 65536 * (angle % 65536))

/-- The mean of the 2^AVG samples of an entry (R542), rounded down (assumption 188); with loop depth 3 closed every channel reads
the internal 1.200 V reference. -/
def Dev.sarMean (d : Dev) (l : List (BitVec 12)) : Nat :=
  let l := l.take (2 ^ d.get SAR.CFG_AVG)
  if d.bit (Hdr.LOOP_ENABLE SAR.page) then 1489 else (l.map (·.toNat)).sum / l.length

/-- SAR_SEQUENCE_DONE (R542): the samples of the enabled entries in order, with the wheel angle of each last sample; the next
start that waits begins. -/
def execSarSequenceDone (vals : List SarEntry) (s : State) : Out :=
  s.on fun d => match d.sar.run with
    | none => d
    | some k =>
      let es := (d.sarEntries k).filter fun e => decide (128 ≤ e)
      let d := (es.zip vals).foldl (fun d x => d.sarResult (x.1 % 32) (d.sarMean x.2.samples) x.2.angle.toNat) d
      let d := (d.setFlag SAR.STAT_DONE k true).raise SAR.page SAR.ev_SEQ_DONE
      match d.sar.wait with
      | [] => ({ d with sar := {} }).sarShow
      | j :: l => ({ d with sar := { run := some j, wait := l } }).sarShow

/-- RESULT_READ (R542): the read clears NEW. -/
def Dev.sarRead (d : Dev) (c : Nat) : Dev := d.setBit (SAR.RESULT_NEW c) false

/-- RESULT_READ (R542). -/
def execResultRead (m : Master) (c : Fin 18) (s : State) : Out :=
  s.on fun d =>
    let a := 0x40000000 + SAR.RESULT c.val
    if d.filterAllows m a false then (d.busOk (leBytes 4 (d.rdN (SAR.RESULT c.val)))).sarRead c.val
    else (d.fwBlock m a false).busError

/-! ### UART -/

/-- Change a UART. -/
def Dev.modUart (d : Dev) (k : Fin 4) (f : UartInt → UartInt) : Dev := { d with uart := d.uart.set k (f d.uart[k]) }

/-- FIFO_STAT and TX_IDLE. -/
def Dev.uartShow (d : Dev) (k : Fin 4) : Dev :=
  let u := d.uart[k]
  ((d.set (UART.FIFO_STAT_TX_FREE k) (32 - u.tx.length)).set (UART.FIFO_STAT_RX_COUNT k) u.rx.length).setBit
    (UART.STAT_TX_IDLE k) (u.shift.isNone && u.tx.isEmpty)

/-- RX is raised while RX_COUNT ≥ RX_THR, TX while TX_FREE ≥ TX_THR (R544). -/
def Dev.uartLevels (d : Dev) (k : Fin 4) : Dev :=
  let d := if d.get (UART.THR_RX_THR k) ≤ d.uart[k].rx.length then d.raise (UART.page k) UART.ev_RX else d
  if d.get (UART.THR_TX_THR k) ≤ 32 - d.uart[k].tx.length then d.raise (UART.page k) UART.ev_TX else d

/-- The levels of the UARTs that are on, which stand in IRQ_RAW in every bridge cycle (R544). -/
def Dev.uartsLevel (d : Dev) : Dev :=
  ([0, 1, 2, 3] : List (Fin 4)).foldl (fun d k => if d.enabled (.UART k) then d.uartLevels k else d) d

/-- The next character moves into the shift register. -/
def uartNext (u : UartInt) : UartInt :=
  match u.shift, u.tx with
  | none, c :: l => { u with shift := some c, tx := l }
  | _, _ => u

/-- UART_TX_PUSH (R544). -/
def execUartTxPush (m : Master) (k : Fin 4) (c : Byte) (s : State) : Out :=
  s.on fun d => d.startWork m (.UART k) 0x044 (fun d => if 32 ≤ d.uart[k].tx.length then some Err.BUSY else none) fun d =>
    (d.modUart k fun u => uartNext { u with tx := u.tx ++ [c] }).uartShow k

/-- A received character with its flags (R544). -/
def Dev.uartRx (d : Dev) (k : Fin 4) (c : Byte) (pe fe brk : Bool) : Dev :=
  let data := c.toNat % 2 ^ (5 + d.get (UART.CFG_BITS k))
  let w := data + (if pe then 256 else 0) + (if fe then 512 else 0) + (if brk then 1024 else 0)
  let full := decide (32 ≤ d.uart[k].rx.length)
  let d := if brk then d.setBit (UART.STAT_BREAK_RX k) true else d
  let d := if full then d.setBit (UART.STAT_OVR k) true else d.modUart k fun u => { u with rx := u.rx ++ [w] }
  let d := if full || pe || fe || brk then d.raise (UART.page k) UART.ev_ERR else d
  let d := d.uartShow k
  if d.get (UART.THR_RX_THR k) ≤ d.uart[k].rx.length then d.raise (UART.page k) UART.ev_RX else d

/-- The entry a pop takes from the RX FIFO; EMPTY where there is none (R545). -/
def Dev.uartPop (d : Dev) (k : Fin 4) : Nat × Dev :=
  match d.uart[k].rx with
  | [] => (0x80000000, d)
  | w :: l => (w, (d.modUart k fun u => { u with rx := l }).uartShow k)

/-- UART_RX_POP (R544). -/
def execUartRxPop (m : Master) (k : Fin 4) (s : State) : Out :=
  s.on fun d =>
    let a := 0x40000000 + UART.RX_DATA k
    if d.filterAllows m a false then
      let r := d.uartPop k
      r.2.busOk (leBytes 4 r.1)
    else (d.fwBlock m a false).busError

/-- UART_CHAR_RX (R544): nothing is received from outside while a loop is closed (R522). -/
def execUartCharRx (k : Fin 4) (c : Byte) (pe fe brk : Bool) (s : State) : Out :=
  s.on fun d =>
    if d.enabled (.UART k) && d.present (.UART k) && !d.bit (Hdr.LOOP_ENABLE (UART.page k)) then d.uartRx k c pe fe brk else d

/-- UART_RX_TIMEOUT (R544). -/
def execUartRxTimeout (k : Fin 4) (s : State) : Out :=
  s.on fun d =>
    if d.rdN (UART.RXTMO k) % 256 ≠ 0 ∧ !d.uart[k].rx.isEmpty then d.raise (UART.page k) UART.ev_RX_TMO else d

/-- UART_CHAR_TX (R544): a character has left; a closed loop brings it back (R521). -/
def execUartCharTx (k : Fin 4) (s : State) : Out :=
  s.on fun d => match d.uart[k].shift with
    | none => d
    | some c =>
      let d := (d.modUart k fun u => uartNext { u with shift := none }).uartShow k
      let d := if d.bit (Hdr.LOOP_ENABLE (UART.page k)) then d.uartRx k c false false false else d
      d.uartLevels k

/-- TX_FLUSH (R545). -/
def execTxFlush (m : Master) (k : Fin 4) (s : State) : Out :=
  s.on fun d => d.guard m (.UART k) 0x05C fun d => (d.modUart k fun u => { u with tx := [] }).uartShow k

/-- RX_FLUSH (R545). -/
def execRxFlush (m : Master) (k : Fin 4) (s : State) : Out :=
  s.on fun d => d.guard m (.UART k) 0x05C fun d => (d.modUart k fun u => { u with rx := [] }).uartShow k

/-! ### I2C -/

/-- Change an I2C controller. -/
def Dev.modI2c (d : Dev) (n : Fin 2) (f : I2cInt → I2cInt) : Dev := { d with i2c := d.i2c.set n (f d.i2c[n]) }

/-- TX_FILL and RX_FILL: the FIFOs hold 16 bytes; what a longer read still holds back stays with the target. -/
def Dev.i2cShow (d : Dev) (n : Fin 2) : Dev :=
  (d.set (I2C.STAT_TX_FILL n) (min 16 d.i2c[n].tx.length)).set (I2C.STAT_RX_FILL n) (min 16 d.i2c[n].rx.length)

/-- I2C_GO (R546): CMD is taken and the transfer starts. -/
def execI2cGo (m : Master) (n : Fin 2) (w : Word) (s : State) : Out :=
  s.on fun d => d.startWork m (.I2C n) 0x044 (fun d => if d.bit (I2C.STAT_BUSY n) then some Err.BUSY else none) fun d =>
    let d := d.wrN (I2C.CMD n) (w.toNat &&& 0x01FF0FFF)
    ((d.setBit (I2C.STAT_BUSY n) true).setBit (I2C.STAT_HELD n) false).set (I2C.STAT_COUNT n) 0

/-- A transfer is over, with the bytes transferred and the error bit it sets, if any (R546). -/
def Dev.i2cEnd (d : Dev) (n : Fin 2) (count : Nat) (held : Bool) (err : Option Fld) : Dev :=
  let d := (d.setBit (I2C.STAT_BUSY n) false).setBit (I2C.STAT_HELD n) held
  let d := ((d.set (I2C.STAT_COUNT n) count).setBit (I2C.STAT_DONE n) true).raise (I2C.page n) I2C.ev_DONE
  match err with
  | some f => (d.setBit f true).raise (I2C.page n) I2C.ev_ERR
  | none => d

/-- What a read has brought enters RXDATA; bytes beyond the sixteenth stay with the target, SCL low, until a pop makes room, and
the last one ends the transfer (R546). -/
def Dev.i2cFill (d : Dev) (n : Fin 2) (len : Nat) (held : Bool) : Dev :=
  let excess := d.i2c[n].rx.length - 16
  let d := (d.modI2c n fun i => { i with hold := decide (0 < excess) }).i2cShow n
  if excess = 0 then d.i2cEnd n len held none else d.set (I2C.STAT_COUNT n) (len - excess)

/-- How a transfer ends: as the bus says, or in a closed loop, where no target answers, with every byte transferred: what a write
sends comes back, a read finds SDA high (R521, R522). -/
def Dev.i2cHeard (d : Dev) (n : Fin 2) (e : I2cEnd) : I2cEnd :=
  if d.bit (Hdr.LOOP_ENABLE (I2C.page n)) then .done (List.replicate (d.get (I2C.CMD_LEN n)) 0xFF) else e

/-- I2C_TRANSFER_END (R546): a write that has not got its bytes yet holds SCL and does not end. -/
def execI2cTransferEnd (n : Fin 2) (e : I2cEnd) (s : State) : Out :=
  s.on fun d =>
    if !d.bit (I2C.STAT_BUSY n) then d
    else
      let loop := d.bit (Hdr.LOOP_ENABLE (I2C.page n))
      let e := d.i2cHeard n e
      let len := d.get (I2C.CMD_LEN n)
      let held := !d.bit (I2C.CMD_STOP n)
      let sent := fun (d : Dev) (k : Nat) => (d.modI2c n fun i => { i with tx := i.tx.drop k }).i2cShow n
      match e with
      | .done data =>
        if d.bit (I2C.CMD_READ n) then
          if d.i2c[n].hold then d
          else (d.modI2c n fun i => { i with rx := i.rx ++ data.take len }).i2cFill n len held
        else if d.i2c[n].tx.length < len then d
        else
          let back := if loop then d.i2c[n].tx.take len else []
          (sent (d.modI2c n fun i => { i with rx := i.rx ++ back }) len).i2cEnd n len held none
      | .nackAddr => d.i2cEnd n 0 false (some (I2C.STAT_NACK_ADDR n))
      | .nackData k => (sent d (k.toNat + 1)).i2cEnd n k.toNat false (some (I2C.STAT_NACK_DATA n))
      | .arbLost k => (if d.bit (I2C.CMD_READ n) then d else sent d k.toNat).i2cEnd n k.toNat false (some (I2C.STAT_ARB_LOST n))

/-- I2C_TIMEOUT (R546): bytes that have not been taken stay with the target. -/
def execI2cTimeout (n : Fin 2) (s : State) : Out :=
  s.on fun d =>
    if d.bit (I2C.STAT_BUSY n) then
      (d.i2cUnhold n).i2cEnd n (d.get (I2C.STAT_COUNT n)) false (some (I2C.STAT_TIMEOUT n))
    else d

/-- RECOVER (R546): SCL clocked until SDA is high, then a stop: the bus is free. -/
def execRecover (m : Master) (n : Fin 2) (s : State) : Out :=
  s.on fun d => d.startWork m (.I2C n) 0x058 (fun _ => none) fun d => d.setBit (I2C.STAT_HELD n) false

/-- A pop of RXDATA (R547). -/
def Dev.i2cPop (d : Dev) (n : Fin 2) : Nat × Dev :=
  match d.i2c[n].rx with
  | [] => (0x80000000, d)
  | b :: l =>
    let d := (d.modI2c n fun i => { i with rx := l }).i2cShow n
    (b.toNat, if d.i2c[n].hold then d.i2cFill n (d.get (I2C.CMD_LEN n)) (!d.bit (I2C.CMD_STOP n)) else d)

/-! ### OSPI -/

/-- Base of the window (R23). -/
def ospiBase : Nat := 0x60000000

/-- A command runs (R548). -/
def Dev.ospiCmd (d : Dev) : Bool := d.bit OSPI.STAT_BUSY && !d.bit OSPI.STAT_PROGRAMMING

/-- The page buffer is programmed (R549). -/
def Dev.ospiProgram (d : Dev) : Dev :=
  match d.ospi.page with
  | some p =>
    let d : Dev := { d with ospi := { d.ospi with page := none, buf := [], prog := some (p, d.ospi.buf) } }
    (d.setBit OSPI.STAT_BUSY true).setBit OSPI.STAT_PROGRAMMING true
  | none => d

/-- An access stalls. -/
def Dev.ospiStall (d : Dev) (x : OspiStall) : Dev := { d with ospi := { d.ospi with stall := d.ospi.stall ++ [x] } }

/-- A window write that reaches the device (R548, R549): to RAM at once, to flash through the page buffer; while a command or a
program runs it stalls. -/
def Dev.ospiStore (d : Dev) (o : Nat) (l : List Byte) : Dev :=
  let stall := fun (d : Dev) => d.ospiStall { ofs := o, data := some l, len := l.length }
  if d.bit OSPI.STAT_BUSY then stall d
  else if d.bit OSPI.CFG_DEV then (d.wrBytes (ospiBase + o) l).busOk []
  else
    let p := o / 256
    let add := (l.zipIdx).map fun x => (o + x.2, x.1)
    match d.ospi.page with
    | some q =>
      if p = q then ({ d with ospi := { d.ospi with buf := d.ospi.buf ++ add } }).busOk []
      else stall d.ospiProgram
    | none => ({ d with ospi := { d.ospi with page := some p, buf := add } }).busOk []

/-- The loop is closed: the device is not reached (R521, R522). -/
def Dev.ospiLooped (d : Dev) : Bool := d.bit (Hdr.LOOP_ENABLE OSPI.page)

/-- The window's bound, an enabled page, no closed loop, for a write no hold-up; else a bus error (R548, R549). -/
def Dev.ospiReach (d : Dev) (o n : Nat) (write : Bool) : Option Dev :=
  if !d.enabled .OSPI || (write && d.bit PWR.STAT_HOLDUP) || d.ospiLooped then some d.busError
  else if 2 ^ d.get OSPI.CFG_SIZE < o + n then some ((d.setBit OSPI.STAT_RANGE true).raise OSPI.page OSPI.ev_ERR).busError
  else none

/-- A window write. -/
def Dev.ospiWrite (d : Dev) (o : Nat) (l : List Byte) : Dev :=
  match d.ospiReach o l.length true with
  | some d => d
  | none => d.ospiStore o l

/-- OSPI_WINDOW_WRITE (R549). -/
def execOspiWindowWrite (m : Master) (a : BitVec 28) (data : List Byte) (s : State) : Out :=
  s.on fun d =>
    let addr := ospiBase + a.toNat
    if d.filterAllows m addr true then d.ospiWrite a.toNat data else (d.fwBlock m addr true).busError

/-- OSPI_CMD_GO (R548). -/
def execOspiCmdGo (m : Master) (w : Word) (s : State) : Out :=
  s.on fun d => d.startWork m .OSPI 0x05C
    (fun d => if d.bit OSPI.STAT_BUSY then some Err.BUSY else if 256 < w.toNat % 512 then some Err.RANGE else none) fun d =>
    (d.wrN OSPI.CMD_CTL (w.toNat % 0x20000)).setBit OSPI.STAT_BUSY true

/-- A window read of `n` bytes (R548, R549): it stalls while a command or a program runs; the page buffer is not read. -/
def Dev.ospiRead (d : Dev) (o n : Nat) : Dev :=
  match d.ospiReach o n false with
  | some d => d
  | none =>
    if d.bit OSPI.STAT_BUSY then d.ospiStall { ofs := o, data := none, len := n }
    else d.busOk (d.rdBytes (ospiBase + o) n)

/-- What stalled goes on, in its order; once a page is programmed again, the rest stalls again. -/
def Dev.ospiResume (d : Dev) : Dev :=
  let go := fun (d : Dev) (x : OspiStall) =>
    match x.data with
    | some l => d.ospiStore x.ofs l
    | none => if d.bit OSPI.STAT_BUSY then d.ospiStall x else d.busOk (d.rdBytes (ospiBase + x.ofs) x.len)
  d.ospi.stall.foldl go { d with ospi := { d.ospi with stall := [] } }

/-- OSPI_CMD_DONE (R548): what a read brought lies in CMD_DATA; ERASE_OPC has set the sector's bits (R549). -/
def execOspiCmdDone (data : List Byte) (s : State) : Out :=
  s.on fun d =>
    if !d.ospiCmd then d
    else
      let len := d.get OSPI.CMD_CTL_LEN
      let d := if d.bit OSPI.CMD_CTL_WRITE || d.ospiLooped then d else d.wrWords OSPI.CMD_DATA (data.take len)
      let d := if d.get OSPI.CMD_OPC % 256 = d.get OSPI.FLASH_ERASE_OPC ∧ d.bit OSPI.CMD_CTL_ADDR_EN ∧ !d.bit OSPI.CFG_DEV ∧ !d.ospiLooped ∧
          d.rdN OSPI.CMD_ADDR < 2 ^ d.get OSPI.CFG_SIZE then
          let n := 2 ^ d.get OSPI.PROG_ERASE
          d.wrBytes (ospiBase + d.rdN OSPI.CMD_ADDR / n * n) (List.replicate n 0xFF)
        else d
      ((d.setBit OSPI.STAT_BUSY false).raise OSPI.page OSPI.ev_CMD_DONE).ospiResume

/-- PROG.FLUSH (R549). -/
def execFlush (m : Master) (s : State) : Out :=
  s.on fun d => d.startWork m .OSPI 0x050 (fun _ => none) fun d => if d.bit OSPI.STAT_BUSY then d else d.ospiProgram

/-- PAGE_BUFFER_TIMEOUT (R549). -/
def execPageBufferTimeout (s : State) : Out := s.on fun d => if d.bit OSPI.STAT_BUSY then d else d.ospiProgram

/-- PROGRAM_DONE (R549): a program only changes flash bits from 1 to 0. -/
def execProgramDone (s : State) : Out :=
  s.on fun d => match d.ospi.prog with
    | none => d
    | some (_, l) =>
      let d := l.foldl (fun d x => d.wrByte (ospiBase + x.1) (d.rdByte (ospiBase + x.1) &&& x.2)) d
      let d : Dev := { d with ospi := { d.ospi with prog := none } }
      (((d.setBit OSPI.STAT_BUSY false).setBit OSPI.STAT_PROGRAMMING false).raise OSPI.page OSPI.ev_PROG_DONE).ospiResume

/-- PROGRAM_STALL_TIMEOUT (R549): the oldest stalled access ends with a bus error. -/
def execProgramStallTimeout (s : State) : Out :=
  s.on fun d =>
    if d.ospi.stall ≠ [] ∧ d.bit OSPI.STAT_PROGRAMMING then
      let d : Dev := { d with ospi := { d.ospi with stall := d.ospi.stall.tail } }
      ((d.setBit OSPI.STAT_PTMO true).raise OSPI.page OSPI.ev_ERR).busError
    else d

end Sys2Proof.Machine
end

