-- ==== Sys2Proof/Machine/Blocks.lean ====
section
/-!
DEFINITION. The common header at work (R37–R49): blocks on, off and draining, ownership, the expert unlock, interrupts,
loopbacks (R521, R522), and the self-test protocol (R523–R527).
-/
namespace Sys2Proof.Machine

/-- The page that a page number in the window names. -/
def pageOf (page : BitVec 8) : Option PageId := pageAt (page.toNat * 0x1000)

/-- A write to a header register of a page (R36, R40): an offset that is no page gives a bus error. -/
def Dev.header (d : Dev) (m : Master) (page : BitVec 8) (o : Nat) (k : PageId → Dev → Dev) : Dev :=
  match pageOf page with
  | none => { d.busError with expKey := none }
  | some p => d.guard m p o (k p)

/-! ### What a block has in flight -/

/-- BLKSTAT.BUSY: work in flight, or a drain (R37). -/
def Dev.blkBusy (d : Dev) (p : PageId) : Bool :=
  d.bit (Hdr.BUSY p.base) || match p with
    | .NFR => d.nfr.job.isSome
    | .OSPI => d.bit OSPI.STAT_BUSY
    | .SAR => d.sar.run.isSome
    | .UART k => !d.bit (UART.STAT_TX_IDLE k)
    | .EPD => !d.epd.running.isEmpty
    | .DMA => d.rdN DMA.CH_ACT != 0
    | .RCD n => d.bit (RCD.STAT_TEST_RUN n)
    | .IMD n => d.bit (IMD.STAT_RUNNING n)
    | .CAN k => !d.can[k].tx.isEmpty
    | .I2C n => d.bit (I2C.STAT_BUSY n)
    | .UPD => d.upd.recon.isSome
    | _ => false

/-- The drain action has run its course (R47): what the block had in flight is over. -/
def Dev.drained (d : Dev) (p : PageId) : Bool :=
  !d.bit (Hdr.TEST_RUNNING p.base) && match p with
    | .BAY n => !d.inSession n
    | .CTC n => d.ctState n == Ct.OPEN || d.ctState n == Ct.WELD
    | .RCD n => !d.bit (RCD.STAT_TEST_RUN n) && !d.rcd[n].finish
    | .IMD n => !d.imd[n].finish
    | .EPD => d.epd.running.isEmpty
    | .NFR => d.nfr.job.isNone
    | .EXI => d.exi.job.isNone
    | .WAV => !d.chActive d.wavDma || d.dma.ch[d.wavDma].reqs.isEmpty
    | .SAR => d.sar.run.isNone
    | .DMA => d.rdN DMA.CH_ACT == 0
    | .I2C n => !d.bit (I2C.STAT_BUSY n)
    | .OSPI => !d.bit OSPI.STAT_BUSY
    | .CAR => d.car.drainCyc.all fun c => decide (c < d.car.cyc) ||
        (List.finRange 64).all fun k => !d.seatArmed k.val || decide (c * 65536 + 65535 < d.seatDue k)
    | .MPL => !d.mpl.finalDue
    | .MET m => !d.met[m].finalDue
    | .PAIR => d.pairState != Pr.ACTIVE
    | .UPD => d.get UPD.STAT_STATE != 5
    | .YLR => ylPorts.all fun k => d.ylr.port[k].queue.isEmpty
    | .YL k => d.ylr.port[k].queue.isEmpty
    | .CAN k => d.can[k].tx.isEmpty
    | .UART k => d.uart[k].shift.isNone
    | _ => true

/-! ### Blocks on -/

/-- EN = 1, no drain, and the microcode loaded where there is one: READY (R37, R156). -/
def Dev.readySet (d : Dev) (p : PageId) : Dev :=
  let on := (p.fixed || d.bit (Hdr.EN p.base)) && !d.draining p
  let ok := match p with | .PLC n => d.plc[n].loaded | _ => true
  d.setBit (Hdr.READY p.base) (on && ok)

/-- PAIR comes on (R450): START, and LISTEN at once if the safety island is in mode 0; seat 33 marks every cycle (R452). -/
def Dev.pairEnable (d : Dev) : Dev :=
  let d := d.pairEnter Pr.START
  let d := if d.chMode = 0 then d.pairEnter Pr.LISTEN else d
  (d.hwSeat 33 ((d.wheel / 65536 + 1) * 65536) 0x11 0 1).2

/-- What a block does as it comes on. -/
def Dev.blkStart (d : Dev) (p : PageId) : Dev :=
  match p with
  | .BAY n => d.bayStart n
  | .PLC n => d.plcStart n
  | .MPL => d.mplStop
  | .EPD => d.epdEnable
  | .LSW =>
    let d : Dev := { d with lsw := { d.lsw with allOff := false } }
    d.forLsw 0xFFF fun c d => d.lswEval c
  | .PAIR => d.pairEnable
  | _ => d

/-- EN = 1 (R46): refused while a drain runs. -/
def Dev.blkOn (d : Dev) (p : PageId) : Dev :=
  if d.bit (Hdr.DRAINING p.base) then d.reject p.base Err.DRAINING
  else if p.fixed || d.bit (Hdr.EN p.base) || !d.present p then d
  else (((d.setBit (Hdr.EN p.base) true).blkStart p).readySet p).conflictShow

/-- BLOCK_ENABLE (R46). -/
def execBlockEnable (m : Master) (page : BitVec 8) (s : State) : Out :=
  s.on fun d => d.header m page 0x008 fun p d => d.blkOn p

/-! ### Blocks off (R46–R48) -/

/-- Why a block cannot be switched off, if it cannot (R47). -/
def Dev.offError (d : Dev) (p : PageId) : Option Nat :=
  if p.fixed then some Err.RANGE
  else match p with
    | .RCD n | .IMD n => if d.bayIdle n then none else some Err.SAFETY_DENIED
    | .CAR => if d.anyClosed then some Err.SAFETY_DENIED else none
    | .MPL | .MET _ => if d.anyMetering then some Err.BUSY else none
    | .YLR | .YL _ => if d.pairLink then some Err.SEQUENCE else none
    | _ => none

/-- A reconstruction stops with its progress kept (R47, R491); who waits for it is answered BUSY. -/
def Dev.updHalt (d : Dev) : Dev :=
  match d.upd.recon with
  | none => d
  | some (_, q) =>
    let (c, d) := d.ckptTake
    let d : Dev := { d with upd := { d.upd with recon := none, ckpt := c } }
    let d := d.wrN UPD.PROG ((c.map fun x => x.2.2).getD 0)
    (d.set UPD.STAT_STATE 1).toHost { link := q.link, typ := 0x0404, tag := q.tag, status := Err.BUSY, role := q.role }

/-- What a block does as its drain begins (R47). -/
def Dev.drainBegin (d : Dev) (p : PageId) : Dev :=
  match p with
  | .BAY n => d.stopRequest n (2 ^ 3)
  | .CTC n =>
    if d.inSession n then d.stopRequest n (2 ^ 3)
    else d.ctRequestOpen n 0
  | .RCD n => d.modRcd n fun r => { r with finish := !d.isStandby }
  | .IMD n => d.modImd n fun i => { i with finish := d.bit (IMD.STAT_RUNNING n) }
  | .CAR => d.modCar fun x => { x with drainCyc := some x.cyc }
  | .MPL => { d with mpl := { d.mpl with finalDue := true } }
  | .MET m => d.modMet m fun x => { x with finalDue := true }
  | .LSW => d.lswFailSafe 0xFFF
  | .WAV => if d.bit WAV.STAT_ARMED then d.wavEnd else d
  | .CAN k => (d.modCan k fun c => { c with part := [], tx := if d.canSends k then c.tx.take 1 else [] }).canShow k
  | .UART k => (d.modUart k fun u => { u with tx := [] }).uartShow k
  | .DMA => d.dmaAbortAll (fun d c => d.dma.ch[c].circ) 9
  | .PAIR => if d.pairState = Pr.ACTIVE then d.modPair fun x => { x with drainWait := true } else d
  | .UPD => d.updHalt
  | _ => d

/-- The modem of a bay goes off: link down, sounds dropped. -/
def Dev.plcOff (d : Dev) (n : Bay) : Dev :=
  ((((d.plcDown n).soundsDrop n).setBit (PLC.STAT_AFE_ON n) false).setBit (PLC.STAT_SHED n) false).modPlc n fun x => { x with loading := false, loaded := false }

/-- What a block leaves as it goes off (R46, R47). -/
def Dev.blkStop (d : Dev) (p : PageId) : Dev :=
  match p with
  | .BAY n => d.bayStop n
  | .PLC n => d.plcOff n
  | .T1S n => d.setBit (T1S.STAT_PLCA_STATUS n) false
  | .RCD n => d.modRcd n fun r => { r with finish := false }
  | .IMD n => (if d.bit (IMD.STAT_RUNNING n) then d.imdStop n else d).modImd n fun i => { i with finish := false, level := 0 }
  | .CAR => d.carOff
  | .MPL => d.mplStop
  | .WAV => if d.bit WAV.STAT_ARMED then d.wavEnd else d
  | .EPD => d.epdStop
  | .NFR => d.nfrOff
  | .YL k => d.portDown k
  | .PAIR =>
    let d := (d.setBit PAIR.STAT_TOKEN false).setBit PAIR.STAT_DEFER false
    ((d.modPair fun x => { x with deferCause := none, drainWait := false, handover := false, swapIn := none, tokenNext := false,
                                  guard := false, raceWait := false, counting := false, replicas := [],
                                  sess := Vector.replicate 4 none }).pairEnter Pr.DISABLED).seatCancel 33
  | _ => d

/-- The block is off: DRAINING and BUSY clear (R46). -/
def Dev.blkOff (d : Dev) (p : PageId) : Dev :=
  let d := ((d.setBit (Hdr.DRAINING p.base) false).setBit (Hdr.BUSY p.base) false).setBit (Hdr.READY p.base) false
  (d.blkStop p).conflictShow

/-- The drain begins (R46): queued tests are abandoned (R527). -/
def Dev.blkDrain (d : Dev) (p : PageId) : Dev :=
  let b := p.base
  match d.offError p with
  | some e => d.reject b e
  | none =>
    if !d.bit (Hdr.EN b) then d
    else
      let d := (((d.setBit (Hdr.EN b) false).setBit (Hdr.DRAINING b) true).setBit (Hdr.BUSY b) true).setBit (Hdr.READY b) false
      let d := if d.bit (Hdr.TEST_QUEUED b) then d.testAbandon p 2 else d
      d.drainBegin p

/-- BLOCK_DISABLE (R46, R47). -/
def execBlockDisable (m : Master) (page : BitVec 8) (s : State) : Out :=
  s.on fun d => d.header m page 0x008 fun p d => d.blkDrain p

/-- The forced consequence (R47). -/
def Dev.forced (d : Dev) (p : PageId) : Dev :=
  match p with
  | .BAY n =>
    let d := d.stopRequest n (2 ^ 1)
    d.ctForce n
  | .CTC n => d.ctForce n
  | .WAV => if d.bit WAV.STAT_ARMED then d.chAbort d.wavDma 5 else d
  | .DMA => d.dmaAbortAll (fun _ _ => true) 5
  | .EXI => d.exiAbort
  | .SAR =>
    let d : Dev := { d with sar := {} }
    (d.set SAR.STAT_WAITING 0).set SAR.STAT_RUNNING 0
  | .LSW => d.lswAllOff
  | .YLR => ylPorts.foldl (fun d k => d.modYl k fun y => { y with queue := [] }) d
  | .YL k => d.modYl k fun y => { y with queue := [] }
  | .PAIR => d.pairResign 6
  | .UPD => d.updHalt
  | .CAN k => (d.modCan k fun c => { c with part := [], tx := [] }).canShow k
  | .UART k =>
    let d := d.modUart k fun u => { u with shift := none, tx := [] }
    (d.set (UART.FIFO_STAT_TX_FREE k) 32).setBit (UART.STAT_TX_IDLE k) true
  | .I2C n => d.i2cCut n
  | _ => d

/-- The forced consequence, and the block off; a bay with a session goes off when its session has ended, a test it runs is
abandoned (R527). -/
def Dev.blkForced (d : Dev) (p : PageId) : Dev :=
  let d := (d.testAbandon p 5).forced p
  match p with
  | .BAY n => if d.inSession n then (d.setBit (Hdr.DRAINING p.base) true).setBit (Hdr.BUSY p.base) true else d.blkOff p
  | _ => d.blkOff p

/-- EN = 0 with FORCE = 1 (R46, R47). -/
def Dev.blkForce (d : Dev) (p : PageId) : Dev :=
  match d.offError p with
  | some e => d.reject p.base e
  | none =>
    if !d.enabled p then d
    else ((d.setBit (Hdr.EN p.base) false).setBit (Hdr.READY p.base) false).blkForced p

/-- BLOCK_FORCE_OFF (R46, R47). -/
def execBlockForceOff (m : Master) (page : BitVec 8) (s : State) : Out :=
  s.on fun d => d.header m page 0x008 fun p d => d.blkForce p

/-- A change of DRAIN (R37). -/
def Dev.drainSet (d : Dev) (p : PageId) (on : Bool) : Dev := (d.setBit (Hdr.DRAIN p.base) on).readySet p

/-- BLOCK_DRAIN_SET (R37). -/
def execBlockDrainSet (m : Master) (page : BitVec 8) (on : Bool) (s : State) : Out :=
  s.on fun d => d.header m page 0x008 fun p d => d.drainSet p on

/-- DRAIN_COMPLETE (R46): nothing while the drain action still has work in flight. -/
def execDrainComplete (page : BitVec 8) (s : State) : Out :=
  s.on fun d => match pageOf page with
    | none => d
    | some p => if d.bit (Hdr.DRAINING p.base) && d.drained p then d.blkOff p else d

/-- DRAIN_TIMEOUT (R48). -/
def execDrainTimeout (page : BitVec 8) (s : State) : Out :=
  s.on fun d => match pageOf page with
    | none => d
    | some p =>
      if d.bit (Hdr.DRAINING p.base) then ((d.setBit (Hdr.FAULT p.base) true).raise p.base 31).blkForced p else d

/-! ### Ownership, expert area, lock (R41–R44) -/

/-- The owner of a page is fixed (R36, R44). -/
def PageId.ownerFixed (p : PageId) : Bool := p.legal || p.safety

/-- The expert area closes (R43). -/
def Dev.expClose (d : Dev) (p : PageId) : Dev := d.setBit (Hdr.EXPERT_OPEN p.base) false

/-- OWNER takes a code (R44); a change closes the expert area (R43). -/
def Dev.ownerSet (d : Dev) (p : PageId) (o : Nat) : Dev :=
  if d.get (Hdr.OWNER p.base) = o then d
  else if p.ownerFixed then d.reject p.base Err.RANGE
  else (d.set (Hdr.OWNER p.base) o).expClose p

/-- OWNER_CHANGE (R44). -/
def execOwnerChange (m : Master) (page : BitVec 8) (owner : BitVec 2) (s : State) : Out :=
  s.on fun d => d.header m page 0x008 fun p d => d.ownerSet p owner.toNat

/-- EXPCLOSE (R37, R43). -/
def execExpclose (m : Master) (page : BitVec 8) (s : State) : Out :=
  s.on fun d => d.header m page 0x008 fun p d => d.expClose p

/-- PAGE_LOCK (R37). -/
def execPageLock (m : Master) (page : BitVec 8) (s : State) : Out :=
  s.on fun d => d.header m page 0x008 fun p d => d.setBit (Hdr.LOCKED p.base) true

/-- A write of EXPKEY (R42): `key` is the unlock sequence that was open before it. -/
def Dev.expWrite (d : Dev) (p : PageId) (key : Option (Nat × Nat)) (w : Word) : Dev :=
  let mine := key.filter fun k => k.1 == p.base
  if d.chip.lifecycle == .field && !d.bit SYS.EXPERT_EN_EN then d.reject p.base Err.EXPERT_CLOSED
  else match mine with
    | none => if w = 0x00005A5A then { d with expKey := some (p.base, d.now) } else d.reject p.base Err.SEQUENCE
    | some (_, t) =>
      if w = 0x0000A5A5 ∧ d.now ≤ t + 32 then d.setBit (Hdr.EXPERT_OPEN p.base) true else d.reject p.base Err.SEQUENCE

/-- EXPKEY_WRITE (R42). -/
def execExpkeyWrite (m : Master) (page : BitVec 8) (w : Word) (s : State) : Out :=
  s.on fun d => d.header m page 0x024 fun p e => e.expWrite p d.expKey w

/-! ### BLKCTL as a whole -/

/-- Why a write of BLKCTL is rejected, if it is (R37, R39, R44, R46). -/
def Dev.blkctlError (d : Dev) (p : PageId) (w : Nat) : Option Nat :=
  if w % 2 = 1 ∧ d.bit (Hdr.DRAINING p.base) then some Err.DRAINING
  else if w / 16 % 4 ≠ d.get (Hdr.OWNER p.base) ∧ p.ownerFixed then some Err.RANGE
  else if w % 2 = 0 ∧ (p.fixed ∨ d.enabled p) then d.offError p
  else none

/-- A write of BLKCTL whose bits act together (R37). -/
def Dev.blkctlWrite (d : Dev) (p : PageId) (w : Nat) : Dev :=
  match d.blkctlError p w with
  | some e => d.reject p.base e
  | none =>
    let d := if w % 2 = 1 then d.blkOn p else if w.testBit 2 then d.blkForce p else d.blkDrain p
    let d := if d.bit (Hdr.DRAIN p.base) = w.testBit 1 then d else d.drainSet p (w.testBit 1)
    let d := d.ownerSet p (w / 16 % 4)
    let d := if w.testBit 8 then d.expClose p else d
    if w.testBit 9 then d.setBit (Hdr.LOCKED p.base) true else d

/-! ### Interrupts (R38) -/

/-- A write of IRQ_STAT: bits written 1 clear, ERR with ERRCODE. -/
def Dev.irqClear (d : Dev) (p : PageId) (w : Nat) : Dev :=
  let d := d.wrN (Hdr.irqStat p.base) (clearBits (d.rdN (Hdr.irqStat p.base)) w)
  if w.testBit 31 then d.wrN (p.base + 0x020) 0 else d

/-- IRQ_STAT_CLEAR (R38). -/
def execIrqStatClear (m : Master) (page : BitVec 8) (w : Word) (s : State) : Out :=
  s.on fun d => d.header m page 0x018 fun p d => d.irqClear p w.toNat

/-- A write of IRQ_SET: bits written 1 set in IRQ_STAT, whatever IRQ_EN holds. -/
def Dev.irqSet (d : Dev) (p : PageId) (w : Word) : Dev :=
  d.wr (Hdr.irqStat p.base) (d.rd (Hdr.irqStat p.base) ||| w)

/-- IRQ_SET_WRITE (R38). -/
def execIrqSetWrite (m : Master) (page : BitVec 8) (w : Word) (s : State) : Out :=
  s.on fun d => d.header m page 0x01C fun p d => d.irqSet p w

/-! ### Loopbacks (R521, R522) -/

/-- Supported depths (R521). -/
def loopDepths : PageId → List Nat
  | .PLC _ | .YL _ => [1, 2, 3, 4, 5]
  | .T1S _ | .NFR => [1, 2, 3, 4]
  | .EXI | .YLR | .HIF => [1]
  | .CAN _ => [1, 2, 4, 5]
  | .LSW => [1, 2]
  | .UART _ | .ETH => [1, 2, 4]
  | .I2C _ | .OSPI => [1, 4]
  | .SAR => [3]
  | _ => []

/-- The resource of a page is idle (R524); a shed one is busy (R527). -/
def Dev.restIdle (d : Dev) (p : PageId) : Bool :=
  match p with
  | .RCD n => d.ctState n == Ct.OPEN
  | .SAF => d.allIdle
  | .NFR => !d.bit NFR.STAT_FIELD_ON && d.nfr.job.isNone && !d.nfrShed
  | .PLC n => d.bayIdle n && !d.bit (PLC.STAT_LINK_UP n) && !d.bit (PLC.STAT_SHED n)
  | .T1S n => d.bayIdle n && !d.bit (T1S.STAT_PLCA_STATUS n)
  | _ => !d.blkBusy p

/-- The bay of a vehicle-link page is not idle (R177). -/
def Dev.linkBusy (d : Dev) (p : PageId) : Bool :=
  match p with
  | .PLC n => !d.bayIdle n
  | .T1S n => !d.bayIdle n
  | _ => false

/-- Why a write of LOOPCTL is rejected, if it is (R39, R521, R522, R177). -/
def Dev.loopError (d : Dev) (p : PageId) (w : Nat) : Option Nat :=
  let depth := w % 8
  let on := w.testBit 8
  let old := d.get (Hdr.LOOP_DEPTH p.base)
  if !(depth == 0 && !on) && !(loopDepths p).contains depth then some Err.RANGE
  else if depth ≠ old ∧ d.blkBusy p then some Err.BUSY
  else if on && (!(d.bit (Hdr.LOOP_ENABLE p.base) && depth == old) && !d.restIdle p || d.linkBusy p) then some Err.BUSY
  else none

/-- A write of LOOPCTL. -/
def Dev.loopWrite (d : Dev) (m : Master) (p : PageId) (w : Nat) : Dev :=
  match d.loopError p w with
  | some e => d.reject p.base e
  | none =>
    let on := w.testBit 8
    let d := (d.set (Hdr.LOOP_DEPTH p.base) w).setBit (Hdr.LOOP_ENABLE p.base) on
    let d : Dev := { d with loopHost := if on && m == .hif then p.base :: d.loopHost else d.loopHost.filter (· != p.base) }
    d.loopsShow

/-- LOOPBACK_SET (R177, R413, R443, R521, R522). -/
def execLoopbackSet (m : Master) (page : BitVec 8) (w : Word) (s : State) : Out :=
  s.on fun d => d.header m page 0x028 fun p d => d.loopWrite m p w.toNat

/-! ### Self-tests (R523–R527) -/

/-- The tests a page lists (R524). -/
def testIds : PageId → List Nat
  | .RCD _ | .NFR | .PLC _ | .T1S _ => [0x01]
  | .SAF => [0x01, 0x02, 0x40]
  | .SYS => [0x40]
  | .MPL | .LSW | .VLT => [0x80]
  | _ => []

/-- The resource of a test is idle: those from 0x40 run at once (R523, R524). -/
def Dev.testIdle (d : Dev) (p : PageId) (id : Nat) : Bool :=
  decide (0x40 ≤ id) || (d.restIdle p && !(p == .SAF && id == 2 && d.rdN SAF.TRIP_STAT % 4 != 0))

/-- A test starts: RUNNING; that of RCDn is its test-winding self-test, which a running one answers (R211). -/
def Dev.testBegin (d : Dev) (p : PageId) : Dev :=
  match p with
  | .RCD n =>
    let d := d.rcdAsk n fun r => { r with ctl := true }
    if d.bit (RCD.STAT_TEST_RUN n) then d.testRun p else d.rcdStart n
  | _ => d.testRun p

/-- Why a write of TESTCTL is rejected, if it is (R523–R525). -/
def Dev.testError (d : Dev) (p : PageId) (w : Nat) : Option Nat :=
  let id := w % 256
  let now := w.testBit 8
  let start := w.testBit 9
  if d.testing p && (start || id != d.get (Hdr.TEST_ID p.base) || now != d.bit (Hdr.TEST_NOW p.base)) then some Err.BUSY
  else if (id ≠ 0 ∨ start) ∧ !(testIds p).contains id then some Err.RANGE
  else if !start then none
  else if 0x80 ≤ id ∧ !d.openPart then some Err.SEQUENCE
  else if d.draining p then some Err.DRAINING
  else if now && !d.testIdle p id then some Err.BUSY
  else none

/-- A write of TESTCTL (R525). -/
def Dev.testWrite (d : Dev) (p : PageId) (w : Nat) : Dev :=
  match d.testError p w with
  | some e => d.reject p.base e
  | none =>
    let d := (d.set (Hdr.TEST_ID p.base) w).setBit (Hdr.TEST_NOW p.base) (w.testBit 8)
    if !w.testBit 9 then d
    else if d.testIdle p (w % 256) then d.testBegin p
    else
      match p with
      | .RCD n => (d.rcdAsk n fun r => { r with ctl := true }).testQueue p
      | _ => d.testQueue p

/-- TEST_QUEUED_START (R525, R526). -/
def execTestQueuedStart (page : BitVec 8) (s : State) : Out :=
  s.on fun d => match pageOf page with
    | none => d
    | some p => if d.bit (Hdr.TEST_QUEUED p.base) && d.testIdle p (d.get (Hdr.TEST_ID p.base)) then d.testBegin p else d

/-- The item of the report card that a test serves (R459). -/
def testCard (p : PageId) (id : Nat) : Option Nat :=
  match p with
  | .SAF => if id = 1 then some 7 else if id = 2 then some 8 else none
  | .PLC _ => some 11
  | _ => none

/-- A running test ends after `ms` (R525). That of RCDn ends with its self-test, a failure at a step that is a free value. -/
def Dev.testDone (d : Dev) (p : PageId) (pass : Bool) (ms : Nat) : Dev :=
  if !d.bit (Hdr.TEST_RUNNING p.base) then d
  else match p with
    | .RCD n =>
      if pass then d.rcdEnd n 0 ms
      else
        let (k, d) := d.free
        d.rcdEnd n (1 + k % 5) ms
    | _ =>
      let res := if pass then 1 else 2
      let id := d.get (Hdr.TEST_ID p.base)
      let d := d.testOver p res 0 ms
      match testCard p id with
      | some k => d.card k res
      | none => d

/-- TEST_COMPLETE (R525, R529, R530). -/
def execTestComplete (page : BitVec 8) (pass : Bool) (ms : BitVec 16) (s : State) : Out :=
  s.on fun d => match pageOf page with
    | none => d
    | some p => d.testDone p pass ms.toNat

/-- TEST_QUEUE_TIMEOUT (R527): a test has been queued for more than QCFG.TMO hours. -/
def execTestQueueTimeout (page : BitVec 8) (s : State) : Out :=
  s.on fun d => match pageOf page with
    | none => d
    | some p =>
      let old := d.testAge.any fun x => x.1 == p.base && decide (3600 * d.get TST.QCFG_TMO ≤ x.2)
      if d.bit (Hdr.TEST_QUEUED p.base) && old then d.testAbandon p 1 else d

end Sys2Proof.Machine
end

