-- ==== Sys2Proof/Machine/Tests.lean ====
section
/-!
DEFINITION. The page tests (R245, R524), production test messages (R528, R529).
-/
namespace Sys2Proof.Machine

/-- The running test of a page ends, if it is the one named. The spec gives only the bound of its duration in ms (R524): a free
value. -/
def Dev.testEnds (d : Dev) (p : PageId) (id : Nat) (pass : Bool) (bound : Nat) : Dev :=
  if d.bit (Hdr.TEST_RUNNING p.base) && d.get (Hdr.TEST_ID p.base) == id then
    let (ms, d) := d.free
    d.testDone p pass (ms % (bound + 1))
  else d

/-- GATE_TEST (R245). -/
def execGateTest (pass : Bool) (s : State) : Out := s.on fun d => d.testEnds .SAF 0x01 pass 1

/-- TRIP_OUTPUT_TEST (R245). -/
def execTripOutputTest (pass : Bool) (s : State) : Out := s.on fun d => d.testEnds .SAF 0x02 pass 1

/-- CFG_CRC_TEST (R524). -/
def execCfgCrcTest (pass : Bool) (s : State) : Out := s.on fun d => d.testEnds .SAF 0x40 pass 0

/-- NFR_TAG_TEST (R372). -/
def execNfrTagTest (pass : Bool) (s : State) : Out := s.on fun d => d.testEnds .NFR 0x01 pass 30

/-- LSW_LIMIT_TEST (R524). -/
def execLswLimitTest (pass : Bool) (s : State) : Out := s.on fun d => d.testEnds .LSW 0x80 pass 2000

/-- FRAME_LOOP_TEST of PLCn or T1Sn (R524). -/
def execFrameLoopTest (n : Bay) (t1s pass : Bool) (s : State) : Out :=
  s.on fun d => d.testEnds (if t1s then .T1S n else .PLC n) 0x01 pass 5

/-- SCRUB_TEST (R524): a full pass, counted with the background ones. -/
def execScrubTest (pass : Bool) (s : State) : Out :=
  s.on fun d =>
    let run := d.bit (Hdr.TEST_RUNNING SYS.page)
    let d := d.testEnds .SYS 0x40 pass 40
    if run then (d.set TST.SCRUB_STAT_AGE 0).bump TST.SCRUB_STAT_PASSES else d

/-- LINEARITY_SWEEP (R524). -/
def execLinearitySweep (pass : Bool) (s : State) : Out := s.on fun d => d.testEnds .MPL 0x80 pass 4000

/-- TRNG_CHARACTERISATION (R524). -/
def execTrngCharacterisation (pass : Bool) (s : State) : Out := s.on fun d => d.testEnds .VLT 0x80 pass 10000

/-! ### The test family (R528, R529) -/

/-- A test message may be served (R477, R529): in MANUFACTURE with any role, in RETURNED in an open VENDOR session. -/
def Dev.testServed (d : Dev) (q : Req) : Option Nat :=
  match d.chip.lifecycle with
  | .manufacture => none
  | .returned => if q.role == 7 && d.roleOpen q then none else some Err.ROLE_DENIED
  | _ => some Err.RANGE

/-- The page a test message names by its offset. -/
def pageNamed (page : Word) : Option PageId := if page.toNat % 0x1000 = 0 then pageAt page.toNat else none

/-- Serve a test message on a page: `err` why the header write is rejected, `k` the write. The answer's STATUS is its ERRCODE. -/
def Dev.testMsg (d : Dev) (q : Req) (typ : Nat) (page : Word) (err : Dev → PageId → Option Nat) (k : Dev → PageId → Dev) : Dev :=
  match d.testServed q, pageNamed page with
  | some e, _ => d.ledAnswer q typ e
  | none, none => d.ledAnswer q typ Err.RANGE
  | none, some p =>
    let e := if d.present p then (err d p).getD 0 else Err.NOT_FUSED
    let d := if d.present p then k d p else d.reject p.base Err.NOT_FUSED
    d.ledAnswer q typ e

/-- TEST_RUN (R529): a write of TESTCTL with START. -/
def execTestRun (q : Req) (page : Word) (id : BitVec 8) (now : Bool) (s : State) : Out :=
  s.on fun d =>
    let w := id.toNat + (if now then 256 else 0) + 512
    d.testMsg q 0x0901 page (fun d p => d.testError p w) (fun d p => d.testWrite p w)

/-- LOOP_SET (R529): a write of LOOPCTL. -/
def execLoopSet (q : Req) (page : Word) (depth : BitVec 8) (en : Bool) (s : State) : Out :=
  s.on fun d =>
    if 8 ≤ depth.toNat then
      d.ledAnswer q 0x0903 ((d.testServed q).getD Err.RANGE)
    else
      let w := depth.toNat + (if en then 256 else 0)
      d.testMsg q 0x0903 page (fun d p => d.loopError p w) (fun d p => d.loopWrite .dbg p w)

end Sys2Proof.Machine
end

