-- ==== Sys2Proof/Machine/Dma.lean ====
section
/-!
DEFINITION. DMA channels from outside (R418, R421, R424): start, abort, pacing requests.
-/
namespace Sys2Proof.Machine

/-- The bits of CHn_CTL that hold values: PRIO, IE_DONE, IE_DESC, IE_ABORT. -/
def chCtlBits : Word := 0x7003

/-- The last write of the channel's chain has left: nothing remains but DONE (R417, R420). -/
def Dev.chLast (d : Dev) (c : Fin 16) : Bool :=
  let x := d.dma.ch[c]
  d.chActive c && !x.circ && d.get (DMA.CH_REM_REM c) == 0 && x.next == 0 && !x.ctl.testBit 16

/-- A write of CHn_CTL (R422, R424): ABORT beats START; beside the last write of a chain it is ignored. -/
def Dev.chCtl (d : Dev) (c : Fin 16) (w : Word) : Dev :=
  let start := w.toNat.testBit 8 && !w.toNat.testBit 9
  if d.bit (DMA.CH_STAT_CLAIMED c) then d.reject DMA.page Err.BUSY
  else match (if start then d.startError c else none) with
    | some e => d.reject DMA.page e
    | none =>
      let d := d.wr (DMA.CH_CTL c) (w &&& chCtlBits)
      if w.toNat.testBit 9 then (if d.chLast c then d else d.chAbort c 1) else if start then d.chStart c else d

/-- DMA_START (R415, R424): a write of CHn_CTL with START. -/
def execDmaStart (m : Master) (c : Fin 16) (w : Word) (s : State) : Out :=
  s.on fun d => d.guard m .DMA (0x104 + 0x20 * c.val) fun d => d.chCtl c (w ||| 0x100)

/-- DMA_ABORT (R421): a write of CHn_CTL.ABORT that leaves the other fields. -/
def execDmaAbort (m : Master) (c : Fin 16) (s : State) : Out :=
  s.on fun d => d.guard m .DMA (0x104 + 0x20 * c.val) fun d => d.chCtl c ((d.rd (DMA.CH_CTL c) &&& chCtlBits) ||| 0x200)

/-- PACING_REQUEST (R418): the block that names the channel lets one burst go; a producing block delivers its data. Those of
WAV are samples, taken while its capture runs (R97–R99). -/
def execPacingRequest (c : Fin 16) (data : List Byte) (s : State) : Out :=
  s.on fun d => match d.pacers c with
    | [prod] =>
      let wav := d.enabled .WAV && d.get WAV.CFG_DMA_CH == c.val
      if wav then d.wavData data else d.pace c (if prod then data else [])
    | _ => d

end Sys2Proof.Machine
end

