-- ==== Sys2Proof/Machine/Update.lean ====
section
/-!
DEFINITION. Firmware and table update (ch. 22): R485–R500, and what recovery serves of it (R506).
-/
namespace Sys2Proof.Machine

/-- Change the update engine. -/
def Dev.modUpd (d : Dev) (f : UpdInt → UpdInt) : Dev := { d with upd := f d.upd }

/-- Code slot of a DOMAIN code (R486): APP, SAF, VLT, PLCU, TBL. -/
def domSlot (dom : Nat) : Option (Fin 5) :=
  match dom with
  | 0 => some 0 | 1 => some 1 | 3 => some 2 | 4 => some 3 | 5 => some 4
  | _ => none

/-- Size of a code slot (R24). -/
def slotSize (k : Fin 5) : Nat :=
  match k with | 0 => 0x400000 | 1 => 0x80000 | 2 => 0x40000 | 3 => 0x40000 | 4 => 0x100000

/-- Address of a code slot in a bank (R24). -/
def slotAddr (k : Fin 5) (bank : Bool) : Nat :=
  (if bank then 0x10600000 else 0x10000000) +
    (match k with | 0 => 0 | 1 => 0x400000 | 2 => 0x480000 | 3 => 0x4C0000 | 4 => 0x500000)

/-- Notice UPD_EVENT (R485): 0 swapped, 1 confirmed, 2 reverted, 3 bundle done, 4 failed. -/
def Dev.updEvent (d : Dev) (dom event cause : Nat) : Dev := d.notice 0x0407 [d.get UPD.STAT_STEP, dom, event, cause]

/-- A request of the update family may be served (R485, R506): OPERATOR, or VENDOR in recovery; a block that takes work. -/
def Dev.updError (d : Dev) (q : Req) : Option Nat :=
  if !((q.role == 1 || (q.role == 7 && d.bit SYS.STAT_RECOVERY)) && d.roleOpen q) then some Err.ROLE_DENIED
  else d.workError .UPD

/-! ### Headers (R486, R487) -/

/-- A little-endian field of a header. -/
def hdrLe (h : List Byte) (o n : Nat) : Nat := ofLe ((h.drop o).take n)

/-- The image a header describes. -/
def hdrImg (h : List Byte) : Img where
  version := hdrLe h 0x08 4
  rollback := hdrLe h 0x0C 2
  ifver := hdrLe h 0x0E 2
  ranges := (List.range 5).map fun i => (hdrLe h (0x10 + 4 * i) 2, hdrLe h (0x12 + 4 * i) 2)
  ssl := hdrLe h 0x24 4
  size := hdrLe h 0x2C 4
  hash := (h.drop 0x90).take 48

/-- Header format (R486, R487). -/
def hdrOk (h : List Byte) : Bool :=
  h.length == 208 && hdrLe h 0 4 == 0x31555847 && hdrLe h 4 2 == 1 && decide (hdrLe h 7 1 < 4) && hdrLe h 0xC0 4 != 0 &&
  decide (1 ≤ hdrLe h 0xC5 1 ∧ hdrLe h 0xC5 1 ≤ 5 ∧ hdrLe h 0xC4 1 < hdrLe h 0xC5 1) && hdrLe h 0xCA 6 == 0 &&
  match domSlot (hdrLe h 6 1) with
  | some k => decide (hdrLe h 0x2C 4 ≤ slotSize k)
  | none => false

/-- Where staging begins: the OSPI window or SRAM (R488). -/
def Dev.stgBase (d : Dev) : Nat := if d.bit UPD.CFG_STG_OSPI then ospiBase else d.rdN UPD.STG_BASE

/-- Bytes of staging space (R488): at most 2 MB of SRAM, 64 MB of the window. -/
def Dev.stgRoom (d : Dev) : Nat := min (d.rdN UPD.STG_SIZE) (if d.bit UPD.CFG_STG_OSPI then 0x4000000 else 0x200000)

/-- A bundle is being applied (R493): steps wait, one is in trial, or a counter has still to be raised. -/
def Dev.applying (d : Dev) : Bool := !d.upd.steps.isEmpty || d.upd.trial.isSome || d.upd.raise.isSome

/-- The images of a failed bundle are given up as another begins. -/
def Dev.failedDrop (d : Dev) : Dev := if d.bundleOpen then d else d.modUpd fun u => { u with imgs := [], used := 0, ckpt := none }

/-- The answer and cause of a header that fails the checks of R487, in their order. -/
def Dev.beginError (d : Dev) (h : List Byte) (sigV : Bool) (sigO : Option Bool) : Option (Nat × Option Nat) :=
  let dom := hdrLe h 6 1
  let img := hdrImg h
  if h.length = 208 ∧ dom = 2 then some (Err.LEGAL_DENIED, some 13)
  else if !hdrOk h then some (Err.RANGE, some 6)
  else if d.bundleOpen && (hdrLe h 0xC0 4 != d.rdN UPD.BUNDLE || d.applying) then some (Err.BUSY, none)
  else if !d.bit VLT.STAT_READY && !d.bit SYS.STAT_RECOVERY then some (Err.BUSY, none)
  else if !sigV || sigO == some false || ((d.bit UPD.CFG_CSIG_REQ || hdrLe h 0xC6 4 != 0) && sigO.isNone) then
    some (Err.RANGE, some 2)
  else match domSlot dom with
    | none => some (Err.RANGE, some 6)
    | some k =>
      if img.rollback < d.get (VLT.ARB_CNT k.val) then some (Err.SEQUENCE, some 3)
      else if !(hdrLe h 7 1).testBit 0 && (h.drop 0x30).take 48 != d.imageHash k then some (Err.SEQUENCE, some 1)
      else if (k = 4 ∧ !d.upd.tblOld.isEmpty) ∨ d.upd.imgs.any (fun i => i.dom == dom) then some (Err.BUSY, none)
      else if d.stgRoom < d.upd.used + hdrLe h 0x28 4 then some (Err.RANGE, some 12)
      else none

/-- UPD_BEGIN (R487), which needs the vault (R499): the header, whether SIG_V verifies, SIG_O if present and whether it verifies with the slot it names. Recovery
takes only a FULL image of APP (R505, R506). -/
def execUpdBegin (q : Req) (hdr : List Byte) (sigV : Bool) (sigO : Option Bool) (s : State) : Out :=
  s.on fun d =>
    match d.updError q with
    | some e => d.ledAnswer q 0x0401 e
    | none =>
      let d := d.failedDrop
      match d.beginError hdr sigV sigO with
      | some (e, c) =>
        let d := match c with | some c => d.set UPD.STAT_CAUSE c | none => d
        d.ledAnswer q 0x0401 e
      | none =>
        let full := (hdrLe hdr 7 1).testBit 0
        if d.bit SYS.STAT_RECOVERY && !(full && hdrLe hdr 6 1 == 0) then d.ledAnswer q 0x0401 Err.RANGE
        else
          let size := hdrLe hdr 0x28 4
          let index := hdrLe hdr 0xC4 1
          let i : UpdImg :=
            { dom := hdrLe hdr 6 1, full := full, live := (hdrLe hdr 7 1).testBit 1, img := hdrImg hdr, size := size,
              base := (hdr.drop 0x30).take 48, delta := (hdr.drop 0x60).take 48, index := index, count := hdrLe hdr 0xC5 1,
              addr := d.stgBase + d.upd.used, missing := List.range (blocksOf size) }
          let d := d.modUpd fun u => { u with imgs := u.imgs ++ [i], used := u.used + 4096 * blocksOf size }
          let d := (d.set UPD.STAT_STATE 1).wrN UPD.BUNDLE (hdrLe hdr 0xC0 4)
          d.updShow.ledAnswer q 0x0401 Err.NONE [index]

/-! ### Blocks (R488) -/

/-- An image of the open bundle by its index. -/
def Dev.updImg (d : Dev) (index : Nat) : Option UpdImg := d.upd.imgs.find? fun i => i.index == index

/-- Change an image of the open bundle. -/
def Dev.modImg (d : Dev) (index : Nat) (f : UpdImg → UpdImg) : Dev :=
  d.modUpd fun u => { u with imgs := u.imgs.map fun i => if i.index == index then f i else i }

/-- Staging lies on OSPI flash (R549). -/
def Dev.stgFlash (d : Dev) : Bool := d.bit UPD.CFG_STG_OSPI && !d.bit OSPI.CFG_DEV

/-- Erase the flash sector an address lies in, unless a block of the bundle in it has come already (R549). -/
def Dev.sectorErase (d : Dev) (a : Nat) : Dev :=
  let n := 2 ^ d.get OSPI.PROG_ERASE
  let got := d.upd.imgs.any fun i => (List.range (blocksOf i.size)).any fun k =>
    !i.missing.contains k && (i.addr + 4096 * k) / n == a / n
  if got then d else d.wrBytes (a / n * n) (List.replicate n 0xFF)

/-- UPD_BLOCK (R488). A block whose staging the filter closes to the engine is answered RANGE (R19, assumption 161). On flash the sector is erased before its first block, and a block that is there is not written again
(R549). -/
def execUpdBlock (q : Req) (img : BitVec 8) (ofs crc : Word) (data : List Byte) (s : State) : Out :=
  s.on fun d =>
    match d.updError q, d.updImg img.toNat with
    | some e, _ => d.ledAnswer q 0x0402 e
    | none, none => d.ledAnswer q 0x0402 Err.RANGE
    | none, some i =>
      let o := ofs.toNat
      if i.ended || !d.bundleOpen then d.ledAnswer q 0x0402 Err.SEQUENCE
      else if o % 4096 ≠ 0 ∨ i.size ≤ o ∨ data.length ≠ min 4096 (i.size - o) ∨ crc32 data ≠ crc.toNat then
        d.ledAnswer q 0x0402 Err.RANGE
      else if !d.reaches .upd (i.addr + o) data.length true then
        (d.turnedAway .upd (i.addr + o) true).ledAnswer q 0x0402 Err.RANGE
      else if d.stgFlash && !i.missing.contains (o / 4096) then d.ledAnswer q 0x0402 Err.NONE
      else
        let d := if d.stgFlash then d.sectorErase (i.addr + o) else d
        let d := (d.wrBytes (i.addr + o) data).modImg i.index fun x => { x with missing := x.missing.filter (· != o / 4096) }
        d.updShow.ledAnswer q 0x0402 Err.NONE

/-- Bits as bytes, the first bit lowest. -/
def packBits : Nat → List Bool → List Nat
  | 0, _ => []
  | n + 1, l => ((l.take 8).zipIdx.map fun x => if x.1 then 2 ^ x.2 else 0).sum :: packBits n (l.drop 8)

/-- UPD_STATUS (R485): the blocks missing from a first index on, in up to 256 bytes, and STAT. -/
def execUpdStatus (q : Req) (img : BitVec 8) (first : BitVec 16) (s : State) : Out :=
  s.on fun d =>
    match d.updImg img.toNat with
    | none => d.ledAnswer q 0x0403 Err.RANGE
    | some i =>
      let n := min 2048 (blocksOf i.size - first.toNat)
      let bits := (List.range n).map fun j => i.missing.contains (first.toNat + j)
      d.ledAnswer q 0x0403 Err.NONE ([first.toNat] ++ packBits ((n + 7) / 8) bits ++ [d.rdN UPD.STAT])

/-! ### Reconstruction (R489–R491) -/

/-- Run a GXD stream (R489) over the running slot of `size` bytes; the fuel bounds the operations, `tsize` the output. What it has
put out, and whether the stream is well formed. -/
def gxdRun (old : Nat → Nat → List Byte) (size tsize : Nat) : Nat → List Byte → List Byte → List Byte × Bool
  | 0, _, out => (out, false)
  | fuel + 1, l, out =>
    match l with
    | [] => (out, false)
    | op :: r =>
      if op = 0 then (out, r.isEmpty && out.length == tsize)
      else if op = 1 then
        let o := ofLe (r.take 4)
        let n := ofLe ((r.drop 4).take 4)
        if r.length < 8 ∨ size < o + n ∨ tsize < out.length + n then (out, false)
        else gxdRun old size tsize fuel (r.drop 8) (out ++ old o n)
      else if op = 2 then
        let n := ofLe (r.take 4)
        if r.length < 4 + n ∨ tsize < out.length + n then (out, false)
        else gxdRun old size tsize fuel (r.drop (4 + n)) (out ++ (r.drop 4).take n)
      else (out, false)

/-- The image that a staged stream gives, and whether its format holds (R489). -/
def Dev.rebuild (d : Dev) (k : Fin 5) (i : UpdImg) : List Byte × Bool :=
  let l := (d.masterRead .upd i.addr i.size).1
  if i.full then (if i.size = i.img.size then (l, true) else ([], false))
  else if i.size < 12 ∨ ofLe (l.take 4) ≠ 0x31445847 ∨ hdrLe l 4 2 ≠ 1 ∨ hdrLe l 6 1 ≠ i.dom ∨ hdrLe l 7 1 ≠ 0 ∨
      hdrLe l 8 4 ≠ i.img.size then ([], false)
  else
    let run := slotAddr k (d.flag SYS.BANKSEL_SEL k.val)
    gxdRun (fun o n => d.rdBytes (run + o) n) (slotSize k) i.img.size (i.size + 1) (l.drop 12) []

/-- UPD_END (R490 steps 1 and 2): reconstruction starts, from the last checkpoint where there is one (R491); after a wrong
delta hash the image's staging on flash is erased (R549). -/
def execUpdEnd (q : Req) (img : BitVec 8) (s : State) : Out :=
  s.on fun d =>
    match d.updError q, d.updImg img.toNat with
    | some e, _ => d.ledAnswer q 0x0404 e
    | none, none => d.ledAnswer q 0x0404 Err.RANGE
    | none, some i =>
      if d.upd.recon.isSome || d.bit PWR.STAT_HOLDUP then d.ledAnswer q 0x0404 Err.BUSY
      else if i.ready || !d.bundleOpen then d.ledAnswer q 0x0404 Err.SEQUENCE
      else if !i.missing.isEmpty then (d.set UPD.STAT_CAUSE 4).ledAnswer q 0x0404 Err.SEQUENCE
      else if sha384 (d.masterRead .upd i.addr i.size).1 ≠ i.delta then
        let d := (d.masterRead .upd i.addr i.size).2
        let d := if d.stgFlash then d.wrBytes i.addr (List.replicate (4096 * blocksOf i.size) 0xFF) else d
        let d := (d.set UPD.STAT_CAUSE 5).modImg i.index fun x => { x with missing := List.range (blocksOf x.size), ended := false }
        d.updShow.ledAnswer q 0x0404 Err.RANGE
      else if i.dom = 5 ∧ !d.upd.tblOld.isEmpty then d.ledAnswer q 0x0404 Err.BUSY
      else
        let b := d.rdN UPD.BUNDLE
        let pos := match d.upd.ckpt with
          | some (cb, ci, p) => if cb = b ∧ ci = i.index then p else 0
          | none => 0
        let d := (d.modImg i.index fun x => { x with ended := true }).modUpd fun u =>
          { u with recon := some (i.index, q), ckpt := some (b, i.index, pos) }
        (d.set UPD.STAT_STATE 2).wrN UPD.PROG pos

/-- A failed reconstruction (R490): blocks are accepted again. -/
def Dev.reconFail (d : Dev) (q : Req) (index cause : Nat) : Dev :=
  let d := (d.modImg index fun x => { x with ended := false }).modUpd fun u => { u with recon := none, ckpt := none }
  ((d.set UPD.STAT_STATE 1).set UPD.STAT_CAUSE cause).ledAnswer q 0x0404 Err.RANGE

/-- RECONSTRUCTION_DONE (R490 steps 3 and 4): not while paused or in hold-up (R499). -/
def execReconstructionDone (s : State) : Out :=
  s.on fun d =>
    match d.upd.recon with
    | none => d
    | some (index, q) =>
      if d.bit UPD.STAT_PAUSED || d.bit PWR.STAT_HOLDUP then d
      else match d.updImg index with
        | none => d.modUpd fun u => { u with recon := none }
        | some i => match domSlot i.dom with
          | none => d.reconFail q index 6
          | some k =>
              let (out, ok) := d.rebuild k i
              let a := slotAddr k (!d.flag SYS.BANKSEL_SEL k.val)
              let d := ((if ok then d.blankRange a (slotSize k) else d).wrBytes a out).wrN UPD.PROG out.length
              if !ok then
                (if out.isEmpty then d else d.modUpd fun u => { u with other := u.other.set k none }).reconFail q index 6
              else if sha384 out ≠ i.img.hash then
                (d.modUpd fun u => { u with other := u.other.set k none }).reconFail q index 7
              else
                let d := (d.modImg index fun x => { x with ready := true }).modUpd fun u =>
                  { u with recon := none, ckpt := none, other := u.other.set k (some i.img), reverted := u.reverted.set k false }
                let all := d.upd.imgs.length == i.count && d.upd.imgs.all fun x => x.ready
                let d := d.set UPD.STAT_STATE (if all then 3 else 1)
                (d.raise UPD.page UPD.ev_READY).ledAnswer q 0x0404 Err.NONE

/-! ### Applying (R492–R499) -/

/-- The order in which slots are switched (R492): VLT, SAF, APP, PLCU, TBL. -/
def applyOrder : List (Fin 5) := [2, 1, 0, 3, 4]

/-- A running set is permitted (R492). -/
def setPermitted (v : Vector Img 5) : Bool :=
  (List.finRange 5).all fun x => (List.finRange 5).all fun y =>
    x == y || (let r := (v[x].ranges[y.val]?).getD (0, 0); decide (r.1 ≤ v[y].ifver ∧ v[y].ifver ≤ r.2))

/-- Every set a bundle passes through is permitted (R492). -/
def passesPermitted (new : Fin 5 → Option Img) : List (Fin 5) → Vector Img 5 → Bool
  | [], _ => true
  | k :: l, v => match new k with
    | none => passesPermitted new l v
    | some i => setPermitted (v.set k i) && passesPermitted new l (v.set k i)

/-- The image of the bundle for a slot. -/
def Dev.bundleImg (d : Dev) (k : Fin 5) : Option UpdImg := d.upd.imgs.find? fun i => domSlot i.dom == some k

/-- An APP image that may switch with sessions running (R494), the bays' safety nets apart. -/
def Dev.liveCapable (d : Dev) (i : UpdImg) : Bool := i.live && i.img.ssl == d.upd.run[0].ssl

/-- Why a bundle is not applied, if it is not: answer and cause (R492, R494, R498). -/
def Dev.applyError (d : Dev) (bundle : Nat) : Option (Nat × Option Nat) :=
  if d.upd.imgs.isEmpty ∨ bundle ≠ d.rdN UPD.BUNDLE ∨ d.get UPD.STAT_STATE ≠ 3 then some (Err.SEQUENCE, none)
  else if d.present .PAIR && d.pairState == Pr.ACTIVE && d.bit PAIR.STAT_ELIGIBLE && !d.bit UPD.CFG_ACTIVE_OK then
    some (Err.SEQUENCE, none)
  else if (d.bundleImg 0).any d.liveCapable && decide (d.get SAF.SNET_TIME_TIME ≤ d.get UPD.CFG_CONFIRM_TMO) then
    some (Err.RANGE, none)
  else if !passesPermitted (fun k => (d.bundleImg k).map fun i => i.img) applyOrder d.upd.run then some (Err.SEQUENCE, some 8)
  else none

/-- A slot's bank bit flips (R25, R493): the other image runs. -/
def Dev.bankFlip (d : Dev) (k : Fin 5) : Dev :=
  let d := d.setFlag SYS.BANKSEL_SEL k.val (!d.flag SYS.BANKSEL_SEL k.val)
  match d.upd.other[k] with
  | some i => d.modUpd fun u => { u with run := u.run.set k i, other := u.other.set k (some u.run[k]) }
  | none => d

/-- The step in trial begins (R493, R495). -/
def Dev.trialBegin (d : Dev) (k : Fin 5) : Dev :=
  let d := d.modUpd fun u => { u with trial := some k.val, steps := u.steps.drop 1 }
  (((d.set UPD.STAT_STATE 5).set UPD.STAT_DOMAIN (slotDom k.val)).setBit UPD.STAT_WAIT_IDLE false).set UPD.TRIAL_REM_MS
    (1000 * d.get UPD.CFG_CONFIRM_TMO)

/-- UPD_APPLY (R492). In recovery a chip reset switches the APP bank (R506). -/
def execUpdApply (q : Req) (bundle : Word) (s : State) : Out :=
  s.on fun d =>
    match d.updError q with
    | some e => d.ledAnswer q 0x0405 e
    | none => match d.applyError bundle.toNat with
      | some (e, c) =>
        let d := match c with | some c => d.set UPD.STAT_CAUSE c | none => d
        d.ledAnswer q 0x0405 e
      | none =>
        let d := d.ledAnswer q 0x0405 Err.NONE
        let steps := (applyOrder.filter fun k => (d.bundleImg k).isSome).map fun k => k.val
        if d.bit SYS.STAT_RECOVERY && (d.bundleImg 0).isSome then
          let d := ((d.bankFlip 0).modUpd fun u => { u with imgs := [], steps := [], used := 0 }).chipReset 4 d.chip.pairRole
            d.chip.testMode
          d.trialBegin 0
        else
          let d := d.modUpd fun u => { u with steps := steps }
          (d.set UPD.STAT_STATE 4).set UPD.STAT_STEP 0

/-- The bundle is dropped: staging freed. -/
def Dev.bundleDrop (d : Dev) : Dev :=
  let d := d.modUpd fun u => { u with imgs := [], used := 0, steps := [], recon := none, ckpt := none }
  ((d.wrN UPD.BUNDLE 0).setBit UPD.STAT_WAIT_IDLE false).updShow

/-- UPD_CANCEL (R499). -/
def execUpdCancel (q : Req) (bundle : Word) (s : State) : Out :=
  s.on fun d =>
    match d.updError q with
    | some e => d.ledAnswer q 0x0406 e
    | none =>
      if d.upd.imgs.isEmpty ∨ bundle.toNat ≠ d.rdN UPD.BUNDLE ∨ d.upd.trial.isSome then d.ledAnswer q 0x0406 Err.SEQUENCE
      else
        let d := d.updHalt.bundleDrop
        ((d.set UPD.STAT_STATE 0).set UPD.STAT_CAUSE 11).ledAnswer q 0x0406 Err.NONE

/-- Every bay is idle. -/
def Dev.baysIdle (d : Dev) : Bool := d.allIdle

/-- The safe point of a slot (R493, R494, R498): the standby waits for no bay. -/
def Dev.safePoint (d : Dev) (k : Fin 5) : Bool :=
  match k with
  | 2 => d.get VLT.STAT_QUEUE == 0
  | 1 => d.isStandby || (d.baysIdle && allBays.all fun n => d.ctState n == Ct.OPEN)
  | 0 =>
    let live := (d.bundleImg 0).any d.liveCapable && allBays.all fun n => !(d.inSession n && d.bit (SAF.SNET_STAT_USED n.val))
    d.isStandby || live || d.baysIdle
  | _ => true

/-- What a switch of a slot's bank does beyond the bank (R493). -/
def Dev.switched (d : Dev) (k : Fin 5) : Dev :=
  match k with
  | 2 => d.domReset .vlt
  | 1 => d.domReset .saf
  | 0 => d.domReset .app
  | 3 => d.forBays fun n d => d.modPlc n fun p => { p with stale := p.loaded || p.loading }
  | 4 =>
    let bays := (allBays.filter fun n => d.bit (BAY.TBL_STAT_LOADED n) && !d.bit (BAY.TBL_SEL_DEF n)).map fun n => n.val
    let exi := if d.exi.slots.any Option.isSome then [4] else []
    let epd := if d.epd.table.isSome then [5] else []
    (d.modUpd fun u => { u with tblOld := bays ++ exi ++ epd }).updShow

/-- The next step of the bundle, or its end (R496): DONE. -/
def Dev.updNext (d : Dev) : Dev :=
  if d.upd.steps.isEmpty then
    ((d.bundleDrop.set UPD.STAT_STATE 6).raise UPD.page UPD.ev_DONE).updEvent 0 3 0
  else (d.set UPD.STAT_STATE 4).set UPD.STAT_STEP (d.get UPD.STAT_STEP + 1)

/-- Raise a counter at the vault (R496): a vault that is not ready is asked again every 100 ms. -/
def Dev.counterAsk (d : Dev) (k : Fin 5) (v : Nat) : Dev :=
  if d.bit VLT.STAT_READY then ((d.rollbackRaise (slotDom k.val) v).2.modUpd fun u => { u with raise := none }).updNext
  else d.modUpd fun u => { u with raise := some (k.val, v) }

/-- The step in trial is confirmed (R493, R496). -/
def Dev.updConfirm (d : Dev) (k : Fin 5) : Dev :=
  let d := (d.modUpd fun u => { u with trial := none }).set UPD.TRIAL_REM_MS 0
  let d := ((d.set UPD.STAT_STATE 4).raise UPD.page UPD.ev_CONFIRMED).updEvent (slotDom k.val) 1 0
  let d := d.eligShow
  let v := d.upd.run[k].rollback
  if d.get (VLT.ARB_CNT k.val) < v then d.counterAsk k v else d.updNext

/-- UPDATE_STEP_SWITCH (R493): a step that waits for its safe point shows WAIT_IDLE; none while paused, draining, in hold-up or
before a counter is raised. -/
def execUpdateStepSwitch (s : State) : Out :=
  s.on fun d =>
    match d.upd.steps with
    | [] => d
    | n :: _ =>
      let k : Fin 5 := ⟨n % 5, Nat.mod_lt _ (by decide)⟩
      if d.get UPD.STAT_STATE ≠ 4 ∨ d.upd.trial.isSome ∨ d.upd.raise.isSome ∨ d.bit UPD.STAT_PAUSED ∨ d.bit PWR.STAT_HOLDUP ∨
          !d.takesWork .UPD then d
      else if !d.safePoint k then (d.setBit UPD.STAT_WAIT_IDLE true).set UPD.STAT_DOMAIN (slotDom k.val)
      else
        let d := (d.bankFlip k).trialBegin k
        let d := ((d.raise UPD.page UPD.ev_SWAPPED).updEvent (slotDom k.val) 0 0).switched k
        if 3 ≤ k.val then d.updConfirm k else d.eligShow

/-- CONFIRM (R493): ignored outside an APP trial. -/
def execConfirm (m : Master) (s : State) : Out :=
  s.on fun d => d.guard m .UPD 0x05C fun d => if d.upd.trial = some 0 then d.updConfirm 0 else d

/-- VLT and SAF steps confirm themselves (R493): the vault ready with its root, the island in mode 0. -/
def Dev.updFollow (d : Dev) : Dev :=
  match d.upd.trial with
  | some 2 => if d.bit VLT.STAT_READY && d.bit VLT.STAT_ROOT_OK then d.updConfirm 2 else d
  | some 1 => if d.chMode = 0 then d.updConfirm 1 else d
  | _ => d

/-- TRIAL_REM counts down with the seconds (R495, R500). -/
def Dev.trialSecond (d : Dev) : Dev := d.set UPD.TRIAL_REM_MS (d.get UPD.TRIAL_REM_MS - 1000)

/-- UPDATE_REVERT (R495): CONFIRM_TMO has passed, its last second by the count of seconds; the old bank runs again, the bundle is FAILED. -/
def execUpdateRevert (s : State) : Out :=
  s.on fun d =>
    match d.upd.trial with
    | none => d
    | some n =>
      let k : Fin 5 := ⟨n % 5, Nat.mod_lt _ (by decide)⟩
      if d.bit PWR.STAT_HOLDUP || decide (1000 < d.get UPD.TRIAL_REM_MS) then d
      else
        let d := ((d.bankFlip k).modUpd fun u => { u with trial := none, reverted := u.reverted.set k true }).switched k
        let d := ((d.setBit UPD.STAT_REVERTED true).set UPD.REV_DOMAIN (slotDom k.val)).set UPD.REV_CAUSE 9
        let d := ((d.set UPD.TRIAL_REM_MS 0).raise UPD.page UPD.ev_REVERTED).updEvent (slotDom k.val) 2 9
        let d := (d.bundleDrop.set UPD.STAT_STATE 7).set UPD.STAT_CAUSE 9
        (((d.raise UPD.page UPD.ev_FAILED).updEvent (slotDom k.val) 4 9).eligShow)

/-- ROLLBACK_RETRY (R496): the vault answers, BUSY or not. -/
def execRollbackRetry (busy : Bool) (s : State) : Out :=
  s.on fun d =>
    match d.upd.raise with
    | none => d
    | some (n, v) => if busy then d else d.counterAsk ⟨n % 5, Nat.mod_lt _ (by decide)⟩ v

end Sys2Proof.Machine
end

