-- ==== Sys2Proof/Machine/View.lean ====
section
/-!
DEFINITION. What a read of a register page returns (R4, R11, R12, R36–R41), the capability words, the interrupt sources (R50)
and HS_IRQ_N (R476). A read's side effects stand in Bus.lean.
-/
namespace Sys2Proof.Machine

open Sys2Proof

/-! ### Header -/

/-- Bits of the bays present. -/
def Dev.bayMask (d : Dev) : Nat := 2 ^ d.chip.variant.bays - 1

/-- BLKCAP of a page (R37 and each page's chapter); 0 when fused off (R4). -/
def Dev.capWord (d : Dev) (p : PageId) : Nat :=
  let v := d.chip.variant
  let dc := v.dc
  let legal := if v.legal then 1 else 2
  if !d.present p then 0
  else match p with
    | .RTC | .UPD | .T1S _ | .RCD _ | .IMD _ | .EPDR | .YL _ | .PAIR | .UART _ | .I2C _ | .ETH => 1
    | .TMP => 0xF
    | .CAR => 64 + (if v.pairing then 256 else 0)
    | .DMA | .EPD => 16
    | .HIF | .PLC _ | .OSPI => 3
    | .MPL => (if v.pkgB then 0x000FFFFF else 0x00000FF3) + (if dc then 0x00100000 else 0)
    | .MET n => if n.val = 4 then 5 else if dc then 3 else 1
    | .BAY _ => if dc then 7 else 1
    | .CTC _ => if dc then 7 else 5
    | .EXI => 8
    | .SAF => d.bayMask + 16 * (if v.pkgB then 0xFF else 0x0F)
    | .LGL | .LED | .TTB => legal
    | .PPY => d.bayMask
    | .VLT => legal + 4 * 32
    | .NFR => 7
    | .WTG => if v.fullTag then 1 else 2
    | .LSW => d.lswPresent
    | .YLR => if v.pkgB then 7 else 3
    | .GPIO | .SAR => if v.pkgB then 0xFFFF else 0x00FF
    | _ => 0

/-- BLKID of a page (R37). -/
def PageId.idWord (p : PageId) : Nat := p.type * 65536 + p.inst * 256 + p.ver

/-- The block is shed (R49, R510). -/
def Dev.isShed (d : Dev) (p : PageId) : Bool :=
  match p with
  | .NFR => d.nfrShed
  | .PLC n => d.bit (PLC.STAT_SHED n)
  | .EPD => decide (1 ≤ d.get PWR.STAT_LEVEL)
  | .WAV | .UPD => decide (2 ≤ d.get PWR.STAT_LEVEL)
  | _ => false

/-- BLKSTAT as it reads (R37): READY is 0 while the block is shed or a loop is closed (R49, R522). -/
def Dev.statWord (d : Dev) (p : PageId) : Nat :=
  let b := p.base
  let ready := d.bit (Hdr.READY b) && !d.isShed p && !d.bit (Hdr.LOOP_ENABLE b)
  (if ready then 1 else 0) + (if d.blkBusy p then 2 else 0) + d.rdN (b + 0x00C) / 4 * 4

/-- IRQ_RAW of a page: the events of this bridge cycle (R38). -/
def Dev.rawWord (d : Dev) (p : PageId) : Nat :=
  ((d.raw.filter fun e => e.1 == p.base).map (·.2)).foldl (fun w k => w ||| 2 ^ k) 0

/-- A header register as it reads (R37). A fused-off page has the header too, with BLKCAP = 0 and EN = 0 (R4). -/
def Dev.headerWord (d : Dev) (p : PageId) (o : Nat) : Nat :=
  if o = 0x000 then p.idWord
  else if o = 0x004 then d.capWord p
  else if o = 0x008 then
    d.rdN (p.base + 0x008) + (if p.fixed ∧ !d.bit (Hdr.EN p.base) then 1 else 0) + (if d.bit (Hdr.LOCKED p.base) then 512 else 0)
  else if o = 0x00C then d.statWord p
  else if o = 0x010 then d.rawWord p
  else if o = 0x01C ∨ o = 0x024 then 0
  else d.rdN (p.base + o)

/-! ### Registers that show other state -/

/-- Frames the HIF holds for a link: requests that wait, messages that wait (R475). -/
def Dev.hifRx (d : Dev) (l : Link) : Nat := (d.hif.rx.filter fun r => r.link == l).length
def Dev.hifTx (d : Dev) (l : Link) : Nat := (d.hostOut.filter fun m => m.link == l).length

/-- Replace the bits of a mask in a word. -/
def withBits (v mask new : Nat) : Nat := clearBits v mask ||| (new &&& mask)

/-- Two bits of each pin of a mask. -/
def pinPairs (mask : Nat) : Nat := ((List.range 16).map fun k => if mask.testBit k then 3 * 4 ^ k else 0).sum

/-- The word a register shows where something else than its own word does (R5, R11, R53, R178, R208, R249, R325, R374, R476,
R482, R484, R539, R545, R547). -/
def Dev.shown (d : Dev) (p : PageId) (a : Nat) : Nat :=
  let v := d.rdN a
  match p with
  | .SYS =>
    if a = SYS.VARIANT then d.chip.variant.code
    else if a = SYS.UID_LO then d.chip.uid.toNat % 2 ^ 32
    else if a = SYS.UID_HI then d.chip.uid.toNat / 2 ^ 32
    else v
  | .RTC => d.rtcRefresh.rdN a
  | .HIF =>
    if a = HIF.STAT then
      v % 256 + 2 ^ 8 * min 8 (d.hifRx .spi) + 2 ^ 12 * min 16 (d.hifTx .spi) + 2 ^ 20 * min 8 (d.hifRx .rmii) + 2 ^ 24 * min 16 (d.hifTx .rmii)
    else v
  | .MET m => if a = MET.STAT m then withBits v 1 (if d.met[m].cfgEff % 4 ≠ 0 ∧ d.bit MPL.STAT_INIT_DONE then 1 else 0) else v
  | .BAY n =>
    if a = BAY.REQ n then
      match d.bay[n].reqs with
      | [] => 0
      | (c, x) :: _ => c % 256 + 256 * (x % 2 ^ 24)
    else if a = BAY.REQ_STAT n then d.bay[n].reqs.length
    else v
  | .PLC n =>
    if a = PLC.ARBCFG n then d.rdN (PLC.ARBCFG 0)
    else if a = PLC.CTL n ∧ d.isStandby then v / 2 * 2
    else v
  | .RCD n =>
    if a = RCD.CURVE_CRC n then crc32 (d.rcd[n].curve.flatMap fun w => leBytes 4 w) else v
  | .SAF => if a = SAF.CFG_CRC then (Config.safCfgCrc d.safConfig).toNat else v
  | .SAFL =>
    if a = SAFL.HL_CRC then (if d.bit SAFL.HL_STAT_ALIVE then (d.saf.hlCrc.getD (Config.safCfgCrc d.safConfig)).toNat else 0) else v
  | .WTG =>
    if a = WTG.CFG then d.tag.cfg
    else if a = WTG.STAT then withBits v 0x20 (if d.tagMuted then 0x20 else 0)
    else v
  | .YLR =>
    if a = YLR.STAT then withBits v 4 (if d.keyOk then 4 else 0)
    else if a = YLR.KEY then withBits v 0x100 (if d.keyOk then 0x100 else 0)
    else v
  | .YL k => if a = YL.STAT k then withBits v 4 (if k.val = 0 ∧ d.pairOn then 4 else 0) else v
  | .LGL => if a = LGL.SLEW_REM then d.rtcRefresh.rdN RTC.SLEW_REM else v
  | .UART k =>
    if a = UART.RX_DATA k then (d.uartPop k).1 else v
  | .I2C n => if a = I2C.RXDATA n then (d.i2cPop n).1 else v
  | .CAN k =>
    if a = CAN.RX_DATA k then
      match d.can[k].rx with
      | (w :: _) :: _ => w
      | _ => 0
    else v
  | .GPIO =>
    let h := d.heldPins
    if a = GPIO.ALT then h
    else if a = GPIO.DIR ∨ a = GPIO.DRV then v ||| h
    else if a = GPIO.OUT then withBits v h d.heldLevels
    else if a = GPIO.PULL then withBits v (pinPairs h) 0
    else v
  | .ETH =>
    let u := leBytes 8 d.chip.uid.toNat
    if a = ETH.MAC_LO then ofLe (2 :: u.take 3) else if a = ETH.MAC_HI then ofLe ((u.drop 3).take 2)
    else if a = ETH.STAT then
      withBits v 2 (if d.enabled .ETH && (d.bit ETH.CFG_REFCLK_OUT || d.bit ETH.STAT_LINK) then 2 else 0)
    else v
  | _ => v

/-- The word at a page offset as it reads: WO fields, reserved bits and offsets without a register read 0 (R11, R12), the
debug area reads 0 while it is closed (R41). -/
def Dev.readWord (d : Dev) (p : PageId) (o : Nat) : Nat :=
  if o < 0x40 then d.headerWord p o
  else if 0xF00 ≤ o ∧ !d.debugOpen then 0
  else match findRow p.table o with
    | none => 0
    | some (r, _) => clearBits (d.shown p (p.base + o)) (r.wo ||| r.w1s)

/-! ### Interrupts (R38, R50) -/

/-- The page interrupt: the OR of IRQ_STAT. -/
def Dev.pageIrq (d : Dev) (p : PageId) : Bool := d.present p && d.rdN (Hdr.irqStat p.base) != 0

/-- Source of a page at the interrupt controller. -/
def PageId.source : PageId → Nat
  | .SYS => 1 | .CLK => 2 | .PWR => 3 | .TSEN => 4 | .RTC => 5 | .TMP => 6 | .CAR => 7 | .TST => 8
  | .DMA => 9 | .UPD => 26 | .HIF => 27 | .MPL => 28 | .MET n => 29 + n.val | .WAV => 34
  | .BAY n => 40 + 6 * n.val | .PLC n => 41 + 6 * n.val | .T1S n => 42 + 6 * n.val | .CTC n => 43 + 6 * n.val
  | .RCD n => 44 + 6 * n.val | .IMD n => 45 + 6 * n.val
  | .EXI => 64 | .SAF => 65 | .SAFL => 66 | .LGL => 67 | .LED => 68 | .TTB => 69 | .PPY => 70 | .LPR => 71 | .VLT => 72
  | .NFR => 73 | .WTG => 74 | .EPD => 75 | .EPDR => 76 | .LSW => 77 | .YLR => 78 | .YL k => 79 + k.val | .PAIR => 82
  | .CAN k => 83 + k.val | .UART k => 87 + k.val | .I2C n => 91 + n.val | .GPIO => 93 | .SAR => 94 | .OSPI => 95 | .ETH => 96

/-- The interrupt of DMA channel `c` (R424): a flag whose enable is set. -/
def Dev.chIrq (d : Dev) (c : Nat) : Bool :=
  (d.bit (DMA.CH_CTL_IE_DONE c) && d.bit (DMA.CH_STAT_DONE c)) || (d.bit (DMA.CH_CTL_IE_DESC c) && d.bit (DMA.CH_STAT_DESC_END c)) ||
    (d.bit (DMA.CH_CTL_IE_ABORT c) && d.bit (DMA.CH_STAT_ABORTED c))

/-- A source of the application interrupt controller is asserted (R50). -/
def Dev.irqSource (d : Dev) (s : Nat) : Bool :=
  if 10 ≤ s ∧ s < 26 then d.chIrq (s - 10)
  else if 100 ≤ s ∧ s < 103 then d.mboxIrq.any fun e => e.1 == .app && domainNo e.2.1 == s - 99 && e.2.2 == 0
  else if 103 ≤ s ∧ s < 106 then d.mboxIrq.any fun e => e.1 == .app && domainNo e.2.1 == s - 102 && e.2.2 == 1
  else if s = 106 then d.mboxIrq.any fun e => e.1 == .app && e.2.2 == 2
  else if 108 ≤ s ∧ s < 124 then (d.rdN (Hdr.irqStat GPIO.page)).testBit (s - 108)
  else allPages.any fun p => p.source == s && d.pageIrq p

/-- HS_IRQ_N is asserted (R476). -/
def Dev.hsIrq (d : Dev) : Bool := decide (0 < d.hifTx .spi) || !d.hif.echo.isEmpty || d.pageIrq .HIF

end Sys2Proof.Machine
end

