-- ==== Sys2Proof/Machine/Plic.lean ====
section
/-!
DEFINITION. The application interrupt controller (R23, R50): the RISC-V PLIC layout with 256 sources and two contexts. Priorities,
enables and thresholds are bytes of its region; pending and claimed sources are state of its own (assumption 142).
-/
namespace Sys2Proof.Machine

/-- Sources that are asserted now, as bits. -/
def Dev.irqLines (d : Dev) : Nat := (List.range 256).foldl (fun w s => if s != 0 && d.irqSource s then w + 2 ^ s else w) 0

/-- Pending sources: latched or asserted, and not claimed. -/
def Dev.plicPending (d : Dev) : Nat := clearBits (d.plic.pend ||| d.irqLines) d.plic.claimed

/-- Latch the sources asserted in this bridge cycle. -/
def Dev.plicLatch (d : Dev) : Dev := { d with plic := { d.plic with pend := d.plicPending } }

/-- Priority of a source. -/
def Dev.plicPrio (d : Dev) (s : Nat) : Nat := d.rdLe (plicBase + 4 * s) 4

/-- A context has a source enabled. -/
def Dev.plicEnabled (d : Dev) (c s : Nat) : Bool := (d.rdLe (plicBase + 0x2000 + 0x80 * c + 4 * (s / 32)) 4).testBit (s % 32)

/-- The source a claim of a context returns: pending, enabled, of the highest priority above 0, the lowest number first; 0 none. -/
def Dev.plicBest (d : Dev) (c : Nat) : Nat :=
  let w := d.plicPending
  ((List.range 256).foldl (fun (b : Nat × Nat) s =>
    if w.testBit s && d.plicEnabled c s && decide (b.2 < d.plicPrio s) then (s, d.plicPrio s) else b) (0, 0)).1

/-- A context's interrupt is asserted: a pending enabled source has a priority above the threshold. -/
def Dev.plicIrq (d : Dev) (c : Fin 2) : Bool :=
  let s := d.plicBest c.val
  s != 0 && decide (d.rdLe (plicBase + 0x200000 + 0x1000 * c.val) 4 < d.plicPrio s)

/-- A read of a word of the controller. A read of CLAIM claims the source it returns. -/
def Dev.plicRead (d : Dev) (o : Nat) : Nat × Dev :=
  if 0x1000 ≤ o ∧ o < 0x1020 then (d.plicPending / 2 ^ (32 * ((o - 0x1000) / 4)) % 2 ^ 32, d)
  else if o = 0x200004 ∨ o = 0x201004 then
    let s := d.plicBest ((o - 0x200004) / 0x1000)
    if s = 0 then (0, d)
    else (s, { d with plic := { pend := clearBits d.plicPending (2 ^ s), claimed := d.plic.claimed ||| 2 ^ s } })
  else (d.rdLe (plicBase + o) 4, d)

/-- A write of a word of the controller. A write of CLAIM completes the source it names. Source 0 has no priority, and the
registers that the layout does not have hold nothing. -/
def Dev.plicWrite (d : Dev) (o w : Nat) : Dev :=
  if o = 0x200004 ∨ o = 0x201004 then { d with plic := { d.plic with claimed := clearBits d.plic.claimed (2 ^ (w % 256)) } }
  else if (4 ≤ o ∧ o < 0x400) ∨ (0x2000 ≤ o ∧ o < 0x2020) ∨ (0x2080 ≤ o ∧ o < 0x20A0) ∨ o = 0x200000 ∨ o = 0x201000 then
    d.wrLe (plicBase + o) 4 w
  else d

end Sys2Proof.Machine
end

