-- ==== Sys2Proof/Machine/Eth.lean ====
section
/-!
DEFINITION. Firmware readiness of the host interface (R481), and the Ethernet MAC's PHY side (R483, R484).
-/
namespace Sys2Proof.Machine

/-- FW_READY (R481): requests are served again; rings that an application-domain reset stopped run again (R443). -/
def execFwReady (m : Master) (s : State) : Out :=
  s.on fun d => d.guard m .HIF 0x04C fun d =>
    let d := (d.setBit HIF.STAT_FW_READY true).modYlr fun y => { y with ringsOff := false }
    if d.enabled .YLR && d.get YLR.TXQ_RD_RD != d.get YLR.TXQ_WR_WR then
      (Dev.txRing (2 ^ d.get YLR.TXQ_CTL_LOG2) d).raise YLR.page YLR.ev_TX_SPACE
    else d

/-- MDIO_ACCESS (R483): a write of MDIO_CTL with GO. -/
def execMdioAccess (m : Master) (w : Word) (s : State) : Out :=
  s.on fun d => d.startWork m .ETH 0x04C (fun d => if d.bit ETH.MDIO_CTL_BUSY then some Err.BUSY else none) fun d =>
    (d.wr ETH.MDIO_CTL (w &&& 0x7FF)).setBit ETH.MDIO_CTL_BUSY true

/-- MDIO_DONE (R483): a clause 22 access ends; a read leaves its data in MDIO_DATA. -/
def execMdioDone (data : BitVec 16) (s : State) : Out :=
  s.on fun d =>
    if !d.bit ETH.MDIO_CTL_BUSY then d
    else
      let d := d.setBit ETH.MDIO_CTL_BUSY false
      let d := if d.bit ETH.MDIO_CTL_READ then d.set ETH.MDIO_DATA_DATA data.toNat else d
      d.raise ETH.page ETH.ev_MDIO_DONE

/-- PHY_LINK_POLL (R483): LINK takes bit 2 of register 1 of the PHY; a link-down ends the role sessions of the RMII link
(R344). REFCLK_OK shows whether REF_CLK is present: driven here, or on the pin (R484). -/
def execPhyLinkPoll (up refclk : Bool) (s : State) : Out :=
  s.on fun d =>
    let d := d.setBit ETH.STAT_REFCLK_OK (d.bit ETH.CFG_REFCLK_OUT || refclk)
    if !d.enabled .ETH || !d.bit ETH.CFG_POLL_EN || d.bit ETH.STAT_LINK == up then d
    else
      let d := (d.setBit ETH.STAT_LINK up).raise ETH.page ETH.ev_LINK_CHG
      let d := (d.setBit HIF.STAT_ETH_LINK up).raise HIF.page HIF.ev_ETH_LINK
      if up then d else d.roleEnd fun r => r.link == .rmii

end Sys2Proof.Machine
end

