-- ==== Sys2Proof/Machine/Writes.lean ====
section
/-!
DEFINITION. Writes of registers without a command of their own: fields by access code (R11, R40), the rejections each page's
chapter adds, and what a page does after such a write.
-/
namespace Sys2Proof.Machine

open Sys2Proof

/-- The device after a command that is one of a write's parts. -/
def viaExec (f : State → Out) (d : Dev) : Dev :=
  match f { dev := d, pending := [] } with
  | .next s => s.dev
  | _ => d

/-- A write of several parts on a page, one of which was rejected, is rejected as a whole with that part's code (R40): `x` is
the device after the parts. -/
def Dev.whole (d : Dev) (p : PageId) (x : Dev) : Dev :=
  if d.raw.count (p.base, 31) < x.raw.count (p.base, 31) then
    ({ d with expKey := none } : Dev).reject p.base (x.get (Hdr.CODE p.base))
  else x

/-! ### Rejections of the page chapters -/

/-- A rejection if a condition holds. -/
def rejectIf (c : Bool) (e : Nat) : Option Nat := if c then some e else none

/-- MDAT_CFG with EN = 1 fits its clock (R81, R82). -/
def Dev.mdatFits (d : Dev) (w : Nat) : Bool :=
  let k := w / 2 % 4
  let osr := w / 16 % 1024
  if (d.get MPL.MCLK_MODE_IN).testBit k then
    let nom := d.rdN (MPL.MCLK_NOM (k / 2)) / 2 ^ (16 * (k % 2)) % 65536
    decide (32 * osr ≤ nom ∧ nom ≤ 128 * osr)
  else decide (d.rdN MPL.MCLK_CFG / 2 ^ (8 * k) % 256 * osr * 2 ^ (w / 16384 % 4) = 50000)

/-- What MPL rejects (R77, R79, R81, R82, R101). -/
def Dev.mplError (d : Dev) (o w : Nat) : Option Nat :=
  let b := d.chip.variant.pkgB
  if o = 0x040 then
    rejectIf (d.anyMetering && (w % 2 == 0 || w.testBit 8 != d.bit MPL.CFG_REF_SEL)) Err.BUSY
  else if o = 0x094 then
    if !b && w / 4 % 4 + w / 64 % 4 != 0 then some Err.NOT_FUSED
    else rejectIf ((w % 16) &&& (w / 16 % 16) != 0) Err.RANGE
  else if 0x0C0 ≤ o ∧ o < 0x100 then
    if !b && (decide (0x0E0 ≤ o) || decide (2 ≤ w / 2 % 4)) then some Err.NOT_FUSED
    else rejectIf (w % 2 == 1 && !d.mdatFits w) Err.RANGE
  else none

/-- What CTCn rejects (R203). -/
def Dev.ctcError (d : Dev) (n : Bay) (o w : Nat) : Option Nat :=
  let held := [0x040, 0x044, 0x048, 0x04C, 0x0A0, 0x0A4, 0x408, 0x40C].contains o
  if held && d.ctState n != Ct.OPEN then some Err.BUSY
  else if o = 0x040 then
    if w % 4 = 2 ∧ !d.chip.variant.dc then some Err.NOT_FUSED
    else rejectIf ((w % 4 == 2) != d.bit (BAY.CFG_DC n)) Err.SEQUENCE
  else none

/-- What UPD rejects (R488, R500). -/
def Dev.updWriteError (d : Dev) (o w : Nat) : Option Nat :=
  if o = 0x040 then rejectIf d.bundleOpen Err.BUSY
  else if o = 0x044 ∨ o = 0x048 then
    let base := if o = 0x044 then w else d.rdN UPD.STG_BASE
    let size := if o = 0x048 then w else d.rdN UPD.STG_SIZE
    let sram := !d.bit UPD.CFG_STG_OSPI
    if d.bundleOpen then some Err.BUSY
    else rejectIf ((o == 0x044 && w % 4096 != 0) || (sram && decide (base < 0x20800000 ∧ 0x20780000 < base + size))) Err.RANGE
  else none

/-- What EPD rejects (R376, R378, R388). -/
def Dev.epdError (d : Dev) (o w : Nat) : Option Nat :=
  if o = 0x040 ∨ o = 0x044 then
    if d.bit EPD.STAT_RAILS_ON then some Err.BUSY
    else rejectIf (!timingFits (if o = 0x040 then w else d.rdN EPD.PANEL) (if o = 0x044 then w else d.rdN EPD.TIMING)) Err.RANGE
  else if o = 0x048 then rejectIf (w % 64 != 0) Err.RANGE
  else if o = 0x04C then rejectIf (decide (w % 4096 < d.get EPD.PANEL_W)) Err.RANGE
  else if o = 0x0E0 then rejectIf (w % 4 != 0) Err.RANGE
  else if o = 0x080 then rejectIf (w % 16 != 0) Err.RANGE
  else if 0x0A0 ≤ o ∧ o < 0x0E0 then
    let k := (o - 0x0A0) / 16
    let on := d.bit (EPD.BLINK_CTL_EN k)
    if (o - 0x0A0) % 16 = 8 then
      if on then rejectIf (w % 1024 != d.get (EPD.BLINK_CTL_PER k)) Err.BUSY
      else if w.testBit 12 then d.blinkError k
      else none
    else rejectIf on Err.BUSY
  else if 0x420 ≤ o ∧ o < 0x440 then rejectIf (!d.offTableOk ((o - 0x420) / 4) (w % 65536)) Err.RANGE
  else none

/-- The four channel bytes of a SEQ word: a code above 17, then an absent input (R542, R543). -/
def Dev.seqError (d : Dev) (w : Nat) : Option Nat :=
  let cs := [0, 1, 2, 3].map fun i => w / 256 ^ i % 32
  if cs.any fun c => decide (17 < c) then some Err.RANGE
  else rejectIf (!d.chip.variant.pkgB && cs.any fun c => decide (8 ≤ c ∧ c < 16)) Err.NOT_FUSED

/-- What GPIO rejects (R540, R541). -/
def Dev.gpioError (d : Dev) (o w : Nat) : Option Nat :=
  let k := d.gpioPins
  if o = 0x040 ∨ o = 0x044 ∨ o = 0x060 then rejectIf (w / 2 ^ k != 0) Err.NOT_FUSED
  else if o = 0x058 ∨ o = 0x05C then
    if w / 4 ^ k ≠ 0 then some Err.NOT_FUSED
    else rejectIf (o == 0x058 && (List.range 16).any fun i => w / 4 ^ i % 4 == 3) Err.RANGE
  else none

/-- What LSW rejects (R396, R404, R411, R414). -/
def Dev.lswError (d : Dev) (o w : Nat) : Option Nat :=
  if 0x080 ≤ o ∧ o < 0x0B0 then
    let c := (o - 0x080) / 4
    if !d.lswPresent.testBit c then some Err.NOT_FUSED
    else
      let st := d.get (LSW.CH_STAT_STATE c)
      if st != Lsw.OFF && st != Lsw.EXHAUSTED && st != Lsw.LATCHED then some Err.BUSY
      else rejectIf (w % 4 == 3 || decide (4 < w / 32 % 8)) Err.RANGE
  else if 0x160 ≤ o ∧ o < 0x170 then
    let t := w % 2 ^ 20
    rejectIf (t != 0 && decide (t < 500 ∨ 1000000 < t)) Err.RANGE
  else none

/-- A tentative WAV configuration samples a DC slot at the high rate (R97). -/
def Dev.wavError (d : Dev) (o w : Nat) : Option Nat :=
  if o = 0x040 ∨ (0x044 ≤ o ∧ o < 0x054) then
    let d := d.wrN (WAV.page + o) w
    rejectIf (d.bit WAV.CFG_RATE && (List.range 16).any fun i => (d.wavCh i).1 && dcSlot (d.wavCh i).2) Err.RANGE
  else none

/-- Bytes TXDATA takes (R546, R547): 16 in the FIFO, and those of a running write, which leave as they come. -/
def Dev.i2cRoom (d : Dev) (n : Fin 2) : Nat :=
  if d.bit (I2C.STAT_BUSY n) && !d.bit (I2C.CMD_READ n) then d.get (I2C.CMD_LEN n) + 16 else 16

/-- What a page rejects beyond owner, area, lock and range. -/
def Dev.pageError (d : Dev) (p : PageId) (o w : Nat) : Option Nat :=
  match p with
  | .PWR =>
    let f := fun i => w / 256 ^ i % 256
    rejectIf (o == 0x400 && !decide (f 0 ≤ 95 ∧ f 1 < f 0 ∧ f 2 < f 1 ∧ 60 ≤ f 2 ∧ 2 ≤ f 3 ∧ f 3 ≤ 10)) Err.RANGE
  | .CAR => rejectIf ((o == 0x098 || o == 0x0A0) && w != 0 || (o == 0x09C || o == 0x0A4) && w % 16 != 0) Err.NOT_OWNER
  | .DMA =>
    if 0x100 ≤ o ∧ o < 0x300 ∧ (o - 0x100) % 32 = 0 then
      let c := (o - 0x100) / 32
      rejectIf (d.bit (DMA.CH_STAT_CLAIMED c) || d.bit (DMA.CH_STAT_ACTIVE c)) Err.BUSY
    else none
  | .UPD => d.updWriteError o w
  | .MPL => d.mplError o w
  | .WAV => d.wavError o w
  | .BAY n =>
    if (o = 0x040 ∨ o = 0x400 ∨ o = 0x404) ∧ !d.bayIdle n then some Err.BUSY
    else rejectIf (o == 0x040 && w % 2 == 1 && !d.chip.variant.dc) Err.NOT_FUSED
  | .PLC n =>
    if o = 0x040 ∧ d.bit (PLC.STAT_LINK_UP n) then some Err.BUSY
    else rejectIf (o == 0x070 && n.val != 0) Err.RANGE
  | .T1S n => rejectIf ((o == 0x040 || o == 0x044) && d.bit (T1S.STAT_PLCA_STATUS n)) Err.BUSY
  | .CTC n => d.ctcError n o w
  | .RCD n =>
    rejectIf (([0x040, 0x044, 0x048, 0x04C, 0x400, 0x404].contains o || decide (0x050 ≤ o ∧ o < 0x070)) && !d.bayIdle n) Err.BUSY
  | .IMD n =>
    if d.bit (IMD.STAT_RUNNING n) && o != 0x05C then some Err.BUSY
    else rejectIf (o == 0x058 && decide (w % 65536 ≤ w / 65536)) Err.RANGE
  | .EXI =>
    rejectIf (decide (0x044 ≤ o ∧ o < 0x064) && w % 16 != 0 || o == 0x0A0 && w % 8 != 0 || o == 0x0A4 && decide (524288 < w)) Err.RANGE
  | .NFR => rejectIf (o == 0x040 && d.bit NFR.STAT_BUSY) Err.BUSY
  | .WTG => rejectIf ((o == 0x0C8 || o == 0x0CC) && d.fullTag) Err.NOT_FUSED
  | .EPD => d.epdError o w
  | .LSW => d.lswError o w
  | .YLR => rejectIf ((o == 0x100 || o == 0x110) && w % 32 != 0 || o == 0x11C && decide (2 ^ d.get YLR.RXQ_CTL_LOG2 ≤ w % 1024)) Err.RANGE
  | .CAN k => rejectIf ((o == 0x040 || o == 0x044) && d.get (CAN.MODE_MODE k) != 0) Err.SEQUENCE
  | .UART k => rejectIf (o == 0x040 && !d.bit (UART.STAT_TX_IDLE k)) Err.BUSY
  | .I2C n =>
    if o = 0x040 ∧ d.bit (I2C.STAT_BUSY n) then some Err.BUSY
    else rejectIf (o == 0x048 && decide (d.i2cRoom n ≤ d.i2c[n].tx.length)) Err.BUSY
  | .GPIO => d.gpioError o w
  | .SAR =>
    if (o = 0x040 ∨ (0x044 ≤ o ∧ o < 0x064)) ∧ d.sar.run.isSome then some Err.BUSY
    else if 0x044 ≤ o ∧ o < 0x064 then d.seqError w
    else none
  | .OSPI => rejectIf ([0x040, 0x044, 0x048, 0x04C].contains o && d.bit OSPI.STAT_BUSY) Err.BUSY
  | .ETH =>
    rejectIf (o == 0x040 && d.bit (Hdr.EN ETH.page) &&
      (w.testBit 0 != d.bit ETH.CFG_REFCLK_OUT || w / 256 % 32 != d.get ETH.CFG_PHY_ADDR)) Err.BUSY
  | _ => none

/-! ### What a page does after the write -/

/-- CTCn.CFG has been written (R184, R199, R203, R539): DC forces pole A alone; a chip-reset check that no CT_FB can decide waits for
line voltage; pins given back become inputs with pull-down, pins taken drive their levels. -/
def Dev.ctcMoved (d : Dev) (n : Bay) (old : Nat) : Dev :=
  let d := if d.ctDc n then d.set (CTC.CFG_POLES n) 1 else d
  let d := d.ctFbShow n
  let d := if d.ctc[n].resetCheck && !d.bit (CTC.CFG_FB_EN n) then d.setBit (CTC.STAT_WELD_UNCHK n) true else d
  let pins := 3 * 2 ^ (4 * n.val)
  let d :=
    if old % 4 = 1 ∧ d.get (CTC.CFG_MODE n) ≠ 1 then
      let d := (d.set GPIO.DIR_DIR (clearBits (d.get GPIO.DIR_DIR) pins)).set GPIO.OUT_OUT (clearBits (d.get GPIO.OUT_OUT) pins)
      d.wrN GPIO.PULL (withBits (d.rdN GPIO.PULL) (pinPairs pins) 0x55555555)
    else d
  d.gpioPads

/-- The effects of a register write that has been applied; `old` is the word before. -/
def Dev.wrote (d : Dev) (m : Master) (p : PageId) (o w old : Nat) : Dev :=
  match p with
  | .MPL =>
    if o = 0x040 then
      let d := if old.testBit 8 ≠ w.testBit 8 then d.mplStop else d
      [0, 1, 2, 3].foldl (fun d g => d.mplGrpOk g) d
    else if o = 0x094 then d.mclkModed
    else d
  | .MET m => if o = 0x048 then d.modMet m fun x => { x with win := {} } else d
  | .WAV =>
    if o = 0x040 then d.conflictShow
    else if o = 0x054 ∧ w.testBit 4 then viaExec (execWavTrigger m .software) d
    else d
  | .PLC n =>
    if o = 0x040 then d.conflictShow
    else if o = 0x044 then
      let d := if w.testBit 8 then viaExec (execKeySet m n) d else d
      if w.testBit 9 then viaExec (execLinkReset m n) d else d
    else d
  | .T1S _ => if o = 0x040 then d.conflictShow else d
  | .BAY n =>
    if o = 0x040 ∧ !w.testBit 1 then (d.wrN (BAY.LIM n 1) 0xFFFFFFFF).modBay n fun b => { b with ppCnt := 0 } else d
  | .CTC n => if o = 0x040 then d.ctcMoved n old else d
  | .YLR => if o = 0x040 ∧ !w.testBit 1 ∧ old.testBit 1 then d.shareOff else d
  | .RCD _ => if o = 0x044 ∨ o = 0x048 then d.safEval else d
  | .EXI => if o = 0x040 then d.conflictShow else d
  | .WTG =>
    if o = 0x044 then d.modTag fun t => { t with cfg := w &&& 0xFF03 }
    else if o = 0x0C8 then d.modTag fun t => { t with pwd := t.pwd / 2 ^ 32 * 2 ^ 32 + w }
    else if o = 0x0CC then d.modTag fun t => { t with pwd := t.pwd % 2 ^ 32 + 2 ^ 32 * w }
    else d
  | .EPD =>
    if o = 0x058 then d.tempWritten
    else if 0x0A0 ≤ o ∧ o < 0x0E0 ∧ o % 16 = 8 ∧ w.testBit 12 ∧ !old.testBit 12 then
      d.setBit (EPD.BLINK_CTL_SHOW_B ((o - 0x0A0) / 16)) false
    else d
  | .LSW =>
    if h : 0x080 ≤ o ∧ o < 0x0B0 then
      let c : Fin 12 := ⟨(o - 0x080) / 4, by omega⟩
      let l := w / 32 % 8
      (d.setBit (LSW.CH_STAT_SHED c.val) (decide (1 ≤ l ∧ l ≤ d.get PWR.STAT_LEVEL))).lswEval c
    else d
  | .CAN k => if o = 0x048 then d.canModed k old w else d
  | .UART k =>
    if o = 0x05C then
      let d := if w.testBit 1 then (d.modUart k fun u => { u with tx := [] }).uartShow k else d
      if w.testBit 2 then (d.modUart k fun u => { u with rx := [] }).uartShow k else d
    else d
  | .I2C n =>
    if o = 0x048 then (d.modI2c n fun i => { i with tx := i.tx ++ [BitVec.ofNat 8 w] }).i2cShow n else d
  | .GPIO => if o = 0x040 ∨ o = 0x044 then d.gpioPads else d
  | .OSPI => if o = 0x050 ∧ w.testBit 16 then viaExec (execFlush m) d else d
  | _ => d

/-- The word a write of GPIO stores: the bits of held pins keep their value (R539). -/
def Dev.keepHeld (d : Dev) (p : PageId) (o w old : Nat) : Nat :=
  if p ≠ .GPIO then w
  else if o = 0x040 ∨ o = 0x044 ∨ o = 0x060 then withBits w d.heldPins old
  else if o = 0x058 then withBits w (pinPairs d.heldPins) old
  else w

/-- A write that has passed the owner and area rules: LOCKED, RANGE, the page's own rejections, then all fields at once (R11,
R40). -/
def Dev.fieldsWrite (d : Dev) (m : Master) (p : PageId) (o w : Nat) : Dev :=
  match findRow p.table o with
  | none => d
  | some (r, _) =>
    let a := p.base + o
    let old := d.rdN a
    if d.bit (Hdr.LOCKED p.base) && (old ^^^ w) &&& r.rwl != 0 then d.reject p.base Err.LOCKED
    else if !r.rangeOk w then d.reject p.base Err.RANGE
    else match d.pageError p o w with
      | some e => d.reject p.base e
      | none =>
        let new := withBits old (r.plain ||| r.wo) (d.keepHeld p o w old)
        d.whole p ((d.wrN a (clearBits new (w &&& r.w1c))).wrote m p o w old)

end Sys2Proof.Machine
end

