-- ==== Sys2Proof/Machine/Bus.lean ====
section
/-!
DEFINITION. Accesses of bus masters: register writes and reads (R11, R19–R21, R36–R44, R74), memories and the OSPI window (R19,
R20, R23, R27).
-/
namespace Sys2Proof.Machine

open Sys2Proof

/-! ### Registers whose write is a command, or several -/

/-- A write of SYS.EXPERT_EN (R42, R517): by the host's register window, with an OPERATOR session on its link. -/
def Dev.expertWrite (d : Dev) (m : Master) (on : Bool) : Dev :=
  let d := d.noKey
  if m = .hif ∧ d.roles.any (fun r => r.role == 1 && r.link == .spi) then
    if on then d.setBit SYS.EXPERT_EN_EN true else d.expertShut
  else d.reject SYS.page Err.ROLE_DENIED

/-- A write of SYS.DRST (R508): refused as a whole where one of its bits is. -/
def Dev.drstWrite (d : Dev) (m : Master) (w : Nat) : Dev :=
  d.guard m .SYS 0x064 fun d =>
    if w.testBit 1 && !d.openPart then d.reject SYS.page Err.SAFETY_DENIED
    else if w.testBit 2 && !d.openPart then d.reject SYS.page Err.LEGAL_DENIED
    else allDomains.foldl (fun d x => if w.testBit (domainNo x) then d.domReset x else d) d

/-- Why a write of NFR.CTL is rejected, if it is (R352–R355, R372, R373). -/
def Dev.nfrCtlError (d : Dev) (w : Nat) : Option Nat :=
  let field := w % 2 == 1
  let rises := field && !d.bit NFR.CTL_FIELD
  let starts := w.testBit 8 || w.testBit 9
  let lpcd := w.testBit 1 && !d.bit NFR.CTL_LPCD
  if !(rises || starts || lpcd) then none
  else match d.workError .NFR with
    | some e => some e
    | none =>
      if (rises || lpcd) && d.nfrShed then some Err.BUSY
      else if rises && d.isStandby then some Err.SEQUENCE
      else if starts && !field then some Err.SEQUENCE
      else rejectIf (starts && d.nfr.job.isSome && !w.testBit 10) Err.BUSY

/-- A write of NFR.CTL whose bits act together: ABORT first, then FIELD and LPCD, then a start. -/
def Dev.nfrCtlWrite (d : Dev) (m : Master) (w : Nat) : Dev :=
  d.guard m .NFR 0x044 fun d =>
    match d.nfrCtlError w with
    | some e => d.reject NFR.page e
    | none =>
      let field := w % 2 == 1
      let d := if w.testBit 10 then d.nfrIdle else d
      let d := if field == d.bit NFR.CTL_FIELD then d else if field then viaExec (execNfrFieldOn m) d else viaExec (execNfrFieldOff m) d
      let d :=
        if w.testBit 1 == d.bit NFR.CTL_LPCD then d
        else if w.testBit 1 then viaExec (execLpcdStart m) d
        else (d.setBit NFR.CTL_LPCD false).setBit NFR.STAT_LPCD_ARMED false
      if w.testBit 8 then d.nfrStart m .transceive else if w.testBit 9 then d.nfrStart m .anticoll else d

/-- Two commands of one write of a page, each where its bit is set; neither acts where one of them is rejected (R40). -/
def both (p : PageId) (a b : Bool) (f g : State → Out) (d : Dev) : Option Dev :=
  if a || b then
    let x := if a then viaExec f d else d
    some (d.whole p (if b then viaExec g x else x))
  else none

/-- A command where its bit is set. -/
def one (a : Bool) (f : State → Out) (d : Dev) : Option Dev := if a then some (viaExec f d) else none

/-- The word of a 12-byte seat entry. -/
def seatPart (o : Nat) (h : 0x100 ≤ o ∧ o < 0x400) : Fin 64 × Fin 3 :=
  (⟨(o - 0x100) / 12, by omega⟩, ⟨(o - 0x100) % 12 / 4, by omega⟩)

/-- Registers of the meter pages that hold sensor parameters (R104), numbered as SENSOR_PARAM_LOAD does. -/
def sensorIndex (o : Nat) : Option (Fin 51) :=
  if h : 0x400 ≤ o ∧ o < 0x4CC then some ⟨(o - 0x400) / 4, by omega⟩ else none

/-- A register whose write is a command of its own: the device after it, none for other registers. -/
def Dev.command (d : Dev) (m : Master) (p : PageId) (o : Nat) (w : Word) : Option Dev :=
  let n := w.toNat
  let t := fun k => n.testBit k
  match p with
  | .SYS =>
    if o = 0x054 then some (d.expertWrite m (t 0))
    else if o = 0x05C then one (t 0) (execWdtKick m) d
    else if o = 0x064 then some (d.drstWrite m n)
    else if o = 0x06C then some (viaExec (execCrst m w) d)
    else if o = 0x070 then one (t 8) (execFwViolClr m) d
    else none
  | .RTC => if o = 0x054 then some (viaExec (execAlarmCtlWrite m (t 0)) d) else none
  | .CAR =>
    if o = 0x040 then some (viaExec (execCarSourceChange m w) d)
    else if o = 0x080 ∨ o = 0x084 then some (viaExec (execSeatArm m (o == 0x084) w) d)
    else if o = 0x088 ∨ o = 0x08C then some (viaExec (execSeatCancel m (o == 0x08C) w) d)
    else if h : 0x100 ≤ o ∧ o < 0x400 then some (viaExec (execSeatWrite m (seatPart o h).1 (seatPart o h).2 w) d)
    else none
  | .DMA =>
    if h : 0x100 ≤ o ∧ o < 0x300 then
      if o % 32 = 4 then some (d.guard m .DMA o fun d => d.chCtl ⟨(o - 0x100) / 32, by omega⟩ w) else none
    else none
  | .UPD => if o = 0x05C then one (t 0) (execConfirm m) d else none
  | .HIF => if o = 0x04C then one (t 0) (execFwReady m) d else none
  | .MPL =>
    if h : 0x100 ≤ o ∧ o < 0x240 then some (viaExec (execMapEntryWrite m ⟨(o - 0x100) / 4, by omega⟩ w) d)
    else if o = 0x244 then one (t 8) (execRinjStart m w) d
    else none
  | .MET k =>
    if o = 0x040 then some (viaExec (execMeterCfgWrite m k w) d)
    else if o = 0x0F0 then one (t 0) (execEclr m k) d
    else match sensorIndex o with
      | some r => some (if d.legalPart then d.guard m p o id else viaExec (execSensorParamLoad m k r w) d)
      | none => none
  | .WAV => if o = 0x060 then both p (t 0) (t 1) (execWavArm m) (execWavStop m) d else none
  | .BAY k =>
    if o = 0x044 then some (viaExec (execTableLoad m k w) d)
    else if o = 0x068 then some (viaExec (execEvtPost m k (w.setWidth 6)) d)
    else if o = 0x07C then one (t 0) (execStopReqHost m k) d
    else if h : 0x0A0 ≤ o ∧ o < 0x0C0 then some (viaExec (execLimitRegisterWrite m k ⟨(o - 0x0A0) / 4, by omega⟩ w) d)
    else none
  | .CTC k =>
    if o = 0x404 then one (t 31) (execSeedApply m k w) d
    else if o = 0x0A8 ∧ t 0 then
      let (v, d) := d.freeVolts
      some (viaExec (execWeldClr m k v) d)
    else none
  | .RCD k =>
    if o = 0x070 then one (t 0) (execCurveApply m k) d
    else if o = 0x090 ∧ t 0 then
      let (v, d) := d.free
      some (viaExec (execRcdTripClr m k (v % 2 == 1)) d)
    else none
  | .IMD k => if o = 0x05C then both p (t 0) (t 1) (execImdStart m k) (execImdStop m k) d else none
  | .EXI =>
    if h : 0x044 ≤ o ∧ o < 0x064 then one (t 31) (execGslotLoad m ⟨(o - 0x044) / 4, by omega⟩ w) d
    else if o = 0x0A8 then one (t 8) (execExiJobStart m w) d
    else none
  | .SAF =>
    match safCfgRow o with
    | none => none
    | some r => some (d.guard m .SAF o fun d =>
      let e := (o, n &&& r.plain)
      let absent := !d.chip.variant.pkgB && (decide (0x090 ≤ o ∧ o < 0x0A0) || decide (0x0B8 ≤ o ∧ o < 0x0C0))
      if absent then d.reject SAF.page Err.NOT_FUSED
      else match safCfgError e with
        | some c => d.reject SAF.page c
        | none => (d.safApply [e]).gateUpdate.safEval)
  | .NFR =>
    if o = 0x044 then some (d.nfrCtlWrite m n)
    else if o = 0x084 then some (viaExec (execListDataWrite m w) d)
    else if o = 0x088 then both p (t 0) (t 1) (execListClear m) (execLoadDone m) d
    else none
  | .WTG => if o = 0x0C0 then one (t 8) (execHostRecordWrite m (w.setWidth 8)) d else none
  | .EPD =>
    if o = 0x06C then one (t 8) (execUpdXyGo m (w.setWidth 3)) d
    else if o = 0x080 then one (t 31) (execWfLoad m w) d
    else if o = 0x0E4 then some (viaExec (execBlDataWrite m w) d)
    else none
  | .EPDR =>
    if o = 0x040 ∨ o = 0x044 then some (viaExec (execRectWrite m (o == 0x044) w) d)
    else if o = 0x04C then both p (t 9) (t 8) (execWbAck m) (execEpdrGo m (w.setWidth 3)) d
    else none
  | .LSW =>
    if o = 0x040 then some (viaExec (execCmdOn m (w.setWidth 12)) d)
    else if o = 0x044 then some (viaExec (execCmdOff m (w.setWidth 12)) d)
    else if o = 0x144 then some (viaExec (execLatchClr m (w.setWidth 12)) d)
    else if o = 0x14C then one (t 0) (execHmKick m) d
    else if o = 0x158 then one (t 0) (execFsStore m) d
    else none
  | .YLR =>
    if o = 0x04C then one (t 0) (execRcCtlStart m) d
    else if o = 0x050 then some (viaExec (execYlrKeyWrite m w) d)
    else if o = 0x108 then some (viaExec (execTxqWrWrite m w) d)
    else none
  | .PAIR => if o = 0x044 then both p (t 0) (t 1) (execPairHandover (.inl m)) (execPairRejoin (.inl m)) d else none
  | .CAN k => if o = 0x060 then some (viaExec (execCanTxPush m k w) d) else none
  | .UART k => if o = 0x044 then some (viaExec (execUartTxPush m k (w.setWidth 8)) d) else none
  | .I2C k =>
    if o = 0x044 then one (t 31) (execI2cGo m k w) d
    else if o = 0x058 then one (t 0) (execRecover m k) d
    else none
  | .GPIO =>
    if o = 0x048 then some (viaExec (execGpioSet m w) d)
    else if o = 0x04C then some (viaExec (execGpioClr m w) d)
    else if o = 0x050 then some (viaExec (execGpioTgl m w) d)
    else none
  | .SAR => if o = 0x064 then some (viaExec (execSarSequenceStart m (w.setWidth 4)) d) else none
  | .OSPI => if o = 0x05C then one (t 31) (execOspiCmdGo m w) d else none
  | .ETH => if o = 0x04C then one (t 31) (execMdioAccess m w) d else none
  | _ => none

/-! ### Register writes -/

/-- A write of a header register (R37): `e`, the device with the unlock sequence broken; `key`, the sequence before. -/
def Dev.headerWrite (d : Dev) (m : Master) (p : PageId) (o : Nat) (w : Word) : Dev :=
  let key := d.expKey
  d.guard m p o fun d =>
    if o = 0x008 then d.blkctlWrite p w.toNat
    else if o = 0x014 then d.wr (Hdr.irqEn p.base) w
    else if o = 0x018 then d.irqClear p w.toNat
    else if o = 0x01C then d.irqSet p w
    else if o = 0x024 then d.expWrite p key w
    else if o = 0x028 then d.loopWrite m p w.toNat
    else if o = 0x02C then d.testWrite p w.toNat
    else d

/-- A write of the register at an offset of the window that the address filter has passed (R21, R36, R40). -/
def Dev.regWrite (d : Dev) (m : Master) (a : Nat) (w : Word) : Dev :=
  match pageAt a with
  | none => d.noKey.busError
  | some p =>
    let o := a % 4096 / 4 * 4
    let d := d.busOk []
    if o < 0x40 then d.headerWrite m p o w
    else match d.command m p o w with
      | some d => d
      | none => d.guard m p o fun d => d.fieldsWrite m p o w.toNat

/-- A write to a register page, by the address filter's leave (R19, R20). -/
def Dev.busWrite (d : Dev) (m : Master) (a : Nat) (w : Word) : Dev :=
  if d.filterAllows m (0x40000000 + a) true then d.regWrite m a w else (d.fwBlock m (0x40000000 + a) true).busError

/-- REGISTER_WRITE (R11, R21, R39–R45). -/
def execRegisterWrite (m : Master) (a : BitVec 20) (w : Word) (s : State) : Out := s.on fun d => d.busWrite m a.toNat w

/-! ### Register reads -/

/-- The register whose value a read of this one holds back (R74, R325, R127). -/
def heldPair (p : PageId) (a : Nat) : Option Nat :=
  match p with
  | .CAR => if a = CAR.WT_LO ∨ a = CAR.RTC_CAP_LO ∨ a = CAR.BND_WT_LO then some (a + 4) else none
  | .WAV => if a = WAV.TRIG_WT_LO then some (a + 4) else none
  | .RTC => if a = RTC.SEC then some RTC.MS else none
  | .PPY => ((List.range 4).findSome? fun k =>
    if a = PPY.CREDIT_LO k then some (PPY.CREDIT_HI k) else if a = PPY.LOADED_LO k then some (PPY.LOADED_HI k) else none)
  | .MET k => if a = MET.EIMP_LO k ∨ a = MET.EEXP_LO k then some (a + 4) else none
  | _ => none

/-- What a read takes away: queue heads (R142, R174, R545, R547), NEW flags (R542), the mirror's next word (R369). -/
def Dev.readEffect (d : Dev) (m : Master) (p : PageId) (a : Nat) : Dev :=
  match p with
  | .BAY n => if a = BAY.REQ n then viaExec (execReqPop n) d else d
  | .CAN k => if a = CAN.RX_DATA k then viaExec (execCanRxPop m k) d else d
  | .UART k => if a = UART.RX_DATA k then (d.uartPop k).2 else d
  | .I2C n => if a = I2C.RXDATA n then (d.i2cPop n).2 else d
  | .SAR => if SAR.RESULT 0 ≤ a ∧ a ≤ SAR.RESULT 17 then d.sarRead ((a - SAR.RESULT 0) / 4) else d
  | _ => d

/-- A read of the register at an offset of the window, passed by the filter: the word, and the device after it. -/
def Dev.regRead (d : Dev) (m : Master) (a : Nat) : Nat × Dev :=
  match pageAt a with
  | none => (0, d.busError)
  | some p =>
    let o := a % 4096 / 4 * 4
    let a := p.base + o
    if p = .WTG ∧ o = 0x04C then
      let (v, d) := if d.bit WTG.STAT_RF_CMD then d.free else (0, d)
      let d := viaExec (execHostDataRead m (v % 2 == 1)) d
      (d.rdN WTG.HOST_DATA, d.busOk (leBytes 4 (d.rdN WTG.HOST_DATA)))
    else
      let held := d.car.hold.find? fun e => e.1 == (m, a)
      let v := match held with
        | some e => e.2.toNat
        | none => d.readWord p o
      let hold := d.car.hold.filter fun e => e.1 != (m, a)
      let hold := match heldPair p a with
        | some b => ((m, b), BitVec.ofNat 32 (d.readWord p (b - p.base))) :: hold.filter fun e => e.1 != (m, b)
        | none => hold
      let d : Dev := { d with car := { d.car with hold := hold } }
      (v, (d.readEffect m p a).busOk (leBytes 4 v))

/-- A read of a register page, by the address filter's leave. -/
def Dev.busRead (d : Dev) (m : Master) (a : Nat) : Nat × Dev :=
  if d.filterAllows m (0x40000000 + a) false then d.regRead m a
  else (0, (d.fwBlock m (0x40000000 + a) false).busZero 4)

/-- LO_REGISTER_READ (R74): the matching high part is held for this master. -/
def execLoRegisterRead (m : Master) (a : BitVec 20) (s : State) : Out := s.on fun d => (d.busRead m a.toNat).2

/-! ### Memories -/

/-- The memories with ECC (R27). -/
def eccRegion : MemRegion → Bool
  | .sram | .display | .message | .tcm => true
  | _ => false

/-- Every byte of an access lies where the filter allows it (R19). -/
def Dev.allowsAll (d : Dev) (m : Master) (a n : Nat) (wr : Bool) : Bool :=
  (List.range (max 1 n)).all fun i => d.filterAllows m (a + i) wr

/-- A write into the message RAM (R28, R29): index words act as MAILBOX_WR_IDX_WRITE and MAILBOX_RD_IDX_WRITE do; a store into a
slot is taken whether the receiver has read it or not (assumption 144), and clears the sender's reset flag as every write of the
sender does (R28); a status area that changes is told to the other domains (R50). -/
def Dev.messageWrite (d : Dev) (o : Nat) (l : List Byte) : Dev :=
  let dom := fun i => if i = 0 then Domain.app else if i = 1 then .saf else if i = 2 then .lgl else .vlt
  let s := dom (o / 0x4000)
  let r := dom (o / 0x1000 % 4)
  let v := ofLe l % 64
  if s = r then
    let d := d.wrBytes (0x50000000 + o) l
    allDomains.foldl (fun d x => if x = s then d else d.mboxRaise x s 2) d
  else if o % 0x1000 = 0 then (if v < 63 then d.mboxCommit s r v else d)
  else if o % 0x1000 = 4 then (if v < 63 then d.mboxFree s r v else d)
  else (d.wrBytes (0x50000000 + o) l).channelFlag s r 0 false

/-- Words of a list of bytes. -/
def wordsOf : List Byte → List Word
  | a :: b :: c :: e :: l => BitVec.ofNat 32 (ofLe [a, b, c, e]) :: wordsOf l
  | _ => []

/-- A write that the filter has passed. Register pages take whole aligned words, one after the other. -/
def Dev.storeBytes (d : Dev) (m : Master) (a : Nat) (l : List Byte) : Dev :=
  let d := d.noKey
  match memRegion a with
  | some .page =>
    if a % 4 = 0 ∧ l.length % 4 = 0 then
      ((wordsOf l).zipIdx).foldl (fun d x => d.regWrite m (a - 0x40000000 + 4 * x.2) x.1) d
    else d.busError
  | some .ospi => d.ospiWrite (a - ospiBase) l
  | some .message => (d.messageWrite (a - 0x50000000) l).busOk []
  | some .plic =>
    if a % 4 = 0 ∧ l.length % 4 = 0 then
      (((wordsOf l).zipIdx).foldl (fun d x => d.plicWrite (a - plicBase + 4 * x.2) x.1.toNat) d).busOk []
    else d.busError
  | _ => (d.wrBytes a l).busOk []

/-- A read of `n` bytes that the filter has passed. -/
def Dev.loadBytes (d : Dev) (m : Master) (a n : Nat) : Dev :=
  match memRegion a with
  | some .page =>
    if a % 4 = 0 ∧ n % 4 = 0 then
      (List.range (n / 4)).foldl (fun d i =>
        let old := d.bus.data
        let d := (d.regRead m (a - 0x40000000 + 4 * i)).2
        if d.bus.err then d else d.busOk (old ++ d.bus.data)) (d.busOk [])
    else d.busError
  | some .ospi => d.ospiRead (a - ospiBase) n
  | some .bootRom => d.busOk ((List.range n).map fun i => Config.bootRom (a + i))
  | some .plic =>
    if a % 4 = 0 ∧ n % 4 = 0 then
      (List.range (n / 4)).foldl (fun d i =>
        let (v, e) := d.plicRead (a - plicBase + 4 * i)
        e.busOk (d.bus.data ++ leBytes 4 v)) (d.busOk [])
    else d.busError
  | some .ledger =>
    if a < 0x30010000 ∧ !calArea a then
      let (v, d) := d.free
      d.busOk (leBytes n v)
    else d.busOk (d.rdBytes a n)
  | _ => d.busOk (d.rdBytes a n)

/-- An access of a bus master (R19, R20, R23, R27). FW_ADDR records the address the access starts at, whichever of its bytes is
blocked (assumption 145). -/
def Dev.access (d : Dev) (x : Access) : Dev :=
  let a := x.addr.toNat
  let m := x.master
  match memRegion a with
  | none => d.busError
  | some g =>
    match x.write with
    | some l => if d.allowsAll m a l.length true then d.storeBytes m a l else (d.fwBlock m a true).busError
    | none =>
      if !d.allowsAll m a x.len.val false then (d.fwBlock m a false).busZero x.len.val
      else if eccRegion g then
        match x.ecc with
        | .clean => d.loadBytes m a x.len.val
        | .corrected => d.eccCorrected.loadBytes m a x.len.val
        | .uncorrectable => (d.eccLost a (masterNo m)).busError
      else d.loadBytes m a x.len.val

/-- MEMORY_ACCESS (R19, R20, R23, R27). -/
def execMemoryAccess (a : Access) (s : State) : Out := s.on fun d => d.access a

end Sys2Proof.Machine
end

