-- ==== Sys2Proof/Machine/DmaRun.lean ====
section
/-!
DEFINITION. The DMA engine at work (R415–R423): which channel gets the next burst, what a burst moves, the end of a descriptor.
-/
namespace Sys2Proof.Machine

open Sys2Proof

/-! ### Grants (R422) -/

/-- A channel's address lies in the OSPI window while a command or a program runs: the engine waits (R549). -/
def Dev.ospiWaits (d : Dev) (a : Nat) : Bool := memRegion a == some .ospi && d.bit OSPI.STAT_BUSY

/-- A channel has a burst to move: active under software, with data left, and let go by its pacing block (R418, R419). -/
def Dev.chReady (d : Dev) (c : Fin 16) : Bool :=
  let x := d.dma.ch[c]
  d.chActive c && d.unclaimed c && ((d.pacers c).isEmpty || !x.reqs.isEmpty) && (x.circ || d.get (DMA.CH_REM_REM c) != 0) &&
    !d.ospiWaits (d.rdN (DMA.CH_SADDR c)) && !d.ospiWaits (d.rdN (DMA.CH_DADDR c))

/-- The ready channels of a level. -/
def Dev.levelReady (d : Dev) (l : Fin 4) : List (Fin 16) :=
  (List.finRange 16).filter fun c => d.get (DMA.CH_CTL_PRIO c) == l.val && d.chReady c

/-- The levels that have a ready channel, highest first. -/
def Dev.readyLevels (d : Dev) : List (Fin 4) := ([3, 2, 1, 0] : List (Fin 4)).filter fun l => !(d.levelReady l).isEmpty

/-- The level served next: the highest due one, else the highest ready one. -/
def Dev.grantLevel (d : Dev) : Option (Fin 4) :=
  let ready := d.readyLevels
  match ready.find? fun l => l != 3 && decide (15 ≤ d.dma.waited[l]) with
  | some l => some l
  | none => ready.head?

/-- The channel served in a level: the ready one that follows the last one granted there. -/
def Dev.grantCh (d : Dev) (l : Fin 4) : Option (Fin 16) :=
  let r := d.levelReady l
  match r.find? fun c => decide (d.dma.lastCh[l] < c.val) with
  | some c => some c
  | none => r.head?

/-- The counts after a grant. -/
def Dev.granted (d : Dev) (l : Fin 4) (c : Fin 16) : Dev :=
  let ready := d.readyLevels
  let w := ([0, 1, 2] : List (Fin 4)).foldl (fun (w : Vector Nat 4) k =>
    if k = l then w.set k 0 else if ready.contains k then w.set k (min 15 (w[k] + 1)) else w) d.dma.waited
  { d with dma := { d.dma with waited := w, lastCh := d.dma.lastCh.set l c.val } }

/-! ### A burst (R416, R418, R420) -/

/-- Bytes to the boundary at which an address wraps; no boundary without a wrap field. -/
def toWrap (inc : Bool) (wrap a : Nat) : Option Nat :=
  if inc && wrap != 0 then some (2 ^ (wrap + 5) - a % 2 ^ (wrap + 5)) else none

/-- An address after a step (R416). -/
def stepAddr (inc : Bool) (wrap a n : Nat) : Nat :=
  if !inc then a
  else if wrap = 0 then (a + n) % 2 ^ 32
  else
    let k := 2 ^ (wrap + 5)
    a / k * k + (a + n) % k

/-- The engine reads: cause of an abort (0 none), the bytes. -/
def Dev.dmaRead (d : Dev) (a n : Nat) : Nat × List Byte × Dev :=
  if (memRegion a).isNone then (2, [], d.busError)
  else if !d.allowsAll .dma a n false then (2, [], (d.fwBlock .dma a false).busError)
  else
    let d := d.loadBytes .dma a n
    if d.bus.err then (2, [], d) else (0, d.bus.data, d)

/-- The engine writes: cause of an abort (0 none). -/
def Dev.dmaWrite (d : Dev) (a : Nat) (l : List Byte) : Nat × Dev :=
  if (memRegion a).isNone then (2, d.busError)
  else if !d.allowsAll .dma a l.length true then (2, (d.fwBlock .dma a true).busError)
  else
    let d := (d.busOk []).storeBytes .dma a l
    (if d.bus.err then 2 else 0, d)

/-- Read a burst: beat after beat at a fixed address. -/
def Dev.burstRead (d : Dev) (inc : Bool) (a beat : Nat) : Nat → Nat × List Byte × Dev
  | 0 => (0, [], d)
  | n + 1 =>
    if inc then d.dmaRead a (beat * (n + 1))
    else
      match d.dmaRead a beat with
      | (0, l, d) =>
        match d.burstRead inc a beat n with
        | (e, l2, d) => (e, l ++ l2, d)
      | r => r

/-- Write a burst: beat after beat at a fixed address. -/
def Dev.burstWrite (d : Dev) (inc : Bool) (a beat : Nat) : Nat → List Byte → Nat × Dev
  | 0, _ => (0, d)
  | n + 1, l =>
    if inc then d.dmaWrite a l
    else
      match d.dmaWrite a (l.take beat) with
      | (0, d) => d.burstWrite inc a beat n (l.drop beat)
      | r => r

/-- One burst of a channel; `ecc`, what the ECC of the memory it reads finds (R27). -/
def Dev.burst (d : Dev) (c : Fin 16) (ecc : Ecc) : Dev :=
  let x := d.dma.ch[c]
  let src := d.rdN (DMA.CH_SADDR c)
  let dst := d.rdN (DMA.CH_DADDR c)
  let beat := if x.ctl.testBit 14 then 4 else 8
  let sinc := x.ctl.testBit 12
  let dinc := x.ctl.testBit 13
  let sw := x.ctl / 16 % 16
  let dw := x.ctl / 256 % 16
  let ps := d.pacers c
  let produced := ps.contains true
  let consumed := ps.contains false
  let limits := [if x.circ then none else some (d.get (DMA.CH_REM_REM c)), if produced then none else toWrap sinc sw src,
    if consumed then none else toWrap dinc dw dst, if produced then some (x.reqs.headD []).length else none]
  let n := limits.foldl (fun n o => match o with | some k => min n k | none => n) ((x.ctl % 16 + 1) * beat)
  let beats := (n + beat - 1) / beat
  let left := (x.reqs.headD []).drop n
  let d := d.modCh c fun y => { y with reqs := if produced && !left.isEmpty then left :: y.reqs.drop 1 else y.reqs.drop 1 }
  let read := !produced && (match memRegion src with | some g => eccRegion g | none => false)
  let d := if read && ecc == .corrected then d.eccCorrected else d
  if read && ecc == .uncorrectable then (d.eccLost src (masterNo .dma)).chAbort c 3
  else
    match (if produced then (0, (x.reqs.headD []).take n, d) else d.burstRead sinc src beat beats) with
    | (e + 1, _, d) => d.chAbort c (e + 1)
    | (0, l, d) =>
      match (if consumed then (0, d) else d.burstWrite dinc dst beat beats (l.take n)) with
      | (e + 1, d) => d.chAbort c (e + 1)
      | (0, d) =>
        let d := if produced then d else d.wrN (DMA.CH_SADDR c) (stepAddr sinc sw src n)
        let d := if consumed then d else d.wrN (DMA.CH_DADDR c) (stepAddr dinc dw dst n)
        let d := if x.circ then d else d.set (DMA.CH_REM_REM c) (d.get (DMA.CH_REM_REM c) - n)
        let d := d.modCh c fun y => { y with last := if dinc then stepAddr dinc dw dst n else dst + beat }
        if x.circ && d.bit (Hdr.DRAINING DMA.page) then d.chAbort c 9 else d

/-- DMA_BURST (R422): the engine grants one burst. -/
def execDmaBurst (ecc : Ecc) (s : State) : Out :=
  s.on fun d => match d.grantLevel with
    | none => d
    | some l => match d.grantCh l with
      | none => d
      | some c => (d.granted l c).burst c ecc

/-! ### The end of a descriptor (R417, R420) -/

/-- What follows a descriptor: NEXT, or the end of the chain. A drain does not follow NEXT (R423). -/
def Dev.chNext (d : Dev) (c : Fin 16) : Dev :=
  let x := d.dma.ch[c]
  if x.next = 0 then (d.setBit (DMA.CH_STAT_DONE c) true).chStop c
  else if d.bit (Hdr.DRAINING DMA.page) then d.chStop c
  else d.chFetch c x.next

/-- DESCRIPTOR_END: LEN bytes have moved. -/
def execDescriptorEnd (c : Fin 16) (s : State) : Out :=
  s.on fun d =>
    let x := d.dma.ch[c]
    if !d.chActive c || !d.unclaimed c || x.circ || d.get (DMA.CH_REM_REM c) != 0 then d
    else
      match (if x.ctl.testBit 16 then d.dmaWrite x.cwAddr (leBytes 4 x.cwData) else (0, d)) with
      | (e + 1, d) => d.chAbort c (e + 1)
      | (0, d) => (if x.ctl.testBit 15 then d.setBit (DMA.CH_STAT_DESC_END c) true else d).chNext c

end Sys2Proof.Machine
end

