-- ==== Sys2Proof/Machine/Host.lean ====
section
/-!
DEFINITION. The host interface (ch. 21): messages in and out on both links, the register window, the system family.
-/
namespace Sys2Proof.Machine

open Sys2Proof

/-- Change the HIF. -/
def Dev.modHif (d : Dev) (f : HifInt → HifInt) : Dev := { d with hif := f d.hif }

/-! ### Requests in (R472–R475) -/

/-- The tags of a payload in order; none where a TLV overruns it (R473). -/
def tlvTags : Nat → List Byte → Option (List Nat)
  | 0, l => if l.isEmpty then some [] else none
  | n + 1, l =>
    match l with
    | [] => some []
    | t :: a :: b :: r =>
      let k := a.toNat + 256 * b.toNat
      if r.length < k then none else (tlvTags n (r.drop k)).map fun ts => t.toNat :: ts
    | _ => none

/-- The tags below 0x80 that a request defines (R257, R349, R479, R485); none where the message's table gives its contents
without tag numbers. -/
def requestTags : Nat → Option (List Nat)
  | 0x0101 => some []
  | 0x0201 => some [0x01, 0x02, 0x06]
  | 0x0202 => some [0x01, 0x03]
  | 0x0203 => some [0x01, 0x04]
  | 0x0401 => some [0x10, 0x11, 0x12]
  | 0x0402 => some [0x13, 0x15]
  | 0x0403 => some [0x06, 0x15]
  | 0x0404 => some [0x15]
  | 0x0501 => some []
  | _ => none

/-- The payload keeps the rules of R473: no TLV overruns it, no tag twice, below 0x80 only tags the message defines. -/
def tlvOk (typ : Nat) (l : List Byte) : Bool :=
  match tlvTags l.length l with
  | some ts => ts.length == ts.eraseDups.length && ts.all fun t => decide (0x80 ≤ t) || ((requestTags typ).map (·.contains t)).getD true
  | none => false

/-- TYPE names a family that is served now (R477, R528). -/
def Dev.familyOk (d : Dev) (typ : Nat) : Bool :=
  let f := typ / 256
  decide (1 ≤ f ∧ f ≤ 9) && (f != 9 || d.openPart)

/-- What the boot ROM serves in recovery (R505, R506): SYS_INFO, the update family, role challenge, open and close. -/
def recoveryServes (t : Nat) : Bool := t == 0x0101 || t / 256 == 4 || [0x0502, 0x0503, 0x0504].contains t

/-- Why a request that has been accepted is answered by the HIF itself, if it is (R473, R477, R481, R505, R528). SYS_EXPERT is the
HIF's own (R479). -/
def Dev.hifRefusal (d : Dev) (l : Link) (h : HmpMsg) : Option Nat :=
  let t := h.typ.toNat
  if !d.familyOk t || !tlvOk t h.payload then some Err.RANGE
  else if d.bit TST.STAT_PROD then rejectIf (l != .spi || (t != 0x0101 && t / 256 != 9)) Err.BUSY
  else if d.bit SYS.STAT_RECOVERY then rejectIf (l != .spi || !recoveryServes t) Err.BUSY
  else rejectIf (!d.bit HIF.STAT_FW_READY && t != 0x0102) Err.BUSY

/-- Answer a request that has not been queued, with a status alone. -/
def Dev.hifAnswer (d : Dev) (l : Link) (peer : Option EthPeer) (h : HmpMsg) (role st : Nat) : Dev :=
  (d.toHost { link := l, typ := h.typ.toNat, tag := h.tag.toNat, status := st, role := role, peer := peer }).modHif fun x =>
    { x with rx := d.hif.rx }

/-- The link has carried a request; the RMII link keeps its source, an authenticated one apart (R471). -/
def Dev.linkUsed (d : Dev) (l : Link) (peer : Option EthPeer) (auth : Bool) : Dev :=
  let d := if d.links.contains l then d else { d with links := d.links ++ [l] }
  d.modHif fun x => { x with peerAny := peer.or x.peerAny, peerAuth := if auth then peer.or x.peerAuth else x.peerAuth }

/-- A request whose authentication holds: answered at once, or queued for its family. -/
def Dev.hifTake (d : Dev) (l : Link) (peer : Option EthPeer) (h : HmpMsg) : Dev :=
  let d := d.linkUsed l peer (h.role != 0)
  match d.hifRefusal l h with
  | some e => d.hifAnswer l peer h h.role.toNat e
  | none =>
    let r : HifReq :=
      { link := l, typ := h.typ.toNat, tag := h.tag.toNat, role := h.role.toNat, payload := h.payload, peer := peer }
    (d.modHif fun x => { x with rx := x.rx ++ [r] }).raise HIF.page HIF.ev_RX

/-- A message of a link (R474). -/
def Dev.hifAccept (d : Dev) (l : Link) (peer : Option EthPeer) (h : HmpMsg) : Dev :=
  let role := h.role.toNat
  if role = 0 then d.hifTake l peer h
  else if role = 5 ∨ role = 6 then (d.linkUsed l peer false).hifAnswer l peer h 0 Err.ROLE_DENIED
  else
    let mine := fun (r : RoleSess) => r.role == role && r.link == l
    match d.roles.find? mine with
    | none => (d.linkUsed l peer false).hifAnswer l peer h 0 Err.ROLE_DENIED
    | some r =>
      if !h.macOk || !h.flags.toNat.testBit 2 then (d.bump HIF.CNT_AUTH_AUTH_FAIL).raise HIF.page HIF.ev_AUTH_FAIL
      else if h.seq.toNat ≤ r.rxSeq then d.bump HIF.CNT_AUTH_REPLAY
      else
        let d : Dev := { d with roles := d.roles.map fun r => if mine r then { r with rxSeq := h.seq.toNat, idle := 0 } else r }
        d.hifTake l peer h

/-- A closed loop of the HIF echoes a message to READ_MSG and serves no other (R521, R522). -/
def Dev.hifLooped (d : Dev) : Bool := d.bit (Hdr.LOOP_ENABLE HIF.page)

/-- A message arrives: one that does not match its header is discarded, one beyond the eighth request too (R470, R472, R475). -/
def Dev.hifArrive (d : Dev) (l : Link) (peer : Option EthPeer) (h : HmpMsg) : Dev :=
  if !h.whole || h.len.toNat != h.payload.length || decide (4352 < h.len.toNat) then d.bump HIF.CNT_FRAME_BAD_HDR
  else if 8 ≤ d.hifRx l then (d.bump HIF.CNT_FRAME_OVF).raise HIF.page HIF.ev_OVF
  else if d.hifLooped then (if l = .spi then d.modHif fun x => { x with echo := x.echo ++ [h] } else d)
  else d.hifAccept l peer h

/-- WRITE_MSG (R470). -/
def execWriteMsg (h : HmpMsg) (s : State) : Out := s.on fun d => if d.bit HIF.CFG_SPI_EN then d.hifArrive .spi none h else d

/-- The link-local address of R471: FE80::/64 and the EUI-64 of the MAC address 0x02, UID[0] to UID[4]. -/
def Dev.ethAddr (d : Dev) : BitVec 128 :=
  let u := (List.range 5).map fun i => (d.chip.uid >>> (8 * i)).toNat % 256
  let b := [0xFE, 0x80, 0, 0, 0, 0, 0, 0, 0, u.getD 0 0, u.getD 1 0, 0xFF, 0xFE, u.getD 2 0, u.getD 3 0, u.getD 4 0]
  BitVec.ofNat 128 (b.foldl (fun a x => 256 * a + x) 0)

/-- Frames leave on the RMII link (R471). A closed loop of the MAC returns them to the receiver, which drops them: none is
addressed to this MAC (R483, R521). -/
def Dev.ethPut (d : Dev) (l : List EthOut) : Dev :=
  let d := d.wrN ETH.CNT_TX (d.rdN ETH.CNT_TX + l.length)
  if d.bit (Hdr.LOOP_ENABLE ETH.page) then l.foldl (fun d _ => d.bump ETH.CNT_ERR_RX_DROP) d
  else d.modHif fun x => { x with ethOut := x.ethOut ++ l }

/-- A frame with a valid FCS, for this MAC or a group of it, that the HIF serves (R471, R483): host messages to ETH_PORT, echo
requests, solicitations of this address; none where it is dropped. -/
def Dev.ethServe (d : Dev) (dst : EthDst) (f : EthFrame) : Option Dev :=
  if dst = .other then none
  else match f with
    | .udp src port h => if port.toNat = d.get HIF.ETH_PORT_PORT then some (d.hifArrive .rmii (some src) h) else none
    | .echo src data => some (d.ethPut [.echoReply src data])
    | .solicit src target => some (if target = d.ethAddr then d.ethPut [.advert src target] else d)
    | .otherIp | .otherType => none

/-- ETH_DATAGRAM_RX (R471, R483): a frame on the RMII link; `fcs`, its frame check holds. -/
def execEthDatagramRx (fcs : Bool) (dst : EthDst) (f : EthFrame) (s : State) : Out :=
  s.on fun d =>
    if !d.enabled .ETH || !d.bit HIF.CFG_ETH_EN || d.bit (Hdr.LOOP_ENABLE ETH.page) then d
    else if !fcs then (d.bump ETH.CNT_ERR_RX_CRC).raise ETH.page ETH.ev_RX_ERR
    else match d.ethServe dst f with
      | some t => t.wrN ETH.CNT_RX (d.rdN ETH.CNT_RX + 1)
      | none => d.bump ETH.CNT_ERR_RX_DROP

/-! ### Messages out -/

/-- A transaction whose byte count does not match its command is discarded (R470). -/
def Dev.spiWhole (d : Dev) (whole : Bool) (k : Dev → Dev) : Dev :=
  if !d.bit HIF.CFG_SPI_EN then d else if whole then k d else d.bump HIF.CNT_FRAME_BAD_HDR

/-- READ_MSG (R470, R476): the oldest message of the SPI queue; in a closed loop what it has echoed. -/
def execReadMsg (whole : Bool) (s : State) : Out :=
  s.on fun d => d.spiWhole whole fun d =>
    if d.hifLooped then d.modHif fun x => { x with echoed := x.echo.head?, spiMsg := none, echo := x.echo.tail }
    else
      let m := d.hostOut.find? fun (m : HostMsg) => m.link == .spi
      let d : Dev := { d with hostOut := dropFirst (fun (m : HostMsg) => m.link == .spi) d.hostOut }
      let d := d.modHif fun x => { x with spiMsg := m, echoed := none }
      if m.isSome && d.hifTx .spi == 0 then d.raise HIF.page HIF.ev_TX_EMPTY else d

/-- Where a message of the RMII link goes (R471): an answer to the source of its request, a notice to the last authenticated
one, or to the last of any kind. -/
def Dev.ethDest (d : Dev) (m : HostMsg) : Option EthPeer := (m.peer.or d.hif.peerAuth).or d.hif.peerAny

/-- What waits for the RMII link leaves as datagrams (R471); a notice for which no address is known yet waits on. -/
def Dev.ethSend (d : Dev) : Dev :=
  let goes := fun (m : HostMsg) => m.link == .rmii && (d.ethDest m).isSome
  let l := d.hostOut.filterMap fun m => if m.link = .rmii then (d.ethDest m).map fun a => EthOut.msg a m else none
  if !d.enabled .ETH || !d.bit HIF.CFG_ETH_EN || l.isEmpty then d
  else ({ d with hostOut := d.hostOut.filter fun m => !goes m } : Dev).ethPut l

/-! ### SPI register window and status (R470, R480) -/

/-- The result of a register access by SPI: the word, and whether it failed. -/
def Dev.spiResult (d : Dev) (w : Nat) (fail : Bool) : Dev :=
  d.modHif fun x => { x with spiWord := if fail then 0 else BitVec.ofNat 32 w, regFail := fail }

/-- REG_READ (R480). -/
def execRegRead (a : Word) (whole : Bool) (s : State) : Out :=
  s.on fun d => d.spiWhole whole fun d =>
    let o := a.toNat - 0x40000000
    if a.toNat < 0x40000000 ∨ 0x40100000 ≤ a.toNat then d.spiResult 0 true
    else
      let r := d.busRead .hif o
      r.2.spiResult r.1 r.2.bus.err

/-- REG_WRITE (R480): in FIELD only while an OPERATOR session is open on the SPI link. -/
def execRegWrite (a w : Word) (whole : Bool) (s : State) : Out :=
  s.on fun d => d.spiWhole whole fun d =>
    let o := a.toNat - 0x40000000
    let served := d.chip.lifecycle != .field || d.roles.any fun r => r.role == 1 && r.link == .spi
    if !served || decide (a.toNat < 0x40000000) || decide (0x40100000 ≤ a.toNat) then d.spiResult 0 true
    else
      let d := d.busWrite .hif o w
      d.modHif fun x => { x with regFail := d.bus.err }

/-- Bytes of a host message on the wire (R472): header, payload, trailer if it has one. -/
def hmpBytes (h : HmpMsg) : Nat := 12 + h.payload.length + if h.flags.toNat.testBit 2 then 8 else 0

/-- Length of the next outgoing message: 0 if none waits, that of the message a loop echoes; else, the encoding of the message
being none the model holds, a free value. -/
def Dev.spiNextLen (d : Dev) : Nat × Dev :=
  if d.hifLooped then ((d.hif.echo.head?.map hmpBytes).getD 0, d)
  else if d.hifTx .spi = 0 then (0, d) else d.free

/-- SPI_STAT (R470). -/
def execSpiStat (whole : Bool) (s : State) : Out :=
  s.on fun d => d.spiWhole whole fun d =>
    let (n, d) := d.spiNextLen
    let b := fun (x : Bool) (k : Nat) => if x then 2 ^ k else 0
    let w := n % 65536 + b (decide (d.hifRx .spi < 8)) 16 + b (d.get HIF.CNT_FRAME_OVF != 0) 17 + b d.hif.regFail 18 +
      b (d.bit HIF.STAT_FW_READY) 19
    d.modHif fun x => { x with spiWord := BitVec.ofNat 32 w }

/-! ### The system family (R479) -/

/-- Serve a system message of the application: the role's session, and firmware that is ready (R481); production test and recovery
serve SYS_INFO without it (R505, R528). -/
def Dev.sysServe (d : Dev) (q : Req) (typ : Nat) (k : Dev → Nat × List Nat) : Dev :=
  if !d.roleOpen q then d.ledAnswer { q with role := 0 } typ Err.ROLE_DENIED
  else if !d.bit HIF.STAT_FW_READY && !(typ == 0x0101 && (d.bit TST.STAT_PROD || d.bit SYS.STAT_RECOVERY)) then d.ledAnswer q typ Err.BUSY
  else
    let r := k d
    d.ledAnswer q typ r.1 r.2

/-- SYS_INFO: UID, variant, lifecycle, image versions, BLKCAP of every page. -/
def execSysInfo (q : Req) (s : State) : Out :=
  s.on fun d => d.sysServe q 0x0101 fun d =>
    (Err.NONE, [d.chip.uid.toNat, d.chip.variant.code, lcCode d.chip.lifecycle] ++ d.upd.run.toList.map (·.version) ++
      allPages.map d.capWord)

/-- SYS_ECHO: up to 256 bytes come back. -/
def execSysEcho (q : Req) (data : List Byte) (s : State) : Out :=
  s.on fun d => d.sysServe q 0x0104 fun _ =>
    if 256 < data.length then (Err.RANGE, []) else (Err.NONE, data.map (·.toNat))

/-- SYS_EXPERT (R42, R479, R517): executed by the HIF, for an OPERATOR session of the link. -/
def execSysExpert (q : Req) (v : BitVec 8) (s : State) : Out :=
  s.on fun d =>
    if q.role ≠ 1 ∨ !d.roleOpen q then d.ledAnswer { q with role := if d.roleOpen q then q.role else 0 } 0x0102 Err.ROLE_DENIED
    else if v = 1 then (d.setBit SYS.EXPERT_EN_EN true).ledAnswer q 0x0102 Err.NONE
    else if v = 0 then d.expertShut.ledAnswer q 0x0102 Err.NONE
    else d.ledAnswer q 0x0102 Err.RANGE

end Sys2Proof.Machine
end

