-- ==== Sys2Proof/Machine/System.lean ====
section
/-!
DEFINITION. What the carousel and the RTC drive across the blocks: the tick of R53, the firing of event seats (R70, R71) and
the second tick (R61, R324).
-/
namespace Sys2Proof.Machine

open Sys2Proof

/-! ### Event seats (R68, R70, R71) -/

/-- The bay of an instance (R68). -/
def instBay (i : Nat) : Bay := if h : i / 4 < 4 then ⟨i / 4, h⟩ else 0

/-- The poles noted for the present carousel tick (R71). -/
def Dev.tickPoles (d : Dev) (l : Nat × List Nat) : List Nat := if l.1 = d.wheel / 1024 then l.2 else []

/-- A pole's opening instant: the coil is released while the path waits to open or opens pole by pole (R192), or where a seat has
closed the pole in this tick (R71). -/
def Dev.seatOpen (d : Dev) (n : Bay) (pole : Nat) : Dev :=
  let i := 4 * n.val + pole
  let d := d.modCar fun c => { c with opened := (d.wheel / 1024, i :: d.tickPoles c.opened) }
  if d.ctState n = Ct.OPEN_WAIT ∨ d.ctState n = Ct.OPENING ∨ (d.ctState n = Ct.CLOSING ∧ (d.tickPoles d.car.closed).contains i) then
    let first := d.ctState n == Ct.OPEN_WAIT
    let d := if first then d.modCtc n fun c => { c with timed := d.locked && !d.ctDc n } else d
    d.ctRelease n (if d.get (CTC.CFG_MODE n) = 0 then 7 else 2 ^ pole)
  else d

/-- A pole's closing instant (R188, R194): not where a seat has opened the pole in this tick (R71). -/
def Dev.seatClose (d : Dev) (n : Bay) (pole : Nat) : Dev :=
  let i := 4 * n.val + pole
  if (d.tickPoles d.car.opened).contains i then d
  else (d.modCar fun c => { c with closed := (d.wheel / 1024, i :: d.tickPoles c.closed) }).ctFire n
    (if d.get (CTC.CFG_MODE n) = 0 then 1 else 2 ^ pole) true

/-- The precharge relay closes under the permit (R68, R194). -/
def Dev.seatPre (d : Dev) (n : Bay) : Dev :=
  if d.ctState n = Ct.PRECHARGE ∧ d.bit (CTC.STAT_PERMIT n) then d.setBit (CTC.STATE_PRE n) true else d

/-- Dispatch an action (R68). -/
def Dev.seatAct (d : Dev) (action i : Nat) : Dev :=
  match action with
  | 0x01 => d.seatClose (instBay i) (i % 4)
  | 0x02 => d.seatOpen (instBay i) (i % 4)
  | 0x03 => d.seatPre (instBay i)
  | 0x04 => d.setBit (CTC.STATE_PRE (instBay i)) false
  | 0x05 => d.modImd (instBay i) fun x => { x with level := if d.draining (.IMD (instBay i)) then 0 else i % 4 }
  | 0x06 => if i < 4 then d.wavTrig i else d
  | 0x07 => if h : i < 16 then d.seatStart ⟨i, h⟩ else d
  | 0x08 => d.gpioSeat 0 i
  | 0x09 => d.gpioSeat 1 i
  | 0x0A => d.gpioSeat 2 i
  | 0x0B => if i < 4 then d.sarSeat i else d
  | 0x0C => d.raise CAR.page CAR.ev_SEAT
  | 0x10 => d.shareApply
  | 0x11 => if d.pairOn then d.pairSend 0x38 [d.wheel, if d.locked then 0 else 1] else d
  | _ => d

/-- A seat fires at an instant (R70): FIRED, a one-shot seat disarms, a series goes on from the next AU; the action is dispatched. -/
def Dev.seatGo (d : Dev) (k : Fin 64) (t : Nat) : Dev :=
  let d := (d.setWheel (max d.wheel t)).seatBit CAR.SEAT_FIRED k.val true
  let d := if d.get (CAR.SEAT_SCHED_MODE_N k.val) = 0 then d.seatCancel k.val
    else d.modCar fun x => { x with seatMin := x.seatMin.set k (t + 1) }
  d.seatAct (d.get (CAR.SEAT_CTL_ACTION k.val)) (d.get (CAR.SEAT_CTL_INST k.val))

/-- The last instant at which seats fire: a drain runs those of its cycle only (R47). -/
def Dev.seatLimit (d : Dev) (t : Nat) : Nat :=
  match d.car.drainCyc with
  | some c => min t (c * 65536 + 65535)
  | none => t

/-- The armed seat due first up to an instant, the lowest number of several (R71). -/
def Dev.seatNext (d : Dev) (t : Nat) : Option (Fin 64 × Nat) :=
  (List.finRange 64).foldl (fun (b : Option (Fin 64 × Nat)) k =>
    if d.seatArmed k.val && decide (d.seatDue k ≤ t) && b.all (fun e => decide (d.seatDue k < e.2)) then some (k, d.seatDue k)
    else b) none

/-- The seats due up to an instant fire, in the order of their instants and numbers (R71); `n` bounds how many. -/
def Dev.seatsRun : Nat → Nat → Dev → Dev
  | 0, _, d => d
  | n + 1, t, d =>
    match d.seatNext (d.seatLimit t) with
    | some (k, u) => Dev.seatsRun n t (d.seatGo k u)
    | none => d

/-- The wheel runs on to an instant (R54): never back; the seats due on the way fire, none while the carousel is off (R57). -/
def Dev.wheelTo (d : Dev) (t : Nat) : Dev :=
  if t < d.wheel then d
  else
    let d := if d.enabled .CAR then d.seatsRun 128 t else d
    d.setWheel (max d.wheel t)

/-- Where the present wheel cycle ends. -/
def Dev.cycleEnd (d : Dev) : Nat := (d.car.cyc + 1) * 65536

/-- SEAT_FIRE (R70, R71): the wheel reaches the instant of seat `k`, if that lies in the present cycle, and every seat due by then
fires. A seat cancelled in this very bridge cycle fires too. Nothing while the carousel is off (R57). -/
def execSeatFire (k : Fin 64) (s : State) : Out :=
  s.on fun d =>
    if !d.enabled .CAR then d
    else if d.seatArmed k.val then (if d.seatDue k < d.cycleEnd then d.wheelTo (max d.wheel (d.seatDue k)) else d)
    else match d.car.cut.find? fun e => e.1 == k.val && e.2.1 == d.now with
      | some e =>
        if e.2.2 < d.cycleEnd then
          let d := (d.modCar fun x => { x with cut := x.cut.filter fun f => f.1 != k.val }).wheelTo (max d.wheel e.2.2)
          d.seatGo k e.2.2
        else d
      | none => d

/-! ### The carousel tick (R45, R53) -/

/-- What is decided at the end of a carousel tick (R45): limits, power-path requests, a SHARE that came late (R441), a check that
waits (R96). -/
def Dev.tickWork (d : Dev) : Dev :=
  let d := d.forBays fun n d => if d.hasBay n then Dev.bayLimits n d else d
  let d := d.forBays fun n d => if d.hasBay n then Dev.ctTick n d else d
  let d := if d.ylr.late then d.shareApply else d
  d.rinjPoll

/-- The wheel reaches an instant that ends a tick: the seats due before it fire first. -/
def Dev.tickTo (d : Dev) (t : Nat) : Dev := (d.wheelTo (t - 1)).setWheel t

/-- CAR_TICK (R45, R53, R56): the present tick ends; nothing once the cycle has ended and its boundary is due. -/
def execCarTick (s : State) : Out :=
  s.on fun d => if d.cycleEnd ≤ d.wheel then d else ((d.carFollow).tickTo ((d.wheel / 1024 + 1) * 1024)).tickWork

/-! ### The cycle boundary and the source's crossings (R53, R56–R58) -/

/-- CAR_CYCLE_BOUNDARY (R53): the last tick ends with the cycle, if it has not; the strobe; the seats due at angle 0x0000. -/
def execCarCycleBoundary (c : CycleData) (s : State) : Out :=
  s.on fun d =>
    let d := d.carFollow
    let d := if d.cycleEnd ≤ d.wheel then d else (d.tickTo d.cycleEnd).tickWork
    let d := d.carCycle c 65536
    d.wheelTo d.wheel

/-- CAR_ZERO_CROSSING (R56–R58): the source's period in ns, its fundamental (i, q) in counts, the wheel angle at the crossing, and the
samples of the present cycle up to it. -/
def execCarZeroCrossing (period : Nat) (i q : Int) (angle : BitVec 16) (c : CycleData) (s : State) : Out :=
  s.on fun d => if d.enabled .CAR then (d.wheelTo (d.car.cyc * 65536 + angle.toNat)).carCrossing period i q angle.toNat c else d

/-! ### The second tick (R61, R324) -/

/-- The calibration ages of the converters (R101). -/
def Dev.calSecond (d : Dev) : Dev := (List.range 28).foldl (fun (d : Dev) c => if d.hasGroup (c / 7) then d.bump (calAge c) else d) d

/-- The T_OBEY counters run (R288, R296). -/
def Dev.obeySecond (d : Dev) : Dev :=
  d.forBays fun n d => d.set (PPY.OBEY_REMAIN n.val) (d.get (PPY.OBEY_REMAIN n.val) - 1000)

/-- The sessions of roles, the challenges, the random source's seed and the debug scope age (R341, R343, R344, R347). -/
def Dev.roleSecond (d : Dev) : Dev :=
  let d : Dev := { d with roles := d.roles.map fun (r : RoleSess) => { r with idle := r.idle + 1 } }
  let old := fun (c : Challenge) => { c with age := c.age + 1 }
  { d with vlt := { d.vlt with chals := d.vlt.chals.map old, dbgChal := d.vlt.dbgChal.map old, drbgSec := d.vlt.drbgSec + 1,
                                dbgSec := d.vlt.dbgSec + 1 } }

/-- One ms of a slew is worked off; the last one ends with SLEW_DONE (R305). -/
def slewStep (r : Int) : Int := if 1 < r then r - 1 else if r < -1 then r + 1 else r

/-- The RTC counts (VBAT domain). -/
def Dev.rtcCount (d : Dev) : Dev :=
  { d with rtc := { d.rtc with sec := d.rtc.sec + 1, ms := 0, slewRem := slewStep d.rtc.slewRem } }

/-- The carousel's part of a second (R61, R64), `adv` AU after the wheel's last instant. -/
def Dev.captureSecond (d : Dev) (adv : Nat) : Dev :=
  let d := d.wheelTo (min (d.wheel + adv) (d.cycleEnd - 1))
  ((d.carCapture d.rtc.sec).ledCapture d.rtc.sec).rebuildMissed d.rtc.sec d.wheel

/-- RTC_SECOND_TICK (R61, R324). -/
def execRtcSecondTick (adv : BitVec 10) (s : State) : Out :=
  s.vbat fun d =>
    let d := d.rtcCount
    if d.pwr.off then d
    else
      let d := ((d.raise RTC.page RTC.ev_SECOND).captureSecond adv.toNat).alarmCheck
      let d := d.calSecond.rcdSecond.safSecond.obeySecond.roleSecond.tempSecond
      let d := (d.shareSecond.cardSecond.bump TST.SCRUB_STAT_AGE).trialSecond.testSecond.rtcRefresh
      d.legalShow

/-! ### A bridge cycle (R38) -/

/-- One bridge cycle with no command: the events of the last one fall, the hardware of PAIR and UPD follows what has changed,
pads and levels of the serial pages stand as they are, messages of the RMII link leave. With the domains off nothing runs (R515). -/
def Dev.cycle (d : Dev) : Dev :=
  if d.pwr.off then d
  else
    let d := d.plicLatch
    let d : Dev := { d with now := d.now + 1, raw := [], mboxIrq := [] }
    d.gpioPads.uartsLevel.carFollow.cardWatch.pairFollow.updFollow.ethSend

end Sys2Proof.Machine
end

