-- ==== Sys2Proof/Machine/Dispatch.lean ====
section
/-!
DEFINITION. The dispatch: one arm per constructor of `Instr`, each one direct call of the command's meaning.
-/
namespace Sys2Proof.Machine

open Sys2Proof

/-- The effect of a command on everything but the queue. -/
def exec (i : Instr) (s : State) : Host.Outcome State Fault Refusal :=
  match i with
  | .chipReset cause pairRole testMode => Sys2Proof.Machine.execChipReset cause pairRole testMode s
  | .powerOnReset pairRole testMode => Sys2Proof.Machine.execPowerOnReset pairRole testMode s
  | .porstN pairRole testMode => Sys2Proof.Machine.execPorstN pairRole testMode s
  | .resetN pairRole testMode => Sys2Proof.Machine.execResetN pairRole testMode s
  | .trstN => Sys2Proof.Machine.execTrstN s
  | .powerGood vsup => Sys2Proof.Machine.execPowerGood vsup s
  | .bootStageDone g => Sys2Proof.Machine.execBootStageDone g s
  | .watchdogExpiry dom => Sys2Proof.Machine.execWatchdogExpiry dom s
  | .processorFault f => Sys2Proof.Machine.execProcessorFault f s
  | .drstApp m => Sys2Proof.Machine.execDrstApp m s
  | .drstSaf m => Sys2Proof.Machine.execDrstSaf m s
  | .drstLgl m => Sys2Proof.Machine.execDrstLgl m s
  | .drstVlt m => Sys2Proof.Machine.execDrstVlt m s
  | .crst m w => Sys2Proof.Machine.execCrst m w s
  | .wdtKick m => Sys2Proof.Machine.execWdtKick m s
  | .memoryAccess a => Sys2Proof.Machine.execMemoryAccess a s
  | .scrubPass cor uncor => Sys2Proof.Machine.execScrubPass cor uncor s
  | .fwViolClr m => Sys2Proof.Machine.execFwViolClr m s
  | .mailboxWrIdxWrite m src dst v => Sys2Proof.Machine.execMailboxWrIdxWrite m src dst v s
  | .mailboxRdIdxWrite m src dst v => Sys2Proof.Machine.execMailboxRdIdxWrite m src dst v s
  | .fragmentTrainReceive t => Sys2Proof.Machine.execFragmentTrainReceive t s
  | .clockFault lost => Sys2Proof.Machine.execClockFault lost s
  | .clockRecovered => Sys2Proof.Machine.execClockRecovered s
  | .registerWrite m a w => Sys2Proof.Machine.execRegisterWrite m a w s
  | .loRegisterRead m a => Sys2Proof.Machine.execLoRegisterRead m a s
  | .blockEnable m page => Sys2Proof.Machine.execBlockEnable m page s
  | .blockDisable m page => Sys2Proof.Machine.execBlockDisable m page s
  | .blockForceOff m page => Sys2Proof.Machine.execBlockForceOff m page s
  | .blockDrainSet m page on => Sys2Proof.Machine.execBlockDrainSet m page on s
  | .drainComplete page => Sys2Proof.Machine.execDrainComplete page s
  | .drainTimeout page => Sys2Proof.Machine.execDrainTimeout page s
  | .ownerChange m page owner => Sys2Proof.Machine.execOwnerChange m page owner s
  | .expclose m page => Sys2Proof.Machine.execExpclose m page s
  | .pageLock m page => Sys2Proof.Machine.execPageLock m page s
  | .expkeyWrite m page w => Sys2Proof.Machine.execExpkeyWrite m page w s
  | .irqStatClear m page w => Sys2Proof.Machine.execIrqStatClear m page w s
  | .irqSetWrite m page w => Sys2Proof.Machine.execIrqSetWrite m page w s
  | .loopbackSet m page w => Sys2Proof.Machine.execLoopbackSet m page w s
  | .testQueuedStart page => Sys2Proof.Machine.execTestQueuedStart page s
  | .testComplete page pass ms => Sys2Proof.Machine.execTestComplete page pass ms s
  | .testQueueTimeout page => Sys2Proof.Machine.execTestQueueTimeout page s
  | .carSourceChange m w => Sys2Proof.Machine.execCarSourceChange m w s
  | .carZeroCrossing period iv q angle c => Sys2Proof.Machine.execCarZeroCrossing period iv q angle c s
  | .sourceLost => Sys2Proof.Machine.execSourceLost s
  | .carCycleBoundary c => Sys2Proof.Machine.execCarCycleBoundary c s
  | .carTick => Sys2Proof.Machine.execCarTick s
  | .rtcSecondTick adv => Sys2Proof.Machine.execRtcSecondTick adv s
  | .intervalBoundary => Sys2Proof.Machine.execIntervalBoundary s
  | .seatWrite m k word w => Sys2Proof.Machine.execSeatWrite m k word w s
  | .seatArm m hi mask => Sys2Proof.Machine.execSeatArm m hi mask s
  | .seatCancel m hi mask => Sys2Proof.Machine.execSeatCancel m hi mask s
  | .seatFire k => Sys2Proof.Machine.execSeatFire k s
  | .initialCalibrationDone refOk faults => Sys2Proof.Machine.execInitialCalibrationDone refOk faults s
  | .rotationStep g gain ofs => Sys2Proof.Machine.execRotationStep g gain ofs s
  | .shadowResult g samples relGain relOfs dGain dOfs => Sys2Proof.Machine.execShadowResult g samples relGain relOfs dGain dOfs s
  | .calAged c => Sys2Proof.Machine.execCalAged c s
  | .shadowGrant g on => Sys2Proof.Machine.execShadowGrant g on s
  | .mapEntryWrite m iv w => Sys2Proof.Machine.execMapEntryWrite m iv w s
  | .mapCrcCompare => Sys2Proof.Machine.execMapCrcCompare s
  | .mdatStuck iv => Sys2Proof.Machine.execMdatStuck iv s
  | .mdatRecover iv => Sys2Proof.Machine.execMdatRecover iv s
  | .mclkLoss k lost err => Sys2Proof.Machine.execMclkLoss k lost err s
  | .refFault => Sys2Proof.Machine.execRefFault s
  | .rinjStart m w => Sys2Proof.Machine.execRinjStart m w s
  | .rinjDone avg => Sys2Proof.Machine.execRinjDone avg s
  | .wavArm m => Sys2Proof.Machine.execWavArm m s
  | .wavTrigger m cause => Sys2Proof.Machine.execWavTrigger m cause s
  | .wavDone => Sys2Proof.Machine.execWavDone s
  | .wavStop m => Sys2Proof.Machine.execWavStop m s
  | .wavOverrun n => Sys2Proof.Machine.execWavOverrun n s
  | .sensorParamLoad m p r w => Sys2Proof.Machine.execSensorParamLoad m p r w s
  | .meterCfgWrite m p w => Sys2Proof.Machine.execMeterCfgWrite m p w s
  | .harmonicWindowEnd p => Sys2Proof.Machine.execHarmonicWindowEnd p s
  | .rederrSet p i12 i13 => Sys2Proof.Machine.execRederrSet p i12 i13 s
  | .rederrClear p => Sys2Proof.Machine.execRederrClear p s
  | .eclr m p => Sys2Proof.Machine.execEclr m p s
  | .cpStateChange n => Sys2Proof.Machine.execCpStateChange n s
  | .diodeFail n => Sys2Proof.Machine.execDiodeFail n s
  | .diodeOkRestore n => Sys2Proof.Machine.execDiodeOkRestore n s
  | .ppMeasure n mv => Sys2Proof.Machine.execPpMeasure n mv s
  | .limitRegisterWrite m n k w => Sys2Proof.Machine.execLimitRegisterWrite m n k w s
  | .tableLoad m n w => Sys2Proof.Machine.execTableLoad m n w s
  | .tableValidationDone n => Sys2Proof.Machine.execTableValidationDone n s
  | .evtPost m n e => Sys2Proof.Machine.execEvtPost m n e s
  | .bayEventHandle n => Sys2Proof.Machine.execBayEventHandle n s
  | .bayTimerExpiry n k => Sys2Proof.Machine.execBayTimerExpiry n k s
  | .endList n => Sys2Proof.Machine.execEndList n s
  | .setDuty n arg => Sys2Proof.Machine.execSetDuty n arg s
  | .setStateX1 n => Sys2Proof.Machine.execSetStateX1 n s
  | .setStateX2 n => Sys2Proof.Machine.execSetStateX2 n s
  | .cpNeg n => Sys2Proof.Machine.execCpNeg n s
  | .startSlac n => Sys2Proof.Machine.execStartSlac n s
  | .requestAuth n methods => Sys2Proof.Machine.execRequestAuth n methods s
  | .notifyHost n code => Sys2Proof.Machine.execNotifyHost n code s
  | .lock n on => Sys2Proof.Machine.execLock n on s
  | .hlcStop n => Sys2Proof.Machine.execHlcStop n s
  | .ctCloseAt n pre => Sys2Proof.Machine.execCtCloseAt n pre s
  | .ctOpenAt n pre => Sys2Proof.Machine.execCtOpenAt n pre s
  | .startTimer n k ms => Sys2Proof.Machine.execStartTimer n k ms s
  | .stopTimer n k => Sys2Proof.Machine.execStopTimer n k s
  | .limitCurrent n iv => Sys2Proof.Machine.execLimitCurrent n iv s
  | .openSession n => Sys2Proof.Machine.execOpenSession n s
  | .startMetering n => Sys2Proof.Machine.execStartMetering n s
  | .endSession n => Sys2Proof.Machine.execEndSession n s
  | .rcdTest n => Sys2Proof.Machine.execRcdTest n s
  | .imdRun n on => Sys2Proof.Machine.execImdRun n on s
  | .postEvent n e => Sys2Proof.Machine.execPostEvent n e s
  | .snetResume n => Sys2Proof.Machine.execSnetResume n s
  | .sessionHandover n => Sys2Proof.Machine.execSessionHandover n s
  | .reqPop n => Sys2Proof.Machine.execReqPop n s
  | .stopReqHost m n => Sys2Proof.Machine.execStopReqHost m n s
  | .stopRequest n mask => Sys2Proof.Machine.execStopRequest n mask s
  | .bayStopTimeout n => Sys2Proof.Machine.execBayStopTimeout n s
  | .ucodeLoaded n ok ver => Sys2Proof.Machine.execUcodeLoaded n ok ver s
  | .ucodeReload n => Sys2Proof.Machine.execUcodeReload n s
  | .keySet m n => Sys2Proof.Machine.execKeySet m n s
  | .linkReset m n => Sys2Proof.Machine.execLinkReset m n s
  | .plcStationJoin n mac => Sys2Proof.Machine.execPlcStationJoin n mac s
  | .plcFrameRx n f => Sys2Proof.Machine.execPlcFrameRx n f s
  | .plcFrameTx n f => Sys2Proof.Machine.execPlcFrameTx n f s
  | .arbitrationDecision run => Sys2Proof.Machine.execArbitrationDecision run s
  | .soundSlotExpiry n k => Sys2Proof.Machine.execSoundSlotExpiry n k s
  | .modemWake n => Sys2Proof.Machine.execModemWake n s
  | .t1sFrameRx n mac data collided => Sys2Proof.Machine.execT1sFrameRx n mac data collided s
  | .gslotLoad m k w => Sys2Proof.Machine.execGslotLoad m k w s
  | .exiJobStart m w => Sys2Proof.Machine.execExiJobStart m w s
  | .exiJobDone r => Sys2Proof.Machine.execExiJobDone r s
  | .canTxPush m k w => Sys2Proof.Machine.execCanTxPush m k w s
  | .canRxPop m k => Sys2Proof.Machine.execCanRxPop m k s
  | .canFrameRx k f err => Sys2Proof.Machine.execCanFrameRx k f err s
  | .canFrameTx k ok => Sys2Proof.Machine.execCanFrameTx k ok s
  | .permitWithdrawn n hl => Sys2Proof.Machine.execPermitWithdrawn n hl s
  | .economiserStart n => Sys2Proof.Machine.execEconomiserStart n s
  | .ctFbChange n high => Sys2Proof.Machine.execCtFbChange n high s
  | .makeObserved n pole us vx sup => Sys2Proof.Machine.execMakeObserved n pole us vx sup s
  | .breakObserved n pole us vx => Sys2Proof.Machine.execBreakObserved n pole us vx s
  | .noMakeTimeout n => Sys2Proof.Machine.execNoMakeTimeout n s
  | .breakCheckTimeout n v => Sys2Proof.Machine.execBreakCheckTimeout n v s
  | .dcOpenCurrentLow n iv => Sys2Proof.Machine.execDcOpenCurrentLow n iv s
  | .dcOpenTimeout n => Sys2Proof.Machine.execDcOpenTimeout n s
  | .prechargeReached n chg veh => Sys2Proof.Machine.execPrechargeReached n chg veh s
  | .prechargeOverlapEnd n => Sys2Proof.Machine.execPrechargeOverlapEnd n s
  | .prechargeTimeout n => Sys2Proof.Machine.execPrechargeTimeout n s
  | .fwWaitExpiry n => Sys2Proof.Machine.execFwWaitExpiry n s
  | .weldClr m n v => Sys2Proof.Machine.execWeldClr m n v s
  | .lineVoltageReturn n v => Sys2Proof.Machine.execLineVoltageReturn n v s
  | .seedApply m n w => Sys2Proof.Machine.execSeedApply m n w s
  | .rcdTrip n a b => Sys2Proof.Machine.execRcdTrip n a b s
  | .curveApply m n => Sys2Proof.Machine.execCurveApply m n s
  | .rcdTripClr m n sound => Sys2Proof.Machine.execRcdTripClr m n sound s
  | .rcdDiscrepancy n aDc bDc => Sys2Proof.Machine.execRcdDiscrepancy n aDc bDc s
  | .discrepClear n => Sys2Proof.Machine.execDiscrepClear n s
  | .excFault n => Sys2Proof.Machine.execExcFault n s
  | .rcdPeriodicTestDue n => Sys2Proof.Machine.execRcdPeriodicTestDue n s
  | .rcdSelfTestStart n => Sys2Proof.Machine.execRcdSelfTestStart n s
  | .rcdSelfTestEnd n r => Sys2Proof.Machine.execRcdSelfTestEnd n r s
  | .imdStart m n => Sys2Proof.Machine.execImdStart m n s
  | .imdStop m n => Sys2Proof.Machine.execImdStop m n s
  | .imdPeriodResult n plus minus => Sys2Proof.Machine.execImdPeriodResult n plus minus s
  | .imdNoresult n => Sys2Proof.Machine.execImdNoresult n s
  | .channelHeartbeat hlMiss procMiss disagree hlCrc ownProc ownHl => Sys2Proof.Machine.execChannelHeartbeat hlMiss procMiss disagree hlCrc ownProc ownHl s
  | .hlChannelLost cause => Sys2Proof.Machine.execHlChannelLost cause s
  | .safetyStartupDone => Sys2Proof.Machine.execSafetyStartupDone s
  | .proofTestStart => Sys2Proof.Machine.execProofTestStart s
  | .proofTestEnd pass => Sys2Proof.Machine.execProofTestEnd pass s
  | .proofOverdue => Sys2Proof.Machine.execProofOverdue s
  | .siInputChange k a b => Sys2Proof.Machine.execSiInputChange k a b s
  | .siDiscrepancy k => Sys2Proof.Machine.execSiDiscrepancy k s
  | .siTestPulse k onB a b => Sys2Proof.Machine.execSiTestPulse k onB a b s
  | .sainSample iv mv => Sys2Proof.Machine.execSainSample iv mv s
  | .tempTrip iv => Sys2Proof.Machine.execTempTrip iv s
  | .ocgTrip n hl ma ms => Sys2Proof.Machine.execOcgTrip n hl ma ms s
  | .hlWeldDetect n v ms => Sys2Proof.Machine.execHlWeldDetect n v ms s
  | .snetEnter n cause => Sys2Proof.Machine.execSnetEnter n cause s
  | .snetExpire n => Sys2Proof.Machine.execSnetExpire n s
  | .tripPulseEnd p => Sys2Proof.Machine.execTripPulseEnd p s
  | .cfgWrite ofs val => Sys2Proof.Machine.execCfgWrite ofs val s
  | .cfgCommit => Sys2Proof.Machine.execCfgCommit s
  | .siClr mask => Sys2Proof.Machine.execSiClr mask s
  | .tripClr => Sys2Proof.Machine.execTripClr s
  | .proofNow => Sys2Proof.Machine.execProofNow s
  | .gateTest pass => Sys2Proof.Machine.execGateTest pass s
  | .tripOutputTest pass => Sys2Proof.Machine.execTripOutputTest pass s
  | .cfgCrcTest pass => Sys2Proof.Machine.execCfgCrcTest pass s
  | .cfgCrcSelfCheck crc => Sys2Proof.Machine.execCfgCrcSelfCheck crc s
  | .entryDrain => Sys2Proof.Machine.execEntryDrain s
  | .boundaryTransaction => Sys2Proof.Machine.execBoundaryTransaction s
  | .legalDomainStart replayed => Sys2Proof.Machine.execLegalDomainStart replayed s
  | .legalReady => Sys2Proof.Machine.execLegalReady s
  | .legalNotReadyTimeout => Sys2Proof.Machine.execLegalNotReadyTimeout s
  | .ledgerRead q o attr sel cont => Sys2Proof.Machine.execLedgerRead q o attr sel cont s
  | .legalParameterWrite q o val => Sys2Proof.Machine.execLegalParameterWrite q o val s
  | .rightsTableWrite q changes => Sys2Proof.Machine.execRightsTableWrite q changes s
  | .demandConfigWrite q p exp attr v => Sys2Proof.Machine.execDemandConfigWrite q p exp attr v s
  | .profileDefinitionWrite q p2 period defs => Sys2Proof.Machine.execProfileDefinitionWrite q p2 period defs s
  | .calendarStageWrite q ofs data => Sys2Proof.Machine.execCalendarStageWrite q ofs data s
  | .calendarCommit q => Sys2Proof.Machine.execCalendarCommit q s
  | .calendarClear q => Sys2Proof.Machine.execCalendarClear q s
  | .accountWrite q n attr v => Sys2Proof.Machine.execAccountWrite q n attr v s
  | .accountLoad q n amount id => Sys2Proof.Machine.execAccountLoad q n amount id s
  | .fallbackCheck n => Sys2Proof.Machine.execFallbackCheck n s
  | .llogAcknowledge q seq => Sys2Proof.Machine.execLlogAcknowledge q seq s
  | .clockSlew q ofs => Sys2Proof.Machine.execClockSlew q ofs s
  | .slewDone => Sys2Proof.Machine.execSlewDone s
  | .clockStep q ms => Sys2Proof.Machine.execClockStep q ms s
  | .clockStepApply => Sys2Proof.Machine.execClockStepApply s
  | .measure q p cycles => Sys2Proof.Machine.execMeasure q p cycles s
  | .measureComplete p => Sys2Proof.Machine.execMeasureComplete p s
  | .tamperAck q k => Sys2Proof.Machine.execTamperAck q k s
  | .sessionAuth bay num tariff id => Sys2Proof.Machine.execSessionAuth bay num tariff id s
  | .receiptSigned sig => Sys2Proof.Machine.execReceiptSigned sig s
  | .vaultWaitTimeout => Sys2Proof.Machine.execVaultWaitTimeout s
  | .mirrorRefresh => Sys2Proof.Machine.execMirrorRefresh s
  | .tamperInputEvent k => Sys2Proof.Machine.execTamperInputEvent k s
  | .tmpEvtClear m mask => Sys2Proof.Machine.execTmpEvtClear m mask s
  | .rtcAlarm => Sys2Proof.Machine.execRtcAlarm s
  | .alarmCtlWrite m en => Sys2Proof.Machine.execAlarmCtlWrite m en s
  | .zeroisation cause => Sys2Proof.Machine.execZeroisation cause s
  | .vltInfo q => Sys2Proof.Machine.execVltInfo q s
  | .roleChallenge q role => Sys2Proof.Machine.execRoleChallenge q role s
  | .roleOpen q role idx eph ok => Sys2Proof.Machine.execRoleOpen q role idx eph ok s
  | .roleClose q role => Sys2Proof.Machine.execRoleClose q role s
  | .roleSessionIdleTimeout link role => Sys2Proof.Machine.execRoleSessionIdleTimeout link role s
  | .keyGenerate q h => Sys2Proof.Machine.execKeyGenerate q h s
  | .keyLoad q blob slot tagOk => Sys2Proof.Machine.execKeyLoad q blob slot tagOk s
  | .keyUnload q slot => Sys2Proof.Machine.execKeyUnload q slot s
  | .keyPublic q slot => Sys2Proof.Machine.execKeyPublic q slot s
  | .sign q slot data intact => Sys2Proof.Machine.execSign q slot data intact s
  | .ecdh q slot peer intact => Sys2Proof.Machine.execEcdh q slot peer intact s
  | .mac q slot data tag intact => Sys2Proof.Machine.execMac q slot data tag intact s
  | .attest q nonce intact => Sys2Proof.Machine.execAttest q nonce intact s
  | .random q n => Sys2Proof.Machine.execRandom q n s
  | .anchorSet q role idx key => Sys2Proof.Machine.execAnchorSet q role idx key s
  | .keyTransfer q slot peer intact => Sys2Proof.Machine.execKeyTransfer q slot peer intact s
  | .keyToTag q slot intact => Sys2Proof.Machine.execKeyToTag q slot intact s
  | .rollbackSet q dom v => Sys2Proof.Machine.execRollbackSet q dom v s
  | .lifecycleSet q target => Sys2Proof.Machine.execLifecycleSet q target s
  | .debugChallenge q scope => Sys2Proof.Machine.execDebugChallenge q scope s
  | .debugOpen q ok => Sys2Proof.Machine.execDebugOpen q ok s
  | .debugScopeExpiry => Sys2Proof.Machine.execDebugScopeExpiry s
  | .vaultTamperCfg q en => Sys2Proof.Machine.execVaultTamperCfg q en s
  | .trngHealthFail => Sys2Proof.Machine.execTrngHealthFail s
  | .trngRetest pass => Sys2Proof.Machine.execTrngRetest pass s
  | .drbgReseed => Sys2Proof.Machine.execDrbgReseed s
  | .nfrFieldOn m => Sys2Proof.Machine.execNfrFieldOn m s
  | .nfrFieldOff m => Sys2Proof.Machine.execNfrFieldOff m s
  | .lpcdStart m => Sys2Proof.Machine.execLpcdStart m s
  | .lpcdPulse amp => Sys2Proof.Machine.execLpcdPulse amp s
  | .transceive m => Sys2Proof.Machine.execTransceive m s
  | .anticoll m => Sys2Proof.Machine.execAnticoll m s
  | .nfrAbort m => Sys2Proof.Machine.execNfrAbort m s
  | .nfrRxDone r => Sys2Proof.Machine.execNfrRxDone r s
  | .listClear m => Sys2Proof.Machine.execListClear m s
  | .listDataWrite m w => Sys2Proof.Machine.execListDataWrite m w s
  | .loadDone m => Sys2Proof.Machine.execLoadDone m s
  | .nfrTagTest pass => Sys2Proof.Machine.execNfrTagTest pass s
  | .tagFieldOn own => Sys2Proof.Machine.execTagFieldOn own s
  | .tagFieldLoss => Sys2Proof.Machine.execTagFieldLoss s
  | .reqb n afi wake => Sys2Proof.Machine.execReqb n afi wake s
  | .xreqb afi param => Sys2Proof.Machine.execXreqb afi param s
  | .xmark std sl => Sys2Proof.Machine.execXmark std sl s
  | .readSigB pupi => Sys2Proof.Machine.execReadSigB pupi s
  | .attrib pupi => Sys2Proof.Machine.execAttrib pupi s
  | .hltb pupi => Sys2Proof.Machine.execHltb pupi s
  | .readBinary ofs le => Sys2Proof.Machine.execReadBinary ofs le s
  | .getSig p le => Sys2Proof.Machine.execGetSig p le s
  | .getInfo p le => Sys2Proof.Machine.execGetInfo p le s
  | .authBegin p le => Sys2Proof.Machine.execAuthBegin p le s
  | .authEnd p len ok => Sys2Proof.Machine.execAuthEnd p len ok s
  | .verifyPwd p pwd => Sys2Proof.Machine.execVerifyPwd p pwd s
  | .writeRecord p txn data macOk cut => Sys2Proof.Machine.execWriteRecord p txn data macOk cut s
  | .hostRecordWrite m rec => Sys2Proof.Machine.execHostRecordWrite m rec s
  | .hostRecordCommit => Sys2Proof.Machine.execHostRecordCommit s
  | .hostDataRead m busy => Sys2Proof.Machine.execHostDataRead m busy s
  | .updXyGo m mode => Sys2Proof.Machine.execUpdXyGo m mode s
  | .epdrGo m mode => Sys2Proof.Machine.execEpdrGo m mode s
  | .regionStart => Sys2Proof.Machine.execRegionStart s
  | .epdFrame late sns => Sys2Proof.Machine.execEpdFrame late sns s
  | .regionEnd id => Sys2Proof.Machine.execRegionEnd id s
  | .wbAck m => Sys2Proof.Machine.execWbAck m s
  | .rectWrite m wh w => Sys2Proof.Machine.execRectWrite m wh w s
  | .railIdleOff => Sys2Proof.Machine.execRailIdleOff s
  | .railFault cause => Sys2Proof.Machine.execRailFault cause s
  | .wfLoad m w => Sys2Proof.Machine.execWfLoad m w s
  | .bandLoad => Sys2Proof.Machine.execBandLoad s
  | .tempStale => Sys2Proof.Machine.execTempStale s
  | .blinkToggle k => Sys2Proof.Machine.execBlinkToggle k s
  | .blDataWrite m w => Sys2Proof.Machine.execBlDataWrite m w s
  | .cmdOn m mask => Sys2Proof.Machine.execCmdOn m mask s
  | .cmdOff m mask => Sys2Proof.Machine.execCmdOff m mask s
  | .nop frame => Sys2Proof.Machine.execNop frame s
  | .setOn frame => Sys2Proof.Machine.execSetOn frame s
  | .setOff frame => Sys2Proof.Machine.execSetOff frame s
  | .readStat frame => Sys2Proof.Machine.execReadStat frame s
  | .readCur frame => Sys2Proof.Machine.execReadCur frame s
  | .spiLatchClr frame => Sys2Proof.Machine.execSpiLatchClr frame s
  | .latchClr m mask => Sys2Proof.Machine.execLatchClr m mask s
  | .spiFrameError => Sys2Proof.Machine.execSpiFrameError s
  | .dinInputChange c level => Sys2Proof.Machine.execDinInputChange c level s
  | .lswCurrentLimit c ma => Sys2Proof.Machine.execLswCurrentLimit c ma s
  | .limitRecover c ma => Sys2Proof.Machine.execLimitRecover c ma s
  | .thermalTrip c => Sys2Proof.Machine.execThermalTrip c s
  | .lswRestart c dC => Sys2Proof.Machine.execLswRestart c dC s
  | .budgetCut meas => Sys2Proof.Machine.execBudgetCut meas s
  | .inrushWindowEnd c => Sys2Proof.Machine.execInrushWindowEnd c s
  | .openLoadDetect c sense => Sys2Proof.Machine.execOpenLoadDetect c sense s
  | .hmKick m => Sys2Proof.Machine.execHmKick m s
  | .hallMonitorExpiry port => Sys2Proof.Machine.execHallMonitorExpiry port s
  | .fsStore m => Sys2Proof.Machine.execFsStore m s
  | .fsStoreDone => Sys2Proof.Machine.execFsStoreDone s
  | .lswLimitTest pass => Sys2Proof.Machine.execLswLimitTest pass s
  | .dmaStart m c w => Sys2Proof.Machine.execDmaStart m c w s
  | .dmaAbort m c => Sys2Proof.Machine.execDmaAbort m c s
  | .pacingRequest c data => Sys2Proof.Machine.execPacingRequest c data s
  | .dmaBurst ecc => Sys2Proof.Machine.execDmaBurst ecc s
  | .descriptorEnd c => Sys2Proof.Machine.execDescriptorEnd c s
  | .linkSync p => Sys2Proof.Machine.execLinkSync p s
  | .hello p uid addr => Sys2Proof.Machine.execHello p uid addr s
  | .linkDown p silent viol => Sys2Proof.Machine.execLinkDown p silent viol s
  | .packetReceive p k => Sys2Proof.Machine.execPacketReceive p k s
  | .packetTransmit p busy => Sys2Proof.Machine.execPacketTransmit p busy s
  | .electionStart => Sys2Proof.Machine.execElectionStart s
  | .beacon uid => Sys2Proof.Machine.execBeacon uid s
  | .ringmasterElect => Sys2Proof.Machine.execRingmasterElect s
  | .rollcall p epoch => Sys2Proof.Machine.execRollcall p epoch s
  | .report r => Sys2Proof.Machine.execReport r s
  | .routesCompute => Sys2Proof.Machine.execRoutesCompute s
  | .routes data => Sys2Proof.Machine.execRoutes data s
  | .rollcallHoldExpiry => Sys2Proof.Machine.execRollcallHoldExpiry s
  | .rcCtlStart m => Sys2Proof.Machine.execRcCtlStart m s
  | .sync wt fw hops => Sys2Proof.Machine.execSync wt fw hops s
  | .demand src bays site => Sys2Proof.Machine.execDemand src bays site s
  | .shareDivision => Sys2Proof.Machine.execShareDivision s
  | .share bays cyc => Sys2Proof.Machine.execShare bays cyc s
  | .shareTimeout => Sys2Proof.Machine.execShareTimeout s
  | .txqWrWrite m w => Sys2Proof.Machine.execTxqWrWrite m w s
  | .ylrKeyWrite m w => Sys2Proof.Machine.execYlrKeyWrite m w s
  | .pairPeriodStart tokI => Sys2Proof.Machine.execPairPeriodStart tokI s
  | .heartbeat st unit tok flags fail seq phase => Sys2Proof.Machine.execHeartbeat st unit tok flags fail seq phase s
  | .heartbeatMissed => Sys2Proof.Machine.execHeartbeatMissed s
  | .takeoverGuardEnd tokI => Sys2Proof.Machine.execTakeoverGuardEnd tokI s
  | .pairStartWaitExpiry tokI => Sys2Proof.Machine.execPairStartWaitExpiry tokI s
  | .tokenRace stays => Sys2Proof.Machine.execTokenRace stays s
  | .resign cause => Sys2Proof.Machine.execResign cause s
  | .resignReceived reason item => Sys2Proof.Machine.execResignReceived reason item s
  | .deferredResign => Sys2Proof.Machine.execDeferredResign s
  | .takeover => Sys2Proof.Machine.execTakeover s
  | .session n v => Sys2Proof.Machine.execSession n v s
  | .ledger r => Sys2Proof.Machine.execLedger r s
  | .output n drv pre mode duty => Sys2Proof.Machine.execOutput n drv pre mode duty s
  | .pairMark mark => Sys2Proof.Machine.execPairMark mark s
  | .crossCheck minute pages late => Sys2Proof.Machine.execCrossCheck minute pages late s
  | .standbyReport card eligible => Sys2Proof.Machine.execStandbyReport card eligible s
  | .handover ack => Sys2Proof.Machine.execHandover ack s
  | .syncBlock progress r => Sys2Proof.Machine.execSyncBlock progress r s
  | .pairSyncComplete => Sys2Proof.Machine.execPairSyncComplete s
  | .pairStatus => Sys2Proof.Machine.execPairStatus s
  | .pairHandover w => Sys2Proof.Machine.execPairHandover w s
  | .pairRejoin w => Sys2Proof.Machine.execPairRejoin w s
  | .pairKey q blob => Sys2Proof.Machine.execPairKey q blob s
  | .writeMsg h => Sys2Proof.Machine.execWriteMsg h s
  | .readMsg whole => Sys2Proof.Machine.execReadMsg whole s
  | .regRead a whole => Sys2Proof.Machine.execRegRead a whole s
  | .regWrite a w whole => Sys2Proof.Machine.execRegWrite a w whole s
  | .spiStat whole => Sys2Proof.Machine.execSpiStat whole s
  | .ethDatagramRx fcs dst f => Sys2Proof.Machine.execEthDatagramRx fcs dst f s
  | .sysInfo q => Sys2Proof.Machine.execSysInfo q s
  | .sysExpert q v => Sys2Proof.Machine.execSysExpert q v s
  | .sysEcho q data => Sys2Proof.Machine.execSysEcho q data s
  | .fwReady m => Sys2Proof.Machine.execFwReady m s
  | .mdioAccess m w => Sys2Proof.Machine.execMdioAccess m w s
  | .phyLinkPoll up refclk => Sys2Proof.Machine.execPhyLinkPoll up refclk s
  | .updBegin q hdr sigV sigO => Sys2Proof.Machine.execUpdBegin q hdr sigV sigO s
  | .updBlock q img ofs crc data => Sys2Proof.Machine.execUpdBlock q img ofs crc data s
  | .updStatus q img first => Sys2Proof.Machine.execUpdStatus q img first s
  | .updEnd q img => Sys2Proof.Machine.execUpdEnd q img s
  | .reconstructionDone => Sys2Proof.Machine.execReconstructionDone s
  | .updApply q bundle => Sys2Proof.Machine.execUpdApply q bundle s
  | .updCancel q bundle => Sys2Proof.Machine.execUpdCancel q bundle s
  | .updateStepSwitch => Sys2Proof.Machine.execUpdateStepSwitch s
  | .confirm m => Sys2Proof.Machine.execConfirm m s
  | .updateRevert => Sys2Proof.Machine.execUpdateRevert s
  | .rollbackRetry busy => Sys2Proof.Machine.execRollbackRetry busy s
  | .supplyLevelEnter lvl vsup => Sys2Proof.Machine.execSupplyLevelEnter lvl vsup s
  | .supplyLevelLeave lvl vsup => Sys2Proof.Machine.execSupplyLevelLeave lvl vsup s
  | .shedStopTimeout n => Sys2Proof.Machine.execShedStopTimeout n s
  | .thermalLevelChange sv tvb => Sys2Proof.Machine.execThermalLevelChange sv tvb s
  | .thermalShutdown c => Sys2Proof.Machine.execThermalShutdown c s
  | .supplyMonitor vsup vsense vls vbat i33 icore => Sys2Proof.Machine.execSupplyMonitor vsup vsense vls vbat i33 icore s
  | .holdupEntry vsup vsense c => Sys2Proof.Machine.execHoldupEntry vsup vsense c s
  | .holdupStepAdvance dur vend => Sys2Proof.Machine.execHoldupStepAdvance dur vend s
  | .supplyReturnReset vsup vsense => Sys2Proof.Machine.execSupplyReturnReset vsup vsense s
  | .gpioSet m w => Sys2Proof.Machine.execGpioSet m w s
  | .gpioClr m w => Sys2Proof.Machine.execGpioClr m w s
  | .gpioTgl m w => Sys2Proof.Machine.execGpioTgl m w s
  | .gpioEdge k level => Sys2Proof.Machine.execGpioEdge k level s
  | .sarSequenceStart m mask => Sys2Proof.Machine.execSarSequenceStart m mask s
  | .sarSequenceDone vals => Sys2Proof.Machine.execSarSequenceDone vals s
  | .resultRead m c => Sys2Proof.Machine.execResultRead m c s
  | .uartTxPush m k c => Sys2Proof.Machine.execUartTxPush m k c s
  | .uartRxPop m k => Sys2Proof.Machine.execUartRxPop m k s
  | .uartCharRx k c pe fe brk => Sys2Proof.Machine.execUartCharRx k c pe fe brk s
  | .uartRxTimeout k => Sys2Proof.Machine.execUartRxTimeout k s
  | .txFlush m k => Sys2Proof.Machine.execTxFlush m k s
  | .rxFlush m k => Sys2Proof.Machine.execRxFlush m k s
  | .i2cGo m n w => Sys2Proof.Machine.execI2cGo m n w s
  | .i2cTransferEnd n e => Sys2Proof.Machine.execI2cTransferEnd n e s
  | .i2cTimeout n => Sys2Proof.Machine.execI2cTimeout n s
  | .recover m n => Sys2Proof.Machine.execRecover m n s
  | .ospiCmdGo m w => Sys2Proof.Machine.execOspiCmdGo m w s
  | .ospiWindowWrite m a data => Sys2Proof.Machine.execOspiWindowWrite m a data s
  | .flush m => Sys2Proof.Machine.execFlush m s
  | .pageBufferTimeout => Sys2Proof.Machine.execPageBufferTimeout s
  | .programDone => Sys2Proof.Machine.execProgramDone s
  | .programStallTimeout => Sys2Proof.Machine.execProgramStallTimeout s
  | .frameLoopTest n t1s pass => Sys2Proof.Machine.execFrameLoopTest n t1s pass s
  | .scrubTest pass => Sys2Proof.Machine.execScrubTest pass s
  | .linearitySweep pass => Sys2Proof.Machine.execLinearitySweep pass s
  | .trngCharacterisation pass => Sys2Proof.Machine.execTrngCharacterisation pass s
  | .testRun q page id now => Sys2Proof.Machine.execTestRun q page id now s
  | .loopSet q page depth en => Sys2Proof.Machine.execLoopSet q page depth en s
  | .meshCheck ok => Sys2Proof.Machine.execMeshCheck ok s
  | .tamperInputLeave k => Sys2Proof.Machine.execTamperInputLeave k s
  | .xt32Stop => Sys2Proof.Machine.execXt32Stop s
  | .thermalShutdownEnd tj => Sys2Proof.Machine.execThermalShutdownEnd tj s
  | .cpPwmPeriod n samples => Sys2Proof.Machine.execCpPwmPeriod n samples s
  | .plcLinkDown n => Sys2Proof.Machine.execPlcLinkDown n s
  | .plcaStatusChange n up => Sys2Proof.Machine.execPlcaStatusChange n up s
  | .uartCharTx k => Sys2Proof.Machine.execUartCharTx k s
  | .ospiCmdDone data => Sys2Proof.Machine.execOspiCmdDone data s
  | .mdioDone data => Sys2Proof.Machine.execMdioDone data s
  | .helloPeriod => Sys2Proof.Machine.execHelloPeriod s
  | .beaconPeriod => Sys2Proof.Machine.execBeaconPeriod s
  | .sessionPeriod => Sys2Proof.Machine.execSessionPeriod s

end Sys2Proof.Machine
end

