-- ==== Sys2Proof/Machine/Step.lean ====
section
/-!
DEFINITION. One step of the block: the command at the front of the queue, or one bridge cycle with nothing waiting.
-/
namespace Sys2Proof.Machine

open Sys2Proof

/-- A step (assumption 20): the oldest command that waits, on the queue's rest; with none waiting, one bridge cycle. -/
def step (s : State) : Host.Outcome State Fault Refusal :=
  match s.pending with
  | [] => .next { s with dev := s.dev.cycle }
  | c :: rest => exec c { s with pending := rest }

/-- The state with a table word's command in front: the table gives no row bits, so no word spells a command. -/
def State.withFetchWord (s : State) (nbits w : Nat) : State :=
  match Sys2Proof.decodeTableWord nbits w with
  | none => s
  | some c => { s with pending := c :: s.pending }

end Sys2Proof.Machine
end

