-- ==== Sys2Proof/WellFormed.lean ====
section
/-!
DEFINITION. Which commands can be sent: the ranges the spec gives to what the types of the operands leave wider.
-/
namespace Sys2Proof

/-- A request (R253, R472): a role of the table, a 16-bit tag. -/
def Req.ok (q : Req) : Bool := decide (q.role < 8) && decide (q.tag < 65536)

/-- Who asks the vault (R349): a host's request comes through the application. -/
def VltReq.ok (q : VltReq) : Bool := q.host.all Req.ok && (q.host.isNone || decide (q.dom = .app))

/-- The sender of a pair command: a bus master, or a host request. -/
def senderOk : Master ⊕ Req → Bool
  | .inl _ => true
  | .inr q => q.ok

/-- An OBIS code (R252): six bytes. -/
def Obis.ok (o : Obis) : Bool := [o.a, o.b, o.c, o.d, o.e, o.f].all fun x => decide (x < 256)

/-- SEL of a buffer read (R257). -/
def Sel.ok (x : Sel) : Bool := decide (x.max < 65536) && decide (x.lo < 2 ^ 32) && decide (x.hi < 2 ^ 32)

/-- A source of the channel map (R86): an AIN or an MDAT. -/
def sourceOk (i : Nat) : Bool := decide (i < 0x18) || decide (0x20 ≤ i ∧ i < 0x30)

/-- What the analog side presents at a boundary (R53, R86): a cycle has a length; each source is listed once. -/
def CycleData.ok (c : CycleData) : Bool :=
  decide (0 < c.periodNs) && (c.src.all fun x => sourceOk x.1) && decide ((c.src.map (·.1)).Nodup)

/-- A powerline frame (R160): a sound carries 58 groups. -/
def PlcFrame.ok : PlcFrame → Bool
  | .sound _ a => a.length == 58
  | .startAtten .. | .slacParmCnf .. | .attenChar .. | .slacMatch .. | .other .. => true

/-- A CAN frame (R173): as many bytes as its DLC says; a base identifier has 11 bits; only an FD frame switches its rate. -/
def CanFrame.ok (f : CanFrame) : Bool :=
  decide (f.data.length = Machine.canBytes f.fdf f.dlc) && (f.ide || decide (f.id.toNat < 2048)) && (f.fdf || !f.brs)

/-- A token of one of the kinds and types that exist (R167). -/
def ExiToken.ok (t : ExiToken) : Bool :=
  [1, 2, 3, 4, 5, 6, 15].contains t.kind.toNat && decide (t.typ.toNat < 8)

/-- What the codec finds (R167): tokens that exist. -/
def ExiResult.ok (r : ExiResult) : Bool := r.tokens.all ExiToken.ok

/-- A fabric packet (R428): 0 to 256 bytes of payload. -/
def Pkt.ok (k : Pkt) : Bool := decide (k.payload.length ≤ 256)

/-- An access of a bus master (R19): what it writes is 1 to 8 bytes, what it reads at least one. -/
def Access.ok (a : Access) : Bool :=
  match a.write with
  | some l => decide (0 < l.length) && decide (l.length ≤ 8)
  | none => decide (0 < a.len.val)

/-- A mailbox train (R478): between two domains, every index below its count. -/
def Train.ok (t : Train) : Bool := decide (t.src ≠ t.dst) && t.frags.all fun f => decide (f.index < f.count)

/-- A host message (R472): its payload is at most what LEN can say. -/
def HmpMsg.ok (h : HmpMsg) : Bool := decide (h.payload.length < 65536)

/-- An Ethernet frame (R483): what it carries fits a frame of 4,438 bytes. -/
def EthFrame.ok : EthFrame → Bool
  | .udp _ _ h => h.ok
  | .echo _ data => decide (data.length ≤ 4372)
  | .solicit _ _ | .otherIp | .otherType => true

/-- A REPORT (R434): one neighbour per port at most. -/
def Report.ok (r : Report) : Bool := decide (r.neigh.length ≤ 3)

/-- The bays of a DEMAND (R440): each at most once. -/
def bysOk (l : List BayDemand) : Bool := decide (l.length ≤ 4) && decide ((l.map (·.bay)).Nodup)

/-- A SESSION message (R452). -/
def PairSess.ok (v : PairSess) : Bool := decide (v.timers.length ≤ 8) && decide (v.learned.length ≤ 6) && decide (v.drv < 8)

/-- A LEDGER message (R456, R458). -/
def PairRec.ok : PairRec → Bool
  | .registers _ _ ap an _ _ rq => decide (ap.length ≤ 9) && decide (an.length ≤ 9) && decide (rq.length ≤ 4)
  | .session .. | .account .. | .disconnect .. | .closed .. => true

/-- A command that can be sent: its operands lie in the ranges the spec gives them. -/
def Instr.wellFormed : Instr → Bool
  | .memoryAccess a => a.ok
  | .mailboxWrIdxWrite _ src dst _ => decide (src ≠ dst)
  | .mailboxRdIdxWrite _ src dst _ => decide (src ≠ dst)
  | .fragmentTrainReceive t => t.ok
  | .carZeroCrossing period _ _ _ c => c.ok && decide (0 < period)
  | .carCycleBoundary c => c.ok
  | .plcFrameRx _ f => f.ok
  | .plcFrameTx _ f => f.ok
  | .t1sFrameRx _ _ data _ => decide (data.length ≤ 1522)
  | .exiJobDone r => r.ok
  | .canFrameRx _ f _ => f.ok
  | .makeObserved _ _ _ vx _ => decide (vx.length = 16)
  | .breakObserved _ _ _ vx => decide (vx.length = 4)
  | .hlChannelLost cause => decide (0 < cause.val) && decide (cause.val < 6)
  | .ledgerRead q o _ sel _ => q.ok && o.ok && sel.all Sel.ok
  | .legalParameterWrite q o _ => q.ok && o.ok
  | .rightsTableWrite q changes => q.ok && changes.all fun c => c.1.ok
  | .demandConfigWrite q _ _ _ _ => q.ok
  | .profileDefinitionWrite q _ _ _ => q.ok
  | .calendarStageWrite q _ _ => q.ok
  | .calendarCommit q => q.ok
  | .calendarClear q => q.ok
  | .accountWrite q _ _ _ => q.ok
  | .accountLoad q _ _ _ => q.ok
  | .llogAcknowledge q _ => q.ok
  | .clockSlew q _ => q.ok
  | .clockStep q _ => q.ok
  | .measure q _ _ => q.ok
  | .tamperAck q _ => q.ok
  | .sessionAuth _ _ _ id => decide (id.length ≤ 64)
  | .receiptSigned sig => decide (sig.length = 64)
  | .vltInfo q => q.ok
  | .roleChallenge q _ => q.ok
  | .roleOpen q _ _ eph _ => q.ok && decide (eph.length = 64)
  | .roleClose q _ => q.ok
  | .roleSessionIdleTimeout _ role => decide (role < 8)
  | .keyGenerate q _ => q.ok
  | .keyLoad q _ _ _ => q.ok
  | .keyUnload q _ => q.ok
  | .keyPublic q _ => q.ok
  | .sign q _ _ _ => q.ok
  | .ecdh q _ _ _ => q.ok
  | .mac q _ _ _ _ => q.ok
  | .attest q _ _ => q.ok
  | .random q _ => q.ok
  | .anchorSet q _ _ _ => q.ok
  | .keyTransfer q _ _ _ => q.ok
  | .keyToTag q _ _ => q.ok
  | .rollbackSet q _ _ => q.ok
  | .lifecycleSet q _ => q.ok
  | .debugChallenge q _ => q.ok
  | .debugOpen q _ => q.ok
  | .vaultTamperCfg q _ => q.ok
  | .verifyPwd _ pwd => decide (pwd.length = 8)
  | .packetReceive _ k => k.ok
  | .report r => r.ok
  | .demand _ bays _ => bysOk bays
  | .share bays _ => decide (bays.length = 4)
  | .session _ v => v.ok
  | .ledger r => r.ok
  | .syncBlock _ r => r.all PairRec.ok
  | .pairHandover w => senderOk w
  | .pairRejoin w => senderOk w
  | .pairKey q _ => q.ok
  | .writeMsg h => h.ok
  | .ethDatagramRx _ _ f => f.ok
  | .sysInfo q => q.ok
  | .sysExpert q _ => q.ok
  | .sysEcho q _ => q.ok
  | .updBegin q _ _ _ => q.ok
  | .updBlock q _ _ _ _ => q.ok
  | .updStatus q _ _ => q.ok
  | .updEnd q _ => q.ok
  | .updApply q _ => q.ok
  | .updCancel q _ => q.ok
  | .thermalShutdown c => c.ok
  | .holdupEntry _ _ c => c.ok
  | .testRun q _ _ _ => q.ok
  | .loopSet q _ _ _ => q.ok
  | .chipReset .. | .powerOnReset .. | .porstN .. | .resetN .. | .trstN .. | .powerGood .. | .bootStageDone ..
  | .watchdogExpiry .. | .processorFault .. | .drstApp .. | .drstSaf .. | .drstLgl .. | .drstVlt .. | .crst .. | .wdtKick ..
  | .scrubPass .. | .fwViolClr .. | .clockFault .. | .clockRecovered .. | .registerWrite .. | .loRegisterRead ..
  | .blockEnable .. | .blockDisable .. | .blockForceOff .. | .blockDrainSet .. | .drainComplete .. | .drainTimeout ..
  | .ownerChange .. | .expclose .. | .pageLock .. | .expkeyWrite .. | .irqStatClear .. | .irqSetWrite .. | .loopbackSet ..
  | .testQueuedStart .. | .testComplete .. | .testQueueTimeout .. | .carSourceChange .. | .sourceLost .. | .carTick ..
  | .rtcSecondTick .. | .intervalBoundary .. | .seatWrite .. | .seatArm .. | .seatCancel .. | .seatFire ..
  | .initialCalibrationDone .. | .rotationStep .. | .shadowResult .. | .calAged .. | .shadowGrant .. | .mapEntryWrite ..
  | .mapCrcCompare .. | .mdatStuck .. | .mdatRecover .. | .mclkLoss .. | .refFault .. | .rinjStart .. | .rinjDone ..
  | .wavArm .. | .wavTrigger .. | .wavDone .. | .wavStop .. | .wavOverrun .. | .sensorParamLoad .. | .meterCfgWrite ..
  | .harmonicWindowEnd .. | .rederrSet .. | .rederrClear .. | .eclr .. | .cpStateChange .. | .diodeFail ..
  | .diodeOkRestore .. | .ppMeasure .. | .limitRegisterWrite .. | .tableLoad .. | .tableValidationDone .. | .evtPost ..
  | .bayEventHandle .. | .bayTimerExpiry .. | .endList .. | .setDuty .. | .setStateX1 .. | .setStateX2 .. | .cpNeg ..
  | .startSlac .. | .requestAuth .. | .notifyHost .. | .lock .. | .hlcStop .. | .ctCloseAt .. | .ctOpenAt ..
  | .startTimer .. | .stopTimer .. | .limitCurrent .. | .openSession .. | .startMetering .. | .endSession .. | .rcdTest ..
  | .imdRun .. | .postEvent .. | .snetResume .. | .sessionHandover .. | .reqPop .. | .stopReqHost .. | .stopRequest ..
  | .bayStopTimeout .. | .ucodeLoaded .. | .ucodeReload .. | .keySet .. | .linkReset .. | .plcStationJoin ..
  | .arbitrationDecision .. | .soundSlotExpiry .. | .modemWake .. | .gslotLoad .. | .exiJobStart .. | .canTxPush ..
  | .canRxPop .. | .canFrameTx .. | .permitWithdrawn .. | .economiserStart .. | .ctFbChange .. | .noMakeTimeout ..
  | .breakCheckTimeout .. | .dcOpenCurrentLow .. | .dcOpenTimeout .. | .prechargeReached .. | .prechargeOverlapEnd ..
  | .prechargeTimeout .. | .fwWaitExpiry .. | .weldClr .. | .lineVoltageReturn .. | .seedApply .. | .rcdTrip ..
  | .curveApply .. | .rcdTripClr .. | .rcdDiscrepancy .. | .discrepClear .. | .excFault .. | .rcdPeriodicTestDue ..
  | .rcdSelfTestStart .. | .rcdSelfTestEnd .. | .imdStart .. | .imdStop .. | .imdPeriodResult .. | .imdNoresult ..
  | .channelHeartbeat .. | .safetyStartupDone .. | .proofTestStart .. | .proofTestEnd .. | .proofOverdue ..
  | .siInputChange .. | .siDiscrepancy .. | .siTestPulse .. | .sainSample .. | .tempTrip .. | .ocgTrip .. | .hlWeldDetect ..
  | .snetEnter .. | .snetExpire .. | .tripPulseEnd .. | .cfgWrite .. | .cfgCommit .. | .siClr .. | .tripClr ..
  | .proofNow .. | .gateTest .. | .tripOutputTest .. | .cfgCrcTest .. | .cfgCrcSelfCheck .. | .entryDrain ..
  | .boundaryTransaction .. | .legalDomainStart .. | .legalReady .. | .legalNotReadyTimeout .. | .fallbackCheck ..
  | .slewDone .. | .clockStepApply .. | .measureComplete .. | .vaultWaitTimeout .. | .mirrorRefresh ..
  | .tamperInputEvent .. | .tmpEvtClear .. | .rtcAlarm .. | .alarmCtlWrite .. | .zeroisation .. | .debugScopeExpiry ..
  | .trngHealthFail .. | .trngRetest .. | .drbgReseed .. | .nfrFieldOn .. | .nfrFieldOff .. | .lpcdStart .. | .lpcdPulse ..
  | .transceive .. | .anticoll .. | .nfrAbort .. | .nfrRxDone .. | .listClear .. | .listDataWrite .. | .loadDone ..
  | .nfrTagTest .. | .tagFieldOn .. | .tagFieldLoss .. | .reqb .. | .xreqb .. | .xmark .. | .readSigB .. | .attrib ..
  | .hltb .. | .readBinary .. | .getSig .. | .getInfo .. | .authBegin .. | .authEnd .. | .writeRecord ..
  | .hostRecordWrite .. | .hostRecordCommit .. | .hostDataRead .. | .updXyGo .. | .epdrGo .. | .regionStart ..
  | .epdFrame .. | .regionEnd .. | .wbAck .. | .rectWrite .. | .railIdleOff .. | .railFault .. | .wfLoad .. | .bandLoad ..
  | .tempStale .. | .blinkToggle .. | .blDataWrite .. | .cmdOn .. | .cmdOff .. | .nop .. | .setOn .. | .setOff ..
  | .readStat .. | .readCur .. | .spiLatchClr .. | .latchClr .. | .spiFrameError .. | .dinInputChange ..
  | .lswCurrentLimit .. | .limitRecover .. | .thermalTrip .. | .lswRestart .. | .budgetCut .. | .inrushWindowEnd ..
  | .openLoadDetect .. | .hmKick .. | .hallMonitorExpiry .. | .fsStore .. | .fsStoreDone .. | .lswLimitTest ..
  | .dmaStart .. | .dmaAbort .. | .pacingRequest .. | .dmaBurst .. | .descriptorEnd .. | .linkSync .. | .hello ..
  | .linkDown .. | .packetTransmit .. | .electionStart .. | .beacon .. | .ringmasterElect .. | .rollcall ..
  | .routesCompute .. | .routes .. | .rollcallHoldExpiry .. | .rcCtlStart .. | .sync .. | .shareDivision ..
  | .shareTimeout .. | .txqWrWrite .. | .ylrKeyWrite .. | .pairPeriodStart .. | .heartbeat .. | .heartbeatMissed ..
  | .takeoverGuardEnd .. | .pairStartWaitExpiry .. | .tokenRace .. | .resign .. | .resignReceived .. | .deferredResign ..
  | .takeover .. | .output .. | .pairMark .. | .crossCheck .. | .standbyReport .. | .handover .. | .pairSyncComplete ..
  | .pairStatus .. | .readMsg .. | .regRead .. | .regWrite .. | .spiStat .. | .fwReady .. | .mdioAccess .. | .phyLinkPoll ..
  | .reconstructionDone .. | .updateStepSwitch .. | .confirm .. | .updateRevert .. | .rollbackRetry ..
  | .supplyLevelEnter .. | .supplyLevelLeave .. | .shedStopTimeout .. | .thermalLevelChange .. | .supplyMonitor ..
  | .holdupStepAdvance .. | .supplyReturnReset .. | .gpioSet .. | .gpioClr .. | .gpioTgl .. | .gpioEdge ..
  | .sarSequenceStart .. | .sarSequenceDone .. | .resultRead .. | .uartTxPush .. | .uartRxPop .. | .uartCharRx ..
  | .uartRxTimeout .. | .txFlush .. | .rxFlush .. | .i2cGo .. | .i2cTransferEnd .. | .i2cTimeout .. | .recover ..
  | .ospiCmdGo .. | .ospiWindowWrite .. | .flush .. | .pageBufferTimeout .. | .programDone .. | .programStallTimeout ..
  | .frameLoopTest .. | .scrubTest .. | .linearitySweep .. | .trngCharacterisation .. | .meshCheck .. | .tamperInputLeave ..
  | .xt32Stop .. | .thermalShutdownEnd .. | .cpPwmPeriod .. | .plcLinkDown .. | .plcaStatusChange .. | .uartCharTx ..
  | .ospiCmdDone .. | .mdioDone .. | .helloPeriod .. | .beaconPeriod .. | .sessionPeriod .. => true

end Sys2Proof
end

