-- ==== Sys2Proof/Safety.lean ====
section
/-!
DEFINITION. The terms claims are stated in: the canonical form of registers and memories, a block whose domains are off, the
pages and fields a claim speaks of, and what counts as a safe run.
-/
namespace Sys2Proof.Machine

open Sys2Proof

/-- Registers and byte memories are in their canonical form. -/
def Dev.wf (d : Dev) : Bool := Sparse.wf resetWord d.regs && Memory.wf d.mem

/-- The same of a state. -/
def State.wf (s : State) : Bool := s.dev.wf

/-- A safe run: however many steps are taken, none ends in a fault or a refusal. -/
def Safe (s : State) : Prop := ∀ k : Nat, ∃ t : State, Sys2Proof.core.run k s = .next t

/-- A write by `m` at offset `o` of a page passes the writer and area rules (R4, R21, R41, R44). -/
def Dev.accepts (d : Dev) (m : Master) (p : PageId) (o : Nat) : Bool := (d.writerError m p o).isNone && d.areaOpen p o

/-- The page takes the start of work (R46, R47): the write passes, the block is on and does not drain. -/
def Dev.starts (d : Dev) (m : Master) (p : PageId) (o : Nat) : Bool := d.accepts m p o && (d.workError p).isNone

/-- What a write that the page rules turn away leaves (R40, R42): its code is stored, no unlock sequence stands, nothing else
changes. -/
def Dev.turnedDown (d : Dev) (m : Master) (p : PageId) (o : Nat) : Dev :=
  d.noKey.reject p.base ((d.writerError m p o).getD Err.EXPERT_CLOSED)

/-- What a start that the page does not take leaves (R37, R40, R46): the code of the page rules, or that of a block that is off or
drains. -/
def Dev.startRefused (d : Dev) (m : Master) (p : PageId) (o : Nat) : Dev :=
  if d.accepts m p o then d.noKey.reject p.base ((d.workError p).getD Err.NONE) else d.turnedDown m p o

/-- What a write to a header that no page has leaves (R36): a bus error, no unlock sequence. -/
def Dev.noSuchPage (d : Dev) : Dev := { d.busError with expKey := none }

/-- The chip has restarted (R507, R508): the cause and the straps show, the domains run, the wheel and the bridge's count start
again; clock, event logs and the memories that keep their bytes are as before, the host's sessions and messages are gone. -/
def Dev.resetTo (d t : Dev) (cause : Nat) (pairRole testMode : Bool) : Prop :=
  t.get SYS.RST_CAUSE_CHIP = cause ∧ t.chip.pairRole = pairRole ∧ t.chip.testMode = testMode ∧ t.pwr.off = false ∧ t.now = 0 ∧
    t.car.cyc = 0 ∧ t.rtc = d.rtc ∧ t.log = d.log ∧ t.hostOut = [] ∧ t.roles = [] ∧
    ∀ a, keptByte a = true → t.rdByte a = d.rdByte a

/-- Commands that act with the domains off (R515): resets and the supply's return, what VBAT supplies (clock, tamper inputs,
mesh, zeroisation), and what the field of the contactless tag supplies. -/
def actsOff : Instr → Bool
  | .chipReset .. | .powerOnReset .. | .porstN .. | .resetN .. | .trstN | .supplyReturnReset .. | .thermalShutdownEnd .. => true
  | .powerGood .. | .rtcSecondTick .. | .xt32Stop | .tamperInputEvent .. | .tamperInputLeave .. | .zeroisation .. => true
  | .meshCheck .. | .tagFieldOn .. | .tagFieldLoss .. | .reqb .. | .xreqb .. | .xmark .. | .readSigB .. | .attrib .. => true
  | .hltb .. | .readBinary .. | .getSig .. | .getInfo .. | .authBegin .. | .authEnd .. | .verifyPwd .. => true
  | .writeRecord .. => true
  | _ => false

/-- The domains are off and no command that waits acts without them. -/
def State.dark (s : State) : Bool := s.dev.pwr.off && s.pending.all fun c => !actsOff c

end Sys2Proof.Machine
end

