-- ==== Sys2Proof/Certificates/Slice0/Obligations.lean ====
section
/-!
DEFINITION. The statements for the provers.
-/

open Sys2Proof Sys2Proof.Machine

/-- Completion: Resets and the supply's return. In every state, with the domains on or off, whatever waits in the queue and for
all operands, each of these commands answers a next state with the queue unchanged and the device that its clause writes out:
CHIP_RESET, POWER_ON_RESET, PORST_N, RESET_N, TRST_N, POWER_GOOD, SUPPLY_RETURN_RESET, THERMAL_SHUTDOWN_END. CHIP_RESET,
POWER_ON_RESET, PORST_N and RESET_N, and SUPPLY_RETURN_RESET and THERMAL_SHUTDOWN_END where they restart the chip, leave a
device in which RST_CAUSE.CHIP holds the cause, the straps are as read (as they were, for the two returns), the domains are
on, the bridge cycle and the wheel cycle are 0, the VBAT clock, the log counters and the bytes that survive a reset are those
before, and the host queue and the role sessions are empty. (R502, R507, R511, R515) -/
def Obligations.ResetCommands : Prop :=
  ∀ (d : Dev) (pend : List Instr),
    (∀ (cause : Fin 6) (pairRole testMode : Bool), exec (.chipReset cause pairRole testMode) ⟨d, pend⟩ = .next ⟨(
        d.chipReset (cause.val + 1) pairRole testMode), pend⟩) ∧
    (∀ (pairRole testMode : Bool), exec (.powerOnReset pairRole testMode) ⟨d, pend⟩ = .next ⟨(
        d.chipReset 1 pairRole testMode), pend⟩) ∧
    (∀ (pairRole testMode : Bool), exec (.porstN pairRole testMode) ⟨d, pend⟩ = .next ⟨(
        d.chipReset 2 pairRole testMode), pend⟩) ∧
    (∀ (pairRole testMode : Bool), exec (.resetN pairRole testMode) ⟨d, pend⟩ = .next ⟨(
        d.chipReset 3 pairRole testMode), pend⟩) ∧
    (exec .trstN ⟨d, pend⟩ = .next ⟨(
        d), pend⟩) ∧
    (∀ (vsup : BitVec 16), exec (.powerGood vsup) ⟨d, pend⟩ = .next ⟨(
        let d := (d.set PWR.VSUP_VSUP vsup.toNat).setBit PWR.CFG_NOM (decide (18000 ≤ vsup.toNat))
        (d.modLed fun l => { l with pgSec := d.rtc.sec }).setBit TMP.STAT_VMON true), pend⟩) ∧
    (∀ (vsup vsense : BitVec 16), exec (.supplyReturnReset vsup vsense) ⟨d, pend⟩ = .next ⟨(
        let good := decide (8500 ≤ vsup.toNat) &&
          (!d.bit PWR.CFG_VSENSE_EN || decide (d.ofNom (d.get PWR.VSENSE_CFG_LOSS + d.get PWR.THR_HYST) ≤ vsense.toNat))
        if d.pwr.off && !d.pwr.thermal && good then d.chipReset 6 d.chip.pairRole d.chip.testMode else d), pend⟩) ∧
    (∀ (tj : BitVec 12), exec (.thermalShutdownEnd tj) ⟨d, pend⟩ = .next ⟨(
        if d.pwr.off && d.pwr.thermal && decide (tj.toInt < 1250) then d.chipReset 5 d.chip.pairRole d.chip.testMode else d), pend⟩) ∧
    (∀ (cause : Fin 6) (p m : Bool), ∃ t : Dev, exec (.chipReset cause p m) ⟨d, pend⟩ = .next ⟨t, pend⟩ ∧ d.resetTo t
      (cause.val + 1) p m) ∧
    (∀ (p m : Bool), ∃ t : Dev, exec (.powerOnReset p m) ⟨d, pend⟩ = .next ⟨t, pend⟩ ∧ d.resetTo t 1 p m) ∧
    (∀ (p m : Bool), ∃ t : Dev, exec (.porstN p m) ⟨d, pend⟩ = .next ⟨t, pend⟩ ∧ d.resetTo t 2 p m) ∧
    (∀ (p m : Bool), ∃ t : Dev, exec (.resetN p m) ⟨d, pend⟩ = .next ⟨t, pend⟩ ∧ d.resetTo t 3 p m) ∧
    (∀ (v x : BitVec 16), d.pwr.off = true → d.pwr.thermal = false → 8500 ≤ v.toNat → (d.bit PWR.CFG_VSENSE_EN = true → d.ofNom
      (d.get PWR.VSENSE_CFG_LOSS + d.get PWR.THR_HYST) ≤ x.toNat) → ∃ t : Dev, exec (.supplyReturnReset v x) ⟨d, pend⟩ = .next
      ⟨t, pend⟩ ∧ d.resetTo t 6 d.chip.pairRole d.chip.testMode) ∧
    (∀ (tj : BitVec 12), d.pwr.off = true → d.pwr.thermal = true → tj.toInt < 1250 → ∃ t : Dev, exec (.thermalShutdownEnd tj)
      ⟨d, pend⟩ = .next ⟨t, pend⟩ ∧ d.resetTo t 5 d.chip.pairRole d.chip.testMode)

/-- Completion: Domain resets, the watchdogs and the boot stages. In every state whose domains are on, whatever waits in the
queue and for all operands, each of these commands answers a next state with the queue unchanged and the device that its
clause writes out: WATCHDOG_EXPIRY, PROCESSOR_FAULT, DRST_APP, DRST_SAF, DRST_LGL, DRST_VLT, CRST, WDT_KICK, BOOT_STAGE_DONE,
FW_VIOL_CLR. Where a clause asks whether the page accepts the write or takes the start, the first branch is the effect and
the last the rejection. (R16, R227, R504, R505, R507, R508, R517, R528) -/
def Obligations.DomainResetCommands : Prop :=
  ∀ (d : Dev) (pend : List Instr), d.pwr.off = false →
    (∀ (dom : Domain), exec (.watchdogExpiry dom) ⟨d, pend⟩ = .next ⟨(
        if dom = .app ∧ !d.bit SYS.WDT_EN then d else d.domReset dom), pend⟩) ∧
    (∀ (f : CoreFault), exec (.processorFault f) ⟨d, pend⟩ = .next ⟨(
        let d := match f.dom, f.ecc with
          | .saf, some a => d.eccLost a.toNat (masterNo .saf)
          | _, _ => d
        d.domReset f.dom), pend⟩) ∧
    (∀ (m : Master), exec (.drstApp m) ⟨d, pend⟩ = .next ⟨(
        if d.accepts m .SYS 0x064 then
          let d := d.noKey
          d.domReset .app
        else d.turnedDown m .SYS 0x064), pend⟩) ∧
    (∀ (m : Master), exec (.drstSaf m) ⟨d, pend⟩ = .next ⟨(
        if d.accepts m .SYS 0x064 then
          let d := d.noKey
          if d.openPart then d.domReset .saf else d.reject SYS.page Err.SAFETY_DENIED
        else d.turnedDown m .SYS 0x064), pend⟩) ∧
    (∀ (m : Master), exec (.drstLgl m) ⟨d, pend⟩ = .next ⟨(
        if d.accepts m .SYS 0x064 then
          let d := d.noKey
          if d.openPart then d.domReset .lgl else d.reject SYS.page Err.LEGAL_DENIED
        else d.turnedDown m .SYS 0x064), pend⟩) ∧
    (∀ (m : Master), exec (.drstVlt m) ⟨d, pend⟩ = .next ⟨(
        if d.accepts m .SYS 0x064 then
          let d := d.noKey
          d.domReset .vlt
        else d.turnedDown m .SYS 0x064), pend⟩) ∧
    (∀ (m : Master) (w : Word), exec (.crst m w) ⟨d, pend⟩ = .next ⟨(
        if d.accepts m .SYS 0x06C then
          let d := d.noKey
          match d.crstError w with
            | some e => d.reject SYS.page e
            | none => d.chipReset 4 d.chip.pairRole d.chip.testMode
        else d.turnedDown m .SYS 0x06C), pend⟩) ∧
    (∀ (m : Master), exec (.wdtKick m) ⟨d, pend⟩ = .next ⟨(
        if d.accepts m .SYS 0x05C then
          let d := d.noKey
          { d with pwr := { d.pwr with wdtMs := d.get SYS.WDT_TIMEOUT } }
        else d.turnedDown m .SYS 0x05C), pend⟩) ∧
    (∀ (g : BootStage), exec (.bootStageDone g) ⟨d, pend⟩ = .next ⟨(
        match g with
          | .clocks =>
            let d := (((d.setBit CLK.STAT_XTAL_OK true).setBit CLK.STAT_SYS_LOCK true).setBit CLK.STAT_PLC_LOCK true).setBit
              CLK.STAT_ADC_LOCK true
            ((d.setBit CLK.STAT_BACKUP false).setBit CLK.STAT_XT32_OK d.rtc.xt32).setBit CLK.STAT_RC_OK true
          | .image s first other =>
            let k := bootSlot s
            if (d.bit TST.STAT_PROD && s != 0) || d.domainOff (bootDomain s) then d
            else match d.bankCause k (some d.upd.run[k]) first, d.bankCause k d.upd.other[k] other with
              | none, _ => d.imgStart s
              | some c, none =>
                if d.upd.reverted[k] then d.imgFail s else (d.bankFallback s (c.val + 1)).imgStart s
              | some _, some _ => d.imgFail s
          | .keys =>
            if !d.bit VLT.STAT_TRNG_OK || d.domainOff .vlt then d
            else
              let d := (d.deriveSlots.setBit VLT.STAT_ROOT_OK d.vlt.rootOk).setBit VLT.STAT_READY true
              let d := if d.vlt.rootOk then d.mirrorHeader else d
              if d.led.started then d.resubmit else d), pend⟩) ∧
    (∀ (m : Master), exec (.fwViolClr m) ⟨d, pend⟩ = .next ⟨(
        if d.accepts m .SYS 0x70 then
          let d := d.noKey
          (d.wr SYS.FW_VIOL 0).wr SYS.FW_ADDR 0
        else d.turnedDown m .SYS 0x70), pend⟩)

/-- Completion: Clock faults, supply and thermal levels, hold-up. In every state whose domains are on, whatever waits in the
queue and for all operands, each of these commands answers a next state with the queue unchanged and the device that its
clause writes out: CLOCK_FAULT, CLOCK_RECOVERED, SUPPLY_LEVEL_ENTER, SUPPLY_LEVEL_LEAVE, SHED_STOP_TIMEOUT, HOLDUP_ENTRY,
HOLDUP_STEP_ADVANCE, THERMAL_SHUTDOWN, SUPPLY_MONITOR, THERMAL_LEVEL_CHANGE. (R32, R151, R503, R509, R511, R512, R513, R514,
R519) -/
def Obligations.SupplyCommands : Prop :=
  ∀ (d : Dev) (pend : List Instr), d.pwr.off = false →
    (∀ (lost : BitVec 7), exec (.clockFault lost) ⟨d, pend⟩ = .next ⟨(
        if lost = 0 then d
        else
          let now := d.rdN CLK.STAT % 128
          let d := d.wrN CLK.STAT (now - (now &&& lost.toNat))
          let d := ((d.set CLK.FAULT_LOST (d.get CLK.FAULT_LOST ||| lost.toNat)).bump CLK.FAULT_COUNT).raise CLK.page CLK.ev_FAULT
          if lost.toNat % 16 = 0 then d
          else
            let d := d.setBit CLK.STAT_BACKUP true
            let d : Dev := ({ d with mpl := { d.mpl with clockFault := true } } : Dev).mplStop
            d.selfCheckFail 0xFF 1 0), pend⟩) ∧
    (exec .clockRecovered ⟨d, pend⟩ = .next ⟨(
        let d := (((d.setBit CLK.STAT_XTAL_OK true).setBit CLK.STAT_SYS_LOCK true).setBit CLK.STAT_PLC_LOCK true).setBit
          CLK.STAT_ADC_LOCK true
        let d : Dev := { d with mpl := { d.mpl with clockFault := false } }
        let d := d.card 3 1
        (d.setBit CLK.STAT_BACKUP false).raise CLK.page CLK.ev_RECOVERED), pend⟩) ∧
    (∀ (lvl : Fin 3) (vsup : BitVec 16), exec (.supplyLevelEnter lvl vsup) ⟨d, pend⟩ = .next ⟨(
        let k := lvl.val + 1
        let d := d.set PWR.VSUP_VSUP vsup.toNat
        if vsup.toNat < d.ofNom (d.shedPct k) ∧ d.get PWR.STAT_SUP_LVL < k then (d.set PWR.STAT_SUP_LVL k).levelEval else d), pend⟩) ∧
    (∀ (lvl : Fin 3) (vsup : BitVec 16), exec (.supplyLevelLeave lvl vsup) ⟨d, pend⟩ = .next ⟨(
        let k := lvl.val + 1
        let d := d.set PWR.VSUP_VSUP vsup.toNat
        if d.ofNom (d.shedPct k + d.get PWR.THR_HYST) ≤ vsup.toNat ∧ d.get PWR.STAT_SUP_LVL = k then
          (d.set PWR.STAT_SUP_LVL (k - 1)).levelEval
        else d), pend⟩) ∧
    (∀ (n : Bay), exec (.shedStopTimeout n) ⟨d, pend⟩ = .next ⟨(
        if 3 ≤ d.get PWR.STAT_LEVEL then d.stopRequest n (2 ^ 4) else d), pend⟩) ∧
    (∀ (vsup vsense : BitVec 16) (c : CycleData), exec (.holdupEntry vsup vsense c) ⟨d, pend⟩ = .next ⟨(
        let d := (d.set PWR.VSUP_VSUP vsup.toNat).set PWR.VSUP_VSENSE vsense.toNat
        let lost := decide (vsup.toNat < d.ofNom 55) ||
          (d.bit PWR.CFG_VSENSE_EN && decide (vsense.toNat < d.ofNom (d.get PWR.VSENSE_CFG_LOSS)))
        if lost && !d.bit PWR.STAT_HOLDUP then d.holdupEnter false c else d), pend⟩) ∧
    (∀ (dur vend : BitVec 16), exec (.holdupStepAdvance dur vend) ⟨d, pend⟩ = .next ⟨(
        let next := fun (d : Dev) => d.set PWR.STAT_HU_STEP (d.get PWR.STAT_HU_STEP + 1)
        match d.get PWR.STAT_HU_STEP with
        | 1 => next d.holdupLedger.epdLastFrame
        | 2 => next d.epdStop
        | 3 => next (if d.led.ready then d.mirrorRefresh else d)
        | 4 => next { d with pwr := { d.pwr with armed := true } }
        | 5 => d.holdupOff dur.toNat vend.toNat
        | _ => d), pend⟩) ∧
    (∀ (c : CycleData), exec (.thermalShutdown c) ⟨d, pend⟩ = .next ⟨(
        if 1490 < signed 12 (d.get TSEN.TJ_TJ) ∧ !d.bit PWR.STAT_HOLDUP then d.holdupEnter true c else d), pend⟩) ∧
    (∀ (vsup vsense vls vbat i33 icore : BitVec 16), exec (.supplyMonitor vsup vsense vls vbat i33 icore) ⟨d, pend⟩ = .next ⟨(
        let d := (d.wrN PWR.VSUP (vsup.toNat + 65536 * vsense.toNat)).wrN PWR.VAUX (vls.toNat + 65536 * vbat.toNat)
        let d := d.wrN PWR.ILOAD (i33.toNat + 65536 * icore.toNat)
        let d := d.setBit PWR.STAT_VSENSE_OK (decide (d.ofNom (d.get PWR.VSENSE_CFG_LOSS) ≤ vsense.toNat))
        let low := decide (vls.toNat < 7500)
        let d := if low && !d.bit PWR.STAT_VLS_LOW then d.raise PWR.page PWR.ev_VLS_LOW else d
        let d := d.setBit PWR.STAT_VLS_LOW low
        let lowB := decide (vbat.toNat < 2200)
        let d := if lowB && !d.bit PWR.STAT_VBAT_LOW then d.raise PWR.page PWR.ev_VBAT_LOW else d
        d.setBit PWR.STAT_VBAT_LOW lowB), pend⟩) ∧
    (∀ (v : Vector (BitVec 12) 4) (tvb : BitVec 12), exec (.thermalLevelChange v tvb) ⟨d, pend⟩ = .next ⟨(
        let l := v.toList.map BitVec.toInt
        let bad := ((List.finRange 4).map fun k => if tempValid l v[k].toInt then 0 else 2 ^ k.val).sum
        let tj := junction l
        let d := (List.finRange 4).foldl (fun d k =>
          (d.set (TSEN.S_T k.val) v[k].toNat).setBit (TSEN.S_VALID k.val) (tempValid l v[k].toInt)) d
        let d := if bad ≠ 0 ∧ bad ≠ d.get TSEN.STAT_INVALID then d.raise TSEN.page TSEN.ev_SENSOR else d
        let d := ((d.set TSEN.STAT_INVALID bad).set TSEN.TJ_TJ (toUnsigned 12 tj)).set TSEN.TVB_T tvb.toNat
        let d := if signed 12 (d.get TSEN.TMAX_T) < tj then d.set TSEN.TMAX_T (toUnsigned 12 tj) else d
        let t := d.get PWR.STAT_THERM_LVL
        let t' := thermalLevel t tj
        let d := (d.setBit TSEN.STAT_HOT140 (decide (2 ≤ t'))).setBit TSEN.STAT_HOT147 (t' == 3)
        if t' = t then d
        else
          let d := (d.set PWR.STAT_THERM_LVL t').raise PWR.page PWR.ev_THERM
          let d := if t < 2 ∧ 2 ≤ t' then d.raise TSEN.page TSEN.ev_T140 else d
          let d := if t' = 3 then d.raise TSEN.page TSEN.ev_T147 else d
          let d := if t' = 0 then d.raise TSEN.page TSEN.ev_CLEAR else d
          d.levelEval), pend⟩)

/-- Completion: Commands on the common header of a page. In every state whose domains are on, whatever waits in the queue and
for all operands, each of these commands answers a next state with the queue unchanged and the device that its clause writes
out: BLOCK_ENABLE, BLOCK_DISABLE, BLOCK_FORCE_OFF, BLOCK_DRAIN_SET, DRAIN_COMPLETE, DRAIN_TIMEOUT, OWNER_CHANGE, EXPCLOSE,
PAGE_LOCK, EXPKEY_WRITE, IRQ_STAT_CLEAR, IRQ_SET_WRITE. Where a clause asks whether the page accepts the write or takes the
start, the first branch is the effect and the last the rejection. (R37, R38, R42, R43, R44, R46, R47, R48) -/
def Obligations.HeaderCommands : Prop :=
  ∀ (d : Dev) (pend : List Instr), d.pwr.off = false →
    (∀ (m : Master) (page : BitVec 8), exec (.blockEnable m page) ⟨d, pend⟩ = .next ⟨(
        match pageOf page with
        | none => d.noSuchPage
        | some p =>
          if d.accepts m p 0x008 then
            let d := d.noKey
            if d.bit (Hdr.DRAINING p.base) then d.reject p.base Err.DRAINING
            else if p.fixed || d.bit (Hdr.EN p.base) || !d.present p then d
            else (((d.setBit (Hdr.EN p.base) true).blkStart p).readySet p).conflictShow
          else d.turnedDown m p 0x008), pend⟩) ∧
    (∀ (m : Master) (page : BitVec 8), exec (.blockDisable m page) ⟨d, pend⟩ = .next ⟨(
        match pageOf page with
        | none => d.noSuchPage
        | some p =>
          if d.accepts m p 0x008 then
            let d := d.noKey
            let b := p.base
            match d.offError p with
            | some e => d.reject b e
            | none =>
              if !d.bit (Hdr.EN b) then d
              else
                let d := (((d.setBit (Hdr.EN b) false).setBit (Hdr.DRAINING b) true).setBit (Hdr.BUSY b) true).setBit (Hdr.READY b) false
                let d := if d.bit (Hdr.TEST_QUEUED b) then d.testAbandon p 2 else d
                d.drainBegin p
          else d.turnedDown m p 0x008), pend⟩) ∧
    (∀ (m : Master) (page : BitVec 8), exec (.blockForceOff m page) ⟨d, pend⟩ = .next ⟨(
        match pageOf page with
        | none => d.noSuchPage
        | some p =>
          if d.accepts m p 0x008 then
            let d := d.noKey
            match d.offError p with
            | some e => d.reject p.base e
            | none =>
              if !d.enabled p then d
              else ((d.setBit (Hdr.EN p.base) false).setBit (Hdr.READY p.base) false).blkForced p
          else d.turnedDown m p 0x008), pend⟩) ∧
    (∀ (m : Master) (page : BitVec 8) (on : Bool), exec (.blockDrainSet m page on) ⟨d, pend⟩ = .next ⟨(
        match pageOf page with
        | none => d.noSuchPage
        | some p =>
          if d.accepts m p 0x008 then
            let d := d.noKey
            (d.setBit (Hdr.DRAIN p.base) on).readySet p
          else d.turnedDown m p 0x008), pend⟩) ∧
    (∀ (page : BitVec 8), exec (.drainComplete page) ⟨d, pend⟩ = .next ⟨(
        match pageOf page with
          | none => d
          | some p => if d.bit (Hdr.DRAINING p.base) && d.drained p then d.blkOff p else d), pend⟩) ∧
    (∀ (page : BitVec 8), exec (.drainTimeout page) ⟨d, pend⟩ = .next ⟨(
        match pageOf page with
          | none => d
          | some p =>
            if d.bit (Hdr.DRAINING p.base) then ((d.setBit (Hdr.FAULT p.base) true).raise p.base 31).blkForced p else d), pend⟩) ∧
    (∀ (m : Master) (page : BitVec 8) (owner : BitVec 2), exec (.ownerChange m page owner) ⟨d, pend⟩ = .next ⟨(
        match pageOf page with
        | none => d.noSuchPage
        | some p =>
          if d.accepts m p 0x008 then
            let d := d.noKey
            let o : Nat := owner.toNat
            if d.get (Hdr.OWNER p.base) = o then d
            else if p.ownerFixed then d.reject p.base Err.RANGE
            else (d.set (Hdr.OWNER p.base) o).expClose p
          else d.turnedDown m p 0x008), pend⟩) ∧
    (∀ (m : Master) (page : BitVec 8), exec (.expclose m page) ⟨d, pend⟩ = .next ⟨(
        match pageOf page with
        | none => d.noSuchPage
        | some p =>
          if d.accepts m p 0x008 then
            let d := d.noKey
            let f : Fld := (Hdr.EXPERT_OPEN p.base)
            let b : Bool := false
            let v : Nat := (if b then 1 else 0)
            d.wr f.reg (f.put (d.rd f.reg) v)
          else d.turnedDown m p 0x008), pend⟩) ∧
    (∀ (m : Master) (page : BitVec 8), exec (.pageLock m page) ⟨d, pend⟩ = .next ⟨(
        match pageOf page with
        | none => d.noSuchPage
        | some p =>
          if d.accepts m p 0x008 then
            let d := d.noKey
            let f : Fld := (Hdr.LOCKED p.base)
            let b : Bool := true
            let v : Nat := (if b then 1 else 0)
            d.wr f.reg (f.put (d.rd f.reg) v)
          else d.turnedDown m p 0x008), pend⟩) ∧
    (∀ (m : Master) (page : BitVec 8) (w : Word), exec (.expkeyWrite m page w) ⟨d, pend⟩ = .next ⟨(
        match pageOf page with
        | none => d.noSuchPage
        | some p =>
          if d.accepts m p 0x024 then
            let e := d.noKey
            e.expWrite p d.expKey w
          else d.turnedDown m p 0x024), pend⟩) ∧
    (∀ (m : Master) (page : BitVec 8) (w : Word), exec (.irqStatClear m page w) ⟨d, pend⟩ = .next ⟨(
        match pageOf page with
        | none => d.noSuchPage
        | some p =>
          if d.accepts m p 0x018 then
            let d := d.noKey
            d.irqClear p w.toNat
          else d.turnedDown m p 0x018), pend⟩) ∧
    (∀ (m : Master) (page : BitVec 8) (w : Word), exec (.irqSetWrite m page w) ⟨d, pend⟩ = .next ⟨(
        match pageOf page with
        | none => d.noSuchPage
        | some p =>
          if d.accepts m p 0x01C then
            let d := d.noKey
            d.wr (Hdr.irqStat p.base) (d.rd (Hdr.irqStat p.base) ||| w)
          else d.turnedDown m p 0x01C), pend⟩)

/-- Completion: GPIO, SAR, UART and I2C commands. In every state whose domains are on, whatever waits in the queue and for all
operands, each of these commands answers a next state with the queue unchanged and the device that its clause writes out:
GPIO_SET, GPIO_CLR, GPIO_TGL, GPIO_EDGE, SAR_SEQUENCE_START, SAR_SEQUENCE_DONE, RESULT_READ, UART_TX_PUSH, UART_RX_POP,
UART_CHAR_RX, UART_RX_TIMEOUT, UART_CHAR_TX, TX_FLUSH, RX_FLUSH, I2C_GO, I2C_TRANSFER_END, I2C_TIMEOUT, RECOVER. Where a
clause asks whether the page accepts the write or takes the start, the first branch is the effect and the last the rejection.
(R521, R522, R541, R542, R544, R545, R546) -/
def Obligations.SerialCommands : Prop :=
  ∀ (d : Dev) (pend : List Instr), d.pwr.off = false →
    (∀ (m : Master) (w : Word), exec (.gpioSet m w) ⟨d, pend⟩ = .next ⟨(
        let o : Nat := 0x048
        let mask : Nat := w.toNat
        let f : Nat → Nat → Nat := (· ||| ·)
        if d.accepts m .GPIO o then
          let d := d.noKey
          let k := mask % 65536
          if k / 2 ^ d.gpioPins ≠ 0 then d.reject GPIO.page Err.NOT_FUSED
          else if k &&& d.heldPins ≠ 0 then d.reject GPIO.page Err.NOT_OWNER
          else (d.set GPIO.OUT_OUT (f (d.get GPIO.OUT_OUT) k)).gpioPads
        else d.turnedDown m .GPIO o), pend⟩) ∧
    (∀ (m : Master) (w : Word), exec (.gpioClr m w) ⟨d, pend⟩ = .next ⟨(
        let o : Nat := 0x04C
        let mask : Nat := w.toNat
        let f : Nat → Nat → Nat := clearBits
        if d.accepts m .GPIO o then
          let d := d.noKey
          let k := mask % 65536
          if k / 2 ^ d.gpioPins ≠ 0 then d.reject GPIO.page Err.NOT_FUSED
          else if k &&& d.heldPins ≠ 0 then d.reject GPIO.page Err.NOT_OWNER
          else (d.set GPIO.OUT_OUT (f (d.get GPIO.OUT_OUT) k)).gpioPads
        else d.turnedDown m .GPIO o), pend⟩) ∧
    (∀ (m : Master) (w : Word), exec (.gpioTgl m w) ⟨d, pend⟩ = .next ⟨(
        let o : Nat := 0x050
        let mask : Nat := w.toNat
        let f : Nat → Nat → Nat := (· ^^^ ·)
        if d.accepts m .GPIO o then
          let d := d.noKey
          let k := mask % 65536
          if k / 2 ^ d.gpioPins ≠ 0 then d.reject GPIO.page Err.NOT_FUSED
          else if k &&& d.heldPins ≠ 0 then d.reject GPIO.page Err.NOT_OWNER
          else (d.set GPIO.OUT_OUT (f (d.get GPIO.OUT_OUT) k)).gpioPads
        else d.turnedDown m .GPIO o), pend⟩) ∧
    (∀ (k : Fin 16) (level : Bool), exec (.gpioEdge k level) ⟨d, pend⟩ = .next ⟨(
        if d.gpioPins ≤ k.val || d.heldPins.testBit k.val || d.flag GPIO.DIR_DIR k.val || d.flag GPIO.IN_IN k.val == level then d
        else (d.setFlag GPIO.IN_IN k.val level).gpioEdge k.val level), pend⟩) ∧
    (∀ (m : Master) (mask : BitVec 4), exec (.sarSequenceStart m mask) ⟨d, pend⟩ = .next ⟨(
        if d.starts m .SAR 0x064 then
          let d := d.noKey
          match (
              if (sarMask mask.toNat).any d.sarBusy then some Err.BUSY else none) with
          | some c => d.reject (.SAR : PageId).base c
          | none =>
            (sarMask mask.toNat).foldl Dev.sarStart d
        else d.startRefused m .SAR 0x064), pend⟩) ∧
    (∀ (vals : List SarEntry), exec (.sarSequenceDone vals) ⟨d, pend⟩ = .next ⟨(
        match d.sar.run with
          | none => d
          | some k =>
            let es := (d.sarEntries k).filter fun e => decide (128 ≤ e)
            let d := (es.zip vals).foldl (fun d x => d.sarResult (x.1 % 32) (d.sarMean x.2.samples) x.2.angle.toNat) d
            let d := (d.setFlag SAR.STAT_DONE k true).raise SAR.page SAR.ev_SEQ_DONE
            match d.sar.wait with
            | [] => ({ d with sar := {} }).sarShow
            | j :: l => ({ d with sar := { run := some j, wait := l } }).sarShow), pend⟩) ∧
    (∀ (m : Master) (c : Fin 18), exec (.resultRead m c) ⟨d, pend⟩ = .next ⟨(
        let a := 0x40000000 + SAR.RESULT c.val
        if d.filterAllows m a false then (d.busOk (leBytes 4 (d.rdN (SAR.RESULT c.val)))).sarRead c.val
        else (d.fwBlock m a false).busError), pend⟩) ∧
    (∀ (m : Master) (k : Fin 4) (c : Byte), exec (.uartTxPush m k c) ⟨d, pend⟩ = .next ⟨(
        if d.starts m (.UART k) 0x044 then
          let d := d.noKey
          match (
              if 32 ≤ d.uart[k].tx.length then some Err.BUSY else none) with
          | some c => d.reject ((.UART k) : PageId).base c
          | none =>
            (d.modUart k fun u => uartNext { u with tx := u.tx ++ [c] }).uartShow k
        else d.startRefused m (.UART k) 0x044), pend⟩) ∧
    (∀ (m : Master) (k : Fin 4), exec (.uartRxPop m k) ⟨d, pend⟩ = .next ⟨(
        let a := 0x40000000 + UART.RX_DATA k
        if d.filterAllows m a false then
          let r := d.uartPop k
          r.2.busOk (leBytes 4 r.1)
        else (d.fwBlock m a false).busError), pend⟩) ∧
    (∀ (k : Fin 4) (c : Byte) (pe fe brk : Bool), exec (.uartCharRx k c pe fe brk) ⟨d, pend⟩ = .next ⟨(
        if d.enabled (.UART k) && d.present (.UART k) && !d.bit (Hdr.LOOP_ENABLE (UART.page k)) then d.uartRx k c pe fe brk else d), pend⟩) ∧
    (∀ (k : Fin 4), exec (.uartRxTimeout k) ⟨d, pend⟩ = .next ⟨(
        if d.rdN (UART.RXTMO k) % 256 ≠ 0 ∧ !d.uart[k].rx.isEmpty then d.raise (UART.page k) UART.ev_RX_TMO else d), pend⟩) ∧
    (∀ (k : Fin 4), exec (.uartCharTx k) ⟨d, pend⟩ = .next ⟨(
        match d.uart[k].shift with
          | none => d
          | some c =>
            let d := (d.modUart k fun u => uartNext { u with shift := none }).uartShow k
            let d := if d.bit (Hdr.LOOP_ENABLE (UART.page k)) then d.uartRx k c false false false else d
            d.uartLevels k), pend⟩) ∧
    (∀ (m : Master) (k : Fin 4), exec (.txFlush m k) ⟨d, pend⟩ = .next ⟨(
        if d.accepts m (.UART k) 0x05C then
          let d := d.noKey
          (d.modUart k fun u => { u with tx := [] }).uartShow k
        else d.turnedDown m (.UART k) 0x05C), pend⟩) ∧
    (∀ (m : Master) (k : Fin 4), exec (.rxFlush m k) ⟨d, pend⟩ = .next ⟨(
        if d.accepts m (.UART k) 0x05C then
          let d := d.noKey
          (d.modUart k fun u => { u with rx := [] }).uartShow k
        else d.turnedDown m (.UART k) 0x05C), pend⟩) ∧
    (∀ (m : Master) (n : Fin 2) (w : Word), exec (.i2cGo m n w) ⟨d, pend⟩ = .next ⟨(
        if d.starts m (.I2C n) 0x044 then
          let d := d.noKey
          match (
              if d.bit (I2C.STAT_BUSY n) then some Err.BUSY else none) with
          | some c => d.reject ((.I2C n) : PageId).base c
          | none =>
            let d := d.wrN (I2C.CMD n) (w.toNat &&& 0x01FF0FFF)
            ((d.setBit (I2C.STAT_BUSY n) true).setBit (I2C.STAT_HELD n) false).set (I2C.STAT_COUNT n) 0
        else d.startRefused m (.I2C n) 0x044), pend⟩) ∧
    (∀ (n : Fin 2) (e : I2cEnd), exec (.i2cTransferEnd n e) ⟨d, pend⟩ = .next ⟨(
        if !d.bit (I2C.STAT_BUSY n) then d
        else
          let loop := d.bit (Hdr.LOOP_ENABLE (I2C.page n))
          let e := d.i2cHeard n e
          let len := d.get (I2C.CMD_LEN n)
          let held := !d.bit (I2C.CMD_STOP n)
          let sent := fun (d : Dev) (k : Nat) => (d.modI2c n fun i => { i with tx := i.tx.drop k }).i2cShow n
          match e with
          | .done data =>
            if d.bit (I2C.CMD_READ n) then
              if d.i2c[n].hold then d
              else (d.modI2c n fun i => { i with rx := i.rx ++ data.take len }).i2cFill n len held
            else if d.i2c[n].tx.length < len then d
            else
              let back := if loop then d.i2c[n].tx.take len else []
              (sent (d.modI2c n fun i => { i with rx := i.rx ++ back }) len).i2cEnd n len held none
          | .nackAddr => d.i2cEnd n 0 false (some (I2C.STAT_NACK_ADDR n))
          | .nackData k => (sent d (k.toNat + 1)).i2cEnd n k.toNat false (some (I2C.STAT_NACK_DATA n))
          | .arbLost k => (if d.bit (I2C.CMD_READ n) then d else sent d k.toNat).i2cEnd n k.toNat false (some (I2C.STAT_ARB_LOST n))), pend⟩) ∧
    (∀ (n : Fin 2), exec (.i2cTimeout n) ⟨d, pend⟩ = .next ⟨(
        if d.bit (I2C.STAT_BUSY n) then
          (d.i2cUnhold n).i2cEnd n (d.get (I2C.STAT_COUNT n)) false (some (I2C.STAT_TIMEOUT n))
        else d), pend⟩) ∧
    (∀ (m : Master) (n : Fin 2), exec (.recover m n) ⟨d, pend⟩ = .next ⟨(
        if d.starts m (.I2C n) 0x058 then
          let d := d.noKey
          let f : Fld := (I2C.STAT_HELD n)
          let b : Bool := false
          let v : Nat := (if b then 1 else 0)
          d.wr f.reg (f.put (d.rd f.reg) v)
        else d.startRefused m (.I2C n) 0x058), pend⟩)

/-- Completion: OSPI and Ethernet commands. In every state whose domains are on, whatever waits in the queue and for all
operands, each of these commands answers a next state with the queue unchanged and the device that its clause writes out:
OSPI_WINDOW_WRITE, OSPI_CMD_GO, OSPI_CMD_DONE, FLUSH, PAGE_BUFFER_TIMEOUT, PROGRAM_DONE, PROGRAM_STALL_TIMEOUT, FW_READY,
MDIO_ACCESS, MDIO_DONE, PHY_LINK_POLL. Where a clause asks whether the page accepts the write or takes the start, the first
branch is the effect and the last the rejection. (R344, R443, R481, R483, R548, R549) -/
def Obligations.OspiEthCommands : Prop :=
  ∀ (d : Dev) (pend : List Instr), d.pwr.off = false →
    (∀ (m : Master) (a : BitVec 28) (data : List Byte), exec (.ospiWindowWrite m a data) ⟨d, pend⟩ = .next ⟨(
        let addr := ospiBase + a.toNat
        if d.filterAllows m addr true then d.ospiWrite a.toNat data else (d.fwBlock m addr true).busError), pend⟩) ∧
    (∀ (m : Master) (w : Word), exec (.ospiCmdGo m w) ⟨d, pend⟩ = .next ⟨(
        if d.starts m .OSPI 0x05C then
          let d := d.noKey
          match (
              if d.bit OSPI.STAT_BUSY then some Err.BUSY else if 256 < w.toNat % 512 then some Err.RANGE else none) with
          | some c => d.reject (.OSPI : PageId).base c
          | none =>
            (d.wrN OSPI.CMD_CTL (w.toNat % 0x20000)).setBit OSPI.STAT_BUSY true
        else d.startRefused m .OSPI 0x05C), pend⟩) ∧
    (∀ (data : List Byte), exec (.ospiCmdDone data) ⟨d, pend⟩ = .next ⟨(
        if !d.ospiCmd then d
        else
          let len := d.get OSPI.CMD_CTL_LEN
          let d := if d.bit OSPI.CMD_CTL_WRITE || d.ospiLooped then d else d.wrWords OSPI.CMD_DATA (data.take len)
          let d := if d.get OSPI.CMD_OPC % 256 = d.get OSPI.FLASH_ERASE_OPC ∧ d.bit OSPI.CMD_CTL_ADDR_EN ∧ !d.bit OSPI.CFG_DEV ∧ !d.ospiLooped ∧
              d.rdN OSPI.CMD_ADDR < 2 ^ d.get OSPI.CFG_SIZE then
              let n := 2 ^ d.get OSPI.PROG_ERASE
              d.wrBytes (ospiBase + d.rdN OSPI.CMD_ADDR / n * n) (List.replicate n 0xFF)
            else d
          ((d.setBit OSPI.STAT_BUSY false).raise OSPI.page OSPI.ev_CMD_DONE).ospiResume), pend⟩) ∧
    (∀ (m : Master), exec (.flush m) ⟨d, pend⟩ = .next ⟨(
        if d.starts m .OSPI 0x050 then
          let d := d.noKey
          if d.bit OSPI.STAT_BUSY then d else d.ospiProgram
        else d.startRefused m .OSPI 0x050), pend⟩) ∧
    (exec .pageBufferTimeout ⟨d, pend⟩ = .next ⟨(
        if d.bit OSPI.STAT_BUSY then d else d.ospiProgram), pend⟩) ∧
    (exec .programDone ⟨d, pend⟩ = .next ⟨(
        match d.ospi.prog with
          | none => d
          | some (_, l) =>
            let d := l.foldl (fun d x => d.wrByte (ospiBase + x.1) (d.rdByte (ospiBase + x.1) &&& x.2)) d
            let d : Dev := { d with ospi := { d.ospi with prog := none } }
            (((d.setBit OSPI.STAT_BUSY false).setBit OSPI.STAT_PROGRAMMING false).raise OSPI.page OSPI.ev_PROG_DONE).ospiResume), pend⟩) ∧
    (exec .programStallTimeout ⟨d, pend⟩ = .next ⟨(
        if d.ospi.stall ≠ [] ∧ d.bit OSPI.STAT_PROGRAMMING then
          let d : Dev := { d with ospi := { d.ospi with stall := d.ospi.stall.tail } }
          ((d.setBit OSPI.STAT_PTMO true).raise OSPI.page OSPI.ev_ERR).busError
        else d), pend⟩) ∧
    (∀ (m : Master), exec (.fwReady m) ⟨d, pend⟩ = .next ⟨(
        if d.accepts m .HIF 0x04C then
          let d := d.noKey
          let d := (d.setBit HIF.STAT_FW_READY true).modYlr fun y => { y with ringsOff := false }
          if d.enabled .YLR && d.get YLR.TXQ_RD_RD != d.get YLR.TXQ_WR_WR then
            (Dev.txRing (2 ^ d.get YLR.TXQ_CTL_LOG2) d).raise YLR.page YLR.ev_TX_SPACE
          else d
        else d.turnedDown m .HIF 0x04C), pend⟩) ∧
    (∀ (m : Master) (w : Word), exec (.mdioAccess m w) ⟨d, pend⟩ = .next ⟨(
        if d.starts m .ETH 0x04C then
          let d := d.noKey
          match (
              if d.bit ETH.MDIO_CTL_BUSY then some Err.BUSY else none) with
          | some c => d.reject (.ETH : PageId).base c
          | none =>
            (d.wr ETH.MDIO_CTL (w &&& 0x7FF)).setBit ETH.MDIO_CTL_BUSY true
        else d.startRefused m .ETH 0x04C), pend⟩) ∧
    (∀ (data : BitVec 16), exec (.mdioDone data) ⟨d, pend⟩ = .next ⟨(
        if !d.bit ETH.MDIO_CTL_BUSY then d
        else
          let d := d.setBit ETH.MDIO_CTL_BUSY false
          let d := if d.bit ETH.MDIO_CTL_READ then d.set ETH.MDIO_DATA_DATA data.toNat else d
          d.raise ETH.page ETH.ev_MDIO_DONE), pend⟩) ∧
    (∀ (up refclk : Bool), exec (.phyLinkPoll up refclk) ⟨d, pend⟩ = .next ⟨(
        let d := d.setBit ETH.STAT_REFCLK_OK (d.bit ETH.CFG_REFCLK_OUT || refclk)
        if !d.enabled .ETH || !d.bit ETH.CFG_POLL_EN || d.bit ETH.STAT_LINK == up then d
        else
          let d := (d.setBit ETH.STAT_LINK up).raise ETH.page ETH.ev_LINK_CHG
          let d := (d.setBit HIF.STAT_ETH_LINK up).raise HIF.page HIF.ev_ETH_LINK
          if up then d else d.roleEnd fun r => r.link == .rmii), pend⟩)

/-- Completion: Messages and registers by the host links. In every state whose domains are on, whatever waits in the queue and
for all operands, each of these commands answers a next state with the queue unchanged and the device that its clause writes
out: WRITE_MSG, ETH_DATAGRAM_RX, READ_MSG, REG_READ, REG_WRITE, SPI_STAT, SYS_INFO, SYS_ECHO, SYS_EXPERT. (R42, R470, R471,
R475, R476, R479, R480, R483, R517) -/
def Obligations.HostCommands : Prop :=
  ∀ (d : Dev) (pend : List Instr), d.pwr.off = false →
    (∀ (h : HmpMsg), exec (.writeMsg h) ⟨d, pend⟩ = .next ⟨(
        if d.bit HIF.CFG_SPI_EN then d.hifArrive .spi none h else d), pend⟩) ∧
    (∀ (fcs : Bool) (dst : EthDst) (f : EthFrame), exec (.ethDatagramRx fcs dst f) ⟨d, pend⟩ = .next ⟨(
        if !d.enabled .ETH || !d.bit HIF.CFG_ETH_EN || d.bit (Hdr.LOOP_ENABLE ETH.page) then d
        else if !fcs then (d.bump ETH.CNT_ERR_RX_CRC).raise ETH.page ETH.ev_RX_ERR
        else match d.ethServe dst f with
          | some t => t.wrN ETH.CNT_RX (d.rdN ETH.CNT_RX + 1)
          | none => d.bump ETH.CNT_ERR_RX_DROP), pend⟩) ∧
    (∀ (whole : Bool), exec (.readMsg whole) ⟨d, pend⟩ = .next ⟨(
        d.spiWhole whole fun d =>
          if d.hifLooped then d.modHif fun x => { x with echoed := x.echo.head?, spiMsg := none, echo := x.echo.tail }
          else
            let m := d.hostOut.find? fun (m : HostMsg) => m.link == .spi
            let d : Dev := { d with hostOut := dropFirst (fun (m : HostMsg) => m.link == .spi) d.hostOut }
            let d := d.modHif fun x => { x with spiMsg := m, echoed := none }
            if m.isSome && d.hifTx .spi == 0 then d.raise HIF.page HIF.ev_TX_EMPTY else d), pend⟩) ∧
    (∀ (a : Word) (whole : Bool), exec (.regRead a whole) ⟨d, pend⟩ = .next ⟨(
        d.spiWhole whole fun d =>
          let o := a.toNat - 0x40000000
          if a.toNat < 0x40000000 ∨ 0x40100000 ≤ a.toNat then d.spiResult 0 true
          else
            let r := d.busRead .hif o
            r.2.spiResult r.1 r.2.bus.err), pend⟩) ∧
    (∀ (a w : Word) (whole : Bool), exec (.regWrite a w whole) ⟨d, pend⟩ = .next ⟨(
        d.spiWhole whole fun d =>
          let o := a.toNat - 0x40000000
          let served := d.chip.lifecycle != .field || d.roles.any fun r => r.role == 1 && r.link == .spi
          if !served || decide (a.toNat < 0x40000000) || decide (0x40100000 ≤ a.toNat) then d.spiResult 0 true
          else
            let d := d.busWrite .hif o w
            d.modHif fun x => { x with regFail := d.bus.err }), pend⟩) ∧
    (∀ (whole : Bool), exec (.spiStat whole) ⟨d, pend⟩ = .next ⟨(
        d.spiWhole whole fun d =>
          let (n, d) := d.spiNextLen
          let b := fun (x : Bool) (k : Nat) => if x then 2 ^ k else 0
          let w := n % 65536 + b (decide (d.hifRx .spi < 8)) 16 + b (d.get HIF.CNT_FRAME_OVF != 0) 17 + b d.hif.regFail 18 +
            b (d.bit HIF.STAT_FW_READY) 19
          d.modHif fun x => { x with spiWord := BitVec.ofNat 32 w }), pend⟩) ∧
    (∀ (q : Req), exec (.sysInfo q) ⟨d, pend⟩ = .next ⟨(
        d.sysServe q 0x0101 fun d =>
          (Err.NONE, [d.chip.uid.toNat, d.chip.variant.code, lcCode d.chip.lifecycle] ++ d.upd.run.toList.map (·.version) ++
            allPages.map d.capWord)), pend⟩) ∧
    (∀ (q : Req) (data : List Byte), exec (.sysEcho q data) ⟨d, pend⟩ = .next ⟨(
        d.sysServe q 0x0104 fun _ =>
          if 256 < data.length then (Err.RANGE, []) else (Err.NONE, data.map (·.toNat))), pend⟩) ∧
    (∀ (q : Req) (v : BitVec 8), exec (.sysExpert q v) ⟨d, pend⟩ = .next ⟨(
        if q.role ≠ 1 ∨ !d.roleOpen q then d.ledAnswer { q with role := if d.roleOpen q then q.role else 0 } 0x0102 Err.ROLE_DENIED
        else if v = 1 then (d.setBit SYS.EXPERT_EN_EN true).ledAnswer q 0x0102 Err.NONE
        else if v = 0 then d.expertShut.ledAnswer q 0x0102 Err.NONE
        else d.ledAnswer q 0x0102 Err.RANGE), pend⟩)

/-- Completion: Accesses of the bus masters. In every state whose domains are on, whatever waits in the queue and for all
operands, each of these commands answers a next state with the queue unchanged and the device that its clause writes out:
REGISTER_WRITE, LO_REGISTER_READ, MEMORY_ACCESS, MAILBOX_WR_IDX_WRITE, MAILBOX_RD_IDX_WRITE, FRAGMENT_TRAIN_RECEIVE,
SCRUB_PASS, DMA_START, DMA_ABORT, PACING_REQUEST, DMA_BURST, DESCRIPTOR_END. Where a clause asks whether the page accepts the
write or takes the start, the first branch is the effect and the last the rejection. (R11, R19, R20, R21, R27, R28, R29, R39,
R40, R74, R415, R417) -/
def Obligations.BusCommands : Prop :=
  ∀ (d : Dev) (pend : List Instr), d.pwr.off = false →
    (∀ (m : Master) (a : BitVec 20) (w : Word), exec (.registerWrite m a w) ⟨d, pend⟩ = .next ⟨(
        d.busWrite m a.toNat w), pend⟩) ∧
    (∀ (m : Master) (a : BitVec 20), exec (.loRegisterRead m a) ⟨d, pend⟩ = .next ⟨(
        (d.busRead m a.toNat).2), pend⟩) ∧
    (∀ (a : Access), exec (.memoryAccess a) ⟨d, pend⟩ = .next ⟨(
        let x : Access := a
        let a := x.addr.toNat
        let m := x.master
        match memRegion a with
        | none => d.busError
        | some g =>
          match x.write with
          | some l => if d.allowsAll m a l.length true then d.storeBytes m a l else (d.fwBlock m a true).busError
          | none =>
            if !d.allowsAll m a x.len.val false then (d.fwBlock m a false).busZero x.len.val
            else if eccRegion g then
              match x.ecc with
              | .clean => d.loadBytes m a x.len.val
              | .corrected => d.eccCorrected.loadBytes m a x.len.val
              | .uncorrectable => (d.eccLost a (masterNo m)).busError
            else d.loadBytes m a x.len.val), pend⟩) ∧
    (∀ (m : Master) (src dst : Domain) (v : BitVec 6), exec (.mailboxWrIdxWrite m src dst v) ⟨d, pend⟩ = .next ⟨(
        let a := channelAddr src dst
        if d.filterAllows m a true ∧ src ≠ dst then (if v.toNat < 63 then (d.mboxCommit src dst v.toNat).busOk [] else d.busOk [])
        else if src = dst ∧ d.filterAllows m a true then d.busOk []
        else (d.fwBlock m a true).busError), pend⟩) ∧
    (∀ (m : Master) (src dst : Domain) (v : BitVec 6), exec (.mailboxRdIdxWrite m src dst v) ⟨d, pend⟩ = .next ⟨(
        let a := channelAddr src dst + 4
        if d.filterAllows m a true ∧ src ≠ dst then (if v.toNat < 63 then (d.mboxFree src dst v.toNat).busOk [] else d.busOk [])
        else if src = dst ∧ d.filterAllows m a true then d.busOk []
        else (d.fwBlock m a true).busError), pend⟩) ∧
    (∀ (t : Train), exec (.fragmentTrainReceive t) ⟨d, pend⟩ = .next ⟨(
        let answer := fun (d : Dev) (st : Nat) =>
          match t.req with
          | some q => d.toHost { link := q.link, typ := t.typ.toNat, tag := q.tag, status := st, role := q.role }
          | none => d
        if t.cut then answer d Err.BUSY
        else if !trainAgrees t then answer d Err.RANGE
        else d.mail { src := t.src, dst := t.dst, typ := t.typ.toNat, body := t.frags.flatMap fun f => f.data.map (·.toNat) }), pend⟩) ∧
    (∀ (cor uncor : BitVec 16), exec (.scrubPass cor uncor) ⟨d, pend⟩ = .next ⟨(
        let d := (d.set TST.SCRUB_STAT_AGE 0).bump TST.SCRUB_STAT_PASSES
        let d := if cor.toNat = 0 then d
          else (d.set SYS.ECC_CNT_COR (satAt 0xFFFF (d.get SYS.ECC_CNT_COR + cor.toNat))).raise SYS.page SYS.ev_ECC
        if uncor.toNat = 0 then d.card 2 1
        else
          let d := d.set SYS.ECC_CNT_UNCOR (satAt 0xFFFF (d.get SYS.ECC_CNT_UNCOR + (uncor.toNat - 1)))
          let (a, d) := d.free
          d.eccLost a 0xFF), pend⟩) ∧
    (∀ (m : Master) (c : Fin 16) (w : Word), exec (.dmaStart m c w) ⟨d, pend⟩ = .next ⟨(
        if d.accepts m .DMA (0x104 + 0x20 * c.val) then
          let d := d.noKey
          d.chCtl c (w ||| 0x100)
        else d.turnedDown m .DMA (0x104 + 0x20 * c.val)), pend⟩) ∧
    (∀ (m : Master) (c : Fin 16), exec (.dmaAbort m c) ⟨d, pend⟩ = .next ⟨(
        if d.accepts m .DMA (0x104 + 0x20 * c.val) then
          let d := d.noKey
          d.chCtl c ((d.rd (DMA.CH_CTL c) &&& chCtlBits) ||| 0x200)
        else d.turnedDown m .DMA (0x104 + 0x20 * c.val)), pend⟩) ∧
    (∀ (c : Fin 16) (data : List Byte), exec (.pacingRequest c data) ⟨d, pend⟩ = .next ⟨(
        match d.pacers c with
          | [prod] =>
            let wav := d.enabled .WAV && d.get WAV.CFG_DMA_CH == c.val
            if wav then d.wavData data else d.pace c (if prod then data else [])
          | _ => d), pend⟩) ∧
    (∀ (ecc : Ecc), exec (.dmaBurst ecc) ⟨d, pend⟩ = .next ⟨(
        match d.grantLevel with
          | none => d
          | some l => match d.grantCh l with
            | none => d
            | some c => (d.granted l c).burst c ecc), pend⟩) ∧
    (∀ (c : Fin 16), exec (.descriptorEnd c) ⟨d, pend⟩ = .next ⟨(
        let x := d.dma.ch[c]
        if !d.chActive c || !d.unclaimed c || x.circ || d.get (DMA.CH_REM_REM c) != 0 then d
        else
          match (if x.ctl.testBit 16 then d.dmaWrite x.cwAddr (leBytes 4 x.cwData) else (0, d)) with
          | (e + 1, d) => d.chAbort c (e + 1)
          | (0, d) => (if x.ctl.testBit 15 then d.setBit (DMA.CH_STAT_DESC_END c) true else d).chNext c), pend⟩)

/-- Completion: Loops and self-tests. In every state whose domains are on, whatever waits in the queue and for all operands,
each of these commands answers a next state with the queue unchanged and the device that its clause writes out: LOOPBACK_SET,
TEST_QUEUED_START, TEST_COMPLETE, TEST_QUEUE_TIMEOUT, GATE_TEST, TRIP_OUTPUT_TEST, CFG_CRC_TEST, NFR_TAG_TEST,
LSW_LIMIT_TEST, FRAME_LOOP_TEST, SCRUB_TEST, LINEARITY_SWEEP, TRNG_CHARACTERISATION, TEST_RUN, LOOP_SET. Where a clause asks
whether the page accepts the write or takes the start, the first branch is the effect and the last the rejection. (R177,
R245, R413, R443, R521, R522, R524, R525, R526, R527, R529, R530) -/
def Obligations.TestCommands : Prop :=
  ∀ (d : Dev) (pend : List Instr), d.pwr.off = false →
    (∀ (m : Master) (page : BitVec 8) (w : Word), exec (.loopbackSet m page w) ⟨d, pend⟩ = .next ⟨(
        match pageOf page with
        | none => d.noSuchPage
        | some p =>
          if d.accepts m p 0x028 then
            let d := d.noKey
            d.loopWrite m p w.toNat
          else d.turnedDown m p 0x028), pend⟩) ∧
    (∀ (page : BitVec 8), exec (.testQueuedStart page) ⟨d, pend⟩ = .next ⟨(
        match pageOf page with
          | none => d
          | some p => if d.bit (Hdr.TEST_QUEUED p.base) && d.testIdle p (d.get (Hdr.TEST_ID p.base)) then d.testBegin p else d), pend⟩) ∧
    (∀ (page : BitVec 8) (pass : Bool) (ms : BitVec 16), exec (.testComplete page pass ms) ⟨d, pend⟩ = .next ⟨(
        match pageOf page with
          | none => d
          | some p => d.testDone p pass ms.toNat), pend⟩) ∧
    (∀ (page : BitVec 8), exec (.testQueueTimeout page) ⟨d, pend⟩ = .next ⟨(
        match pageOf page with
          | none => d
          | some p =>
            let old := d.testAge.any fun x => x.1 == p.base && decide (3600 * d.get TST.QCFG_TMO ≤ x.2)
            if d.bit (Hdr.TEST_QUEUED p.base) && old then d.testAbandon p 1 else d), pend⟩) ∧
    (∀ (pass : Bool), exec (.gateTest pass) ⟨d, pend⟩ = .next ⟨(
        d.testEnds .SAF 0x01 pass 1), pend⟩) ∧
    (∀ (pass : Bool), exec (.tripOutputTest pass) ⟨d, pend⟩ = .next ⟨(
        d.testEnds .SAF 0x02 pass 1), pend⟩) ∧
    (∀ (pass : Bool), exec (.cfgCrcTest pass) ⟨d, pend⟩ = .next ⟨(
        d.testEnds .SAF 0x40 pass 0), pend⟩) ∧
    (∀ (pass : Bool), exec (.nfrTagTest pass) ⟨d, pend⟩ = .next ⟨(
        d.testEnds .NFR 0x01 pass 30), pend⟩) ∧
    (∀ (pass : Bool), exec (.lswLimitTest pass) ⟨d, pend⟩ = .next ⟨(
        d.testEnds .LSW 0x80 pass 2000), pend⟩) ∧
    (∀ (n : Bay) (t1s pass : Bool), exec (.frameLoopTest n t1s pass) ⟨d, pend⟩ = .next ⟨(
        let p : PageId := (if t1s then .T1S n else .PLC n)
        let id : Nat := 0x01
        let bound : Nat := 5
        if d.bit (Hdr.TEST_RUNNING p.base) && d.get (Hdr.TEST_ID p.base) == id then
          let (ms, d) := d.free
          d.testDone p pass (ms % (bound + 1))
        else d), pend⟩) ∧
    (∀ (pass : Bool), exec (.scrubTest pass) ⟨d, pend⟩ = .next ⟨(
        let run := d.bit (Hdr.TEST_RUNNING SYS.page)
        let d := d.testEnds .SYS 0x40 pass 40
        if run then (d.set TST.SCRUB_STAT_AGE 0).bump TST.SCRUB_STAT_PASSES else d), pend⟩) ∧
    (∀ (pass : Bool), exec (.linearitySweep pass) ⟨d, pend⟩ = .next ⟨(
        d.testEnds .MPL 0x80 pass 4000), pend⟩) ∧
    (∀ (pass : Bool), exec (.trngCharacterisation pass) ⟨d, pend⟩ = .next ⟨(
        d.testEnds .VLT 0x80 pass 10000), pend⟩) ∧
    (∀ (q : Req) (page : Word) (id : BitVec 8) (now : Bool), exec (.testRun q page id now) ⟨d, pend⟩ = .next ⟨(
        let w := id.toNat + (if now then 256 else 0) + 512
        d.testMsg q 0x0901 page (fun d p => d.testError p w) (fun d p => d.testWrite p w)), pend⟩) ∧
    (∀ (q : Req) (page : Word) (depth : BitVec 8) (en : Bool), exec (.loopSet q page depth en) ⟨d, pend⟩ = .next ⟨(
        if 8 ≤ depth.toNat then
          d.ledAnswer q 0x0903 ((d.testServed q).getD Err.RANGE)
        else
          let w := depth.toNat + (if en then 256 else 0)
          d.testMsg q 0x0903 page (fun d p => d.loopError p w) (fun d p => d.loopWrite .dbg p w)), pend⟩)

/-- Completion: The wheel, its source, the boundary and the seats. In every state whose domains are on, whatever waits in the
queue and for all operands, each of these commands answers a next state with the queue unchanged and the device that its
clause writes out: CAR_SOURCE_CHANGE, CAR_ZERO_CROSSING, SOURCE_LOST, CAR_CYCLE_BOUNDARY, CAR_TICK, INTERVAL_BOUNDARY,
SEAT_WRITE, SEAT_ARM, SEAT_CANCEL, SEAT_FIRE. With the domains on or off so do RTC_SECOND_TICK. Where a clause asks whether
the page accepts the write or takes the start, the first branch is the effect and the last the rejection. (R45, R53, R55,
R56, R57, R58, R61, R65, R69, R96, R324, R441) -/
def Obligations.CarouselCommands : Prop :=
  ∀ (d : Dev) (pend : List Instr),
    (d.pwr.off = false →
    (∀ (m : Master) (w : Word), exec (.carSourceChange m w) ⟨d, pend⟩ = .next ⟨(
        if d.accepts m .CAR 0x040 then
          let d := d.noKey
          match d.carCfgError w.toNat with
          | some e => d.reject CAR.page e
          | none =>
            let moves := w.toNat % 8 != d.get CAR.CFG_SRC_MET || w.toNat / 16 % 4 != d.get CAR.CFG_SRC_PH
            let d := d.wr CAR.CFG (w &&& 0x0001F137)
            let d := if d.car.periods.isEmpty && !d.locked && !d.bit CAR.STAT_SRC_OK then
                (d.set CAR.FREQ_FREQ d.nominalFreq).modCar fun x => { x with periodNs := d.nominalNs }
              else d
            if moves && d.enabled .CAR then
              ((d.setBit CAR.STAT_SRC_OK false).carEnter false true).modCar fun x => { x with validRun := 0, slew := false, theta := none }
            else d
        else d.turnedDown m .CAR 0x040), pend⟩) ∧
    (∀ (period : Nat) (i q : Int) (angle : BitVec 16) (c : CycleData),
        exec (.carZeroCrossing period i q angle c) ⟨d, pend⟩ = .next ⟨(
        if d.enabled .CAR then (d.wheelTo (d.car.cyc * 65536 + angle.toNat)).carCrossing period i q angle.toNat c else d), pend⟩) ∧
    (exec .sourceLost ⟨d, pend⟩ = .next ⟨(
        if !d.locked && !d.acquiring then d.modCar fun c => { c with validRun := 0 }
        else
          let d := if d.locked then (d.bump CAR.STAT_RELOCKS).raise CAR.page CAR.ev_FREEWHEEL else d
          let held := if d.locked && !d.car.periods.isEmpty then roundDiv d.car.periods.sum d.car.periods.length else d.car.periodNs
          let d := (d.setBit CAR.STAT_SRC_OK false).carEnter false false
          d.modCar fun c => { c with validRun := 0, slew := false, theta := none, periodNs := held }), pend⟩) ∧
    (∀ (c : CycleData), exec (.carCycleBoundary c) ⟨d, pend⟩ = .next ⟨(
        let d := d.carFollow
        let d := if d.cycleEnd ≤ d.wheel then d else (d.tickTo d.cycleEnd).tickWork
        let d := d.carCycle c 65536
        d.wheelTo d.wheel), pend⟩) ∧
    (exec .carTick ⟨d, pend⟩ = .next ⟨(
        if d.cycleEnd ≤ d.wheel then d else ((d.carFollow).tickTo ((d.wheel / 1024 + 1) * 1024)).tickWork), pend⟩) ∧
    (exec .intervalBoundary ⟨d, pend⟩ = .next ⟨(
        match d.car.bndDue with
        | none => d
        | some (sec, cyc) =>
          if d.car.cyc ≤ cyc then d
          else
            let wt := (cyc + 1) * 65536
            let seq := (d.rdN CAR.BND_SEQ + 1) % 2 ^ 32
            let b : Boundary := { seq := seq, wt := wt, sec := sec, fw := d.car.bndFw }
            let miss := !d.car.missed.isEmpty || decide (16 ≤ d.car.latched.length)
            let d := ((d.wrN CAR.BND_SEQ seq).wrN CAR.BND_WT_LO (wt % 2 ^ 32)).wrN CAR.BND_WT_HI (wt / 2 ^ 32)
            let d := d.modCar fun x =>
              if miss then { x with bndDue := none, missed := x.missed ++ [b],
                                    missBase := if x.missed.isEmpty then x.latched.getLast? else x.missBase }
              else { x with bndDue := none, latched := x.latched ++ [b] }
            let d := if miss then d.setBit CAR.BND_STAT_OVF true else d.set CAR.BND_STAT_PEND d.car.latched.length
            d.raise CAR.page CAR.ev_BOUNDARY), pend⟩) ∧
    (∀ (m : Master) (k : Fin 64) (word : Fin 3) (w : Word), exec (.seatWrite m k word w) ⟨d, pend⟩ = .next ⟨(
        if d.accepts m .CAR (0x100 + 12 * k.val + 4 * word.val) then
          let d := d.noKey
          if k.val < 36 then d.reject CAR.page Err.NOT_OWNER
          else if word = 0 ∧ !generalAction (w.toNat / 2 ^ 24 % 64) then d.reject CAR.page Err.RANGE
          else if d.seatArmed k.val then d.reject CAR.page Err.BUSY
          else d.wr (CAR.SEAT_CTL k.val + 4 * word.val) w
        else d.turnedDown m .CAR (0x100 + 12 * k.val + 4 * word.val)), pend⟩) ∧
    (∀ (m : Master) (hi : Bool) (mask : Word), exec (.seatArm m hi mask) ⟨d, pend⟩ = .next ⟨(
        if d.accepts m .CAR (if hi then 0x084 else 0x080) then
          let d := d.noKey
          if foreignSeats hi mask.toNat then d.reject CAR.page Err.NOT_OWNER
          else if d.draining .CAR then d.reject CAR.page Err.DRAINING
          else if !d.enabled .CAR then d.reject CAR.page Err.SEQUENCE
          else (seatsOf hi).foldl (fun d k => if mask.toNat.testBit (k.val % 32) then d.seatArm1 k else d) d
        else d.turnedDown m .CAR (if hi then 0x084 else 0x080)), pend⟩) ∧
    (∀ (m : Master) (hi : Bool) (mask : Word), exec (.seatCancel m hi mask) ⟨d, pend⟩ = .next ⟨(
        if d.accepts m .CAR (if hi then 0x08C else 0x088) then
          let d := d.noKey
          if foreignSeats hi mask.toNat then d.reject CAR.page Err.NOT_OWNER
          else (seatsOf hi).foldl (fun d k => if mask.toNat.testBit (k.val % 32) then d.seatDrop k else d) d
        else d.turnedDown m .CAR (if hi then 0x08C else 0x088)), pend⟩) ∧
    (∀ (k : Fin 64), exec (.seatFire k) ⟨d, pend⟩ = .next ⟨(
        if !d.enabled .CAR then d
        else if d.seatArmed k.val then (if d.seatDue k < d.cycleEnd then d.wheelTo (max d.wheel (d.seatDue k)) else d)
        else match d.car.cut.find? fun e => e.1 == k.val && e.2.1 == d.now with
          | some e =>
            if e.2.2 < d.cycleEnd then
              let d := (d.modCar fun x => { x with cut := x.cut.filter fun f => f.1 != k.val }).wheelTo (max d.wheel e.2.2)
              d.seatGo k e.2.2
            else d
          | none => d), pend⟩)) ∧
    (∀ (adv : BitVec 10), exec (.rtcSecondTick adv) ⟨d, pend⟩ = .next ⟨(
        let d := d.rtcCount
        if d.pwr.off then d
        else
          let d := ((d.raise RTC.page RTC.ev_SECOND).captureSecond adv.toNat).alarmCheck
          let d := d.calSecond.rcdSecond.safSecond.obeySecond.roleSecond.tempSecond
          let d := (d.shareSecond.cardSecond.bump TST.SCRUB_STAT_AGE).trialSecond.testSecond.rtcRefresh
          d.legalShow), pend⟩)

/-- Completion: Converters, rotation, input map, streams and reference. In every state whose domains are on, whatever waits in
the queue and for all operands, each of these commands answers a next state with the queue unchanged and the device that its
clause writes out: INITIAL_CALIBRATION_DONE, ROTATION_STEP, SHADOW_RESULT, CAL_AGED, SHADOW_GRANT, MAP_ENTRY_WRITE,
MAP_CRC_COMPARE, MDAT_STUCK, MDAT_RECOVER, MCLK_LOSS, REF_FAULT, RINJ_START, RINJ_DONE. Where a clause asks whether the page
accepts the write or takes the start, the first branch is the effect and the last the rejection. (R83, R85, R86, R87, R89,
R90, R92, R93, R94, R95, R96, R226) -/
def Obligations.PoolCommands : Prop :=
  ∀ (d : Dev) (pend : List Instr), d.pwr.off = false →
    (∀ (refOk : Bool) (faults : BitVec 28), exec (.initialCalibrationDone refOk faults) ⟨d, pend⟩ = .next ⟨(
        if d.bit MPL.STAT_INIT_DONE || !d.enabled .MPL || d.mpl.clockFault then d
        else
        let d := d.setBit MPL.STAT_INIT_DONE true
        let d := if refOk then d.setBit MPL.STAT_REF_OK true else d.refFault
        let d := [0, 1, 2, 3].foldl (fun d g => d.calGroup faults.toNat g) d
        let d := if refOk then d.card 4 1 else d
        (List.range 24).foldl (fun d i =>
          match (if d.mpl.noConv.testBit i then d.feedsMetering i else none) with
          | some p => d.selfCheckFail p 5 i
          | none => d) d), pend⟩) ∧
    (∀ (g : Fin 4) (gain ofs : Int), exec (.rotationStep g gain ofs) ⟨d, pend⟩ = .next ⟨(
        let due := !d.mpl.grp[g].shadow || (List.range 7).any fun j => decide (50 ≤ d.get (calAge (7 * g.val + j)))
        if d.retrying g then d.spareCal g gain ofs
        else if d.flag MPL.STAT_GRP_OK g.val ∧ !d.flag MPL.STAT_ROTATING g.val ∧ due ∧ !d.bit PWR.STAT_HOLDUP then
          (d.modGrp g fun x => { x with failed := none }).spareCal g gain ofs
        else d), pend⟩) ∧
    (∀ (g : Fin 4) (samples : List (Int × Int)) (relGain relOfs dGain dOfs : Int),
        exec (.shadowResult g samples relGain relOfs dGain dOfs) ⟨d, pend⟩ = .next ⟨(
        if d.get (MPL.ROTSTAT_PHASE g.val) = 3 ∧ d.flag MPL.STAT_ROTATING g.val then
          let i := d.get (MPL.ASSIGN_NEXT g.val)
          let src := 6 * g.val + i
          let relOk := d.calOk relGain relOfs
          if !d.inputActive src then d.swapConv g relOk
          else
            let lim := d.get MPL.CALLIM_MIS_PPM
            let gain := shadowGain samples
            let ofs := shadowOfs samples
            let gi := match gain with
              | some q => roundRat q
              | none => 0
            let pass := (match gain with
              | some q => decide (ratAbs q ≤ (lim : Rat))
              | none => true) && decide (ratAbs ofs ≤ (lim : Rat))
            let d := if gain.isSome then d.set (MPL.ROTSTAT_LAST_GAIN g.val) (sat8 gi) else d
            let d := d.set (MPL.ROTSTAT_LAST_OFS g.val) (sat8 (roundRat ofs))
            if pass then d.swapConv g relOk
            else
              let d := (d.bump MPL.MISMATCH_COUNT).raise MPL.page MPL.ev_MISMATCH
              match d.mpl.grp[g].failed with
              | none => (d.modGrp g fun x => { x with failed := some (gi, roundRat ofs) }).set (MPL.ROTSTAT_PHASE g.val) 1
              | some f =>
                let d := d.bump MPL.MISMATCH_FORCED
                let d := d.glogHw 0x0004 0xFF (leBytes 1 g.val ++ leBytes 1 i ++ leBytes 1 (sat8 f.1) ++ leBytes 1 (sat8 f.2) ++
                  leBytes 1 (sat8 gi) ++ leBytes 1 (sat8 (roundRat ofs)) ++ leBytes 3 (toUnsigned 24 dGain) ++
                  leBytes 3 (toUnsigned 24 dOfs))
                (d.markCalStep src).swapConv g relOk
        else if d.mpl.grp[g].shadow && !d.flag MPL.STAT_ROTATING g.val then (d.shadowVisit g samples).safeOkUpdate
        else d), pend⟩) ∧
    (∀ (c : Fin 28), exec (.calAged c) ⟨d, pend⟩ = .next ⟨(
        let g := c.val / 7
        match (List.range 6).find? fun i => d.get (assignIn g i) == c.val % 7 && d.agedIn g i with
        | some i =>
          let d := (d.setBit MPL.STAT_CAL_AGED true).raise MPL.page MPL.ev_CAL_AGED
          match d.feedsMetering (6 * g + i) with
          | some p => d.selfCheckFail p 4 (6 * g + i)
          | none => d
        | none => d), pend⟩) ∧
    (∀ (g : Fin 4) (on : Bool), exec (.shadowGrant g on) ⟨d, pend⟩ = .next ⟨(
        if !on then d.modGrp g fun x => { x with shadow := false }
        else if !d.flag MPL.STAT_ROTATING g.val ∧ d.flag MPL.STAT_GRP_OK g.val ∧ 1 ≤ d.get SAF.MODE_CHMODE ∧ d.get SAF.MODE_CHMODE ≤ 3
        then d.modGrp g fun x => { x with shadow := true }
        else d), pend⟩) ∧
    (∀ (m : Master) (i : Fin 80) (w : Word), exec (.mapEntryWrite m i w) ⟨d, pend⟩ = .next ⟨(
        if d.accepts m .MPL (0x100 + 4 * i.val) then
          let d := d.noKey
          match d.mapError i.val w.toNat with
          | some e => d.reject MPL.page e
          | none =>
            let fixed := (if i.val / 16 = 4 then decide (7 ≤ i.val % 16 ∧ i.val % 16 < 14)
              else decide (10 ≤ i.val % 16 ∧ i.val % 16 < 14) && !d.chip.variant.dc)
            if fixed then d
            else
              let old := d.get (MPL.MAP_SRC i.val)
              let d := d.wr (MPL.MAP i.val) (w &&& 0x00FF0FFF)
              let d := d.abandonStep (d.get (MPL.MAP_SRC i.val))
              let d := d.abandonStep old
              let p : Fin 5 := ⟨i.val / 16, by omega⟩
              let d := if (requiredSlots d.met[p].cfgEff).contains (i.val % 16) then d.modMet p fun x => { x with remap := true }
                else d
              (d.wrN MPL.MAP_CRC d.mapCrc).raise MPL.page MPL.ev_MAP_CHANGED
        else d.turnedDown m .MPL (0x100 + 4 * i.val)), pend⟩) ∧
    (exec .mapCrcCompare ⟨d, pend⟩ = .next ⟨(
        if d.legalPart then d.mapCompare else d), pend⟩) ∧
    (∀ (i : Fin 16), exec (.mdatStuck i) ⟨d, pend⟩ = .next ⟨(
        if d.bit (MPL.MDAT_CFG_EN i.val) ∧ (i.val < 8 ∨ d.chip.variant.pkgB) then
          let d := (d.setFlag MPL.MDAT_STAT_STUCK i.val true).raise MPL.page MPL.ev_STUCK
          let d := ({ d with mpl := { d.mpl with stuck := setBitN d.mpl.stuck i.val true } } : Dev).taint (2 ^ (0x20 + i.val))
          d.streamFail (0x20 + i.val) i.val
        else d), pend⟩) ∧
    (∀ (i : Fin 16), exec (.mdatRecover i) ⟨d, pend⟩ = .next ⟨(
        { d with mpl := { d.mpl with stuck := setBitN d.mpl.stuck i.val false } }), pend⟩) ∧
    (∀ (k : Fin 4) (lost : Bool) (err : BitVec 8), exec (.mclkLoss k lost err) ⟨d, pend⟩ = .next ⟨(
        if d.flag MPL.MCLK_MODE_IN k.val then
          let d := d.set ⟨MPL.MCLK_ERR, 8 * k.val, 8⟩ err.toNat
          let d := { d with mpl := { d.mpl with ckLost := setBitN d.mpl.ckLost k.val lost } }
          let d := d.setFlag MPL.STAT_MCLK_OK k.val (!lost)
          if lost then
            let d := ((d.taint (d.clockInputs k.val)).setFlag MPL.MDAT_STAT_CLKLOSS k.val true).raise MPL.page MPL.ev_MCLK_LOSS
            match (List.range 16).find? fun i =>
                d.bit (MPL.MDAT_CFG_EN i) && d.get (MPL.MDAT_CFG_CLKSEL i) == k.val && (d.feedsMetering (0x20 + i)).isSome with
            | some i => d.streamFail (0x20 + i) k.val
            | none => d
          else d
        else d), pend⟩) ∧
    (exec .refFault ⟨d, pend⟩ = .next ⟨(
        ((d.setBit MPL.STAT_REF_OK false).raise MPL.page MPL.ev_REF_FAULT).selfCheckFail 0xFF 2 0xFF), pend⟩) ∧
    (∀ (m : Master) (w : Word), exec (.rinjStart m w) ⟨d, pend⟩ = .next ⟨(
        if d.starts m .MPL 0x244 then
          let d := d.noKey
          match (
              if w.toNat / 16 % 4 = 0 then some Err.RANGE
              else if 8 ≤ w.toNat % 16 ∧ !d.chip.variant.pkgB then some Err.NOT_FUSED
              else if !d.rinjOwn then some Err.SEQUENCE
              else if d.mpl.rinj.isSome ∨ d.mpl.rinjQueued then some Err.BUSY
              else none) with
          | some c => d.reject (.MPL : PageId).base c
          | none =>
            let v := w.toNat
            if d.mdatMeters (v % 16) then
              if v.testBit 7 then (d.setBit MPL.RINJ_RES_REFUSED true).reject MPL.page Err.BUSY
              else
                let d := d.wr MPL.RINJ_CFG (w &&& 0xFFFF00BF)
                { d with mpl := { d.mpl with rinjQueued := true } }
            else (d.wr MPL.RINJ_CFG (w &&& 0xFFFF00BF)).rinjBegin
        else d.startRefused m .MPL 0x244), pend⟩) ∧
    (∀ (avg : BitVec 24), exec (.rinjDone avg) ⟨d, pend⟩ = .next ⟨(
        if d.mpl.rinj.isSome then
          let e := signed 24 (d.get MPL.RINJ_EXP_EXP)
          let a := signed 24 avg.toNat
          let pass := decide ((a - e).natAbs * 1000000 ≤ d.get MPL.RINJ_CFG_TOL * e.natAbs)
          let d : Dev := { d with mpl := { d.mpl with rinj := none } }
          (((d.set MPL.RINJ_RES_AVG avg.toNat).setBit MPL.RINJ_RES_PASS pass).setBit MPL.RINJ_RES_FAIL (!pass)).raise MPL.page
            MPL.ev_RINJ_DONE
        else d), pend⟩)

/-- Completion: Waveform capture and the meters' configuration. In every state whose domains are on, whatever waits in the
queue and for all operands, each of these commands answers a next state with the queue unchanged and the device that its
clause writes out: WAV_ARM, WAV_TRIGGER, WAV_DONE, WAV_STOP, WAV_OVERRUN, SENSOR_PARAM_LOAD, METER_CFG_WRITE,
HARMONIC_WINDOW_END, REDERR_SET, REDERR_CLEAR, ECLR. Where a clause asks whether the page accepts the write or takes the
start, the first branch is the effect and the last the rejection. (R97, R98, R99, R102, R104, R106, R113, R116, R127) -/
def Obligations.MeterCommands : Prop :=
  ∀ (d : Dev) (pend : List Instr), d.pwr.off = false →
    (∀ (m : Master), exec (.wavArm m) ⟨d, pend⟩ = .next ⟨(
        if d.starts m .WAV 0x060 then
          let d := d.noKey
          match (
              let c := chan (d.get WAV.CFG_DMA_CH)
              if !d.chActive c || !d.dma.ch[c].circ then some Err.SEQUENCE
              else if d.bit WAV.CFG_RATE && (List.range 16).any (fun i => (d.wavCh i).1 && dcSlot (d.wavCh i).2) then some Err.RANGE
              else none) with
          | some c => d.reject (.WAV : PageId).base c
          | none =>
            let d := ((d.wrN WAV.STAT 1).wrN WAV.REC_CNT 0).setBit (Hdr.BUSY WAV.page) true
            { d with wav := {} }
        else d.startRefused m .WAV 0x060), pend⟩) ∧
    (∀ (m : Master) (cause : WavCause), exec (.wavTrigger m cause) ⟨d, pend⟩ = .next ⟨(
        match cause with
          | .seat k => d.wavTrig k.val
          | .software => d.guard m .WAV 0x054 fun d => d.wavTrig 4
          | .level old new => if d.wavCrosses old new then d.wavTrig 5 else d
          | .safety => d.wavTrig 6), pend⟩) ∧
    (exec .wavDone ⟨d, pend⟩ = .next ⟨(
        if d.bit WAV.STAT_ARMED && d.wavFull then d.wavEnd else d), pend⟩) ∧
    (∀ (m : Master), exec (.wavStop m) ⟨d, pend⟩ = .next ⟨(
        if d.accepts m .WAV 0x060 then
          let d := d.noKey
          let d := d.wavPace true
          (((d.setBit WAV.STAT_ARMED false).setBit WAV.STAT_DONE true).setBit (Hdr.BUSY WAV.page) false).raise WAV.page WAV.ev_DONE
        else d.turnedDown m .WAV 0x060), pend⟩) ∧
    (∀ (n : Word), exec (.wavOverrun n) ⟨d, pend⟩ = .next ⟨(
        if d.bit WAV.STAT_ARMED && decide (4096 < d.wavFill + max 4 d.wavRecord) then
          ((d.setBit WAV.STAT_OVR true).wrN WAV.REC_CNT (d.rdN WAV.REC_CNT + n.toNat)).raise WAV.page WAV.ev_OVR
        else d), pend⟩) ∧
    (∀ (m : Master) (p : Fin 5) (r : Fin 51) (w : Word), exec (.sensorParamLoad m p r w) ⟨d, pend⟩ = .next ⟨(
        if d.legalPart then (if m = .lgl then d.sensorLoad p r.val w else d)
        else d.guard m (.MET p) (sensorReg p r.val - MET.page p) fun d => d.sensorLoad p r.val w), pend⟩) ∧
    (∀ (m : Master) (p : Fin 5) (w : Word), exec (.meterCfgWrite m p w) ⟨d, pend⟩ = .next ⟨(
        if d.accepts m (.MET p) 0x040 then
          let d := d.noKey
          match d.metCfgError p w.toNat with
          | some e => d.reject (MET.page p) e
          | none => d.wr (MET.CFG p) (w &&& 0x7F3)
        else d.turnedDown m (.MET p) 0x040), pend⟩) ∧
    (∀ (p : Fin 5), exec (.harmonicWindowEnd p) ⟨d, pend⟩ = .next ⟨(
        match d.met[p].winDone with
        | none => d
        | some w =>
          let (v, d) := d.free
          let mag := fun q h => (w.mag[40 * q + h]?).getD 0
          let ratio := fun (unit : Nat) (num den : Rat) => if den = 0 then v else rootIn unit (num / den)
          let d := (List.range 6).foldl (fun d q =>
            d.set (MET.THD_THD p q) (satAt 0xFFFF (ratio 10000 ((List.range 39).map fun h => mag q (h + 1)).sum (mag q 0)))) d
          let sel := d.harmSel p
          let d := (List.range 40).foldl (fun d k =>
            (d.wrN (MET.HMAG p k) (if k = 0 then rootIn 1000 (mag sel 0 / (max 1 w.n : Nat))
              else satAt 0xFFFFFF (ratio 100000 (mag sel k) (mag sel 0)))).set (MET.HPH_PH p k)
              ((roundRat ((((w.ph0[k]?).getD 0 : Nat) + ((w.dev[k]?).getD 0 : Rat) / (max 1 w.n : Nat)) / 65536) % 65536).toNat)) d
          ((d.setBit (MET.STAT_HSTAT_FW p) w.fw).raise (MET.page p) MET.ev_HARM).modMet p fun x => { x with winDone := none }), pend⟩) ∧
    (∀ (p : Fin 5) (i12 i13 : Int), exec (.rederrSet p i12 i13) ⟨d, pend⟩ = .next ⟨(
        let tol : Rat := (d.get (MET.RED_TOL_TOL_R p) * i12.natAbs : Nat) / 10000 +
          d.get (MET.RED_TOL_TOL_F p) * (floatRat (d.rd (MET.SCALE p 12)) * 2 ^ 23 * 1000) / 10000
        if d.met[p].cfgEff % 4 = 2 ∧ d.met[p].cfgEff.testBit 9 ∧ tol < ((i12 - i13).natAbs : Nat) ∧ !d.bit (MET.STAT_REDERR p)
        then
          let d := (d.setBit (MET.STAT_REDERR p) true).raise (MET.page p) MET.ev_REDERR
          if h : p.val < 4 then d.netCause ⟨p.val, h⟩ Net.DCRED else d
        else d), pend⟩) ∧
    (∀ (p : Fin 5), exec (.rederrClear p) ⟨d, pend⟩ = .next ⟨(
        let d := d.setBit (MET.STAT_REDERR p) false
        if h : p.val < 4 then d.modSafBay ⟨p.val, h⟩ fun b => { b with lfault := setBitN b.lfault 3 false } else d), pend⟩) ∧
    (∀ (m : Master) (p : Fin 5), exec (.eclr m p) ⟨d, pend⟩ = .next ⟨(
        if d.accepts m (.MET p) 0x0F0 then
          let d := d.noKey
          ((((d.modMet p fun x => { x with eimp := 0, eexp := 0 }).wrN (MET.EIMP_LO p) 0).wrN (MET.EIMP_HI p) 0).wrN
            (MET.EEXP_LO p) 0).wrN (MET.EEXP_HI p) 0
        else d.turnedDown m (.MET p) 0x0F0), pend⟩)

/-- Completion: The bay engine's inputs, table, queue and stops. In every state whose domains are on, whatever waits in the
queue and for all operands, each of these commands answers a next state with the queue unchanged and the device that its
clause writes out: CP_PWM_PERIOD, CP_STATE_CHANGE, DIODE_FAIL, DIODE_OK_RESTORE, PP_MEASURE, LIMIT_REGISTER_WRITE,
TABLE_LOAD, TABLE_VALIDATION_DONE, EVT_POST, BAY_EVENT_HANDLE, BAY_TIMER_EXPIRY, REQ_POP, STOP_REQ_HOST, STOP_REQUEST,
BAY_STOP_TIMEOUT. Where a clause asks whether the page accepts the write or takes the start, the first branch is the effect
and the last the rejection. (R128, R130, R131, R132, R133, R134, R135, R137, R146, R148, R153, R294) -/
def Obligations.BayCommands : Prop :=
  ∀ (d : Dev) (pend : List Instr), d.pwr.off = false →
    (∀ (n : Bay) (samples : List (BitVec 12)), exec (.cpPwmPeriod n samples) ⟨d, pend⟩ = .next ⟨(
        let d := if d.enabled (.BAY n) then d.cpMeasure n samples else d
        let b := d.bay[n]
        let d := match b.pendDuty with
          | some x => d.set (BAY.CP_DUTY_DUTY n) x
          | none => d
        let d := match b.pendMode with
          | some m => d.set (BAY.CP_STAT_MODE n) m
          | none => d
        d.modBay n fun b => { b with pendDuty := none, pendMode := none }), pend⟩) ∧
    (∀ (n : Bay), exec (.cpStateChange n) ⟨d, pend⟩ = .next ⟨(
        let b := d.bay[n]
        if b.clsCnt < d.get (BAY.CFG_CP_DEB n) ∨ b.cls = d.get (BAY.CP_STAT_STATE n) then d
        else
          let d := (d.set (BAY.CP_STAT_STATE n) b.cls).raise (BAY.page n) BAY.ev_CP
          let d := if b.cls = 0 then
              (((d.setBit (BAY.CP_STAT_DIODE_OK n) true).modBay n fun b => { b with dioFault := false, dioBad := 0 }).acctCpA n).selfEndA n
            else d
          (d.cpFault n).bayPost n (if b.cls = 6 then Ev.CP_INVALID else b.cls)), pend⟩) ∧
    (∀ (n : Bay), exec (.diodeFail n) ⟨d, pend⟩ = .next ⟨(
        if d.get (BAY.CFG_CP_DEB n) ≤ d.bay[n].dioBad ∧ !d.bay[n].dioFault then
          let d := (d.setBit (BAY.CP_STAT_DIODE_OK n) false).modBay n fun b => { b with dioFault := true }
          (d.cpFault n).bayPost n Ev.DIODE_FAIL
        else d), pend⟩) ∧
    (∀ (n : Bay), exec (.diodeOkRestore n) ⟨d, pend⟩ = .next ⟨(
        if d.get (BAY.CFG_CP_DEB n) ≤ d.bay[n].dioGood then
          ((d.setBit (BAY.CP_STAT_DIODE_OK n) true).modBay n fun b => { b with dioFault := false }).cpFault n
        else d), pend⟩) ∧
    (∀ (n : Bay) (mv : BitVec 12), exec (.ppMeasure n mv) ⟨d, pend⟩ = .next ⟨(
        if !d.bit (BAY.CFG_PP_EN n) then d
        else
          let v := mv.toNat
          let opn := decide (3300 ≤ v)
          let r : Rat := if opn then 1000000 else ((d.get (BAY.PPCFG_RPU n) * v : Nat) : Rat) / (3300 - v : Nat)
          let code := ppCode r
          let d := d.set (BAY.PP_STAT_R n) (if opn then 0xFFFF else satAt 0xFFFF (roundRat r).toNat)
          let b := d.bay[n]
          let cnt := if code = b.ppCand then satInc 3 b.ppCnt else 1
          let d := d.modBay n fun b => { b with ppCand := code, ppCnt := cnt }
          if cnt < 3 then d
          else
            let was := d.get (BAY.PP_STAT_CODE n)
            let d := (d.set (BAY.PP_STAT_CODE n) code).wrN (BAY.LIM n 1) (ppRating code + 0xFFFF * 65536)
            if code = was then d
            else (d.raise (BAY.page n) BAY.ev_PP).bayPost n (if code = 7 then Ev.PP_INVALID else Ev.PP_CHANGE)), pend⟩) ∧
    (∀ (m : Master) (n : Bay) (k : Fin 8) (w : Word), exec (.limitRegisterWrite m n k w) ⟨d, pend⟩ = .next ⟨(
        let d := d.noKey
        if !d.hasBay n then d.reject (BAY.page n) Err.NOT_FUSED
        else if d.limWriter m n k.val then d.wr (BAY.LIM n k.val) w
        else d.reject (BAY.page n) Err.NOT_OWNER), pend⟩) ∧
    (∀ (m : Master) (n : Bay) (w : Word), exec (.tableLoad m n w) ⟨d, pend⟩ = .next ⟨(
        if d.accepts m (.BAY n) 0x044 then
          let d := d.noKey
          if w.toNat % 16 ≠ 0 then d.reject (BAY.page n) Err.RANGE
          else if w.toNat.testBit 31 && !d.bayIdle n then d.reject (BAY.page n) Err.BUSY
          else
            let d := d.wr (BAY.TBL_SEL n) (w &&& 0x400FFFFF)
            if w.toNat.testBit 31 then d.modBay n fun b => { b with loading := true } else d
        else d.turnedDown m (.BAY n) 0x044), pend⟩) ∧
    (∀ (n : Bay), exec (.tableValidationDone n) ⟨d, pend⟩ = .next ⟨(
        if !d.bay[n].loading then d
        else
          let d := d.modBay n fun b => { b with loading := false }
          let dc := d.bit (BAY.CFG_DC n)
          if d.bit (BAY.TBL_SEL_DEF n) then d.tblInstall n (defTable dc)
          else match d.tblCheck dc (d.get (BAY.TBL_SEL_OFFSET n)) with
            | .inr t => d.tblInstall n t
            | .inl c =>
              let d := d.modBay n fun b => { b with live := b.live || (d.bit (BAY.TBL_STAT_LOADED n) && d.tableMay n) }
              (((d.setBit (BAY.TBL_STAT_BAD n) true).set (BAY.TBL_STAT_CAUSE n) c).raise (BAY.page n) BAY.ev_TBL_BAD).reject
                (BAY.page n) Err.RANGE), pend⟩) ∧
    (∀ (m : Master) (n : Bay) (e : BitVec 6), exec (.evtPost m n e) ⟨d, pend⟩ = .next ⟨(
        if d.accepts m (.BAY n) 0x068 then
          let d := d.noKey
          if postable e.toNat then d.bayPost n e.toNat else d.reject (BAY.page n) Err.RANGE
        else d.turnedDown m (.BAY n) 0x068), pend⟩) ∧
    (∀ (n : Bay), exec (.bayEventHandle n) ⟨d, pend⟩ = .next ⟨(
        let b := d.bay[n]
        if !b.live || b.running.isSome || b.selfStop || !d.tableRuns then d
        else match d.bayTake n with
          | some (e, d) => d.bayHandle n e
          | none => d), pend⟩) ∧
    (∀ (n : Bay) (k : Fin 8), exec (.bayTimerExpiry n k) ⟨d, pend⟩ = .next ⟨(
        if d.flag (BAY.TMR_ACT_ACT n) k.val then (d.setFlag (BAY.TMR_ACT_ACT n) k.val false).bayPost n (Ev.TIMER0 + k.val) else d), pend⟩) ∧
    (∀ (n : Bay), exec (.reqPop n) ⟨d, pend⟩ = .next ⟨(
        let d := d.modBay n fun b => { b with reqs := b.reqs.drop 1 }
        match d.bay[n].running with
        | some (next, l) => d.bayRun n next l
        | none => d), pend⟩) ∧
    (∀ (m : Master) (n : Bay), exec (.stopReqHost m n) ⟨d, pend⟩ = .next ⟨(
        let d := d.noKey
        if !d.hasBay n then d.reject (BAY.page n) Err.NOT_FUSED
        else if m = .hif ∨ d.owns m (.BAY n) then d.stopRequest n (2 ^ 7)
        else d.reject (BAY.page n) Err.NOT_OWNER), pend⟩) ∧
    (∀ (n : Bay) (mask : BitVec 8), exec (.stopRequest n mask) ⟨d, pend⟩ = .next ⟨(
        d.stopRequest n mask.toNat), pend⟩) ∧
    (∀ (n : Bay), exec (.bayStopTimeout n) ⟨d, pend⟩ = .next ⟨(
        if d.bay[n].stopHeld.isSome && !d.bayIdle n && !d.bay[n].selfStop then d.selfStop n else d), pend⟩)

/-- Completion: The primitives of a transition table. In every state whose domains are on, whatever waits in the queue and for
all operands, each of these commands answers a next state with the queue unchanged and the device that its clause writes out:
END, SET_DUTY, SET_STATE_X1, SET_STATE_X2, CP_NEG, START_SLAC, REQUEST_AUTH, NOTIFY_HOST, LOCK, HLC_STOP, CT_CLOSE_AT,
CT_OPEN_AT, START_TIMER, STOP_TIMER, LIMIT_CURRENT, OPEN_SESSION, START_METERING, END_SESSION, RCD_TEST, IMD_RUN, POST_EVENT,
SNET_RESUME. (R136, R139, R140, R141, R142, R144, R145, R146, R147, R235) -/
def Obligations.PrimitiveCommands : Prop :=
  ∀ (d : Dev) (pend : List Instr), d.pwr.off = false →
    (∀ (n : Bay), exec (.endList n) ⟨d, pend⟩ = .next ⟨(
        match d.bay[n].running with
          | some (next, _) => d.bayEnter n next
          | none => d), pend⟩) ∧
    (∀ (n : Bay) (arg : BitVec 16), exec (.setDuty n arg) ⟨d, pend⟩ = .next ⟨(
        d.setDuty n arg.toNat), pend⟩) ∧
    (∀ (n : Bay), exec (.setStateX1 n) ⟨d, pend⟩ = .next ⟨(
        let m : Nat := 1
        if !d.enabled (.BAY n) then d
        else d.modBay n fun b => { b with pendMode := some (if d.bit PWR.STAT_HOLDUP then 1 else m) }), pend⟩) ∧
    (∀ (n : Bay), exec (.setStateX2 n) ⟨d, pend⟩ = .next ⟨(
        let m : Nat := 2
        if !d.enabled (.BAY n) then d
        else d.modBay n fun b => { b with pendMode := some (if d.bit PWR.STAT_HOLDUP then 1 else m) }), pend⟩) ∧
    (∀ (n : Bay), exec (.cpNeg n) ⟨d, pend⟩ = .next ⟨(
        let m : Nat := 3
        if !d.enabled (.BAY n) then d
        else d.modBay n fun b => { b with pendMode := some (if d.bit PWR.STAT_HOLDUP then 1 else m) }), pend⟩) ∧
    (∀ (n : Bay), exec (.startSlac n) ⟨d, pend⟩ = .next ⟨(
        let code : Nat := 1
        let arg : Nat := 0
        if d.reqFull n then d else d.bayReq n code arg), pend⟩) ∧
    (∀ (n : Bay) (methods : BitVec 3), exec (.requestAuth n methods) ⟨d, pend⟩ = .next ⟨(
        let code : Nat := 2
        let arg : Nat := methods.toNat
        if d.reqFull n then d else d.bayReq n code arg), pend⟩) ∧
    (∀ (n : Bay) (code : BitVec 16), exec (.notifyHost n code) ⟨d, pend⟩ = .next ⟨(
        d.askApp n 3 code.toNat), pend⟩) ∧
    (∀ (n : Bay) (on : Bool), exec (.lock n on) ⟨d, pend⟩ = .next ⟨(
        let code : Nat := 4
        let arg : Nat := (if on then 1 else 0)
        if d.reqFull n then d else d.bayReq n code arg), pend⟩) ∧
    (∀ (n : Bay), exec (.hlcStop n) ⟨d, pend⟩ = .next ⟨(
        let code : Nat := 5
        let arg : Nat := 0
        if d.reqFull n then d else d.bayReq n code arg), pend⟩) ∧
    (∀ (n : Bay) (pre : Bool), exec (.ctCloseAt n pre) ⟨d, pend⟩ = .next ⟨(
        let arg : Nat := (if pre then 1 else 0)
        d.modCtc n fun c => { c with reqClose := c.reqClose ++ [arg] }), pend⟩) ∧
    (∀ (n : Bay) (pre : Bool), exec (.ctOpenAt n pre) ⟨d, pend⟩ = .next ⟨(
        let arg : Nat := (if pre then 1 else 0)
        if d.ctState n = Ct.OPEN then d.bayPost n Ev.CT_OPENED else d.ctRequestOpen n arg), pend⟩) ∧
    (∀ (n : Bay) (k : Fin 8) (ms : BitVec 16), exec (.startTimer n k ms) ⟨d, pend⟩ = .next ⟨(
        d.startTimer n k.val ms.toNat), pend⟩) ∧
    (∀ (n : Bay) (k : Fin 8), exec (.stopTimer n k) ⟨d, pend⟩ = .next ⟨(
        d.stopTimer n k.val), pend⟩) ∧
    (∀ (n : Bay) (i : BitVec 16), exec (.limitCurrent n i) ⟨d, pend⟩ = .next ⟨(
        let f : Fld := (BAY.LIM_I n 7)
        let v : Nat := i.toNat
        d.wr f.reg (f.put (d.rd f.reg) v)), pend⟩) ∧
    (∀ (n : Bay), exec (.openSession n) ⟨d, pend⟩ = .next ⟨(
        if d.inSession n then d
        else
          let d := if d.legalPart && d.led.ready then d.mapCompare else d
          match [1, 2, 3, 4, 5, 6, 7, 8].find? (d.denied n) with
          | some k =>
            let d := (d.set (BAY.SESSION_STAT_DENY n) k).raise (BAY.page n) BAY.ev_DENY
            let d := if k = 4 then d.reject (BAY.page n) Err.LEGAL_DENIED
              else if k = 7 then d.reject (BAY.page n) Err.DRAINING else d
            d.bayPost n Ev.START_DENIED
          | none =>
            let num := (d.log.sessNum + 1) % 2 ^ 32
            let d : Dev := { d with log := { d.log with sessNum := num } }
            let d := ((d.set (BAY.SESSION_STAT_DENY n) 0).wrN (BAY.SESSION n) num).setBit (BAY.STATE_SESSION n) true
            let d := (d.set (BAY.STOPSRC_SRC n) 0).modBay n fun b => { b with metered := false, endWait := false, stopHeld := none }
            let d := (d.sessOpen n num).acctOpen n
            if d.chMode ≠ 0 then (d.limSafety n (d.netLimit n)).modSafBay n fun b => { b with single := true } else d), pend⟩) ∧
    (∀ (n : Bay), exec (.startMetering n) ⟨d, pend⟩ = .next ⟨(
        if d.inSession n && !d.bay[n].metered && !d.bay[n].endWait then
          ((d.setMetering n true).modBay n fun b => { b with metered := true }).sessStart n
        else d), pend⟩) ∧
    (∀ (n : Bay), exec (.endSession n) ⟨d, pend⟩ = .next ⟨(
        if d.inSession n then (d.modBay n fun b => { b with endWait := true }).modAcct n fun a => { a with opened := false } else d), pend⟩) ∧
    (∀ (n : Bay), exec (.rcdTest n) ⟨d, pend⟩ = .next ⟨(
        d.rcdAsk n fun r => { r with bay := true }), pend⟩) ∧
    (∀ (n : Bay) (on : Bool), exec (.imdRun n on) ⟨d, pend⟩ = .next ⟨(
        if on then match d.imdRefusal n with
          | some e => (d.reject (IMD.page n) e).bayPost n Ev.IMD_FAIL
          | none => d.imdStart n
        else d.imdStop n), pend⟩) ∧
    (∀ (n : Bay) (e : BitVec 6), exec (.postEvent n e) ⟨d, pend⟩ = .next ⟨(
        d.modBay n fun b => { b with postQ := b.postQ ++ [e.toNat] }), pend⟩) ∧
    (∀ (n : Bay), exec (.snetResume n) ⟨d, pend⟩ = .next ⟨(
        if d.bit (SAF.SNET_STAT_ACTIVE n.val) then
          let d := (d.setFlag (SAF.SNET_STAT_CAUSE n.val) Net.APP false).setFlag (SAF.SNET_STAT_CAUSE n.val) Net.PAIR false
          if d.get (SAF.SNET_STAT_CAUSE n.val) = 0 then
            (((d.setBit (SAF.SNET_STAT_ACTIVE n.val) false).set (SAF.SNET_STAT_REMAIN n.val) 0).modSafBay n fun b =>
              { b with netMs := 0 }).limSafety n (0xFFFF, 0xFFFF)
          else d
        else d), pend⟩)

/-- Completion: Contactor drive, feedback, make and break. In every state whose domains are on, whatever waits in the queue and
for all operands, each of these commands answers a next state with the queue unchanged and the device that its clause writes
out: PERMIT_WITHDRAWN, ECONOMISER_START, CT_FB_CHANGE, MAKE_OBSERVED, BREAK_OBSERVED, NO_MAKE_TIMEOUT, BREAK_CHECK_TIMEOUT,
DC_OPEN_CURRENT_LOW, DC_OPEN_TIMEOUT, PRECHARGE_REACHED, PRECHARGE_OVERLAP_END, PRECHARGE_TIMEOUT, FW_WAIT_EXPIRY, WELD_CLR,
LINE_VOLTAGE_RETURN, SEED_APPLY. Where a clause asks whether the page accepts the write or takes the start, the first branch
is the effect and the last the rejection. (R182, R183, R184, R187, R190, R193, R194, R195, R196, R197, R199, R222) -/
def Obligations.PowerPathCommands : Prop :=
  ∀ (d : Dev) (pend : List Instr), d.pwr.off = false →
    (∀ (n : Bay) (hl : Bool), exec (.permitWithdrawn n hl) ⟨d, pend⟩ = .next ⟨(
        (d.modSafBay n fun b => { b with ownProc := b.ownProc || !hl, ownHl := b.ownHl || hl }).safEval), pend⟩) ∧
    (∀ (n : Bay), exec (.economiserStart n) ⟨d, pend⟩ = .next ⟨(
        if d.ctc[n].drv != 0 then d.setBit (CTC.STATE_ECO n) true else d), pend⟩) ∧
    (∀ (n : Bay) (high : Bool), exec (.ctFbChange n high) ⟨d, pend⟩ = .next ⟨(
        let d := (d.modCtc n fun c => { c with fbHigh := high }).ctFbShow n
        if !d.bit (CTC.CFG_FB_EN n) then d
        else if d.ctc[n].resetCheck ∧ d.ctState n = Ct.OPEN then
          let d := d.modCtc n fun c => { c with resetCheck := false }
          if d.bit (CTC.STAT_FB n) then d.ctWeld n 0 else d
        else (d.ctMadeCheck n).ctBrokenCheck n), pend⟩) ∧
    (∀ (n : Bay) (pole : Fin 3) (us : BitVec 16) (vx : List Nat) (sup : Nat),
        exec (.makeObserved n pole us vx sup) ⟨d, pend⟩ = .next ⟨(
        let seen := vx.length == 16 && vx.all fun v => decide (v ≤ 1000 * d.get (CTC.VXCFG_VX_CLOSED n))
        if d.ctState n = Ct.CLOSING ∧ d.ctc[n].fired ∧ seen then
          let d := d.setFlag (CTC.STATE_MADE n) pole.val true
          let d :=
            if sup < 1000 * d.get (CTC.VXCFG_VX_BLIND n) then d.set (CTC.LAST_ERR_ERR n pole.val) 0x7FFF
            else
              let d := if d.ctc[n].timed then d.ctErr n pole.val us.toNat else d
              d.modCtc n fun c => { c with obs := c.obs.set pole.val (some us.toNat) }
          d.ctMadeCheck n
        else d), pend⟩) ∧
    (∀ (n : Bay) (pole : Fin 3) (us : BitVec 16) (vx : List Nat), exec (.breakObserved n pole us vx) ⟨d, pend⟩ = .next ⟨(
        let seen := vx.length == 4 && vx.all fun v => decide (1000 * d.get (CTC.VXCFG_VX_ARC n) < v)
        if d.ctState n = Ct.OPENING ∧ seen then
          let d := (d.setFlag (CTC.STATE_MADE n) pole.val false).modCtc n fun c =>
            { c with broke := setBitN c.broke pole.val true, obs := c.obs.set pole.val (some us.toNat) }
          d.ctBrokenCheck n
        else d), pend⟩) ∧
    (∀ (n : Bay), exec (.noMakeTimeout n) ⟨d, pend⟩ = .next ⟨(
        if d.ctState n = Ct.CLOSING ∧ d.ctc[n].fired then
          if d.ctc[n].openPend then d.ctStartOpen n
          else (((d.modCtc n fun c => { c with timed := false, cmd := true }).ctRelease n 7).ctUntimed n).ctFail n 6
        else d), pend⟩) ∧
    (∀ (n : Bay) (v : Vector PoleVolts 3), exec (.breakCheckTimeout n v) ⟨d, pend⟩ = .next ⟨(
        if d.ctState n = Ct.OPENING then
          let still := clearBits (d.ctPoles n) d.ctc[n].broke
          let d := d.ctDrive n 0
          if d.ctFbClosed n then d.ctWeld n 0
          else match d.weldedPole n still v with
            | some p => d.ctWeld n p.val
            | none =>
              let due := !d.ctLines n still v && !d.bit (CTC.CFG_FB_EN n)
              let d := d.ctLearnAll n 3 (CTC.BREAK_TIME n) (CTC.BREAK_N n)
              (if due then d.setBit (CTC.STAT_WELD_UNCHK n) true else d).ctOpened n
        else d), pend⟩) ∧
    (∀ (n : Bay) (i : Int), exec (.dcOpenCurrentLow n i) ⟨d, pend⟩ = .next ⟨(
        if d.ctState n = Ct.OPEN_WAIT ∧ d.ctDc n ∧ i.natAbs < 100 * d.get (CTC.DCCFG_OPEN_I n) then d.ctAtTick n (.release true) else d), pend⟩) ∧
    (∀ (n : Bay), exec (.dcOpenTimeout n) ⟨d, pend⟩ = .next ⟨(
        if d.ctState n = Ct.OPEN_WAIT ∧ d.ctDc n then
          let d := ((d.setBit (CTC.STAT_LOADBREAK n) true).bump (CTC.CNT_A_LOADBREAK n)).raise (CTC.page n) CTC.ev_LOADBREAK
          let i := (signed 32 (d.rdN (MET.IDC (Bay.met n)))).natAbs / 100
          let d := d.modCtc n fun c => { c with timed := false }
          (d.glogHw 0x0005 n.val (leBytes 2 (satAt 0xFFFF i))).ctRelease n 7
        else d), pend⟩) ∧
    (∀ (n : Bay) (chg veh : Int), exec (.prechargeReached n chg veh) ⟨d, pend⟩ = .next ⟨(
        if d.ctState n = Ct.PRECHARGE ∧ d.bit (CTC.STATE_PRE n) ∧ !d.ctc[n].dvOk ∧
            (chg - veh).natAbs < 100 * d.get (CTC.DCCFG_PRE_DV n) then
          let d := d.modCtc n fun c => { c with dvOk := true }
          if d.ctc[n].mainReq then d.ctAtTick n (.closeMain true)
          else (d.raise (CTC.page n) CTC.ev_CLOSED).bayPost n Ev.CT_CLOSED
        else d), pend⟩) ∧
    (∀ (n : Bay), exec (.prechargeOverlapEnd n) ⟨d, pend⟩ = .next ⟨(
        if d.ctDc n ∧ d.ctState n ≠ Ct.PRECHARGE then d.setBit (CTC.STATE_PRE n) false else d), pend⟩) ∧
    (∀ (n : Bay), exec (.prechargeTimeout n) ⟨d, pend⟩ = .next ⟨(
        if d.ctState n = Ct.PRECHARGE ∧ !d.ctc[n].dvOk then
          ((((d.ctcSeatsOff n).setBit (CTC.STATE_PRE n) false).modCtc n fun c => { c with cmd := false }).ctOpened n).ctFail n 7
        else d), pend⟩) ∧
    (∀ (n : Bay), exec (.fwWaitExpiry n) ⟨d, pend⟩ = .next ⟨(
        if d.ctState n = Ct.CLOSING ∧ d.ctc[n].fwWait then d.ctAtTick n (.closeMain false) else d), pend⟩) ∧
    (∀ (m : Master) (n : Bay) (v : Vector PoleVolts 3), exec (.weldClr m n v) ⟨d, pend⟩ = .next ⟨(
        if d.accepts m (.CTC n) 0x0A8 then
          let d := d.noKey
          let ps := d.ctPoles n
          if d.ctLines n ps v && (d.weldedPole n ps v).isNone && !d.ctFbClosed n && !d.saf.bay[n].hlWeld then
            let d := if d.ctState n = Ct.WELD then (d.modCtc n fun c => { c with cmd := false }).ctOpened n else d
            ((d.setBit (CTC.STAT_WELD n) false).setBit (CTC.STAT_WELD_UNCHK n) false).sfDrop n Sf.WELD
          else d.reject (CTC.page n) Err.SAFETY_DENIED
        else d.turnedDown m (.CTC n) 0x0A8), pend⟩) ∧
    (∀ (n : Bay) (v : Vector PoleVolts 3), exec (.lineVoltageReturn n v) ⟨d, pend⟩ = .next ⟨(
        if d.ctState n = Ct.OPEN ∧ (d.bit (CTC.STAT_WELD_UNCHK n) ∨ d.ctc[n].resetVolt) then
          match d.weldedPole n (d.ctPoles n) v with
          | some p => ((d.setBit (CTC.STAT_WELD_UNCHK n) false).modCtc n fun c => { c with resetVolt := false }).ctWeld n p.val
          | none =>
            if d.ctLines n (d.ctPoles n) v then
              let d := (d.setBit (CTC.STAT_WELD_UNCHK n) false).modCtc n fun c => { c with resetVolt := false }
              if d.ctFbClosed n then d.ctWeld n 0 else d
            else d
        else d), pend⟩) ∧
    (∀ (m : Master) (n : Bay) (w : Word), exec (.seedApply m n w) ⟨d, pend⟩ = .next ⟨(
        if d.accepts m (.CTC n) 0x404 then
          let d := d.noKey
          let v : Word := w &&& 0x000FFFFF
          let t := w.toNat % 65536
          if d.ctState n ≠ Ct.OPEN then d.reject (CTC.page n) Err.BUSY
          else if t < 1000 then d.reject (CTC.page n) Err.RANGE
          else
            let d := d.wr (CTC.SEED n) v
            let brk := w.toNat.testBit 19
            (polesOf (w.toNat / 65536 % 8)).foldl (fun d p =>
              d.wrN (if brk then CTC.BREAK n p else CTC.MAKE n p) t) d
        else d.turnedDown m (.CTC n) 0x404), pend⟩)

/-- Completion: Residual-current and insulation monitoring. In every state whose domains are on, whatever waits in the queue
and for all operands, each of these commands answers a next state with the queue unchanged and the device that its clause
writes out: RCD_TRIP, CURVE_APPLY, RCD_TRIP_CLR, RCD_DISCREPANCY, DISCREP_CLEAR, EXC_FAULT, RCD_PERIODIC_TEST_DUE,
RCD_SELF_TEST_START, RCD_SELF_TEST_END, IMD_START, IMD_STOP, IMD_PERIOD_RESULT, IMD_NORESULT. Where a clause asks whether the
page accepts the write or takes the start, the first branch is the effect and the last the rejection. (R205, R207, R208,
R209, R210, R211, R212, R214, R215, R216, R524) -/
def Obligations.EarthFaultCommands : Prop :=
  ∀ (d : Dev) (pend : List Instr), d.pwr.off = false →
    (∀ (n : Bay) (a b : Option RcdOver), exec (.rcdTrip n a b) ⟨d, pend⟩ = .next ⟨(
        let a := a.filter fun x => d.rcdTrips n x && d.rdN (RCD.SCALE_A n) != 0
        let b := b.filter fun x => d.rcdTrips n x && d.rdN (RCD.SCALE_B n) != 0
        match a.or b with
        | none => d
        | some x =>
          if !d.rcdOn n || d.bit (RCD.STAT_TEST_RUN n) then d
          else
            let d := (d.setBit (RCD.STAT_TRIP n) true).set (RCD.STAT_TRIP_PT n) x.pt.val
            let d := if a.isSome then d.setBit (RCD.STAT_TRIP_A n) true else d
            let d := if b.isSome then (d.setBit (RCD.STAT_TRIP_B n) true).setFlag SAFL.HL_RCD_TRIP_B n.val true else d
            (d.raise (RCD.page n) RCD.ev_TRIP).sfRaise n Sf.RCD), pend⟩) ∧
    (∀ (m : Master) (n : Bay), exec (.curveApply m n) ⟨d, pend⟩ = .next ⟨(
        if d.accepts m (.RCD n) 0x070 then
          let d := d.noKey
          let curve := d.rcdCurve n
          let tct := d.get (RCD.TRIPCFG_T_CT n)
          if curveGood curve tct then d.modRcd n fun r => { r with curve := curve, tct := tct }
          else
            let r := d.rcd[n]
            let d := (List.range 8).foldl (fun d k => d.wrN (RCD.CURVE n k) ((r.curve[k]?).getD 0)) d
            (d.set (RCD.TRIPCFG_T_CT n) r.tct).reject (RCD.page n) Err.SAFETY_DENIED
        else d.turnedDown m (.RCD n) 0x070), pend⟩) ∧
    (∀ (m : Master) (n : Bay) (sound : Bool), exec (.rcdTripClr m n sound) ⟨d, pend⟩ = .next ⟨(
        if d.accepts m (.RCD n) 0x090 then
          let d := d.noKey
          if d.bayIdle n && d.rcd[n].curve.all (d.rcdLow n) && (!d.bit (RCD.STAT_EXC_FAULT n) || sound) then
            d.rcdAsk n fun r => { r with clr := true }
          else d.reject (RCD.page n) Err.SAFETY_DENIED
        else d.turnedDown m (.RCD n) 0x090), pend⟩) ∧
    (∀ (n : Bay) (aDc bDc : BitVec 32), exec (.rcdDiscrepancy n aDc bDc) ⟨d, pend⟩ = .next ⟨(
        let a := aDc.toInt
        let b := bDc.toInt
        let lim := d.get (RCD.DISC_PCT n) * max a.natAbs b.natAbs + d.get (RCD.DISC_MA n) * 10000
        let valid := d.rdN (RCD.SCALE_A n) != 0 && d.rdN (RCD.SCALE_B n) != 0 && d.rcdOn n
        if valid && decide (lim < (a - b).natAbs * 100) then
          let d := d.modRcd n fun r => { r with agreed := false }
          if d.bit (RCD.STAT_DISCREP n) then d
          else
            (((d.setBit (RCD.STAT_DISCREP n) true).raise (RCD.page n) RCD.ev_DISCREP).netCause n Net.RCD).safEval.card 9 2
        else d), pend⟩) ∧
    (∀ (n : Bay), exec (.discrepClear n) ⟨d, pend⟩ = .next ⟨(
        if d.bit (RCD.STAT_DISCREP n) then d.modRcd n fun r => { r with agreed := true } else d), pend⟩) ∧
    (∀ (n : Bay), exec (.excFault n) ⟨d, pend⟩ = .next ⟨(
        if d.rcdOn n then
          let d := (d.setBit (RCD.STAT_EXC_FAULT n) true).raise (RCD.page n) RCD.ev_EXC_FAULT
          if d.bit (RCD.STAT_TEST_RUN n) then d else d.sfRaise n Sf.RCD
        else d), pend⟩) ∧
    (∀ (n : Bay), exec (.rcdPeriodicTestDue n) ⟨d, pend⟩ = .next ⟨(
        if d.bit (RCD.CFG_TST_AUTO n) then d.rcdAsk n fun r => { r with periodic := true } else d), pend⟩) ∧
    (∀ (n : Bay), exec (.rcdSelfTestStart n) ⟨d, pend⟩ = .next ⟨(
        let w := d.rcd[n].want
        if (w.bay || w.clr || w.ctl || (w.periodic && d.bayIdle n)) && d.ctState n == Ct.OPEN &&
            !d.bit (RCD.STAT_TEST_RUN n) && d.rcdOn n then
          let d := d.modRcd n fun r => { r with want := {}, running := r.want }
          let d := if w.ctl then d.testRun (.RCD n) else d
          (d.setBit (RCD.STAT_TEST_RUN n) true).safEval
        else d), pend⟩) ∧
    (∀ (n : Bay) (r : RcdTest), exec (.rcdSelfTestEnd n r) ⟨d, pend⟩ = .next ⟨(
        let (ms, d) := d.free
        d.rcdEnd n (d.rcdStep n r) (ms % 501)), pend⟩) ∧
    (∀ (m : Master) (n : Bay), exec (.imdStart m n) ⟨d, pend⟩ = .next ⟨(
        if d.accepts m (.IMD n) 0x05C then
          let d := d.noKey
          match d.imdRefusal n with
          | some e => d.reject (IMD.page n) e
          | none => d.imdStart n
        else d.turnedDown m (.IMD n) 0x05C), pend⟩) ∧
    (∀ (m : Master) (n : Bay), exec (.imdStop m n) ⟨d, pend⟩ = .next ⟨(
        if d.accepts m (.IMD n) 0x05C then
          let d := d.noKey
          let d := (d.seatCancel (8 * n.val + 4)).seatCancel (8 * n.val + 5)
          let d := (d.hwSeat (8 * n.val + 4) ((d.wheel / 1024 + 1) * 1024) 5 (4 * n.val) 0).2
          ((d.setBit (IMD.STAT_RUNNING n) false).setBit (IMD.STAT_FAULT n) false).sfDrop n Sf.IMD
        else d.turnedDown m (.IMD n) 0x05C), pend⟩) ∧
    (∀ (n : Bay) (plus minus : ImdHalf), exec (.imdPeriodResult n plus minus) ⟨d, pend⟩ = .next ⟨(
        if d.bit (IMD.STAT_RUNNING n) then
          let d := d.imdPeriod n plus minus
          if d.imd[n].finish then (d.imdStop n).modImd n fun i => { i with finish := false } else d
        else d), pend⟩) ∧
    (∀ (n : Bay), exec (.imdNoresult n) ⟨d, pend⟩ = .next ⟨(
        if d.bit (IMD.STAT_RUNNING n) then (d.setBit (IMD.STAT_NORESULT n) true).sfRaise n Sf.IMD else d), pend⟩)

/-- Completion: The safety island's exchange, modes, inputs and nets. In every state whose domains are on, whatever waits in
the queue and for all operands, each of these commands answers a next state with the queue unchanged and the device that its
clause writes out: CHANNEL_HEARTBEAT, HL_CHANNEL_LOST, SAFETY_STARTUP_DONE, PROOF_TEST_START, PROOF_TEST_END, PROOF_OVERDUE,
SI_INPUT_CHANGE, SI_DISCREPANCY, SI_TEST_PULSE, SAIN_SAMPLE, TEMP_TRIP, OCG_TRIP, HL_WELD_DETECT, SNET_ENTER, SNET_EXPIRE,
TRIP_PULSE_END. (R223, R225, R227, R228, R230, R232, R233, R234, R235, R236, R237, R244) -/
def Obligations.SafetyCommands : Prop :=
  ∀ (d : Dev) (pend : List Instr), d.pwr.off = false →
    (∀ (hlMiss procMiss disagree : Bool) (hlCrc : Option Word) (ownProc ownHl : BitVec 4),
        exec (.channelHeartbeat hlMiss procMiss disagree hlCrc ownProc ownHl) ⟨d, pend⟩ = .next ⟨(
        let d := (d.hbTime hlMiss procMiss ownProc ownHl).modSaf fun s => { s with hlCrc := hlCrc }
        let crcOk := hlCrc.all fun c => c == Config.safCfgCrc d.safConfig
        let hlIn := d.bit SAFL.HL_STAT_IN_SERVICE
        let d := ((d.setBit SAFL.HL_STAT_ALIVE (!hlMiss)).setBit SAFL.HL_STAT_CLK_OK true)
        let d := if hlMiss || procMiss then d.raise SAFL.page SAFL.ev_HEARTBEAT else d
        let d := if crcOk then d else d.raise SAFL.page SAFL.ev_CRC_MISMATCH
        let d := if d.chMode = 0 ∧ 2 ≤ d.saf.missProc then d.procLost else d
        let d :=
          if !hlIn then d
          else if 2 ≤ d.saf.missHl then d.hlLost 5
          else if !crcOk then d.hlLost 2
          else if disagree then d.hlLost 3
          else d
        d.safEval true), pend⟩) ∧
    (∀ (cause : Fin 8), exec (.hlChannelLost cause) ⟨d, pend⟩ = .next ⟨(
        if d.bit SAFL.HL_STAT_IN_SERVICE || d.chMode == 1 || d.chMode == 2 then d.hlLost cause.val else d), pend⟩) ∧
    (exec .safetyStartupDone ⟨d, pend⟩ = .next ⟨(
        let m := d.chMode
        if (m = 4 ∨ m = 5) ∧ !d.domainOff .saf then
          let d := d.forBays fun n d => d.modSafBay n fun b =>
            { b with ocg := b.ocg || (d.inSession n && d.flag (BAY.STOPSRC_SRC n) 0) }
          let d := d.modSaf fun s => { s with missProc := 0, procMs := 0 }
          ((if m = 4 then d.modeTwo else d.setMode 3).safEval).card 0 1
        else d), pend⟩) ∧
    (exec .proofTestStart ⟨d, pend⟩ = .next ⟨(
        let due := d.chMode == 1 || (if d.chMode = 3 then decide (10000 ≤ d.saf.retryMs) else d.saf.proofDue)
        if d.proofMayRun && due then d.proofBegin else d), pend⟩) ∧
    (∀ (pass : Bool), exec (.proofTestEnd pass) ⟨d, pend⟩ = .next ⟨(
        if d.bit SAF.PROOF_STAT_RUN then
          let m := d.chMode
          let d := (d.setBit SAF.PROOF_STAT_RUN false).setBit SAFL.HL_STAT_PROOF_RUN false
          let d := ((d.setBit SAF.PROOF_STAT_PASS pass).setBit SAF.PROOF_STAT_FAIL (!pass)).raise SAF.page SAF.ev_PROOF_DONE
          if pass then
            let d := (d.set SAF.PROOF_STAT_FAILS 0).set SAF.PROOF_STAT_AGE 0
            let d := d.modSaf fun s => { s with attempts := 0, proofDue := false, overdue := false, proofSec := 0, missHl := 0 }
            let d := d.setBit SAFL.HL_STAT_IN_SERVICE true
            ((if m = 5 then d.setMode 4 else d.modeTwo).safEval).card 1 1
          else
            let d := d.bump SAF.PROOF_STAT_FAILS
            if m = 3 then
              let d := (d.set SAFL.HL_FAULT_CAUSE 4).modSaf fun s => { s with attempts := s.attempts + 1, retryMs := 0 }
              if 3 ≤ d.saf.attempts then d.setBit SAF.MODE_HL_OUT true else d
            else d.hlLost 4
        else d), pend⟩) ∧
    (exec .proofOverdue ⟨d, pend⟩ = .next ⟨(
        if d.get SAF.PROOF_CFG_INT * 3600 + 86400 ≤ d.saf.proofSec ∧ !d.bit SAF.MODE_HL_OUT then d.modSaf fun s => { s with overdue := true } else d), pend⟩) ∧
    (∀ (k : Fin 8) (a b : Bool), exec (.siInputChange k a b) ⟨d, pend⟩ = .next ⟨(
        if !d.hasSi k.val then d else
          let anti := d.bit (SAF.SI_CFG_ANTI k.val)
          let d := (d.setFlag SAFL.HL_SI_RAW (2 * k.val) a).setFlag SAFL.HL_SI_RAW (2 * k.val + 1) b
          let d := d.modSi k fun x =>
            let y := { x with a := a, b := b }
            { y with half := siSafe anti y && !siBothSafe anti y }
          (d.siEval k).siUpdate), pend⟩) ∧
    (∀ (k : Fin 8), exec (.siDiscrepancy k) ⟨d, pend⟩ = .next ⟨(
        if d.bit (SAF.SI_CFG_EN k.val) ∧ d.saf.si[k].half then
          (((d.setFlag SAF.SI_STAT_DISC_FAULT k.val true).raise SAF.page SAF.ev_SI_FAULT).siEval k).siUpdate
        else d), pend⟩) ∧
    (∀ (k : Fin 8) (onB a b : Bool), exec (.siTestPulse k onB a b) ⟨d, pend⟩ = .next ⟨(
        let x := d.saf.si[k]
        let ok := if onB then !(x.b && b) && a == x.a else !(x.a && a) && b == x.b
        if d.bit (SAF.SI_CFG_EN k.val) && d.bit (SAF.SI_CFG_TP_EN k.val) then
          let d := d.modSi k fun x => { x with breaches := if ok then 0 else x.breaches + 1 }
          if 2 ≤ d.saf.si[k].breaches then
            (((d.setFlag SAF.SI_STAT_XSHORT k.val true).raise SAF.page SAF.ev_SI_FAULT).siEval k).siUpdate
          else d
        else d), pend⟩) ∧
    (∀ (i : Fin 16) (mv : BitVec 12), exec (.sainSample i mv) ⟨d, pend⟩ = .next ⟨(
        if d.sainUsed i then
          let v := mv.toNat
          let k := i.val / 4
          let trip := d.get (SAF.TLIM_TRIP_MV k)
          let hyst := 10 * d.get (SAF.TLIM_HYST k)
          let open' := v < 50 || 1750 < v
          let hot := d.sainBeyond i v trip || open'
          let warn := d.sainBeyond i v (d.get (SAF.TLIM_WARN_MV k))
          let cool := !open' && !d.sainBeyond i v (if d.bit (SAF.TLIM_DIR k) then trip + hyst else trip - hyst)
          let step := if 1 ≤ d.chMode ∧ d.chMode ≤ 3 then 1 else 2
          let hotFor := if hot then satAt 10000 (d.saf.hotFor[i] + step) else 0
          let coolFor := if cool then satAt 10000 (d.saf.coolFor[i] + step) else 0
          let d := if warn && !d.flag SAF.TSTAT_WARN i.val then d.raise SAF.page SAF.ev_TEMP_WARN else d
          let d := (d.setFlag SAF.TSTAT_WARN i.val warn).setFlag SAFL.HL_TEMP_CMP i.val hot
          let d := d.modSaf fun s => { s with hot := setBitN s.hot i.val hot, hotFor := s.hotFor.set i hotFor, coolFor := s.coolFor.set i coolFor }
          if 2000 ≤ coolFor ∧ d.flag SAF.TSTAT_TRIP i.val then (d.setFlag SAF.TSTAT_TRIP i.val false).tempUpdate (sainBay i) else d
        else d), pend⟩) ∧
    (∀ (i : Fin 16), exec (.tempTrip i) ⟨d, pend⟩ = .next ⟨(
        if d.sainUsed i ∧ 2 * d.get SAF.TFILT_TFILT ≤ d.saf.hotFor[i] then (d.setFlag SAF.TSTAT_TRIP i.val true).tempUpdate (sainBay i) else d), pend⟩) ∧
    (∀ (n : Bay) (hl : Bool) (ma : BitVec 32) (ms : Nat), exec (.ocgTrip n hl ma ms) ⟨d, pend⟩ = .next ⟨(
        if d.inSession n && d.ocgAbove n hl ma.toNat && d.ocgDue n hl ms then
          (d.modSafBay n fun b => { b with ocg := b.ocg || !hl, hlOcg := b.hlOcg || hl }).safEval
        else d), pend⟩) ∧
    (∀ (n : Bay) (v : Vector PoleVolts 3) (ms : Nat), exec (.hlWeldDetect n v ms) ⟨d, pend⟩ = .next ⟨(
        if !d.flag SAF.PERMIT_HL n.val && (d.weldedPole n (d.ctPoles n) v).isSome then
          if ms < 200 then d else (d.modSafBay n fun b => { b with hlWeld := true }).sfRaise n Sf.WELD
        else (d.modSafBay n fun b => { b with hlWeld := false }).safEval), pend⟩) ∧
    (∀ (n : Bay) (cause : Fin 7), exec (.snetEnter n cause) ⟨d, pend⟩ = .next ⟨(
        let d := if cause.val = Net.METRO ∧ d.hasBay n then d.modSafBay n fun b => { b with feedLost := true } else d
        d.netCause n cause.val), pend⟩) ∧
    (∀ (n : Bay), exec (.snetExpire n) ⟨d, pend⟩ = .next ⟨(
        if d.bit (SAF.SNET_STAT_ACTIVE n.val) ∧ d.saf.bay[n].netMs = 0 then
          let d := (d.setBit (SAF.SNET_STAT_ACTIVE n.val) false).set (SAF.SNET_STAT_REMAIN n.val) 0
          ((d.bump SAF.SNET_CNT_EXPIRIES).raise SAF.page SAF.ev_SNET_EXPIRE).stopRequest n (2 ^ 6)
        else d), pend⟩) ∧
    (∀ (p : Bool), exec (.tripPulseEnd p) ⟨d, pend⟩ = .next ⟨(
        (d.modSaf fun s => { s with pulseL := s.pulseL && p, pulseP := s.pulseP && !p }).safEval), pend⟩)

/-- Completion: The safety domain's messages. In every state whose domains are on, whatever waits in the queue and for all
operands, each of these commands answers a next state with the queue unchanged and the device that its clause writes out:
CFG_WRITE, CFG_COMMIT, SI_CLR, TRIP_CLR, PROOF_NOW, CFG_CRC_SELF_CHECK. (R234, R241, R243, R245) -/
def Obligations.SafetyMessageCommands : Prop :=
  ∀ (d : Dev) (pend : List Instr), d.pwr.off = false →
    (∀ (ofs : BitVec 16) (val : Word), exec (.cfgWrite ofs val) ⟨d, pend⟩ = .next ⟨(
        let o := ofs.toNat
        if !d.safServes then d
        else match safCfgRow o with
          | none => d.safAnswer 0x0101 Err.RANGE
          | some r =>
            if d.safAbsent o then d.safAnswer 0x0101 Err.NOT_FUSED
            else if 0x400 ≤ o ∧ d.chip.lifecycle = .field ∧ !d.bit SYS.EXPERT_EN_EN then d.safAnswer 0x0101 Err.EXPERT_CLOSED
            else
              (d.modSaf fun s => { s with staged := s.staged.filter (fun e => e.1 != o) ++ [(o, val.toNat &&& r.plain)] }).safAnswer
                0x0101 Err.NONE), pend⟩) ∧
    (exec .cfgCommit ⟨d, pend⟩ = .next ⟨(
        if !d.safServes then d
        else
          let l := d.saf.staged
          let busy := l.foldl (fun m e => m ||| d.safCfgBays e) 0
          let d := d.modSaf fun s => { s with staged := [] }
          match l.findSome? safCfgError with
          | some e => d.safAnswer 0x0102 e
          | none =>
            if allBays.any (fun n => busy.testBit n.val && d.inSession n) then d.safAnswer 0x0102 Err.BUSY
            else (d.safApply l).safAnswer 0x0102 Err.NONE), pend⟩) ∧
    (∀ (mask : BitVec 8), exec (.siClr mask) ⟨d, pend⟩ = .next ⟨(
        if !d.safServes then d
        else
          let named := ([0, 1, 2, 3, 4, 5, 6, 7] : List (Fin 8)).filter fun k => mask.toNat.testBit k.val
          if named.all fun k => siBothSafe (d.bit (SAF.SI_CFG_ANTI k.val)) d.saf.si[k] then
            let d := named.foldl (fun d k =>
              (((d.setFlag SAF.SI_STAT_DISC_FAULT k.val false).setFlag SAF.SI_STAT_XSHORT k.val false).modSi k fun x =>
                { x with half := false, breaches := 0 }).siEval k) d
            d.siUpdate.safAnswer 0x0103 Err.NONE
          else d.safAnswer 0x0103 Err.SAFETY_DENIED), pend⟩) ∧
    (exec .tripClr ⟨d, pend⟩ = .next ⟨(
        if !d.safServes then d
        else
          let sf := d.sfAll
          if sf &&& d.get SAF.TRIP_CFG_MASK_L = 0 ∧ sf &&& d.get SAF.TRIP_CFG_MASK_P = 0 then
            ((d.modSaf fun s => { s with heldL := false, heldP := false }).safEval).safAnswer 0x0104 Err.NONE
          else d.safAnswer 0x0104 Err.SAFETY_DENIED), pend⟩) ∧
    (exec .proofNow ⟨d, pend⟩ = .next ⟨(
        if !d.safServes then d
        else if d.bit SAF.MODE_HL_OUT then d.safAnswer 0x0105 Err.SEQUENCE
        else if !d.allIdle || d.bit SAF.PROOF_STAT_RUN then d.safAnswer 0x0105 Err.BUSY
        else d.proofBegin.safAnswer 0x0105 Err.NONE), pend⟩) ∧
    (∀ (crc : Option Word), exec (.cfgCrcSelfCheck crc) ⟨d, pend⟩ = .next ⟨(
        if crc.all fun c => c == Config.safCfgCrc d.safConfig then d else d.bump SAF.DIAG_CRC_ERR), pend⟩)

/-- Completion: The ledger's drain, boundary, hand-over and start. In every state whose domains are on, whatever waits in the
queue and for all operands, each of these commands answers a next state with the queue unchanged and the device that its
clause writes out: ENTRY_DRAIN, BOUNDARY_TRANSACTION, SESSION_HANDOVER, LEGAL_DOMAIN_START, LEGAL_READY,
LEGAL_NOT_READY_TIMEOUT, SESSION_AUTH, RECEIPT_SIGNED, VAULT_WAIT_TIMEOUT, FALLBACK_CHECK. (R35, R106, R147, R260, R261,
R262, R268, R269, R271, R300, R314, R315) -/
def Obligations.LedgerCommands : Prop :=
  ∀ (d : Dev) (pend : List Instr), d.pwr.off = false →
    (exec .entryDrain ⟨d, pend⟩ = .next ⟨(
        if d.led.ready then
          match d.dueEntry with
          | some (p, e) => (d.drainOne p e).legalShow
          | none => d
        else d), pend⟩) ∧
    (exec .boundaryTransaction ⟨d, pend⟩ = .next ⟨(
        if d.led.ready then
          match d.boundaryNext with
          | some d' => d'.legalRefresh
          | none => d
        else d), pend⟩) ∧
    (∀ (n : Bay), exec (.sessionHandover n) ⟨d, pend⟩ = .next ⟨(
        if d.handoverTaken n then (d.handover n).legalShow else d), pend⟩) ∧
    (∀ (replayed : Option (Nat × Nat)), exec (.legalDomainStart replayed) ⟨d, pend⟩ = .next ⟨(
        if d.led.ready || d.domainOff (if d.legalPart then .lgl else .app) then d
        else
          let d := d.imgPublish
          let d := d.modLed fun l => { l with started := true, replayed := replayed.isSome }
          let d := { d with mpl := { d.mpl with seen := false, compared := none } }
          let d := match replayed with
            | some (key, n) => (d.llog 0 0x0107 0xFF (leBytes 4 key ++ leBytes 2 n)).raise LED.page LED.ev_REPLAY
            | none => d
          (d.powerReturn.closeCut).resubmit.legalRefresh), pend⟩) ∧
    (exec .legalReady ⟨d, pend⟩ = .next ⟨(
        if !d.led.started || d.led.ready then d
        else
          let d := (d.loadBase.set LED.DIR_CNT (53 * d.chip.variant.bays + 57)).wrN LGL.DISP_CRC (crc32 d.layoutBytes)
          let d := d.modLed fun l => { l with ready := true }
          let d := if d.legalPart then d.mapCompare else d
          let d := d.authsTake.tamperLog.catchUp d.wheel
          let d := d.forBays fun n d => if d.handoverTaken n then d.handover n else d
          d.redraw.legalRefresh), pend⟩) ∧
    (exec .legalNotReadyTimeout ⟨d, pend⟩ = .next ⟨(
        if d.led.ready then d else d.forBays fun n d => d.stopRequest n (2 ^ 2)), pend⟩) ∧
    (∀ (bay : BitVec 8) (num tariff : Word) (id : List Byte), exec (.sessionAuth bay num tariff id) ⟨d, pend⟩ = .next ⟨(
        if d.led.ready then
          let (st, d) := d.sessAuth bay.toNat num.toNat tariff.toNat id
          d.authAnswer st
        else d.modLed fun l => { l with auths := l.auths ++ [(bay.toNat, num.toNat, tariff.toNat, id)] }), pend⟩) ∧
    (∀ (sig : List Byte), exec (.receiptSigned sig) ⟨d, pend⟩ = .next ⟨(
        match d.led.unsigned with
        | [] => d
        | x :: rest =>
          match (if sig.length = 64 then d.receiptKey else none) with
          | none => d
          | some key =>
            let d := if d.legalPart then d else d.modLed fun l => { l with operatorKey := key }
            let p := d.rcptPayload x
            let d := (d.modLed fun l => { l with unsigned := rest, vaultWait := l.vaultWait && !rest.isEmpty }).ledTxn
            let d := d.rcptStore x.rseq x.bay 2 p sig
            let o : Obis := { a := 0, b := x.bay + 1, c := 129, d := 0, e := 0 }
            d.ledNotify o 2 x.rseq), pend⟩) ∧
    (exec .vaultWaitTimeout ⟨d, pend⟩ = .next ⟨(
        match d.led.unsigned with
        | [] => d
        | x :: rest =>
          let x := { x with late := true }
          ((d.modLed fun l => { l with vaultWait := true, unsigned := x :: rest }).raise LGL.page LGL.ev_HELD).rcptSubmit x), pend⟩) ∧
    (∀ (n : Bay), exec (.fallbackCheck n) ⟨d, pend⟩ = .next ⟨(
        let due := d.led.acct[n].obeyDue
        let d := (d.set (PPY.OBEY_REMAIN n.val) 0).modAcct n fun a => { a with obeyDue := false }
        if due && (d.ctState n == Ct.CLOSED || d.ctState n == Ct.CLOSING) then
          ((((d.ctRequestOpen n 0).modCtc n fun c => { c with fallback := true }).modAcct n fun a =>
            { a with fallback := true }).setBit (PPY.ASTAT_FALLBACK n.val) true).raise PPY.page PPY.ev_FALLBACK
        else d), pend⟩)

/-- Completion: Messages to the legal domain. In every state whose domains are on, whatever waits in the queue and for all
operands, each of these commands answers a next state with the queue unchanged and the device that its clause writes out:
LEDGER_READ, LEGAL_PARAMETER_WRITE, RIGHTS_TABLE_WRITE, DEMAND_CONFIG_WRITE, PROFILE_DEFINITION_WRITE, CALENDAR_STAGE_WRITE,
CALENDAR_COMMIT, CALENDAR_CLEAR, ACCOUNT_WRITE, ACCOUNT_LOAD, LLOG_ACKNOWLEDGE, CLOCK_SLEW, SLEW_DONE, CLOCK_STEP,
CLOCK_STEP_APPLY, MEASURE, MEASURE_COMPLETE, TAMPER_ACK, MIRROR_REFRESH. (R254, R257, R263, R267, R281, R288, R301, R302,
R303, R304, R305, R306) -/
def Obligations.LegalMessageCommands : Prop :=
  ∀ (d : Dev) (pend : List Instr), d.pwr.off = false →
    (∀ (q : Req) (o : Obis) (attr : BitVec 8) (sel : Option Sel) (cont : Option Word),
        exec (.ledgerRead q o attr sel cont) ⟨d, pend⟩ = .next ⟨(
        let d := d.boundaryFirst
        match d.requestError q o attr.toNat 0 with
        | some e => d.ledAnswer q 0x0201 e
        | none =>
          match objOf o with
          | none => d.ledAnswer q 0x0201 Err.RANGE
          | some obj =>
            if obj = .rights ∧ attr = 2 then
              let (v, d) := d.rightsBytes
              d.ledAnswer q 0x0201 Err.NONE [v]
            else
            match (if attr = 2 then d.bufferOf obj else none), sel with
            | none, _ => d.ledAnswer q 0x0201 Err.NONE ((d.attrBytes o obj attr.toNat).map (·.toNat))
            | some _, none => d.ledAnswer q 0x0201 Err.RANGE
            | some (es, stop), some sl =>
              let isR := match obj with
                | .receipts _ => true
                | _ => false
              let l := es.filter (selected isR sl (cont.map (·.toNat)))
              let r := takeFit readRoom (if sl.max = 0 then l.length else sl.max) l
              let c := match r.2 with
                | some x => [x]
                | none => match stop with
                  | some x => if sl.lo ≤ x ∧ x ≤ sl.hi then [x] else []
                  | none => []
              d.ledAnswer q 0x0201 Err.NONE (r.1.length :: r.1.map (·.toNat) ++ c)), pend⟩) ∧
    (∀ (q : Req) (o : Obis) (val : List Byte), exec (.legalParameterWrite q o val) ⟨d, pend⟩ = .next ⟨(
        let d := d.boundaryFirst
        match d.requestError q o 2 1 with
        | some e => d.ledAnswer q 0x0202 e
        | none =>
          let r : Nat × Dev := (
              match objOf o with
              | none => (Err.RANGE, d)
              | some obj =>
                if d.llogFull then (Err.LEGAL_DENIED, d)
                else if d.paramBusy obj then (Err.BUSY, d)
                else if !d.paramOk obj val then (Err.RANGE, d)
                else
                  let old := d.paramBytes obj
                  (Err.NONE, (d.paramPut obj val).sealBreak q.role o 2 old val))
          (if r.1 = Err.NONE then r.2.ledTxn.legalRefresh else r.2).ledAnswer q 0x0202 r.1), pend⟩) ∧
    (∀ (q : Req) (changes : List (Obis × BitVec 8 × BitVec 24)), exec (.rightsTableWrite q changes) ⟨d, pend⟩ = .next ⟨(
        let d := d.boundaryFirst
        match d.requestError q rightsObis 2 1 with
        | some e => d.ledAnswer q 0x0202 e
        | none =>
          let r : Nat × Dev := (
              if d.llogFull then (Err.LEGAL_DENIED, d)
              else if changes.any (fun x => decide (2 ^ 21 ≤ x.2.2.toNat) || (objOf x.1).isNone) then (Err.RANGE, d)
              else
                let d := changes.foldl (fun d x => d.rightsPut q.role x.1 x.2.1.toNat x.2.2.toNat) d
                let (a, d) := d.free
                let (b, d) := d.free
                (Err.NONE, d.sealBreak q.role rightsObis 2 (leBytes 40 a) (leBytes 40 b)))
          (if r.1 = Err.NONE then r.2.ledTxn.legalRefresh else r.2).ledAnswer q 0x0202 r.1), pend⟩) ∧
    (∀ (q : Req) (p : Fin 5) (exp : Bool) (attr : BitVec 8) (v : Nat),
        exec (.demandConfigWrite q p exp attr v) ⟨d, pend⟩ = .next ⟨(
        let d := d.boundaryFirst
        match d.requestError q { a := 1, b := p.val + 1, c := if exp then 2 else 1, d := 4, e := 0 } attr.toNat 1 with
        | some e => d.ledAnswer q 0x0202 e
        | none =>
          let r : Nat × Dev := (
              let c := d.led.demNext.getD d.led.dem
              let n := match attr.toNat with
                | 8 => some (v, c.2.1, c.2.2)
                | 9 => if 2 ≤ v then some (c.1, c.2.1, v) else none
                | 10 => if v < 2 then some (c.1, v == 1, c.2.2) else none
                | _ => none
              match n with
              | some c => if demandOk c then (Err.NONE, d.modLed fun l => { l with demNext := some c }) else (Err.RANGE, d)
              | none => (Err.RANGE, d))
          (if r.1 = Err.NONE then r.2.ledTxn.legalRefresh else r.2).ledAnswer q 0x0202 r.1), pend⟩) ∧
    (∀ (q : Req) (p2 : Bool) (period : Option Nat) (defs : List (Word × Word)),
        exec (.profileDefinitionWrite q p2 period defs) ⟨d, pend⟩ = .next ⟨(
        let d := d.boundaryFirst
        match d.requestError q { a := 1, b := 0, c := if p2 then 98 else 99, d := 1, e := 0 } (if period.isSome then 4 else 3) 1 with
        | some e => d.ledAnswer q 0x0202 e
        | none =>
          let r : Nat × Dev := (
              if d.llogFull then (Err.LEGAL_DENIED, d)
              else if d.anyMetering then (Err.BUSY, d)
              else
                let p := if p2 then d.led.p2 else d.led.p1
                let cur := p.next.getD (p.period, p.defs)
                let new := match period with
                  | some m => if !p2 ∧ 1 ≤ m ∧ m ≤ 60 ∧ 1440 % m = 0 then some (m, cur.2) else none
                  | none =>
                    let ok := decide (1 ≤ defs.length ∧ defs.length ≤ (if p2 then 64 else 16)) &&
                      defs.all fun w => w.2.toNat / 256 % 256 == 255
                    if ok then some (cur.1, defs.map fun w => (w.1.toNat, w.2.toNat)) else none
                match new with
                | none => (Err.RANGE, d)
                | some x =>
                  (Err.NONE, d.modLed fun l =>
                    if p2 then { l with p2 := { l.p2 with next := some x } } else { l with p1 := { l.p1 with next := some x } }))
          (if r.1 = Err.NONE then r.2.ledTxn.legalRefresh else r.2).ledAnswer q 0x0202 r.1), pend⟩) ∧
    (∀ (q : Req) (ofs : BitVec 16) (data : List Byte), exec (.calendarStageWrite q ofs data) ⟨d, pend⟩ = .next ⟨(
        let d := d.boundaryFirst
        match d.requestError q passiveCal 2 1 with
        | some e => d.ledAnswer q 0x0202 e
        | none =>
          let r : Nat × Dev := (
              if d.led.pasState = 2 then (Err.SEQUENCE, d)
              else if 960 < data.length ∨ calSize < ofs.toNat + data.length then (Err.RANGE, d)
              else
                let d := if d.led.pasState = 0 then d.calClear 1 else d
                (Err.NONE, (d.modLed fun l => { l with pasState := 1 }).wrBytes (calBase 1 + ofs.toNat) data))
          (if r.1 = Err.NONE then r.2.ledTxn.legalRefresh else r.2).ledAnswer q 0x0202 r.1), pend⟩) ∧
    (∀ (q : Req), exec (.calendarCommit q) ⟨d, pend⟩ = .next ⟨(
        let d := d.boundaryFirst
        match d.requestError q passiveCal 3 1 with
        | some e => d.ledAnswer q 0x0202 e
        | none =>
          let r : Nat × Dev := (
              if d.led.pasState ≠ 1 then (Err.SEQUENCE, d)
              else
                match Cal.refusal (d.cal 1) (d.rtc.sec / 60) (if d.led.actValid then some (d.cal 0) else none) with
                | some c => (Err.RANGE, ((d.modLed fun l => { l with valCause := c }).set TTB.VAL_CAUSE_CAUSE c).raise TTB.page
                    TTB.ev_VAL_FAIL)
                | none => (Err.NONE, d.modLed fun l => { l with pasState := 2 }))
          (if r.1 = Err.NONE then r.2.ledTxn.legalRefresh else r.2).ledAnswer q 0x0202 r.1), pend⟩) ∧
    (∀ (q : Req), exec (.calendarClear q) ⟨d, pend⟩ = .next ⟨(
        let d := d.boundaryFirst
        match d.requestError q passiveCal 3 1 with
        | some e => d.ledAnswer q 0x0202 e
        | none =>
          let r : Nat × Dev := (
              (Err.NONE, (d.calClear 1).modLed fun l => { l with pasState := 0 }))
          (if r.1 = Err.NONE then r.2.ledTxn.legalRefresh else r.2).ledAnswer q 0x0202 r.1), pend⟩) ∧
    (∀ (q : Req) (n : Bay) (attr : BitVec 8) (v : Int), exec (.accountWrite q n attr v) ⟨d, pend⟩ = .next ⟨(
        let d := d.boundaryFirst
        match d.requestError q (acctObis n) attr.toNat 1 with
        | some e => d.ledAnswer q 0x0202 e
        | none =>
          let r : Nat × Dev := (
              match d.led.acct[n].writeError attr.toNat v with
              | some e => (e, d)
              | none => (Err.NONE, d.modAcct n fun a => { a with pend := a.pend ++ [(attr.toNat, v.toNat)] }))
          (if r.1 = Err.NONE then r.2.ledTxn.legalRefresh else r.2).ledAnswer q 0x0202 r.1), pend⟩) ∧
    (∀ (q : Req) (n : Bay) (amount id : BitVec 64), exec (.accountLoad q n amount id) ⟨d, pend⟩ = .next ⟨(
        let d := d.boundaryFirst
        match d.requestError q (acctObis n) 1 2 with
        | some e => d.ledAnswer q 0x0203 e
        | none =>
          let r : Nat × Dev := (
              d.acctLoad n amount.toNat id.toNat)
          (if r.1 = Err.NONE then r.2.ledTxn.legalRefresh else r.2).ledAnswer q 0x0203 r.1), pend⟩) ∧
    (∀ (q : Req) (seq : Word), exec (.llogAcknowledge q seq) ⟨d, pend⟩ = .next ⟨(
        let d := d.boundaryFirst
        match d.requestError q { a := 0, b := 0, c := 99, d := 98, e := 1 } 1 2 with
        | some e => d.ledAnswer q 0x0203 e
        | none =>
          let r : Nat × Dev := (
              if d.log.llogAck ≤ seq.toNat ∧ seq.toNat ≤ d.log.llogSeq then
                (Err.NONE, { d with log := { d.log with llogAck := seq.toNat } })
              else (Err.SEQUENCE, d))
          (if r.1 = Err.NONE then r.2.ledTxn.legalRefresh else r.2).ledAnswer q 0x0203 r.1), pend⟩) ∧
    (∀ (q : Req) (ofs : Int), exec (.clockSlew q ofs) ⟨d, pend⟩ = .next ⟨(
        let d := d.boundaryFirst
        match d.requestError q clockObis 1 2 with
        | some e => d.ledAnswer q 0x0203 e
        | none =>
          let r : Nat × Dev := (
              let used := d.slewRecent
              let legal := q.role == 4
              if ofs < -30000 ∨ 30000 < ofs then (Err.RANGE, d)
              else if !legal && d.rtc.ci then (Err.SEQUENCE, d)
              else if !legal && decide (d.led.slewAllow < (used.map (·.2)).sum + ofs.natAbs) then (Err.RANGE, d)
              else
                let used := if legal then used else used ++ [(d.rtc.sec, ofs.natAbs)]
                let d := { d with rtc := { d.rtc with slewRem := ofs, slewUsed := used } }
                (Err.NONE, d.glog .lgl 0x0009 0xFF (leBytes 4 (toUnsigned 32 ofs) ++ leBytes 1 q.role)))
          (if r.1 = Err.NONE then r.2.ledTxn.legalRefresh else r.2).ledAnswer q 0x0203 r.1), pend⟩) ∧
    (exec .slewDone ⟨d, pend⟩ = .next ⟨(
        if d.rtc.slewRem = 1 ∨ d.rtc.slewRem = -1 then
          ((({ d with rtc := { d.rtc with slewRem := 0 } }).raise RTC.page RTC.ev_SLEW_DONE).raise LGL.page LGL.ev_SLEW_DONE).legalShow
        else d), pend⟩) ∧
    (∀ (q : Req) (ms : BitVec 64), exec (.clockStep q ms) ⟨d, pend⟩ = .next ⟨(
        let d := d.boundaryFirst
        match d.requestError q clockObis 2 2 with
        | some e => d.ledAnswer q 0x0203 e
        | none =>
          let r : Nat × Dev := (
              if d.llogFull then (Err.LEGAL_DENIED, d)
              else (Err.NONE, { d with rtc := { d.rtc with stepTo := some (ms.toNat, q.role) } }))
          (if r.1 = Err.NONE then r.2.ledTxn.legalRefresh else r.2).ledAnswer q 0x0203 r.1), pend⟩) ∧
    (exec .clockStepApply ⟨d, pend⟩ = .next ⟨(
        match d.rtc.stepTo with
        | none => d
        | some (ms, role) => (d.stepApply role d.clockMs ms).legalRefresh), pend⟩) ∧
    (∀ (q : Req) (p : Fin 5) (cycles : Nat), exec (.measure q p cycles) ⟨d, pend⟩ = .next ⟨(
        let d := d.boundaryFirst
        match d.requestError q (sensorObis p) 1 2 with
        | some e => d.ledAnswer q 0x0203 e
        | none =>
          let r : Nat × Dev := (
              if cycles = 0 ∨ 3000 < cycles then (Err.RANGE, d)
              else if d.bit (MET.STAT_METERING p) || d.led.measuring[p].isSome then (Err.BUSY, d)
              else (Err.NONE, d.modLed fun l => { l with measuring := l.measuring.set p (some { left := cycles }) }))
          (if r.1 = Err.NONE then r.2.ledTxn.legalRefresh else r.2).ledAnswer q 0x0203 r.1), pend⟩) ∧
    (∀ (p : Fin 5), exec (.measureComplete p) ⟨d, pend⟩ = .next ⟨(
        match d.led.measuring[p] with
        | none => d
        | some r =>
          if r.left ≠ 0 then d
          else
            let v := (d.measureResult p r).map (·.toNat)
            (d.modLed fun l => { l with measuring := l.measuring.set p none, measured := l.measured.set p v }).ledNotify
              (sensorObis p) 3 0), pend⟩) ∧
    (∀ (q : Req) (k : Fin 4), exec (.tamperAck q k) ⟨d, pend⟩ = .next ⟨(
        let d := d.boundaryFirst
        match d.requestError q { a := 0, b := 0, c := 132, d := 0, e := k.val } 1 2 with
        | some e => d.ledAnswer q 0x0203 e
        | none =>
          let r : Nat × Dev := (
              if d.llogFull then (Err.LEGAL_DENIED, d) else
              let r := d.led.tamper[k]
              let d := d.llog q.role 0x010B 0xFF (leBytes 1 k.val ++ [0, 0, 0] ++ leBytes 4 r.count ++ leBytes 4 r.first)
              (Err.NONE, d.modLed fun l => { l with tamper := l.tamper.set k { r with first := 0, unack := false } }))
          (if r.1 = Err.NONE then r.2.ledTxn.legalRefresh else r.2).ledAnswer q 0x0203 r.1), pend⟩) ∧
    (exec .mirrorRefresh ⟨d, pend⟩ = .next ⟨(
        if d.led.ready then d.mirrorRefresh.redraw else d), pend⟩)

/-- Completion: What runs from VBAT, and the clock's registers. In every state whose domains are on, whatever waits in the
queue and for all operands, each of these commands answers a next state with the queue unchanged and the device that its
clause writes out: TMP_EVT_CLEAR, RTC_ALARM, ALARM_CTL_WRITE. With the domains on or off so do TAMPER_INPUT_EVENT,
TAMPER_INPUT_LEAVE, XT32_STOP. Where a clause asks whether the page accepts the write or takes the start, the first branch is
the effect and the last the rejection. (R307, R319, R320, R324, R326) -/
def Obligations.RtcCommands : Prop :=
  ∀ (d : Dev) (pend : List Instr),
    (d.pwr.off = false →
    (∀ (m : Master) (mask : BitVec 8), exec (.tmpEvtClear m mask) ⟨d, pend⟩ = .next ⟨(
        if d.accepts m .TMP 0x044 then
          let d := d.noKey
          d.wr TMP.EVT (d.rd TMP.EVT &&& ~~~(mask.setWidth 32))
        else d.turnedDown m .TMP 0x044), pend⟩) ∧
    (exec .rtcAlarm ⟨d, pend⟩ = .next ⟨(
        if d.bit RTC.ALARM_CTL_EN && decide (d.rdN RTC.ALARM ≤ d.rtc.sec) then
          (d.setBit RTC.ALARM_CTL_EN false).raise RTC.page RTC.ev_ALARM
        else d), pend⟩) ∧
    (∀ (m : Master) (en : Bool), exec (.alarmCtlWrite m en) ⟨d, pend⟩ = .next ⟨(
        if d.accepts m .RTC 0x054 then
          let d := d.noKey
          let f : Fld := RTC.ALARM_CTL_EN
          let b : Bool := en
          let v : Nat := (if b then 1 else 0)
          d.wr f.reg (f.put (d.rd f.reg) v)
        else d.turnedDown m .RTC 0x054), pend⟩)) ∧
    (∀ (k : Fin 4), exec (.tamperInputEvent k) ⟨d, pend⟩ = .next ⟨(
        if !d.led.tmpCfg.testBit k.val || d.led.tmpLevel.testBit k.val then d
        else
          let r := d.led.tamper[k]
          let t := d.rtc.sec
          let r := { r with count := satInc 0xFFFFFFFF r.count, first := if r.first = 0 then t else r.first, last := t }
          let d := d.modLed fun l => { l with tamper := l.tamper.set k r, tmpLevel := setBitN l.tmpLevel k.val true }
          if d.pwr.off then d
          else
            let d := (d.setInput TMP.STAT_LEVEL k true).setInput TMP.EVT_ENTER k true
            let d := d.raise TMP.page TMP.ev_ENTER
            if d.led.ready then d.tamperLog.legalShow else d), pend⟩) ∧
    (∀ (k : Fin 4), exec (.tamperInputLeave k) ⟨d, pend⟩ = .next ⟨(
        if !d.led.tmpCfg.testBit k.val || !d.led.tmpLevel.testBit k.val then d
        else
          let d := d.modLed fun l => { l with tmpLevel := setBitN l.tmpLevel k.val false }
          if d.pwr.off then d
          else
            let d := ((d.setInput TMP.STAT_LEVEL k false).setInput TMP.EVT_LEAVE k true).raise TMP.page TMP.ev_LEAVE
            if d.led.ready then d.legalShow else d), pend⟩) ∧
    (exec .xt32Stop ⟨d, pend⟩ = .next ⟨(
        let d : Dev := { d with rtc := { d.rtc with xt32 := false, ci := true } }
        if d.pwr.off then d else
        let d := ((d.sessFlag 9).rowStatus 0x40).raise LGL.page LGL.ev_CI
        (d.raise RTC.page RTC.ev_CI).legalShow), pend⟩)

/-- Completion: Keys and operations of the vault. In every state whose domains are on, whatever waits in the queue and for all
operands, each of these commands answers a next state with the queue unchanged and the device that its clause writes out:
VLT_INFO, KEY_GENERATE, KEY_LOAD, KEY_UNLOAD, KEY_PUBLIC, SIGN, ECDH, MAC, KEY_TRANSFER, KEY_TO_TAG, RANDOM, ATTEST. (R335,
R336, R337, R338, R345, R349, R363) -/
def Obligations.VaultKeyCommands : Prop :=
  ∀ (d : Dev) (pend : List Instr), d.pwr.off = false →
    (∀ (q : VltReq), exec (.vltInfo q) ⟨d, pend⟩ = .next ⟨(
        match d.vltError q {} with
        | some e => d.vltAnswer q 0x0501 e
        | none =>
          let r : Nat × List Nat × Dev := (
              let cert := fun k => (List.range (Config.certificateLen k)).map fun i => (Config.certificate k i).toNat
              (Err.NONE, [lcCode d.chip.lifecycle, d.rdN VLT.ROOT_GEN, d.rdN VLT.SLOT_USED] ++ cert 0 ++ cert 1 ++ cert 2, d))
          r.2.2.vltAnswer q 0x0501 r.1 r.2.1), pend⟩) ∧
    (∀ (q : VltReq) (h : KeyHdr), exec (.keyGenerate q h) ⟨d, pend⟩ = .next ⟨(
        match d.vltError q { role := fun r => r == 1, random := true } with
        | some e => d.vltAnswer q 0x0505 e
        | none =>
          let d := d.modVlt fun v => { v with drbgReqs := v.drbgReqs + 1 }
          let r : Nat × List Nat × Dev := (
              let alg := h.alg.toNat
              if keyLen alg = 0 ∨ !usageFits h.usage.toNat alg ∨ 3 < h.policy.toNat then (Err.RANGE, [], d)
              else
                let (iv, d) := d.freeBytes 12
                let (ct, d) := d.freeBytes (keyLen alg + 16)
                let blob := keyHeader h (d.rdN VLT.ROOT_GEN) iv ++ ct
                let pub := if h.policy.toNat.testBit 0 then (List.range (pubLen alg)).map (Config.blobKey blob) else []
                (Err.NONE, vals (blob ++ pub), d.vltOp))
          r.2.2.vltAnswer q 0x0505 r.1 r.2.1), pend⟩) ∧
    (∀ (q : VltReq) (blob : List Byte) (slot : BitVec 8) (tagOk : Bool), exec (.keyLoad q blob slot tagOk) ⟨d, pend⟩ = .next ⟨(
        match d.vltError q {} with
        | some e => d.vltAnswer q 0x0506 e
        | none =>
          let r : Nat × List Nat × Dev := (
              let f := fieldLe blob
              let alg := f 4 1
              let free := (List.finRange 32).filter fun k => decide (4 ≤ k.val) && (d.vlt.slots[k]).isNone
              let tgt := if slot = 0xFF then free.head? else free.find? fun k => k.val == slot.toNat
              if f 0 4 ≠ 0x31424B56 ∨ keyLen alg = 0 ∨ !usageFits (f 5 1) alg ∨ f 10 2 ≠ keyLen alg ∨ 3 < f 8 2 ∨
                  blob.length ≠ 48 + keyLen alg then (Err.RANGE, [], d)
              else if f 16 4 ≠ d.rdN VLT.ROOT_GEN then (Err.SEQUENCE, [], d)
              else if !tagOk then (Err.RANGE, [], d)
              else if !slotRights q (f 6 1) (f 7 1) then (Err.ROLE_DENIED, [], d)
              else if (f 8 2).testBit 1 ∧ d.chip.lifecycle ≠ .field then (Err.SEQUENCE, [], d)
              else if slot ≠ 0xFF ∧ (slot.toNat < 4 ∨ 31 < slot.toNat) then (Err.RANGE, [], d)
              else match tgt with
                | none => (Err.BUSY, [], d)
                | some k =>
                  let d := d.slotPut k { use := .blob (f 5 1), policy := f 8 2, blob := blob } alg (f 5 1) (f 6 1) (f 7 1) (f 12 4)
                  (Err.NONE, [k.val], d.vltOp))
          r.2.2.vltAnswer q 0x0506 r.1 r.2.1), pend⟩) ∧
    (∀ (q : VltReq) (slot : BitVec 8), exec (.keyUnload q slot) ⟨d, pend⟩ = .next ⟨(
        match d.vltError q {} with
        | some e => d.vltAnswer q 0x0507 e
        | none =>
          let r : Nat × List Nat × Dev := (
              if h : 4 ≤ slot.toNat ∧ slot.toNat < 32 then
                let k : Fin 32 := ⟨slot.toNat, h.2⟩
                if (d.vlt.slots[k]).isNone then (Err.SEQUENCE, [], d)
                else if !slotRights q (d.get (VLT.SLOT_ROLES k)) (d.get (VLT.SLOT_DOMAINS k)) then (Err.ROLE_DENIED, [], d)
                else (Err.NONE, [], d.slotDrop k)
              else (Err.RANGE, [], d))
          r.2.2.vltAnswer q 0x0507 r.1 r.2.1), pend⟩) ∧
    (∀ (q : VltReq) (slot : BitVec 8), exec (.keyPublic q slot) ⟨d, pend⟩ = .next ⟨(
        match d.vltError q {} with
        | some e => d.vltAnswer q 0x0508 e
        | none =>
          let r : Nat × List Nat × Dev := (
              if h : slot.toNat < 32 then
                let k : Fin 32 := ⟨slot.toNat, h⟩
                match d.vlt.slots[k] with
                | none => (Err.SEQUENCE, [], d)
                | some x => match x.use with
                  | .blob _ =>
                    let n := pubLen (d.get (VLT.SLOT_ALG k))
                    if x.policy.testBit 0 ∧ 0 < n then (Err.NONE, vals ((List.range n).map (Config.blobKey x.blob)), d)
                    else (Err.RANGE, [], d)
                  | _ => (Err.NONE, vals (d.deviceKey slot.toNat), d)
              else (Err.RANGE, [], d))
          r.2.2.vltAnswer q 0x0508 r.1 r.2.1), pend⟩) ∧
    (∀ (q : VltReq) (slot : BitVec 8) (data : List Byte) (intact : Bool), exec (.sign q slot data intact) ⟨d, pend⟩ = .next ⟨(
        match d.vltError q { random := d.get (VLT.SLOT_ALG (slot.toNat % 32)) != 0x20 } with
        | some e => d.vltAnswer q 0x0509 e
        | none =>
          let d := if d.get (VLT.SLOT_ALG (slot.toNat % 32)) != 0x20 then d.modVlt fun v => { v with drbgReqs := v.drbgReqs + 1 } else d
          let r : Nat × List Nat × Dev := (
              d.useSlot q slot.toNat .sign intact fun d _ x alg =>
                if (x.use = .receipt ∨ x.use = .blob 0x03) ∧ data.length ≠ 32 then (Err.RANGE, [], d)
                else
                  let (sig, d) := d.freeBytes (sigLen alg)
                  (Err.NONE, vals sig, d))
          r.2.2.vltAnswer q 0x0509 r.1 r.2.1), pend⟩) ∧
    (∀ (q : VltReq) (slot : BitVec 8) (peer : List Byte) (intact : Bool), exec (.ecdh q slot peer intact) ⟨d, pend⟩ = .next ⟨(
        match d.vltError q { domain := true, random := true } with
        | some e => d.vltAnswer q 0x050A e
        | none =>
          let d := d.modVlt fun v => { v with drbgReqs := v.drbgReqs + 1 }
          let r : Nat × List Nat × Dev := (
              d.useSlot q slot.toNat .ecdh intact fun d _ _ alg =>
                if peer.length ≠ pubLen alg then (Err.RANGE, [], d)
                else
                  let (z, d) := d.freeBytes (keyLen alg)
                  (Err.NONE, vals z, d))
          r.2.2.vltAnswer q 0x050A r.1 r.2.1), pend⟩) ∧
    (∀ (q : VltReq) (slot : BitVec 8) (data : List Byte) (tag : Option (List Byte)) (intact : Bool),
        exec (.mac q slot data tag intact) ⟨d, pend⟩ = .next ⟨(
        match d.vltError q { domain := true } with
        | some e => d.vltAnswer q 0x050B e
        | none =>
          let r : Nat × List Nat × Dev := (
              d.useSlot q slot.toNat .mac intact fun d _ x _ =>
                let m := (List.range 16).map (Config.blobCmac x.blob data)
                match tag with
                | none => (Err.NONE, vals m, d)
                | some t => (Err.NONE, [if t = m then 1 else 0], d))
          r.2.2.vltAnswer q 0x050B r.1 r.2.1), pend⟩) ∧
    (∀ (q : VltReq) (slot : BitVec 8) (peer : List Byte) (intact : Bool),
        exec (.keyTransfer q slot peer intact) ⟨d, pend⟩ = .next ⟨(
        match d.vltError q { domain := true, random := true } with
        | some e => d.vltAnswer q 0x050F e
        | none =>
          let d := d.modVlt fun v => { v with drbgReqs := v.drbgReqs + 1 }
          let r : Nat × List Nat × Dev := (
              d.useSlot q slot.toNat .transfer intact fun d _ _ alg =>
                if peer.length ≠ 64 then (Err.RANGE, [], d)
                else
                  let (b, d) := d.freeBytes (48 + keyLen alg)
                  (Err.NONE, vals b, d))
          r.2.2.vltAnswer q 0x050F r.1 r.2.1), pend⟩) ∧
    (∀ (q : VltReq) (slot : BitVec 8) (intact : Bool), exec (.keyToTag q slot intact) ⟨d, pend⟩ = .next ⟨(
        match d.vltError q { domain := true } with
        | some e => d.vltAnswer q 0x0510 e
        | none =>
          let r : Nat × List Nat × Dev := (
              if !d.fullTag then (Err.NOT_FUSED, [], d)
              else d.useSlot q slot.toNat .toTag intact fun d _ _ _ =>
                let (v, d) := d.free
                let d := d.modTag fun t => { t with keySet := true, keyVer := v % 256 }
                (Err.NONE, [], d.set WTG.STAT_KEY_VER (v % 256)))
          r.2.2.vltAnswer q 0x0510 r.1 r.2.1), pend⟩) ∧
    (∀ (q : VltReq) (n : BitVec 16), exec (.random q n) ⟨d, pend⟩ = .next ⟨(
        match d.vltError q { domain := true, random := true, root := false } with
        | some e => d.vltAnswer q 0x050D e
        | none =>
          let d := d.modVlt fun v => { v with drbgReqs := v.drbgReqs + 1 }
          let r : Nat × List Nat × Dev := (
              if n.toNat = 0 ∨ 1024 < n.toNat then (Err.RANGE, [], d)
              else
                let (b, d) := d.freeBytes n.toNat
                (Err.NONE, vals b, d))
          r.2.2.vltAnswer q 0x050D r.1 r.2.1), pend⟩) ∧
    (∀ (q : VltReq) (nonce : List Byte) (intact : Bool), exec (.attest q nonce intact) ⟨d, pend⟩ = .next ⟨(
        match d.vltError q { random := true } with
        | some e => d.vltAnswer q 0x050C e
        | none =>
          let d := d.modVlt fun v => { v with drbgReqs := v.drbgReqs + 1 }
          let r : Nat × List Nat × Dev := (
              if nonce.length < 8 ∨ 64 < nonce.length then (Err.RANGE, [], d)
              else d.useSlot q 0 .attest intact fun d _ _ _ =>
                let (sig, d) := d.freeBytes 96
                (Err.NONE, vals (d.token (d.claims nonce) sig), d))
          r.2.2.vltAnswer q 0x050C r.1 r.2.1), pend⟩)

/-- Completion: Role sessions, anchors, lifecycle, debug and the random source. In every state whose domains are on, whatever
waits in the queue and for all operands, each of these commands answers a next state with the queue unchanged and the device
that its clause writes out: ROLE_CHALLENGE, ROLE_OPEN, ROLE_CLOSE, ROLE_SESSION_IDLE_TIMEOUT, ANCHOR_SET, ROLLBACK_SET,
LIFECYCLE_SET, DEBUG_CHALLENGE, DEBUG_OPEN, DEBUG_SCOPE_EXPIRY, VAULT_TAMPER_CFG, TRNG_HEALTH_FAIL, TRNG_RETEST, DRBG_RESEED.
(R332, R342, R343, R344, R346, R347, R348, R349) -/
def Obligations.VaultCommands : Prop :=
  ∀ (d : Dev) (pend : List Instr), d.pwr.off = false →
    (∀ (q : Req) (role : BitVec 8), exec (.roleChallenge q role) ⟨d, pend⟩ = .next ⟨(
        match d.vltError { host := some q } { random := true, boot := true } with
        | some e => d.vltAnswer { host := some q } 0x0502 e
        | none =>
          let d := d.modVlt fun v => { v with drbgReqs := v.drbgReqs + 1 }
          let r : Nat × List Nat × Dev := (
              let r := role.toNat
              if !d.rolesOpenable r then (Err.ROLE_DENIED, [], d)
              else
                let (n, d) := d.free
                let n := n % 2 ^ 256
                let d := d.modVlt fun v => { v with chals :=
                  (v.chals.filter fun c => !(c.link == q.link && c.what == r)) ++ [{ link := q.link, what := r, nonce := n }] }
                (Err.NONE, vals (leBytes 32 n), d))
          r.2.2.vltAnswer { host := some q } 0x0502 r.1 r.2.1), pend⟩) ∧
    (∀ (q : Req) (role : BitVec 8) (idx : Fin 2) (eph : List Byte) (ok : Bool),
        exec (.roleOpen q role idx eph ok) ⟨d, pend⟩ = .next ⟨(
        match d.vltError { host := some q } { random := true, boot := true } with
        | some e => d.vltAnswer { host := some q } 0x0503 e
        | none =>
          let d := d.modVlt fun v => { v with drbgReqs := v.drbgReqs + 1 }
          let r : Nat × List Nat × Dev := (
              let r := role.toNat
              let has := d.vlt.chals.any fun c => c.link == q.link && c.what == r && decide (c.age < 60)
              if !d.rolesOpenable r then (Err.ROLE_DENIED, [], d)
              else if eph.length ≠ 64 then (Err.RANGE, [], d)
              else if !d.hasAnchor r idx.val ∨ !has then (Err.SEQUENCE, [], d)
              else
                let d := d.modVlt fun v => { v with chals := v.chals.filter fun c => !(c.link == q.link && c.what == r) }
                if !ok then (Err.ROLE_DENIED, [], d)
                else
                  let same := fun (x : RoleSess) => x.link == q.link && x.role == r
                  if !d.roles.any same ∧ 4 ≤ (d.roles.filter fun x => x.link == q.link).length then (Err.BUSY, [], d)
                  else
                    let d := if d.roles.any same then d.roleStale (fun x => x.link == q.link && x.role == r && !(x.typ == 0x0503 && x.tag == q.tag)) else d
                    let d := d.roleEnd same
                    let d : Dev := { d with roles := d.roles ++ [({ role := r, link := q.link } : RoleSess)] }
                    let d := (d.sessShow.raise VLT.page VLT.ev_SESSION).vltOp
                    let (e, d) := d.freeBytes 64
                    (Err.NONE, vals e, d))
          r.2.2.vltAnswer { host := some q } 0x0503 r.1 r.2.1), pend⟩) ∧
    (∀ (q : Req) (role : BitVec 8), exec (.roleClose q role) ⟨d, pend⟩ = .next ⟨(
        match d.vltError { host := some q } { role := fun r => r == role.toNat && r != 0, root := false, boot := true } with
        | some e => d.vltAnswer { host := some q } 0x0504 e
        | none =>
          let r : Nat × List Nat × Dev := (
              (Err.NONE, [], d.roleEnd fun x => x.link == q.link && x.role == role.toNat))
          r.2.2.vltAnswer { host := some q } 0x0504 r.1 r.2.1), pend⟩) ∧
    (∀ (link : Link) (role : Role), exec (.roleSessionIdleTimeout link role) ⟨d, pend⟩ = .next ⟨(
        d.roleEnd fun x => x.link == link && x.role == role && decide (60 * d.get VLT.SESS_CFG_IDLE ≤ x.idle)), pend⟩) ∧
    (∀ (q : VltReq) (role : BitVec 8) (idx : BitVec 8) (key : List Byte), exec (.anchorSet q role idx key) ⟨d, pend⟩ = .next ⟨(
        match d.vltError q {} with
        | some e => d.vltAnswer q 0x050E e
        | none =>
          let r : Nat × List Nat × Dev := (
              let r := role.toNat
              let have1 := d.vlt.anchors.any fun a => a.1 == r
              let may :=
                if r = 1 ∨ r = 4 then (d.chip.lifecycle == .provisioned && !have1) || d.sessionOpen q r
                else (r == 2 || r == 3) && d.sessionOpen q 1
              if (r = 4 ∧ !d.legalPart) ∨ !may then (Err.ROLE_DENIED, [], d)
              else if 1 < idx.toNat ∨ (key.length ≠ 64 ∧ key.length ≠ 96) then (Err.RANGE, [], d)
              else
                let d := d.modVlt fun v => { v with anchors :=
                  (v.anchors.filter fun a => !(a.1 == r && a.2.1 == idx.toNat)) ++ [(r, idx.toNat, key)] }
                let by_ := match q.host with
                  | some h => h.role
                  | none => 0
                let d := if r = 4 then d.llog by_ 0x010C 0xFF (leBytes 1 idx.toNat ++ leBytes 1 (if key.length = 64 then 0 else 1) ++
                    leBytes 2 0 ++ sha256 key) else d
                (Err.NONE, [], d))
          r.2.2.vltAnswer q 0x050E r.1 r.2.1), pend⟩) ∧
    (∀ (q : VltReq) (dom : BitVec 8) (v : Word), exec (.rollbackSet q dom v) ⟨d, pend⟩ = .next ⟨(
        match d.vltError q { domain := true } with
        | some e => d.vltAnswer q 0x0511 e
        | none =>
          let r : Nat × List Nat × Dev := (
              let r := d.rollbackRaise dom.toNat v.toNat
              (r.1, [], r.2))
          r.2.2.vltAnswer q 0x0511 r.1 r.2.1), pend⟩) ∧
    (∀ (q : VltReq) (target : BitVec 8), exec (.lifecycleSet q target) ⟨d, pend⟩ = .next ⟨(
        match d.vltError q {} with
        | some e => d.vltAnswer q 0x0512 e
        | none =>
          let r : Nat × List Nat × Dev := (
              match target.toNat with
              | 1 =>
                if !d.chip.testMode then (Err.SEQUENCE, [], d)
                else match d.chip.lifecycle with
                  | .manufacture => (Err.NONE, [], d.provision 1)
                  | .returned | .dead =>
                    if 8 ≤ d.rdN VLT.ROOT_GEN then (Err.SEQUENCE, [], d) else (Err.NONE, [], d.provision (d.rdN VLT.ROOT_GEN + 1))
                  | _ => (Err.SEQUENCE, [], d)
              | 2 =>
                if d.chip.lifecycle ≠ .provisioned then (Err.SEQUENCE, [], d)
                else if !d.sessionOpen q 1 then (Err.ROLE_DENIED, [], d)
                else if d.legalPart ∧ !d.vlt.anchors.any (fun a => a.1 == 4) then (Err.SEQUENCE, [], d)
                else (Err.NONE, [], d.lifecycleTo .field)
              | 3 =>
                if d.chip.lifecycle ≠ .field then (Err.SEQUENCE, [], d)
                else if !(d.roles.any fun x => x.role == 7 && d.roles.any fun y => y.role == 1 && y.link == x.link &&
                    (match q.host with
                      | some h => h.link == x.link
                      | none => true)) then (Err.ROLE_DENIED, [], d)
                else
                  let d := (d.modVlt fun v => { v with anchors := [] }).slotsClear
                  (Err.NONE, [], d.lifecycleTo .returned)
              | _ => (Err.SEQUENCE, [], d))
          r.2.2.vltAnswer q 0x0512 r.1 r.2.1), pend⟩) ∧
    (∀ (q : VltReq) (scope : BitVec 8), exec (.debugChallenge q scope) ⟨d, pend⟩ = .next ⟨(
        match d.vltError q { role := fun r => r == 1, random := true } with
        | some e => d.vltAnswer q 0x0513 e
        | none =>
          let d := d.modVlt fun v => { v with drbgReqs := v.drbgReqs + 1 }
          let r : Nat × List Nat × Dev := (
              if !d.sessionOpen q 1 then (Err.ROLE_DENIED, [], d)
              else if d.chip.lifecycle ≠ .field then (Err.SEQUENCE, [], d)
              else if scope.toNat = 0 ∨ 7 < scope.toNat then (Err.RANGE, [], d)
              else
                let (n, d) := d.free
                let n := n % 2 ^ 256
                let l := match q.host with
                  | some h => h.link
                  | none => .spi
                (Err.NONE, vals (leBytes 32 n), d.modVlt fun v => { v with dbgChal := some { link := l, what := scope.toNat, nonce := n } }))
          r.2.2.vltAnswer q 0x0513 r.1 r.2.1), pend⟩) ∧
    (∀ (q : VltReq) (ok : Bool), exec (.debugOpen q ok) ⟨d, pend⟩ = .next ⟨(
        match d.vltError q { role := fun r => r == 1 } with
        | some e => d.vltAnswer q 0x0514 e
        | none =>
          let r : Nat × List Nat × Dev := (
              if !d.sessionOpen q 1 then (Err.ROLE_DENIED, [], d)
              else match d.vlt.dbgChal with
                | none => (Err.SEQUENCE, [], d)
                | some c =>
                  if d.chip.lifecycle ≠ .field then (Err.SEQUENCE, [], d)
                  else if c.what.testBit 1 ∧ !d.allIdle then (Err.BUSY, [], d)
                  else
                    let d := d.modVlt fun v => { v with dbgChal := none }
                    if !ok then (Err.ROLE_DENIED, [], d)
                    else
                      let d := ((d.modVlt fun v => { v with dbgSec := 0 }).set VLT.LC_DBG_SCOPE c.what).raise VLT.page VLT.ev_DEBUG
                      let d := d.llog 1 0x010E 0xFF (leBytes 1 c.what ++ leBytes 3 0 ++ (sha256 (leBytes 32 c.nonce)).take 16 ++
                        leBytes 4 (d.rtc.sec + 28800))
                      (Err.NONE, [], d))
          r.2.2.vltAnswer q 0x0514 r.1 r.2.1), pend⟩) ∧
    (exec .debugScopeExpiry ⟨d, pend⟩ = .next ⟨(
        if 28800 ≤ d.vlt.dbgSec then d.set VLT.LC_DBG_SCOPE 0 else d), pend⟩) ∧
    (∀ (q : VltReq) (en : Bool), exec (.vaultTamperCfg q en) ⟨d, pend⟩ = .next ⟨(
        match d.vltError q { role := fun r => r == 1 } with
        | some e => d.vltAnswer q 0x0515 e
        | none =>
          let r : Nat × List Nat × Dev := (
              if d.chip.lifecycle ≠ .provisioned then (Err.SEQUENCE, [], d)
              else (Err.NONE, [], (d.setBit VLT.TAMPER_CFG_MESH_EN en).setBit TMP.STAT_MESH_EN en))
          r.2.2.vltAnswer q 0x0515 r.1 r.2.1), pend⟩) ∧
    (exec .trngHealthFail ⟨d, pend⟩ = .next ⟨(
        (((d.setBit VLT.STAT_TRNG_OK false).raise VLT.page VLT.ev_TRNG_FAIL).setBit (Hdr.FAULT VLT.page) true).bump
          VLT.CNT_FAIL_TRNG), pend⟩) ∧
    (∀ (pass : Bool), exec (.trngRetest pass) ⟨d, pend⟩ = .next ⟨(
        if pass && !d.bit VLT.STAT_TRNG_OK then (d.setBit VLT.STAT_TRNG_OK true).setBit (Hdr.FAULT VLT.page) false else d), pend⟩) ∧
    (exec .drbgReseed ⟨d, pend⟩ = .next ⟨(
        if d.bit VLT.STAT_TRNG_OK && (!d.bit VLT.STAT_DRBG_OK || decide (2 ^ 20 ≤ d.vlt.drbgReqs) || decide (60 ≤ d.vlt.drbgSec)) then
          (d.modVlt fun v => { v with drbgReqs := 0, drbgSec := 0 }).setBit VLT.STAT_DRBG_OK true
        else d), pend⟩)

/-- Completion: Zeroisation and the mesh. In every state, with the domains on or off, whatever waits in the queue and for all
operands, each of these commands answers a next state with the queue unchanged and the device that its clause writes out:
ZEROISATION, MESH_CHECK. (R326, R330, R331) -/
def Obligations.ZeroiseCommands : Prop :=
  ∀ (d : Dev) (pend : List Instr),
    (∀ (cause : Fin 5), exec (.zeroisation cause) ⟨d, pend⟩ = .next ⟨(
        let d := d.zeroise (cause.val + 1)
        if cause = 4 then d.vbatReset else d), pend⟩) ∧
    (∀ (ok : Bool), exec (.meshCheck ok) ⟨d, pend⟩ = .next ⟨(
        if !d.bit VLT.TAMPER_CFG_MESH_EN then d
        else if ok then ((d.modVlt fun v => { v with meshFail := false }).setBit VLT.STAT_MESH_OK true).setBit TMP.STAT_MESH_OK true
        else if d.vlt.meshFail then d.zeroise 4
        else (((d.modVlt fun v => { v with meshFail := true }).setBit VLT.STAT_MESH_OK false).setBit TMP.STAT_MESH_OK false).raise
          TMP.page TMP.ev_MESH), pend⟩)

/-- Completion: The contactless reader and its list. In every state whose domains are on, whatever waits in the queue and for
all operands, each of these commands answers a next state with the queue unchanged and the device that its clause writes out:
NFR_FIELD_ON, NFR_FIELD_OFF, LPCD_START, LPCD_PULSE, TRANSCEIVE, ANTICOLL, NFR_ABORT, NFR_RX_DONE, LIST_CLEAR,
LIST_DATA_WRITE, LOAD_DONE. Where a clause asks whether the page accepts the write or takes the start, the first branch is
the effect and the last the rejection. (R352, R353, R354, R355, R356, R372, R373) -/
def Obligations.ReaderCommands : Prop :=
  ∀ (d : Dev) (pend : List Instr), d.pwr.off = false →
    (∀ (m : Master), exec (.nfrFieldOn m) ⟨d, pend⟩ = .next ⟨(
        if d.starts m .NFR 0x044 then
          let d := d.noKey
          match (
              if d.nfrShed then some Err.BUSY else if d.isStandby then some Err.SEQUENCE else none) with
          | some c => d.reject (.NFR : PageId).base c
          | none =>
            let (i, d) := d.free
            (((d.setBit NFR.CTL_FIELD true).setBit NFR.STAT_FIELD_ON true).setBit NFR.STAT_LPCD_ARMED false).set NFR.TX_CUR_MA i
        else d.startRefused m .NFR 0x044), pend⟩) ∧
    (∀ (m : Master), exec (.nfrFieldOff m) ⟨d, pend⟩ = .next ⟨(
        if d.accepts m .NFR 0x044 then
          let d := d.noKey
          let d := ((d.nfrIdle.setBit NFR.CTL_FIELD false).setBit NFR.STAT_FIELD_ON false).set NFR.TX_CUR_MA 0
          if d.bit NFR.CTL_LPCD then (d.setBit NFR.STAT_LPCD_ARMED true).modNfr fun n => { n with lpcdFirst := true } else d
        else d.turnedDown m .NFR 0x044), pend⟩) ∧
    (∀ (m : Master), exec (.lpcdStart m) ⟨d, pend⟩ = .next ⟨(
        if d.starts m .NFR 0x044 then
          let d := d.noKey
          match (
              if d.nfrShed then some Err.BUSY else none) with
          | some c => d.reject (.NFR : PageId).base c
          | none =>
            let d := (d.setBit NFR.CTL_LPCD true).setBit NFR.STAT_CARD_DET false
            if d.bit NFR.STAT_FIELD_ON then d
            else (d.setBit NFR.STAT_LPCD_ARMED true).modNfr fun n => { n with lpcdFirst := true }
        else d.startRefused m .NFR 0x044), pend⟩) ∧
    (∀ (amp : BitVec 16), exec (.lpcdPulse amp) ⟨d, pend⟩ = .next ⟨(
        if !d.bit NFR.STAT_LPCD_ARMED then d
        else
          let d := d.set NFR.LPCD_MEAS_AMP amp.toNat
          if d.nfr.lpcdFirst then (d.set NFR.LPCD_REF_AMP amp.toNat).modNfr fun n => { n with lpcdFirst := false }
          else
            let r := d.get NFR.LPCD_REF_AMP
            let dev := (max r amp.toNat - min r amp.toNat) * 1000
            if d.get NFR.LPCD_CFG_THRESH * r < dev then
              (((d.setBit NFR.STAT_CARD_DET true).setBit NFR.STAT_LPCD_ARMED false).setBit NFR.CTL_LPCD false).raise NFR.page
                NFR.ev_CARD_DET
            else d), pend⟩) ∧
    (∀ (m : Master), exec (.transceive m) ⟨d, pend⟩ = .next ⟨(
        d.nfrStart m .transceive), pend⟩) ∧
    (∀ (m : Master), exec (.anticoll m) ⟨d, pend⟩ = .next ⟨(
        d.nfrStart m .anticoll), pend⟩) ∧
    (∀ (m : Master), exec (.nfrAbort m) ⟨d, pend⟩ = .next ⟨(
        if d.accepts m .NFR 0x044 then
          let d := d.noKey
          (d.modNfr fun n => { n with job := none }).setBit NFR.STAT_BUSY false
        else d.turnedDown m .NFR 0x044), pend⟩) ∧
    (∀ (r : NfrRx), exec (.nfrRxDone r) ⟨d, pend⟩ = .next ⟨(
        match d.nfr.job with
        | none => d
        | some j =>
          let r := d.nfrHeard j r
          let d := d.nfrIdle
          if r.timeout then (d.setBit NFR.STAT_TIMEOUT true).raise NFR.page NFR.ev_TIMEOUT
          else
            let l := r.data.take 256
            let d := ((d.wrWords NFR.RXBUF l).set NFR.STAT_RXLEN l.length).setBit NFR.STAT_RX_DONE true
            let d := ((d.setBit NFR.STAT_CRC_ERR r.crcErr).setBit NFR.STAT_COLL r.coll).raise NFR.page NFR.ev_RX_DONE
            if r.crcErr || r.coll then d.raise NFR.page NFR.ev_ERROR
            else if j = .anticoll then
              let d := ((d.wrN NFR.UID0 (ofLe (r.uid.take 4))).wrN NFR.UID1 (ofLe ((r.uid.drop 4).take 4))).set NFR.UIDLEN_LEN
                r.uid.length
              d.listCheck r.uid
            else d), pend⟩) ∧
    (∀ (m : Master), exec (.listClear m) ⟨d, pend⟩ = .next ⟨(
        if d.accepts m .NFR 0x088 then
          let d := d.noKey
          (d.modNfr fun n => { n with listWords := [] }).wrN NFR.LIST_CFG 0
        else d.turnedDown m .NFR 0x088), pend⟩) ∧
    (∀ (m : Master) (w : Word), exec (.listDataWrite m w) ⟨d, pend⟩ = .next ⟨(
        if d.accepts m .NFR 0x084 then
          let d := d.noKey
          if d.bit NFR.LIST_CFG_VALID then d.reject NFR.page Err.SEQUENCE
          else if 8192 ≤ d.nfr.listWords.length then d.reject NFR.page Err.RANGE
          else
            let l := d.nfr.listWords ++ [w.toNat]
            (d.modNfr fun n => { n with listWords := l }).set NFR.LIST_CFG_COUNT (l.length / 2)
        else d.turnedDown m .NFR 0x084), pend⟩) ∧
    (∀ (m : Master), exec (.loadDone m) ⟨d, pend⟩ = .next ⟨(
        if d.accepts m .NFR 0x088 then
          let d := d.noKey
          if d.nfr.listWords.length % 2 = 0 ∧ ascending (listEntries d.nfr.listWords) then d.setBit NFR.LIST_CFG_VALID true
          else (d.setBit NFR.LIST_CFG_VALID false).reject NFR.page Err.RANGE
        else d.turnedDown m .NFR 0x088), pend⟩)

/-- Completion: The contactless tag. In every state whose domains are on, whatever waits in the queue and for all operands,
each of these commands answers a next state with the queue unchanged and the device that its clause writes out:
HOST_RECORD_WRITE, HOST_RECORD_COMMIT, HOST_DATA_READ. With the domains on or off so do TAG_FIELD_ON, TAG_FIELD_LOSS, REQB,
XREQB, XMARK, READ_SIG_B, ATTRIB, HLTB, READ_BINARY, GET_SIG, GET_INFO, AUTH_BEGIN, AUTH_END, VERIFY_PWD, WRITE_RECORD. Where
a clause asks whether the page accepts the write or takes the start, the first branch is the effect and the last the
rejection. (R359, R360, R362, R363, R364, R365, R366, R368, R369, R374) -/
def Obligations.TagCommands : Prop :=
  ∀ (d : Dev) (pend : List Instr),
    (d.pwr.off = false →
    (∀ (m : Master) (rec : BitVec 8), exec (.hostRecordWrite m rec) ⟨d, pend⟩ = .next ⟨(
        if d.accepts m .WTG 0x0C0 then
          let d := d.noKey
          if rec.toNat < 192 ∨ 239 < rec.toNat then d.reject WTG.page Err.RANGE
          else if d.tag.host.isSome then d.reject WTG.page Err.BUSY
          else
            let l := d.rdWords WTG.WBUF 16
            let d := (d.set WTG.WCMD_RECORD rec.toNat).modTag fun t => { t with host := some (rec.toNat, l) }
            ((d.setBit WTG.WSTAT_PENDING true).setBit WTG.WSTAT_DONE false).setBit WTG.WSTAT_FAIL false
        else d.turnedDown m .WTG 0x0C0), pend⟩) ∧
    (exec .hostRecordCommit ⟨d, pend⟩ = .next ⟨(
        match d.tag.host with
        | none => d
        | some (r, l) =>
          let d := (d.mirrorPut (64 * r) l).modTag fun t => { t with host := none, txns := t.txns.filter fun x => x.1 != r }
          ((d.setBit WTG.WSTAT_PENDING false).setBit WTG.WSTAT_DONE true).raise WTG.page WTG.ev_HOST_DONE), pend⟩) ∧
    (∀ (m : Master) (busy : Bool), exec (.hostDataRead m busy) ⟨d, pend⟩ = .next ⟨(
        if m = .ylr ∨ m = .upd then d
        else if busy then (d.wrN WTG.HOST_DATA 0).reject WTG.page Err.BUSY
        else
          let a := d.get WTG.HOST_ADDR_ADDR / 4 * 4
          let v := if 0x80 ≤ a ∧ a < 0x100 then 0 else ofLe (d.mirror a 4)
          (d.wrN WTG.HOST_DATA v).set WTG.HOST_ADDR_ADDR (a + 4)), pend⟩)) ∧
    (∀ (own : Bool), exec (.tagFieldOn own) ⟨d, pend⟩ = .next ⟨(
        if own && !d.bit NFR.STAT_FIELD_ON && !d.bit NFR.STAT_LPCD_ARMED then d
        else
        let d := d.fieldSeen own
        if d.tagState ≠ Tg.OFF ∨ d.tagMuted ∨ (own && d.tag.cfg.testBit 0) then d
        else
          let d := if d.tag.shadow then ((d.modTag fun t => { t with shadow := false }).tagLog 7 0 0).raise WTG.page
            WTG.ev_ROLLBACK else d
          let d := (d.modTag fun t => { t with slot := 0, authPend := false, fails := 0 }).tagLog 1 0 0
          let d := ((d.setBit WTG.STAT_FIELD true).set WTG.STAT_STATE (if d.fullTag then Tg.IDLE else Tg.OPEN)).setBit
            WTG.STAT_BLOCKED false
          (d.wrN WTG.FIELD_CNT (d.rdN WTG.FIELD_CNT + 1)).raise WTG.page WTG.ev_FIELD_ON), pend⟩) ∧
    (exec .tagFieldLoss ⟨d, pend⟩ = .next ⟨(
        d.tagOff.modTag fun t => { t with fdLow := false }), pend⟩) ∧
    (∀ (n : Fin 5) (afi : BitVec 8) (wake : Bool), exec (.reqb n afi wake) ⟨d, pend⟩ = .next ⟨(
        d.tagRound (2 ^ n.val) afi.toNat wake), pend⟩) ∧
    (∀ (afi param : BitVec 8), exec (.xreqb afi param) ⟨d, pend⟩ = .next ⟨(
        let n := param.toNat % 16
        if d.tag.cfg.testBit 1 ∧ n ≤ 8 ∧ param.toNat < 32 then d.tagRound (2 ^ n) afi.toNat (param.toNat.testBit 4) else d), pend⟩) ∧
    (∀ (std : Bool) (sl : BitVec 8), exec (.xmark std sl) ⟨d, pend⟩ = .next ⟨(
        if d.tagHears ∧ d.fullTag ∧ d.tagState = Tg.READY ∧ 1 ≤ sl.toNat ∧ (std → sl.toNat ≤ 15) ∧ d.tag.slot = sl.toNat + 1 then
          d.tagSend d.atqb
        else d), pend⟩) ∧
    (∀ (pupi : Word), exec (.readSigB pupi) ⟨d, pend⟩ = .next ⟨(
        if d.tagHears ∧ pupi = d.pupi ∧ (!d.fullTag ∨ d.tagState = Tg.READY) then d.tagSend d.sigB else d), pend⟩) ∧
    (∀ (pupi : Word), exec (.attrib pupi) ⟨d, pend⟩ = .next ⟨(
        if !d.tagHears ∨ pupi ≠ d.pupi then d
        else if !d.fullTag then d.tagSend [0x00]
        else if d.tagState = Tg.READY then (d.set WTG.STAT_STATE Tg.PUBLIC).tagSend [0x00]
        else d), pend⟩) ∧
    (∀ (pupi : Option Word), exec (.hltb pupi) ⟨d, pend⟩ = .next ⟨(
        let ans : List Byte := if pupi.isSome then [0x00] else [0xC2]
        let mine := match pupi with
          | some p => p == d.pupi
          | none => true
        if !d.tagHears ∨ !mine then d
        else if !d.fullTag then d.tagSend ans
        else
          let st := d.tagState
          if st = Tg.READY ∨ st = Tg.PUBLIC ∨ st = Tg.AUTH then
            ((d.modTag fun t => { t with authPend := false }).set WTG.STAT_STATE Tg.HALT).tagSend ans
          else d), pend⟩) ∧
    (∀ (ofs le : BitVec 16), exec (.readBinary ofs le) ⟨d, pend⟩ = .next ⟨(
        d.onApdu fun d =>
          let a := ofs.toNat
          let e := a + le.toNat
          if le.toNat < 1 ∨ 240 < le.toNat then d.apdu [] 0x6700
          else if 0x4000 < e ∨ (a < 0x100 ∧ 0x80 < e) then d.apdu [] 0x6A82
          else if 0x3000 < e ∧ !d.tagService then d.apdu [] 0x6982
          else d.apdu (d.mirror a le.toNat) 0x9000), pend⟩) ∧
    (∀ (p le : BitVec 16), exec (.getSig p le) ⟨d, pend⟩ = .next ⟨(
        d.onApdu fun d =>
          if p ≠ 0 then d.apdu [] 0x6A86 else if le ≠ 64 then d.apdu [] 0x6700 else d.apdu d.sigB 0x9000), pend⟩) ∧
    (∀ (p le : BitVec 16), exec (.getInfo p le) ⟨d, pend⟩ = .next ⟨(
        d.onApdu fun d =>
          if p ≠ 0 then d.apdu [] 0x6A86
          else if le ≠ 12 then d.apdu [] 0x6700
          else d.apdu (leBytes 4 d.chip.variant.code ++ leBytes 1 d.tagState ++ leBytes 1 d.tag.keyVer ++ leBytes 4 d.tag.snapSeq ++
            leBytes 2 d.tag.logSeq) 0x9000), pend⟩) ∧
    (∀ (p le : BitVec 16), exec (.authBegin p le) ⟨d, pend⟩ = .next ⟨(
        d.onApdu fun d =>
          if !d.fullTag ∨ d.tagState ≠ Tg.PUBLIC then d.apdu [] 0x6985
          else if d.bit WTG.STAT_BLOCKED then d.apdu [] 0x6983
          else if p.toNat % 256 ≠ 0 ∨ p.toNat / 256 ≠ d.tag.keyVer ∨ !d.tag.keySet then d.apdu [] 0x6A86
          else if le ≠ 16 then d.apdu [] 0x6700
          else
            let (r, d) := d.freeBytes 16
            (d.modTag fun t => { t with authPend := true }).apdu r 0x9000), pend⟩) ∧
    (∀ (p len : BitVec 16) (ok : Bool), exec (.authEnd p len ok) ⟨d, pend⟩ = .next ⟨(
        d.onApdu fun d =>
          if !d.fullTag ∨ !d.tag.authPend then d.apdu [] 0x6985
          else if p ≠ 0 then d.apdu [] 0x6A86
          else if len ≠ 32 then d.apdu [] 0x6700
          else if ok then
            let d := (d.modTag fun t => { t with authPend := false }).set WTG.STAT_STATE Tg.AUTH
            let d := (d.tagLog 2 0 0).raise WTG.page WTG.ev_AUTH
            let (r, d) := d.freeBytes 16
            d.apdu r 0x9000
          else (d.tagFail 3).apdu [] 0x6982), pend⟩) ∧
    (∀ (p : BitVec 16) (pwd : List Byte), exec (.verifyPwd p pwd) ⟨d, pend⟩ = .next ⟨(
        d.onApdu fun d =>
          if d.fullTag then d.apdu [] 0x6985
          else if d.bit WTG.STAT_BLOCKED then d.apdu [] 0x6983
          else if p ≠ 0 then d.apdu [] 0x6A86
          else if pwd.length ≠ 8 then d.apdu [] 0x6700
          else if d.tag.pwd = 0 then d.apdu [] 0x6985
          else if ofLe pwd = d.tag.pwd then
            (((d.set WTG.STAT_STATE Tg.SECURED).tagLog 4 0 0).raise WTG.page WTG.ev_AUTH).apdu [] 0x9000
          else (d.tagFail 5).apdu [] 0x6982), pend⟩) ∧
    (∀ (p txn : BitVec 16) (data : List Byte) (macOk : Bool) (cut : Collapse),
        exec (.writeRecord p txn data macOk cut) ⟨d, pend⟩ = .next ⟨(
        d.onApdu fun d =>
          let r := p.toNat / 256
          if p.toNat % 256 ≠ 0 ∨ r < 192 ∨ 239 < r then d.apdu [] 0x6A86
          else if data.length ≠ 64 then d.apdu [] 0x6700
          else if !d.tagService then d.apdu [] 0x6982
          else if d.fullTag ∧ !macOk then (d.set WTG.STAT_STATE Tg.PUBLIC).apdu [] 0x6982
          else if d.tag.txns.contains (r, txn.toNat) then
            (if d.mirror (64 * r) 64 = data then d.apdu [] 0x9000 else d.apdu [] 0x6985)
          else match cut with
            | .none => (d.recordPut r txn.toNat data).apdu [] 0x9000
            | .crc => d.apdu [] 0x6581
            | .before => d.fieldLost
            | .during => d.fieldLost
            | .between => (d.modTag fun t => { t with shadow := true }).fieldLost
            | .after => (d.recordPut r txn.toNat data).fieldLost), pend⟩)

/-- Completion: The electronic-paper engine. In every state whose domains are on, whatever waits in the queue and for all
operands, each of these commands answers a next state with the queue unchanged and the device that its clause writes out:
UPD_XY_GO, EPDR_GO, REGION_START, EPD_FRAME, REGION_END, WB_ACK, RECT_WRITE, RAIL_IDLE_OFF, RAIL_FAULT, WF_LOAD, BAND_LOAD,
TEMP_STALE, BLINK_TOGGLE, BL_DATA_WRITE. Where a clause asks whether the page accepts the write or takes the start, the first
branch is the effect and the last the rejection. (R376, R377, R378, R379, R384, R385, R387, R388, R390, R391) -/
def Obligations.DisplayCommands : Prop :=
  ∀ (d : Dev) (pend : List Instr), d.pwr.off = false →
    (∀ (m : Master) (mode : BitVec 3), exec (.updXyGo m mode) ⟨d, pend⟩ = .next ⟨(
        if d.starts m .EPD 0x06C then
          let d := d.noKey
          let d := d.set EPD.UPD_CTL_MODE mode.toNat
          let r : Rect := ⟨d.get EPD.UPD_XY_X, d.get EPD.UPD_XY_Y, d.get EPD.UPD_WH_W, d.get EPD.UPD_WH_H⟩
          if !d.onPanel r ∨ !d.modeIn mode.toNat then d.reject EPD.page Err.RANGE
          else if r.meets d.legalRect then d.reject EPD.page Err.LEGAL_DENIED
          else if d.meetsBlink r then d.reject EPD.page Err.SEQUENCE
          else match d.freeRegion with
            | none => d.reject EPD.page Err.BUSY
            | some id => (d.set EPD.UPD_RES_ID id).queueRegion id r mode.toNat .epd
        else d.startRefused m .EPD 0x06C), pend⟩) ∧
    (∀ (m : Master) (mode : BitVec 3), exec (.epdrGo m mode) ⟨d, pend⟩ = .next ⟨(
        if d.accepts m .EPDR 0x04C then
          let d := d.noKey
          let d := d.set EPDR.CTL_MODE mode.toNat
          let r := d.legalRect
          if d.bit EPDR.STAT_WB_REQ then d.reject EPDR.page Err.SEQUENCE
          else if !d.onPanel r ∨ !d.modeIn mode.toNat then d.reject EPDR.page Err.RANGE
          else if d.meetsBlink r then d.reject EPDR.page Err.SEQUENCE
          else match d.freeRegion with
            | none => d.reject EPDR.page Err.BUSY
            | some id => (d.setBit EPDR.STAT_TEMP_SHIFT false).queueRegion id r mode.toNat .legal
        else d.turnedDown m .EPDR 0x04C), pend⟩) ∧
    (exec .regionStart ⟨d, pend⟩ = .next ⟨(
        if !d.panelReady then d
        else match d.nextRegion with
          | some r => d.regionTry r
          | none => d), pend⟩) ∧
    (∀ (late : Option (BitVec 11)) (sns : BitVec 12), exec (.epdFrame late sns) ⟨d, pend⟩ = .next ⟨(
        if d.epd.running.isEmpty || (d.epd.halted && !d.epd.lastFrame) then d
        else
          let hit := fun (r : Region) => match late with
            | some y => decide (r.rect.y ≤ y.toNat ∧ y.toNat < r.rect.y + r.rect.h)
            | none => false
          let d := d.epd.running.foldl (fun d r => match d.blockedPixel r with
            | some a => d.fwBlock .dma a false
            | none => d) d
          let d := d.frameCount hit
          let d := if d.epd.vcom then d.set EPD.VCOM_SNS sns.toNat else d
          if late.isSome then (d.setBit EPD.STAT_UNDERRUN true).raise EPD.page EPD.ev_UNDERRUN else d), pend⟩) ∧
    (∀ (id : Fin 64), exec (.regionEnd id) ⟨d, pend⟩ = .next ⟨(
        match d.epd.running.find? fun r => r.id == id.val && r.frame == r.frames with
        | none => d
        | some r =>
          let d := (d.modEpd fun e => { e with running := e.running.erase r }).regionDone r
          (d.tempShift r).epdShow), pend⟩) ∧
    (∀ (m : Master), exec (.wbAck m) ⟨d, pend⟩ = .next ⟨(
        if d.accepts m .EPDR 0x04C then
          let d := d.noKey
          (d.setBit EPDR.STAT_WB_REQ false).setBit EPDR.STAT_WB_INIT false
        else d.turnedDown m .EPDR 0x04C), pend⟩) ∧
    (∀ (m : Master) (wh : Bool) (w : Word), exec (.rectWrite m wh w) ⟨d, pend⟩ = .next ⟨(
        if d.accepts m .EPDR (if wh then 0x044 else 0x040) then
          let d := d.noKey
          let old := d.legalRect
          let a := w.toNat % 2 ^ 11
          let b := w.toNat / 2 ^ 16 % 2 ^ 11
          let r : Rect := if wh then ⟨old.x, old.y, a, b⟩ else ⟨a, b, old.w, old.h⟩
          if d.legalBusy then d.reject EPDR.page Err.BUSY
          else if !d.onPanel r ∨ 524288 < r.w * r.h ∨ d.meetsBlink r then d.reject EPDR.page Err.RANGE
          else if wh then (d.set EPDR.RECT_WH_W a).set EPDR.RECT_WH_H b
          else (d.set EPDR.RECT_XY_X a).set EPDR.RECT_XY_Y b
        else d.turnedDown m .EPDR (if wh then 0x044 else 0x040)), pend⟩) ∧
    (exec .railIdleOff ⟨d, pend⟩ = .next ⟨(
        if d.panelIdle then d.railsOff else d), pend⟩) ∧
    (∀ (cause : RailCause), exec (.railFault cause) ⟨d, pend⟩ = .next ⟨(
        match d.railBad cause with
        | none => d
        | some d =>
          let d := ((d.setBit EPD.STAT_RAIL_FAULT true).setBit (Hdr.FAULT EPD.page) true).raise EPD.page EPD.ev_RAIL_FAULT
          (d.dirtyRunning.railsOff.modEpd fun e => { e with queue := [] }).epdShow), pend⟩) ∧
    (∀ (m : Master) (w : Word), exec (.wfLoad m w) ⟨d, pend⟩ = .next ⟨(
        if d.starts m .EPD 0x080 then
          let d := d.noKey
          match (
              if w.toNat % 16 ≠ 0 then some Err.RANGE else if !d.epd.running.isEmpty then some Err.BUSY else none) with
          | some c => d.reject (.EPD : PageId).base c
          | none =>
            let ofs := w.toNat % 2 ^ 20
            let d := d.set EPD.WF_SEL_OFFSET ofs
            match d.wfCheck (d.tblBase + ofs) with
            | .inl c =>
              (((d.setBit EPD.WF_STAT_BAD true).set EPD.WF_STAT_CAUSE c).raise EPD.page EPD.ev_WF_BAD).reject EPD.page Err.RANGE
            | .inr t =>
              let d := d.modEpd fun e => { e with table := some t, lut := [] }
              let d := d.tblRead 5
              (((d.setBit EPD.WF_STAT_LOADED true).setBit EPD.WF_STAT_BAD false).set EPD.WF_STAT_CAUSE 0).wrN EPD.WF_ID t.id |>.tempShow
        else d.startRefused m .EPD 0x080), pend⟩) ∧
    (exec .bandLoad ⟨d, pend⟩ = .next ⟨(
        let b := d.band
        match d.epd.table with
        | none => d
        | some t =>
        if !d.epd.running.isEmpty || (!d.epd.lut.isEmpty && b == d.get EPD.STAT_BAND) || !d.enabled .EPD then d
        else
          let d := (d.set EPD.STAT_BAND b).modEpd fun e => { e with lut := (List.range 8).map fun m => d.modeBytes t m b }
          let n := fun k => d.modeFrames k b
          let w := fun k => n k + n (k + 1) * 2 ^ 8 + n (k + 2) * 2 ^ 16 + n (k + 3) * 2 ^ 24
          (d.wrN (EPD.NFRAMES 0) (w 0)).wrN (EPD.NFRAMES 1) (w 4)), pend⟩) ∧
    (exec .tempStale ⟨d, pend⟩ = .next ⟨(
        if d.get EPD.TEMPCFG_MAX_AGE ≤ d.epd.tempSec then d.setBit EPD.STAT_TEMP_STALE true else d), pend⟩) ∧
    (∀ (k : Fin 4), exec (.blinkToggle k) ⟨d, pend⟩ = .next ⟨(
        if !d.bit (EPD.BLINK_CTL_EN k.val) ∨ !d.panelReady ∨ d.epd.running.any (fun r => r.rect.meets (d.blinkRect k.val)) then d
        else d.regionTry { id := 40 + k.val, rect := d.blinkRect k.val, mode := 3, src := .blink k }), pend⟩) ∧
    (∀ (m : Master) (w : Word), exec (.blDataWrite m w) ⟨d, pend⟩ = .next ⟨(
        if d.accepts m .EPD 0x0E4 then
          let d := d.noKey
          let a := d.get EPD.BL_ADDR_ADDR / 4 * 4
          let used := (List.range 4).any fun k => d.bit (EPD.BLINK_CTL_EN k) &&
            decide (32 * d.get (EPD.BLINK_BASE_BASE k) < a + 4 ∧ a < 32 * d.get (EPD.BLINK_BASE_BASE k) + d.blinkBytes k)
          if used then d.reject EPD.page Err.BUSY
          else (d.wrLe (blinkBase + a) 4 w.toNat).set EPD.BL_ADDR_ADDR (a + 4)
        else d.turnedDown m .EPD 0x0E4), pend⟩)

/-- Completion: Load-switch commands and events. In every state whose domains are on, whatever waits in the queue and for all
operands, each of these commands answers a next state with the queue unchanged and the device that its clause writes out:
CMD_ON, CMD_OFF, LATCH_CLR, HM_KICK, NOP, SET_ON, SET_OFF, READ_STAT, READ_CUR, SPI_LATCH_CLR, SPI_FRAME_ERROR,
DIN_INPUT_CHANGE, LSW_CURRENT_LIMIT, LIMIT_RECOVER, THERMAL_TRIP, LSW_RESTART, BUDGET_CUT, INRUSH_WINDOW_END,
OPEN_LOAD_DETECT, HALL_MONITOR_EXPIRY, FS_STORE, FS_STORE_DONE. Where a clause asks whether the page accepts the write or
takes the start, the first branch is the effect and the last the rejection. (R396, R399, R400, R401, R402, R403, R404, R405,
R407, R408, R409, R414) -/
def Obligations.LoadSwitchCommands : Prop :=
  ∀ (d : Dev) (pend : List Instr), d.pwr.off = false →
    (∀ (m : Master) (mask : BitVec 12), exec (.cmdOn m mask) ⟨d, pend⟩ = .next ⟨(
        d.lswCmd0 m mask.toNat true), pend⟩) ∧
    (∀ (m : Master) (mask : BitVec 12), exec (.cmdOff m mask) ⟨d, pend⟩ = .next ⟨(
        d.lswCmd0 m mask.toNat false), pend⟩) ∧
    (∀ (m : Master) (mask : BitVec 12), exec (.latchClr m mask) ⟨d, pend⟩ = .next ⟨(
        if d.accepts m .LSW 0x144 then
          let d := d.noKey
          match d.lswPortError 0 mask.toNat false with
          | some e => d.reject LSW.page e
          | none => d.lswLatchClear mask.toNat
        else d.turnedDown m .LSW 0x144), pend⟩) ∧
    (∀ (m : Master), exec (.hmKick m) ⟨d, pend⟩ = .next ⟨(
        if d.accepts m .LSW 0x14C then
          let d := d.noKey
          let port : Nat := 0
          let f : Fld := (if port = 0 then LSW.HM_STAT_EXP_INT else LSW.HM_STAT_EXP_EXT)
          let b : Bool := false
          let v : Nat := (if b then 1 else 0)
          d.wr f.reg (f.put (d.rd f.reg) v)
        else d.turnedDown m .LSW 0x14C), pend⟩) ∧
    (∀ (frame : Word), exec (.nop frame) ⟨d, pend⟩ = .next ⟨(
        if d.bit (Hdr.LOOP_ENABLE LSW.page) then d.spiEcho frame
        else if !spiCrcOk frame then d.spiBad
        else ((d.bump LSW.SPI_STAT_FRAMES).hmRestart 1).spiDo frame), pend⟩) ∧
    (∀ (frame : Word), exec (.setOn frame) ⟨d, pend⟩ = .next ⟨(
        if d.bit (Hdr.LOOP_ENABLE LSW.page) then d.spiEcho frame
        else if !spiCrcOk frame then d.spiBad
        else ((d.bump LSW.SPI_STAT_FRAMES).hmRestart 1).spiDo frame), pend⟩) ∧
    (∀ (frame : Word), exec (.setOff frame) ⟨d, pend⟩ = .next ⟨(
        if d.bit (Hdr.LOOP_ENABLE LSW.page) then d.spiEcho frame
        else if !spiCrcOk frame then d.spiBad
        else ((d.bump LSW.SPI_STAT_FRAMES).hmRestart 1).spiDo frame), pend⟩) ∧
    (∀ (frame : Word), exec (.readStat frame) ⟨d, pend⟩ = .next ⟨(
        if d.bit (Hdr.LOOP_ENABLE LSW.page) then d.spiEcho frame
        else if !spiCrcOk frame then d.spiBad
        else ((d.bump LSW.SPI_STAT_FRAMES).hmRestart 1).spiDo frame), pend⟩) ∧
    (∀ (frame : Word), exec (.readCur frame) ⟨d, pend⟩ = .next ⟨(
        if d.bit (Hdr.LOOP_ENABLE LSW.page) then d.spiEcho frame
        else if !spiCrcOk frame then d.spiBad
        else ((d.bump LSW.SPI_STAT_FRAMES).hmRestart 1).spiDo frame), pend⟩) ∧
    (∀ (frame : Word), exec (.spiLatchClr frame) ⟨d, pend⟩ = .next ⟨(
        if d.bit (Hdr.LOOP_ENABLE LSW.page) then d.spiEcho frame
        else if !spiCrcOk frame then d.spiBad
        else ((d.bump LSW.SPI_STAT_FRAMES).hmRestart 1).spiDo frame), pend⟩) ∧
    (exec .spiFrameError ⟨d, pend⟩ = .next ⟨(
        if d.bit (Hdr.LOOP_ENABLE LSW.page) then d else d.spiBad), pend⟩) ∧
    (∀ (c : Fin 12) (level : Bool), exec (.dinInputChange c level) ⟨d, pend⟩ = .next ⟨(
        (d.modLsw c fun x => { x with din := level }).lswEval c), pend⟩) ∧
    (∀ (c : Fin 12) (ma : BitVec 16), exec (.lswCurrentLimit c ma) ⟨d, pend⟩ = .next ⟨(
        if d.lswState c = Lsw.ON then
          ((d.set (LSW.CH_MEAS_I c.val) ma.toNat).lswEnter c Lsw.LIMIT).raise LSW.page LSW.ev_OVERCUR
        else d), pend⟩) ∧
    (∀ (c : Fin 12) (ma : BitVec 16), exec (.limitRecover c ma) ⟨d, pend⟩ = .next ⟨(
        if d.lswState c = Lsw.LIMIT then (d.set (LSW.CH_MEAS_I c.val) ma.toNat).lswEnter c Lsw.ON else d), pend⟩) ∧
    (∀ (c : Fin 12), exec (.thermalTrip c) ⟨d, pend⟩ = .next ⟨(
        if d.lswState c = Lsw.ON ∨ d.lswState c = Lsw.LIMIT then
          (((d.set (LSW.CH_MEAS_T c.val) 1750).lswCount c true).lswTripped c).raise LSW.page LSW.ev_THERM
        else d), pend⟩) ∧
    (∀ (c : Fin 12) (dC : BitVec 12), exec (.lswRestart c dC) ⟨d, pend⟩ = .next ⟨(
        let d := d.set (LSW.CH_MEAS_T c.val) dC.toNat
        let x := d.lsw.ch[c]
        if d.lswState c = Lsw.COOL ∧ d.lswWanted c ∧ d.lswDriven c ∧ signed 12 dC.toNat < 1550 ∧ x.retries ≤ x.retryN ∧
            (x.cut → (d.get LSW.BUDGET_P + x.cutMw) * 10 ≤ 9 * d.get LSW.BUDGET_CFG_LIMIT) then
          (d.modLsw c fun x => { x with cut := false, waitCool := false }).lswOn c
        else d), pend⟩) ∧
    (∀ (meas : Vector ChMeas 12), exec (.budgetCut meas) ⟨d, pend⟩ = .next ⟨(
        let mw := Vector.ofFn fun c : Fin 12 => d.lswMw c meas[c]
        let sum := mw.toList.sum
        let d := (d.lswMeasure meas).set LSW.BUDGET_P (satAt 4095 sum)
        let above := if sum ≤ d.get LSW.BUDGET_CFG_LIMIT then 0 else d.lsw.overMs + 1
        let d : Dev := { d with lsw := { d.lsw with overMs := above, cutLeft := d.lsw.cutLeft - 1 } }
        let d := d.setBit LSW.BUDGET_CUTTING (d.lsw.cutLeft != 0)
        if above < 10 then d
        else match d.lswVictim mw with
          | none => d
          | some c => d.lswCut mw c), pend⟩) ∧
    (∀ (c : Fin 12), exec (.inrushWindowEnd c) ⟨d, pend⟩ = .next ⟨(
        let x := d.lsw.ch[c]
        if x.win then d.modLsw c fun x => { x with win := false }
        else if x.carry && d.lswState c != Lsw.COOL then
          (d.modLsw c fun x => { x with carry := false, retries := 0, therm := 0 }).lswShowCounts c
        else d), pend⟩) ∧
    (∀ (c : Fin 12) (sense : OlSense), exec (.openLoadDetect c sense) ⟨d, pend⟩ = .next ⟨(
        let on := d.lswState c == Lsw.ON || d.lswState c == Lsw.LIMIT
        let off := d.lswState c == Lsw.OFF && d.get (LSW.CH_CFG_SRC c.val) != 1
        let en := d.bit (LSW.CH_CFG_OL_EN c.val) && d.lswPresent.testBit c.val
        let (f, runs, present) := match sense with
          | .onState ma => (LSW.CH_STAT_OL_ON c.val, en && on, decide (ma.toNat < openLoadMa c))
          | .offState mv => (LSW.CH_STAT_OL_OFF c.val, en && off, decide (2000 < mv.toNat))
        if !present then d.setBit f false
        else if runs && !d.bit f then (d.setBit f true).raise LSW.page LSW.ev_OPEN_LOAD
        else d), pend⟩) ∧
    (∀ (port : Fin 2), exec (.hallMonitorExpiry port) ⟨d, pend⟩ = .next ⟨(
        let en := if port = 0 then LSW.HM_CFG_EN_INT else LSW.HM_CFG_EN_EXT
        let ex := if port = 0 then LSW.HM_STAT_EXP_INT else LSW.HM_STAT_EXP_EXT
        let cnt := if port = 0 then LSW.HM_STAT_CNT_INT else LSW.HM_STAT_CNT_EXT
        if d.bit en && d.takesWork .LSW && !d.bit ex then
          let d := ((d.setBit ex true).bump cnt).raise LSW.page LSW.ev_HM_EXPIRED
          d.forLsw 0xFFF fun c d =>
            if d.get (LSW.CH_CFG_PORT c.val) = port.val ∧ d.bit (LSW.CH_CFG_CLASS c.val) then
              (d.setBit (LSW.CH_STAT_FAILSAFE c.val) true).lswEval c
            else d
        else d), pend⟩) ∧
    (∀ (m : Master), exec (.fsStore m) ⟨d, pend⟩ = .next ⟨(
        if d.accepts m .LSW 0x158 then
          let d := d.noKey
          if d.bit LSW.FS_STORE_BUSY then d.reject LSW.page Err.BUSY
          else (d.setBit LSW.FS_STORE_BUSY true).setBit LSW.FS_STORE_DONE false
        else d.turnedDown m .LSW 0x158), pend⟩) ∧
    (exec .fsStoreDone ⟨d, pend⟩ = .next ⟨(
        if d.bit LSW.FS_STORE_BUSY then
          let d := { d with lsw := { d.lsw with recCfg := Vector.ofFn fun c : Fin 12 => d.rdN (LSW.CH_CFG c.val),
                                                recHm := d.rdN LSW.HM_CFG } }
          (d.setBit LSW.FS_STORE_BUSY false).setBit LSW.FS_STORE_DONE true
        else d), pend⟩)

/-- Completion: The powerline modems, 10BASE-T1S and CAN FD. In every state whose domains are on, whatever waits in the queue
and for all operands, each of these commands answers a next state with the queue unchanged and the device that its clause
writes out: UCODE_LOADED, UCODE_RELOAD, KEY_SET, LINK_RESET, PLC_STATION_JOIN, PLC_LINK_DOWN, PLC_FRAME_RX, PLC_FRAME_TX,
ARBITRATION_DECISION, SOUND_SLOT_EXPIRY, MODEM_WAKE, T1S_FRAME_RX, PLCA_STATUS_CHANGE, CAN_TX_PUSH, CAN_RX_POP, CAN_FRAME_RX,
CAN_FRAME_TX. Where a clause asks whether the page accepts the write or takes the start, the first branch is the effect and
the last the rejection. (R155, R156, R157, R158, R159, R160, R173, R174, R175, R176, R178, R179) -/
def Obligations.VehicleLinkCommands : Prop :=
  ∀ (d : Dev) (pend : List Instr), d.pwr.off = false →
    (∀ (n : Bay) (ok : Bool) (ver : BitVec 16), exec (.ucodeLoaded n ok ver) ⟨d, pend⟩ = .next ⟨(
        if !d.plc[n].loading then d
        else
          let d := d.modPlc n fun p => { p with loading := false, loaded := ok }
          if ok then
            (((d.set (PLC.STAT_UCODE_VER n) ver.toNat).setBit (PLC.STAT_AFE_ON n) (!d.bit (PLC.STAT_SHED n))).setBit
              (Hdr.FAULT (PLC.page n)) false).setBit (Hdr.READY (PLC.page n)) true
          else (d.setBit (Hdr.FAULT (PLC.page n)) true).setBit (Hdr.READY (PLC.page n)) false), pend⟩) ∧
    (∀ (n : Bay), exec (.ucodeReload n) ⟨d, pend⟩ = .next ⟨(
        if d.plc[n].stale && d.enabled (.PLC n) && d.bayIdle n && !d.bit (PLC.STAT_LINK_UP n) then d.plcLoad n else d), pend⟩) ∧
    (∀ (m : Master) (n : Bay), exec (.keySet m n) ⟨d, pend⟩ = .next ⟨(
        if d.starts m (.PLC n) 0x044 then
          let d := d.noKey
          let k := d.rdN (PLC.NMK n 0) + 2 ^ 32 * d.rdN (PLC.NMK n 1) + 2 ^ 64 * d.rdN (PLC.NMK n 2) + 2 ^ 96 * d.rdN (PLC.NMK n 3)
          let id := Config.networkId k
          let d := d.modPlc n fun p => { p with nmk := k, keyed := true }
          ((d.wrN (PLC.NID_LO n) id).set (PLC.NID_HI_NID n) (id / 2 ^ 32)).setBit (PLC.STAT_CCO n) true
        else d.startRefused m (.PLC n) 0x044), pend⟩) ∧
    (∀ (m : Master) (n : Bay), exec (.linkReset m n) ⟨d, pend⟩ = .next ⟨(
        if d.accepts m (.PLC n) 0x044 then
          let d := d.noKey
          (d.networkClear n).soundsDrop n
        else d.turnedDown m (.PLC n) 0x044), pend⟩) ∧
    (∀ (n : Bay) (mac : BitVec 48), exec (.plcStationJoin n mac) ⟨d, pend⟩ = .next ⟨(
        if !d.plcOn n || d.plcLooped n || !d.plc[n].keyed || d.bit (PLC.STAT_LINK_UP n) then d
        else
          let d := ((d.setBit (PLC.STAT_LINK_UP n) true).wrN (PLC.PEER_LO n) mac.toNat).set (PLC.PEER_HI_MAC n) (mac.toNat / 2 ^ 32)
          ((d.slotsWith n 1).foldl (fun d k => d.soundDrop n k) d).raise (PLC.page n) PLC.ev_LINK_UP), pend⟩) ∧
    (∀ (n : Bay), exec (.plcLinkDown n) ⟨d, pend⟩ = .next ⟨(
        if d.bit (PLC.STAT_LINK_UP n) then
          (((d.setBit (PLC.STAT_LINK_UP n) false).wrN (PLC.PEER_LO n) 0).wrN (PLC.PEER_HI n) 0).raise (PLC.page n) PLC.ev_LINK_DOWN
        else d), pend⟩) ∧
    (∀ (n : Bay) (f : PlcFrame), exec (.plcFrameRx n f) ⟨d, pend⟩ = .next ⟨(
        if !d.plcOn n || d.plcLooped n then d else d.plcTake n f), pend⟩) ∧
    (∀ (n : Bay) (f : PlcFrame), exec (.plcFrameTx n f) ⟨d, pend⟩ = .next ⟨(
        if !d.plcSends n then d
        else match f with
          | .slacParmCnf run _ => (d.candidate n run.toNat).plcEcho n f
          | .attenChar run _ => d.plcGate n run.toNat f
          | .slacMatch run _ => d.plcGate n run.toNat f
          | .startAtten _ => d.plcEcho n f
          | .sound _ _ => d.plcEcho n f
          | .other _ _ => d.plcEcho n f), pend⟩) ∧
    (∀ (run : BitVec 64), exec (.arbitrationDecision run) ⟨d, pend⟩ = .next ⟨(
        let r := d.arbitrate run.toNat
        d.forBays fun n d =>
          match d.soundSlot n run.toNat with
          | none => d
          | some k =>
            if (d.plc[n].slots[k]).all fun x => x.closed then d
            else
              let v := match r with
                | .inl c => c
                | .inr b => if n = b then 1 else 2
              let d := d.modPlc n fun p => { p with slots := p.slots.set k ((p.slots[k]).map fun x => { x with closed := true }) }
              (d.set (PLC.SND_STAT_RESULT n k) v).raise (PLC.page n) PLC.ev_SND_DONE), pend⟩) ∧
    (∀ (n : Bay) (k : Fin 4), exec (.soundSlotExpiry n k) ⟨d, pend⟩ = .next ⟨(
        let d := d.modPlc n fun p => { p with slots := p.slots.set k none }
        (d.setBit (PLC.SND_STAT_VALID n k) false).set (PLC.SND_STAT_RESULT n k) 0), pend⟩) ∧
    (∀ (n : Bay), exec (.modemWake n) ⟨d, pend⟩ = .next ⟨(
        if d.bit (PLC.STAT_SHED n) && (!d.bayIdle n || d.get PWR.STAT_LEVEL == 0) then
          (d.setBit (PLC.STAT_SHED n) false).setBit (PLC.STAT_AFE_ON n) d.plc[n].loaded
        else d), pend⟩) ∧
    (∀ (n : Bay) (mac : BitVec 48) (data : List Byte) (collided : Bool),
        exec (.t1sFrameRx n mac data collided) ⟨d, pend⟩ = .next ⟨(
        if !d.enabled (.T1S n) || !d.present (.T1S n) || d.bit (Hdr.LOOP_ENABLE (T1S.page n)) then d
        else if collided then d.bump (T1S.STAT_COLL n)
        else
          let d := if d.bit (T1S.STAT_PEER_SEEN n) then d else
            (((d.setBit (T1S.STAT_PEER_SEEN n) true).wrN (T1S.PEER_LO n) mac.toNat).set (T1S.PEER_HI_MAC n)
              (mac.toNat / 2 ^ 32)).raise (T1S.page n) T1S.ev_PEER
          let c := chan (d.get (T1S.CFG_DMA_RX n))
          if d.chActive c then d.deliver c data else d), pend⟩) ∧
    (∀ (n : Bay) (up : Bool), exec (.plcaStatusChange n up) ⟨d, pend⟩ = .next ⟨(
        if d.bit (T1S.STAT_PLCA_STATUS n) = up ∨ (up ∧ (!d.enabled (.T1S n) ∨ !d.bit (T1S.CFG_PLCA_EN n))) then d
        else (d.setBit (T1S.STAT_PLCA_STATUS n) up).raise (T1S.page n) (if up then T1S.ev_PLCA_UP else T1S.ev_PLCA_DOWN)), pend⟩) ∧
    (∀ (m : Master) (k : Fin 4) (w : Word), exec (.canTxPush m k w) ⟨d, pend⟩ = .next ⟨(
        if d.starts m (.CAN k) 0x060 then
          let d := d.noKey
          match (
              if 16 ≤ d.can[k].tx.length then some Err.BUSY else none) with
          | some c => d.reject ((.CAN k) : PageId).base c
          | none =>
            let p := d.can[k].part ++ [w.toNat]
            let d := if 2 ≤ p.length ∧ 2 + canWords p ≤ p.length then d.modCan k fun c => { c with part := [], tx := c.tx ++ [p] }
              else d.modCan k fun c => { c with part := p }
            d.canShow k
        else d.startRefused m (.CAN k) 0x060), pend⟩) ∧
    (∀ (m : Master) (k : Fin 4), exec (.canRxPop m k) ⟨d, pend⟩ = .next ⟨(
        if m = .ylr ∨ m = .upd then d
        else match d.can[k].rx with
          | (w :: ws) :: l =>
            ((d.modCan k fun c => { c with rx := if ws.isEmpty then l else ws :: l }).wrN (CAN.RX_DATA k) w).canShow k
          | [] :: l => (d.modCan k fun c => { c with rx := l }).canShow k
          | [] => d.wrN (CAN.RX_DATA k) 0), pend⟩) ∧
    (∀ (k : Fin 4) (f : CanFrame) (err : Bool), exec (.canFrameRx k f err) ⟨d, pend⟩ = .next ⟨(
        if !d.canOn k || d.bit (Hdr.LOOP_ENABLE (CAN.page k)) then d
        else
          let d := if d.get (CAN.MODE_MODE k) = 1 then d.canHeard k err else d
          if err then d else d.canTake k f.id.toNat f.fdf (d.canRecord f)), pend⟩) ∧
    (∀ (k : Fin 4) (ok : Bool), exec (.canFrameTx k ok) ⟨d, pend⟩ = .next ⟨(
        if !d.canSends k then d
        else match d.can[k].tx with
          | [] => d
          | fr :: rest =>
            let tec := d.get (CAN.STAT_TEC k)
            let r := d.get (CAN.STAT_REC k)
            if !ok then d.canErrors k (tec + 8) r
            else
              let d := ((d.canErrors k (tec - 1) r).modCan k fun c => { c with tx := rest }).canShow k
              if d.bit (Hdr.LOOP_ENABLE (CAN.page k)) then
                let w0 := (fr[0]?).getD 0
                d.canTake k (w0 % 2 ^ 29) (w0.testBit 30) ([w0, ((fr[1]?).getD 0) % 16 + 16 * (d.wheel % 2 ^ 28)] ++ fr.drop 2)
              else d), pend⟩)

/-- Completion: The EXI codec. In every state whose domains are on, whatever waits in the queue and for all operands, each of
these commands answers a next state with the queue unchanged and the device that its clause writes out: GSLOT_LOAD,
EXI_JOB_START, EXI_JOB_DONE. Where a clause asks whether the page accepts the write or takes the start, the first branch is
the effect and the last the rejection. (R166, R167, R168, R419) -/
def Obligations.ExiCommands : Prop :=
  ∀ (d : Dev) (pend : List Instr), d.pwr.off = false →
    (∀ (m : Master) (k : Fin 8) (w : Word), exec (.gslotLoad m k w) ⟨d, pend⟩ = .next ⟨(
        if d.starts m .EXI (0x044 + 4 * k.val) then
          let d := d.noKey
          match (
              if w.toNat % 16 ≠ 0 then some Err.RANGE
              else if d.exi.job.any fun j => j.slot == k then some Err.BUSY else none) with
          | some c => d.reject (.EXI : PageId).base c
          | none =>
            let ofs := w.toNat % 2 ^ 20
            let a := d.tblBase + ofs
            let d := d.set (EXI.GSLOT_OFFSET k) ofs
            if d.grammarOk a then
              let d := d.modExi fun e => { e with slots := e.slots.set k (some (d.rdLe (a + 6) 2)) }
              let d := d.tblRead 4
              ((d.setBit (EXI.GSLOT_LOADED k) true).wrN (EXI.GID k) (d.rdLe (a + 12) 4)).setFlag EXI.GSTAT_BAD k.val false
            else (d.setFlag EXI.GSTAT_BAD k.val true).reject EXI.page Err.RANGE
        else d.startRefused m .EXI (0x044 + 4 * k.val)), pend⟩) ∧
    (∀ (m : Master) (w : Word), exec (.exiJobStart m w) ⟨d, pend⟩ = .next ⟨(
        if d.starts m .EXI 0x0A8 then
          let d := d.noKey
          match (
              if d.exi.job.isSome || d.exiChanBusy || d.bit PWR.STAT_HOLDUP then some Err.BUSY
              else if 65536 < d.rdN EXI.JOB_SRCLEN then some Err.RANGE
              else none) with
          | some c => d.reject (.EXI : PageId).base c
          | none =>
            let d := ((d.set EXI.JOB_CTL_DIR (w.toNat % 2)).set EXI.JOB_CTL_GSLOT (w.toNat / 2)).set EXI.JOB_CTL_FRAGMENT (w.toNat / 16)
            let d := ((d.wrN EXI.JOB_RES 0).wrN EXI.JOB_OUT 0).wrN EXI.JOB_POS 0
            let j := d.exiJob
            let d := (((d.modExi fun e => { e with job := some j }).claim j.rd 1).claim j.wr 1).setBit (Hdr.BUSY EXI.page) true
            if d.exi.slots[j.slot].isNone then d.exiEnd 5 0 0 else d
        else d.startRefused m .EXI 0x0A8), pend⟩) ∧
    (∀ (r : ExiResult), exec (.exiJobDone r) ⟨d, pend⟩ = .next ⟨(
        match d.exi.job with
        | none => d
        | some j =>
          let w := d.exiWrites j r
          let full := decide (j.dstLen < w.1.length ∨ j.valLen < w.2.length)
          let out := w.1.take j.dstLen
          let vals := w.2.take j.valLen
          let bad := ((d.exiReads j r).findSome? fun x => d.dmaBlocked x.1 x.2 false).or
            ((d.dmaBlocked j.dst out.length true).or (d.dmaBlocked j.val vals.length true))
          match bad with
          | some x => (d.fwBlock .dma x.1 x.2).exiEnd 7 r.pos.toNat 0
          | none => ((d.wrBytes j.dst out).wrBytes j.val vals).exiEnd (if full then 2 else (exiCode r.stop)) r.pos.toNat out.length), pend⟩)

/-- Completion: Links, packets, the roll call, wheel time and power sharing. In every state whose domains are on, whatever
waits in the queue and for all operands, each of these commands answers a next state with the queue unchanged and the device
that its clause writes out: LINK_SYNC, HELLO, HELLO_PERIOD, LINK_DOWN, PACKET_RECEIVE, PACKET_TRANSMIT, ELECTION_START,
BEACON_PERIOD, BEACON, RINGMASTER_ELECT, ROLLCALL, REPORT, ROUTES_COMPUTE, ROUTES, ROLLCALL_HOLD_EXPIRY, RC_CTL_START, SYNC,
DEMAND, SHARE_DIVISION, SHARE, SHARE_TIMEOUT, TXQ_WR_WRITE, YLR_KEY_WRITE. Where a clause asks whether the page accepts the
write or takes the start, the first branch is the effect and the last the rejection. (R426, R427, R429, R430, R431, R433,
R434, R435, R437, R440, R441, R442) -/
def Obligations.FabricCommands : Prop :=
  ∀ (d : Dev) (pend : List Instr), d.pwr.off = false →
    (∀ (p : Fin 3), exec (.linkSync p) ⟨d, pend⟩ = .next ⟨(
        if d.present (.YL p) && d.enabled (.YL p) && !d.bit (YL.STAT_SYNC p) && !d.portLooped p.val then
          (d.setBit (YL.STAT_SYNC p) true).modYl p fun y => { y with sent := false, heard := false }
        else d), pend⟩) ∧
    (∀ (p : Fin 3) (uid : BitVec 64) (addr : BitVec 8), exec (.hello p uid addr) ⟨d, pend⟩ = .next ⟨(
        if d.bit (YL.STAT_SYNC p) && !d.portLooped p.val then d.helloTake p uid.toNat addr.toNat else d), pend⟩) ∧
    (exec .helloPeriod ⟨d, pend⟩ = .next ⟨(
        ylPorts.foldl (fun d p =>
          if d.bit (YL.STAT_SYNC p) then
            let d := d.link { port := p.val, typ := 0x01, body := [d.uidN, d.ownAddr] }
            let d := (d.modYl p fun y => { y with sent := true }).linkCheck p
            if d.portLooped p.val then d.helloTake p d.uidN d.ownAddr else d
          else d) d), pend⟩) ∧
    (∀ (p : Fin 3) (silent : Bool) (viol : BitVec 16), exec (.linkDown p silent viol) ⟨d, pend⟩ = .next ⟨(
        if !d.bit (YL.STAT_SYNC p) || d.portLooped p.val then d
        else
          let n := viol.toNat
          let d := if n = 0 then d
            else (d.set (YL.ERR_CODE_ERR p) (satAt 0xFFFF (d.get (YL.ERR_CODE_ERR p) + n))).raise (YL.page p) YL.ev_ERR
          if silent || decide (16 < n) then d.portDown p else d), pend⟩) ∧
    (∀ (p : Fin 3) (k : Pkt), exec (.packetReceive p k) ⟨d, pend⟩ = .next ⟨(
        if d.portLooped p.val then d else d.pktIn p k), pend⟩) ∧
    (∀ (p : Fin 3) (busy : Bool), exec (.packetTransmit p busy) ⟨d, pend⟩ = .next ⟨(
        match nextPkt d.ylr.port[p].queue with
        | none => d
        | some k =>
          if busy && k.cls != 0 then d
          else
            let d := d.modYl p fun y => { y with queue := y.queue.erase k }
            if d.classStopped k.cls.val then d.bump (YL.CNT_DROP p)
            else
              let d := if busy then d.bump (YL.CNT_PREEMPT p) else d
              let k := d.pktStamp k
              let body := (pktHead k ++ k.payload).map BitVec.toNat
              let m : LinkMsg := { port := p.val, typ := k.typ.toNat, dst := k.dst.toNat, seq := k.seq.toNat, body := body }
              if d.portLooped p.val then d.pktIn p k else d.linkPut [m]), pend⟩) ∧
    (exec .electionStart ⟨d, pend⟩ = .next ⟨(
        if d.ylrOn && d.bit YLR.CFG_ROOT_CAND && !d.isRm && !d.ylr.electing then
          (d.modYlr fun y => { y with electing := true, beacons := 0 }).flood 0x02 [d.uidN]
        else d), pend⟩) ∧
    (exec .beaconPeriod ⟨d, pend⟩ = .next ⟨(
        if d.ylr.electing then (d.modYlr fun y => { y with beacons := y.beacons + 1 }).flood 0x02 [d.uidN] else d), pend⟩) ∧
    (∀ (uid : BitVec 64), exec (.beacon uid) ⟨d, pend⟩ = .next ⟨(
        if d.ylrOn && d.ylr.electing && decide (uid.toNat < d.uidN) then d.modYlr fun y => { y with electing := false } else d), pend⟩) ∧
    (exec .ringmasterElect ⟨d, pend⟩ = .next ⟨(
        if d.ylr.electing && decide (5 ≤ d.ylr.beacons) then ((d.modYlr fun y => { y with electing := false }).setBit YLR.STAT_RINGMASTER true).rollcall else d), pend⟩) ∧
    (∀ (p : Fin 3) (epoch : Word), exec (.rollcall p epoch) ⟨d, pend⟩ = .next ⟨(
        if !d.ylrOn || d.isRm || !d.portUsable p || (d.ylr.parent.map Prod.snd) == some epoch.toNat then d
        else
          (d.modYlr fun y => { y with parent := some (p.val, epoch.toNat) }).link
            { port := p.val, typ := 0x04, body := reportBody d.ownReport }), pend⟩) ∧
    (∀ (r : Report), exec (.report r) ⟨d, pend⟩ = .next ⟨(
        if !d.ylrOn then d
        else if d.isRm then d.modYlr fun y => { y with reports := r :: y.reports.filter fun x => x.uid != r.uid }
        else match d.ylr.parent with
          | some (p, _) => d.link { port := p, typ := 0x04, body := reportBody r }
          | none => d), pend⟩) ∧
    (exec .routesCompute ⟨d, pend⟩ = .next ⟨(
        if !d.isRm || d.ylr.reports.isEmpty then d
        else
          let all := d.ylr.reports.foldl (fun a r => insertReport r a) []
          let near := hops all 32 0 [d.chip.uid] [(d.chip.uid, 0)]
          let rs := all.filter fun r => near.any fun e => e.1 == r.uid
          let addrs := assignAddrs rs
          let bodies := all.map fun r =>
            if rs.any fun q => q.uid == r.uid then routesBody rs addrs r.uid d.chip.uid (d.rdN YLR.EPOCH)
            else leBytes 8 r.uid.toNat ++ leBytes 1 0 ++ leBytes 1 ((hopOf addrs d.chip.uid).getD 0) ++
              leBytes 4 (d.rdN YLR.EPOCH) ++ leBytes 2 0 ++ List.replicate 125 255
          let d := bodies.foldl (fun d b => d.flood 0x05 (b.map BitVec.toNat)) d
          bodies.foldl (fun d b => d.routesTake b) (d.modYlr fun y => { y with reports := [] })), pend⟩) ∧
    (∀ (data : List Byte), exec (.routes data) ⟨d, pend⟩ = .next ⟨(
        if d.ylrOn then d.routesTake data else d), pend⟩) ∧
    (exec .rollcallHoldExpiry ⟨d, pend⟩ = .next ⟨(
        if d.isRm && d.ylr.hold then d.rollcall else d), pend⟩) ∧
    (∀ (m : Master), exec (.rcCtlStart m) ⟨d, pend⟩ = .next ⟨(
        if d.starts m .YLR 0x04C then
          let d := d.noKey
          match (
              if d.isRm then none else some Err.SEQUENCE) with
          | some c => d.reject (.YLR : PageId).base c
          | none =>
            (Dev.rollcall) d
        else d.startRefused m .YLR 0x04C), pend⟩) ∧
    (∀ (wt : BitVec 64) (fw : Bool) (hops : BitVec 8), exec (.sync wt fw hops) ⟨d, pend⟩ = .next ⟨(
        if d.ylrOn && !d.isRm then
          let delay := roundDiv (hops.toNat * 1100 * d.get CAR.FREQ_FREQ * 65536) 1000000000000
          (d.wrI YLR.SYNC_OFS ((d.wheel : Int) - delay - wt.toNat)).setBit YLR.STAT_RM_FW fw
        else d), pend⟩) ∧
    (∀ (src : BitVec 8) (bays : List BayDemand) (site : Option Nat), exec (.demand src bays site) ⟨d, pend⟩ = .next ⟨(
        if d.isRm && d.class2 then d.demandKeep src.toNat bays site else d), pend⟩) ∧
    (exec .shareDivision ⟨d, pend⟩ = .next ⟨(
        if !d.isRm || !d.bit YLR.CFG_SHARE_EN || !d.class2 then d
        else
          let dm := d.ylr.demands
          let ds := dm.flatMap fun e => e.2.1.map fun b => (e.1, b)
          let base : Int := match dm.findSome? fun e => e.2.2 with
            | some p => (p : Int) - ((ds.map fun x => x.2.pMeas).sum : Nat)
            | none => d.get YLR.SHARE_BASE_V
          let sh := divide (d.get YLR.SHARE_LIMIT_V) base ds
          let cyc := d.wheel / 65536 + 10
          let of := fun a => allBays.map fun n => match sh.find? fun e => e.1 == (a, n) with | some e => e.2 | none => 0
          let d := d.modYlr fun y => { y with demands := [] }
          dm.foldl (fun d e =>
            if e.1 = d.ownAddr then d.shareTake (of e.1) cyc else d.sendTo e.1 0x21 (of e.1 ++ [cyc])) d), pend⟩) ∧
    (∀ (bays : List Nat) (cyc : Nat), exec (.share bays cyc) ⟨d, pend⟩ = .next ⟨(
        if d.bit YLR.CFG_SHARE_EN && d.class2 && !d.isStandby then d.shareTake bays cyc else d), pend⟩) ∧
    (exec .shareTimeout ⟨d, pend⟩ = .next ⟨(
        if d.bit YLR.CFG_SHARE_EN && d.ylrOn && !d.isStandby && decide (3 ≤ d.get YLR.SHARE_STAT_AGE) && !d.bit YLR.STAT_FALLBACK then
          let d := ((d.setBit YLR.STAT_SHARE_OK false).setBit YLR.STAT_FALLBACK true).raise YLR.page YLR.ev_SHARE_LOST
          d.forBays fun n d => if d.hasBay n then d.wr (BAY.LIM n 4) (d.rd (YLR.SHARE_FB n.val)) else d
        else d), pend⟩) ∧
    (∀ (m : Master) (w : Word), exec (.txqWrWrite m w) ⟨d, pend⟩ = .next ⟨(
        if d.accepts m .YLR 0x108 then
          let d := d.noKey
          let size := 2 ^ d.get YLR.TXQ_CTL_LOG2
          if size ≤ w.toNat % 1024 then d.reject YLR.page Err.RANGE
          else
            let d := d.set YLR.TXQ_WR_WR w.toNat
            if d.enabled .YLR && !d.ylr.ringsOff && d.get YLR.TXQ_RD_RD != d.get YLR.TXQ_WR_WR then
              (Dev.txRing size d).raise YLR.page YLR.ev_TX_SPACE
            else d
        else d.turnedDown m .YLR 0x108), pend⟩) ∧
    (∀ (m : Master) (w : Word), exec (.ylrKeyWrite m w) ⟨d, pend⟩ = .next ⟨(
        if d.accepts m .YLR 0x050 then
          let d := d.noKey
          let d := (d.set YLR.KEY_SLOT w.toNat).setBit YLR.KEY_VALID true
          let ok := d.keyOk
          (d.setBit YLR.KEY_VALID ok).setBit YLR.STAT_KEY_OK ok
        else d.turnedDown m .YLR 0x050), pend⟩)

/-- Completion: Active and standby. In every state whose domains are on, whatever waits in the queue and for all operands, each
of these commands answers a next state with the queue unchanged and the device that its clause writes out: PAIR_PERIOD_START,
HEARTBEAT, HEARTBEAT_MISSED, TAKEOVER_GUARD_END, PAIR_START_WAIT_EXPIRY, TOKEN_RACE, RESIGN, RESIGN_RECEIVED,
DEFERRED_RESIGN, TAKEOVER, SESSION, SESSION_PERIOD, OUTPUT, LEDGER, PAIR_MARK, CROSS_CHECK, STANDBY_REPORT, PAIR_STATUS,
HANDOVER, SYNC_BLOCK, PAIR_SYNC_COMPLETE, PAIR_HANDOVER, PAIR_REJOIN, PAIR_KEY. (R448, R450, R452, R453, R454, R458, R459,
R460, R462, R465, R466, R467) -/
def Obligations.PairCommands : Prop :=
  ∀ (d : Dev) (pend : List Instr), d.pwr.off = false →
    (∀ (tokI : Bool), exec (.pairPeriodStart tokI) ⟨d, pend⟩ = .next ⟨(
        let d := if d.present .PAIR then d.tokIn tokI else d
        if !d.pairOn then d
        else
          let d := d.modPair fun p => { p with gap := p.gap + 1, waitMs := p.waitMs - 1, raceWait := decide (1 < p.waitMs) }
          let d := d.periodToken
          if d.pairState = Pr.START then d
          else
            let fl := (if d.bit PWR.STAT_HOLDUP then 1 else 0) + (if 3 ≤ d.get PWR.STAT_LEVEL then 2 else 0)
            let d := d.modPair fun p => { p with hbSeq := p.hbSeq + 1 }
            d.pairSend 0x30 [d.pairState, d.get PAIR.STAT_UNIT, d.get PAIR.STAT_TOKEN, fl, d.failMask, d.pair.hbSeq]), pend⟩) ∧
    (∀ (st : Fin 8) (unit _tok : Bool) (_flags : BitVec 2) (fail : BitVec 16) (_seq : Word) (phase : BitVec 16),
        exec (.heartbeat st unit _tok _flags fail _seq phase) ⟨d, pend⟩ = .next ⟨(
        if !d.pairTakes then d
        else
          let was := d.get PAIR.STAT_PEER_STATE
          let ok := d.bit PAIR.STAT_PEER_OK
          let d := ((d.set PAIR.STAT_PEER_STATE st.val).setBit PAIR.STAT_PEER_OK true).set PAIR.HB_RUN 0
          let d := d.setBit PAIR.STAT_LINK_SPLIT false
          let d := if d.follows then d.set PAIR.PWM_ERR_ERR phase.toNat else d
          let d := d.modPair fun p => { p with gap := 0, guard := false, peerFail := fail.toNat }
          let d := if unit = d.bit PAIR.STAT_UNIT then d.roleClash else d
          if d.pairState = Pr.LISTEN ∧ st = 6 ∧ !d.bit PAIR.STAT_ROLE_CLASH then
            d.syncStart
          else if d.pairState = Pr.ACTIVE then
            let d := if st ≠ 5 then d.setBit PAIR.STAT_ELIGIBLE false else d
            if st = 3 ∧ (was ≠ 3 ∨ !ok) then d.syncSend2 else d
          else d), pend⟩) ∧
    (exec .heartbeatMissed ⟨d, pend⟩ = .next ⟨(
        if !d.pairOn || d.pairState = Pr.START || !d.bit PAIR.STAT_PEER_OK || decide (d.pair.gap ≤ d.get PAIR.HB_RUN) then d
        else
          let d := (d.bump PAIR.HB_MISSED).bump PAIR.HB_RUN
          if d.get PAIR.HB_RUN = 3 then d.peerLost else d), pend⟩) ∧
    (∀ (tokI : Bool), exec (.takeoverGuardEnd tokI) ⟨d, pend⟩ = .next ⟨(
        if !d.pair.guard || d.pairState != Pr.STANDBY then d
        else
          let d := (d.tokIn tokI).modPair fun p => { p with guard := false }
          if tokI then (d.setBit PAIR.STAT_LINK_SPLIT true).raise PAIR.page PAIR.ev_LINK_SPLIT
          else if d.noToken then d
          else d.modPair fun p => { p with tokenNext := true, reason := 0, swapIn := none }), pend⟩) ∧
    (∀ (tokI : Bool), exec (.pairStartWaitExpiry tokI) ⟨d, pend⟩ = .next ⟨(
        if !d.pairOn || d.pairState != Pr.LISTEN then d
        else
          let d := d.tokIn tokI
          if tokI || d.pair.raceWait || decide (d.pair.gap < d.get PAIR.CFG_START_WAIT) then d else (d.modPair fun p => { p with tokenNext := true }).pairEnter Pr.ACTIVE), pend⟩) ∧
    (∀ (stays : Bool), exec (.tokenRace stays) ⟨d, pend⟩ = .next ⟨(
        if !d.bit PAIR.STAT_TOKEN then d
        else
          let d := d.tokIn true
          if d.bit PAIR.STAT_ROLE_CLASH then d.raceLost
          else if d.bit PAIR.STAT_UNIT then (d.setBit PAIR.STAT_TOKEN false).pairEnter Pr.LISTEN
          else if stays then d.raceLost
          else d.tokIn false), pend⟩) ∧
    (∀ (cause : BitVec 8), exec (.resign cause) ⟨d, pend⟩ = .next ⟨(
        if 1 ≤ cause.toNat ∧ cause.toNat ≤ 6 then d.pairResign cause.toNat else d), pend⟩) ∧
    (∀ (reason item : BitVec 8), exec (.resignReceived reason item) ⟨d, pend⟩ = .next ⟨(
        if !d.pairTakes then d
        else
          let d := d.set PAIR.RESIGN_PEER_CAUSE reason.toNat
          if d.pairState = Pr.STANDBY ∧ !d.noToken then
            d.modPair fun p => { p with tokenNext := true, reason := reason.toNat, guard := false, swapIn := none, peerFail :=
              if item.toNat < 16 then p.peerFail ||| 2 ^ item.toNat else p.peerFail }
          else if d.pairState = Pr.STANDBY ∧ d.bit PWR.STAT_HOLDUP then
            d.modPair fun p => { p with replicas := [], sess := Vector.replicate 4 none }
          else if d.pairState = Pr.STANDBY ∧ d.bit PAIR.STAT_TOK_I then d.setBit PAIR.STAT_LINK_SPLIT true
          else d), pend⟩) ∧
    (exec .deferredResign ⟨d, pend⟩ = .next ⟨(
        if d.pairState ≠ Pr.ACTIVE then d
        else match d.pair.deferCause with
          | some c => if d.restful || decide (3600 * d.get PAIR.CFG_DEFER_MAX ≤ d.pair.deferSec) then d.pairResign c else d
          | none => if d.pair.drainWait && d.restful then d.pairResign 0x20 else d), pend⟩) ∧
    (exec .takeover ⟨d, pend⟩ = .next ⟨(
        if d.pair.tokenNext && d.pairState == Pr.STANDBY then d.takeover else d), pend⟩) ∧
    (∀ (n : Bay) (v : PairSess), exec (.session n v) ⟨d, pend⟩ = .next ⟨(
        if !d.pairTakes || !d.follows || !d.hasBay n then d
        else
          let d := d.modPair fun p => { p with sess := p.sess.set n (some v) }
          (d.followOut n v.drv v.pre v.cpMode v.duty).wrN (BAY.LIM n 4) ((v.lims[4]?).getD 0xFFFFFFFF)), pend⟩) ∧
    (exec .sessionPeriod ⟨d, pend⟩ = .next ⟨(
        if d.pairState = Pr.ACTIVE ∧ d.pairOn then d.forBays fun n d => if d.hasBay n then d.sessionSend n else d else d), pend⟩) ∧
    (∀ (n : Bay) (drv : BitVec 3) (pre : Bool) (mode : BitVec 2) (duty : BitVec 10),
        exec (.output n drv pre mode duty) ⟨d, pend⟩ = .next ⟨(
        if !d.pairTakes || !d.follows || !d.hasBay n then d else d.followOut n drv.toNat pre mode.toNat duty.toNat), pend⟩) ∧
    (∀ (r : PairRec), exec (.ledger r) ⟨d, pend⟩ = .next ⟨(
        if !d.pairTakes || !d.follows then d
        else match r with
          | .registers p minute ap an qp qn rq =>
            if d.pair.passed.1 = minute ∧ d.pair.passed.2.contains p.val then d.adopt p ap an qp qn rq else d
          | r => d.modPair fun p => { p with replicas := putRec p.replicas r }), pend⟩) ∧
    (∀ (mark : WheelMark), exec (.pairMark mark) ⟨d, pend⟩ = .next ⟨(
        if d.pairTakes then (d.wrI PAIR.WOFS ((mark.wt.toNat : Int) - d.wheel)).modPair fun x => { x with peerFw := mark.fw } else d), pend⟩) ∧
    (∀ (minute : Nat) (pages : List (Nat × Nat × Nat × Nat)) (late : Bool),
        exec (.crossCheck minute pages late) ⟨d, pend⟩ = .next ⟨(
        match d.pair.minute with
        | none => d
        | some (m, own) =>
          if !d.pairTakes || late || m != minute then d
          else
            let res := own.filterMap fun x => match pages.find? fun y => y.1 == x.1 with
              | some y => (d.comparePage x y).map fun ok => (ok, x, y)
              | none => none
            if res.isEmpty then d
            else
              let bad := res.filter fun r => !r.1
              let d := d.wrN PAIR.XCHK_MIN minute
              let mask := bad.foldl (fun a r => a ||| 2 ^ r.2.1.1) 0
              let d := (d.set PAIR.XCHK_PAGES mask).set PAIR.XCHK_FAILS (satAt 0xFFFF (d.get PAIR.XCHK_FAILS + bad.length))
              let d := d.set PAIR.XCHK_RUN (if bad.isEmpty then 0 else satInc 255 (d.get PAIR.XCHK_RUN))
              let d := bad.foldl (fun d r => d.glogHw 0x000B 0xFF (leBytes 1 r.2.1.1 ++ leBytes 1 0 ++ leBytes 4 r.2.1.2.1 ++
                leBytes 4 r.2.2.2.1 ++ leBytes 2 (sat16 ((r.2.1.2.2.1 : Int) - r.2.2.2.2.1)))) d
              let d := if bad.isEmpty then d else d.raise PAIR.page PAIR.ev_XCHK_FAIL
              let d := d.modPair fun p => { p with passed := (minute, (res.filter fun r => r.1).map fun r => r.2.1.1) }
              let d := if d.pairState = Pr.PARALLEL ∧ !bad.isEmpty then d.modPair fun p => { p with counting := false } else d
              if d.pairState = Pr.ACTIVE then d
              else if d.get PAIR.XCHK_LIM_LIM ≤ d.get PAIR.XCHK_RUN then d.card 5 2
              else if bad.isEmpty then d.card 5 1
              else d), pend⟩) ∧
    (∀ (card : List (Nat × Nat)) (eligible : Bool), exec (.standbyReport card eligible) ⟨d, pend⟩ = .next ⟨(
        if !d.pairTakes || d.pairState != Pr.ACTIVE then d
        else
          let d := (card.zipIdx.take 16).foldl (fun d c => d.wrN (PAIR.PCARD c.2) (c.1.1 % 4 + 256 * satAt 0xFFFFFF c.1.2)) d
          ((d.setBit PAIR.STAT_ELIGIBLE eligible).raise PAIR.page PAIR.ev_CARD).deferShow), pend⟩) ∧
    (exec .pairStatus ⟨d, pend⟩ = .next ⟨(
        if !d.pairOn then d
        else
          let d := d.modPair fun p => { p with cardSeq := p.cardSeq + 1 }
          let d := if d.pairState = Pr.STANDBY then d.pairSend 0x34 d.cardBody else d
          d.heldMerge.notice 0x0820 ([d.pairState, d.rdN PAIR.STAT] ++ d.cardBody)), pend⟩) ∧
    (∀ (ack : Option (BitVec 16)), exec (.handover ack) ⟨d, pend⟩ = .next ⟨(
        if !d.pairTakes then d
        else match ack with
          | none =>
            if d.pairState = Pr.STANDBY ∧ d.bit PAIR.STAT_ELIGIBLE then
              (d.modPair fun p => { p with handover := true, swapIn := some 6 }).pairSend 0x35 [1, 6]
            else d
          | some n =>
            if d.pairState = Pr.ACTIVE ∧ d.pair.handover then d.modPair fun p => { p with swapIn := some n.toNat } else d), pend⟩) ∧
    (∀ (progress : BitVec 7) (r : List PairRec), exec (.syncBlock progress r) ⟨d, pend⟩ = .next ⟨(
        if !d.pairTakes || d.pairState != Pr.SYNC then d
        else
          let d := d.set PAIR.SYNC_PROGRESS (satAt 100 progress.toNat)
          r.foldl (fun d x => match x with
            | .registers p _ ap an qp qn rq => d.adopt p ap an qp qn rq
            | x => d.modPair fun p => { p with replicas := putRec p.replicas x }) d), pend⟩) ∧
    (exec .pairSyncComplete ⟨d, pend⟩ = .next ⟨(
        if d.pairOn && d.pairState == Pr.SYNC then
          ((d.set PAIR.SYNC_PROGRESS 100).modPair fun p => { p with counting := false }).pairEnter Pr.PARALLEL
        else d), pend⟩) ∧
    (∀ (w : Master ⊕ Req), exec (.pairHandover w) ⟨d, pend⟩ = .next ⟨(
        match w with
          | .inl m => d.startWork m .PAIR 0x044 Dev.handoverError Dev.handoverAsk
          | .inr q => d.pairHost q 0x0821 Dev.handoverError Dev.handoverAsk), pend⟩) ∧
    (∀ (w : Master ⊕ Req), exec (.pairRejoin w) ⟨d, pend⟩ = .next ⟨(
        match w with
          | .inl m => d.startWork m .PAIR 0x044 Dev.rejoinError Dev.syncStart
          | .inr q => d.pairHost q 0x0822 Dev.rejoinError Dev.syncStart), pend⟩) ∧
    (∀ (q : Req) (blob : List Byte), exec (.pairKey q blob) ⟨d, pend⟩ = .next ⟨(
        d.pairHost q 0x0823 (fun _ => none) fun d =>
          d.mail { src := .app, dst := .vlt, typ := 0x0506, body := blob.map BitVec.toNat }), pend⟩)

/-- Completion: Firmware and table update. In every state whose domains are on, whatever waits in the queue and for all
operands, each of these commands answers a next state with the queue unchanged and the device that its clause writes out:
UPD_BEGIN, UPD_BLOCK, UPD_STATUS, UPD_END, RECONSTRUCTION_DONE, UPD_APPLY, UPD_CANCEL, UPDATE_STEP_SWITCH, CONFIRM,
UPDATE_REVERT, ROLLBACK_RETRY. Where a clause asks whether the page accepts the write or takes the start, the first branch is
the effect and the last the rejection. (R485, R487, R488, R490, R491, R492, R493, R495, R496, R499, R506) -/
def Obligations.UpdateCommands : Prop :=
  ∀ (d : Dev) (pend : List Instr), d.pwr.off = false →
    (∀ (q : Req) (hdr : List Byte) (sigV : Bool) (sigO : Option Bool), exec (.updBegin q hdr sigV sigO) ⟨d, pend⟩ = .next ⟨(
        match d.updError q with
        | some e => d.ledAnswer q 0x0401 e
        | none =>
          let d := d.failedDrop
          match d.beginError hdr sigV sigO with
          | some (e, c) =>
            let d := match c with | some c => d.set UPD.STAT_CAUSE c | none => d
            d.ledAnswer q 0x0401 e
          | none =>
            let full := (hdrLe hdr 7 1).testBit 0
            if d.bit SYS.STAT_RECOVERY && !(full && hdrLe hdr 6 1 == 0) then d.ledAnswer q 0x0401 Err.RANGE
            else
              let size := hdrLe hdr 0x28 4
              let index := hdrLe hdr 0xC4 1
              let i : UpdImg :=
                { dom := hdrLe hdr 6 1, full := full, live := (hdrLe hdr 7 1).testBit 1, img := hdrImg hdr, size := size,
                  base := (hdr.drop 0x30).take 48, delta := (hdr.drop 0x60).take 48, index := index, count := hdrLe hdr 0xC5 1,
                  addr := d.stgBase + d.upd.used, missing := List.range (blocksOf size) }
              let d := d.modUpd fun u => { u with imgs := u.imgs ++ [i], used := u.used + 4096 * blocksOf size }
              let d := (d.set UPD.STAT_STATE 1).wrN UPD.BUNDLE (hdrLe hdr 0xC0 4)
              d.updShow.ledAnswer q 0x0401 Err.NONE [index]), pend⟩) ∧
    (∀ (q : Req) (img : BitVec 8) (ofs crc : Word) (data : List Byte), exec (.updBlock q img ofs crc data) ⟨d, pend⟩ = .next ⟨(
        match d.updError q, d.updImg img.toNat with
        | some e, _ => d.ledAnswer q 0x0402 e
        | none, none => d.ledAnswer q 0x0402 Err.RANGE
        | none, some i =>
          let o := ofs.toNat
          if i.ended || !d.bundleOpen then d.ledAnswer q 0x0402 Err.SEQUENCE
          else if o % 4096 ≠ 0 ∨ i.size ≤ o ∨ data.length ≠ min 4096 (i.size - o) ∨ crc32 data ≠ crc.toNat then
            d.ledAnswer q 0x0402 Err.RANGE
          else if !d.reaches .upd (i.addr + o) data.length true then
            (d.turnedAway .upd (i.addr + o) true).ledAnswer q 0x0402 Err.RANGE
          else if d.stgFlash && !i.missing.contains (o / 4096) then d.ledAnswer q 0x0402 Err.NONE
          else
            let d := if d.stgFlash then d.sectorErase (i.addr + o) else d
            let d := (d.wrBytes (i.addr + o) data).modImg i.index fun x => { x with missing := x.missing.filter (· != o / 4096) }
            d.updShow.ledAnswer q 0x0402 Err.NONE), pend⟩) ∧
    (∀ (q : Req) (img : BitVec 8) (first : BitVec 16), exec (.updStatus q img first) ⟨d, pend⟩ = .next ⟨(
        match d.updImg img.toNat with
        | none => d.ledAnswer q 0x0403 Err.RANGE
        | some i =>
          let n := min 2048 (blocksOf i.size - first.toNat)
          let bits := (List.range n).map fun j => i.missing.contains (first.toNat + j)
          d.ledAnswer q 0x0403 Err.NONE ([first.toNat] ++ packBits ((n + 7) / 8) bits ++ [d.rdN UPD.STAT])), pend⟩) ∧
    (∀ (q : Req) (img : BitVec 8), exec (.updEnd q img) ⟨d, pend⟩ = .next ⟨(
        match d.updError q, d.updImg img.toNat with
        | some e, _ => d.ledAnswer q 0x0404 e
        | none, none => d.ledAnswer q 0x0404 Err.RANGE
        | none, some i =>
          if d.upd.recon.isSome || d.bit PWR.STAT_HOLDUP then d.ledAnswer q 0x0404 Err.BUSY
          else if i.ready || !d.bundleOpen then d.ledAnswer q 0x0404 Err.SEQUENCE
          else if !i.missing.isEmpty then (d.set UPD.STAT_CAUSE 4).ledAnswer q 0x0404 Err.SEQUENCE
          else if sha384 (d.masterRead .upd i.addr i.size).1 ≠ i.delta then
            let d := (d.masterRead .upd i.addr i.size).2
            let d := if d.stgFlash then d.wrBytes i.addr (List.replicate (4096 * blocksOf i.size) 0xFF) else d
            let d := (d.set UPD.STAT_CAUSE 5).modImg i.index fun x => { x with missing := List.range (blocksOf x.size), ended := false }
            d.updShow.ledAnswer q 0x0404 Err.RANGE
          else if i.dom = 5 ∧ !d.upd.tblOld.isEmpty then d.ledAnswer q 0x0404 Err.BUSY
          else
            let b := d.rdN UPD.BUNDLE
            let pos := match d.upd.ckpt with
              | some (cb, ci, p) => if cb = b ∧ ci = i.index then p else 0
              | none => 0
            let d := (d.modImg i.index fun x => { x with ended := true }).modUpd fun u =>
              { u with recon := some (i.index, q), ckpt := some (b, i.index, pos) }
            (d.set UPD.STAT_STATE 2).wrN UPD.PROG pos), pend⟩) ∧
    (exec .reconstructionDone ⟨d, pend⟩ = .next ⟨(
        match d.upd.recon with
        | none => d
        | some (index, q) =>
          if d.bit UPD.STAT_PAUSED || d.bit PWR.STAT_HOLDUP then d
          else match d.updImg index with
            | none => d.modUpd fun u => { u with recon := none }
            | some i => match domSlot i.dom with
              | none => d.reconFail q index 6
              | some k =>
                  let (out, ok) := d.rebuild k i
                  let a := slotAddr k (!d.flag SYS.BANKSEL_SEL k.val)
                  let d := ((if ok then d.blankRange a (slotSize k) else d).wrBytes a out).wrN UPD.PROG out.length
                  if !ok then
                    (if out.isEmpty then d else d.modUpd fun u => { u with other := u.other.set k none }).reconFail q index 6
                  else if sha384 out ≠ i.img.hash then
                    (d.modUpd fun u => { u with other := u.other.set k none }).reconFail q index 7
                  else
                    let d := (d.modImg index fun x => { x with ready := true }).modUpd fun u =>
                      { u with recon := none, ckpt := none, other := u.other.set k (some i.img), reverted := u.reverted.set k false }
                    let all := d.upd.imgs.length == i.count && d.upd.imgs.all fun x => x.ready
                    let d := d.set UPD.STAT_STATE (if all then 3 else 1)
                    (d.raise UPD.page UPD.ev_READY).ledAnswer q 0x0404 Err.NONE), pend⟩) ∧
    (∀ (q : Req) (bundle : Word), exec (.updApply q bundle) ⟨d, pend⟩ = .next ⟨(
        match d.updError q with
        | some e => d.ledAnswer q 0x0405 e
        | none => match d.applyError bundle.toNat with
          | some (e, c) =>
            let d := match c with | some c => d.set UPD.STAT_CAUSE c | none => d
            d.ledAnswer q 0x0405 e
          | none =>
            let d := d.ledAnswer q 0x0405 Err.NONE
            let steps := (applyOrder.filter fun k => (d.bundleImg k).isSome).map fun k => k.val
            if d.bit SYS.STAT_RECOVERY && (d.bundleImg 0).isSome then
              let d := ((d.bankFlip 0).modUpd fun u => { u with imgs := [], steps := [], used := 0 }).chipReset 4 d.chip.pairRole
                d.chip.testMode
              d.trialBegin 0
            else
              let d := d.modUpd fun u => { u with steps := steps }
              (d.set UPD.STAT_STATE 4).set UPD.STAT_STEP 0), pend⟩) ∧
    (∀ (q : Req) (bundle : Word), exec (.updCancel q bundle) ⟨d, pend⟩ = .next ⟨(
        match d.updError q with
        | some e => d.ledAnswer q 0x0406 e
        | none =>
          if d.upd.imgs.isEmpty ∨ bundle.toNat ≠ d.rdN UPD.BUNDLE ∨ d.upd.trial.isSome then d.ledAnswer q 0x0406 Err.SEQUENCE
          else
            let d := d.updHalt.bundleDrop
            ((d.set UPD.STAT_STATE 0).set UPD.STAT_CAUSE 11).ledAnswer q 0x0406 Err.NONE), pend⟩) ∧
    (exec .updateStepSwitch ⟨d, pend⟩ = .next ⟨(
        match d.upd.steps with
        | [] => d
        | n :: _ =>
          let k : Fin 5 := ⟨n % 5, Nat.mod_lt _ (by decide)⟩
          if d.get UPD.STAT_STATE ≠ 4 ∨ d.upd.trial.isSome ∨ d.upd.raise.isSome ∨ d.bit UPD.STAT_PAUSED ∨ d.bit PWR.STAT_HOLDUP ∨
              !d.takesWork .UPD then d
          else if !d.safePoint k then (d.setBit UPD.STAT_WAIT_IDLE true).set UPD.STAT_DOMAIN (slotDom k.val)
          else
            let d := (d.bankFlip k).trialBegin k
            let d := ((d.raise UPD.page UPD.ev_SWAPPED).updEvent (slotDom k.val) 0 0).switched k
            if 3 ≤ k.val then d.updConfirm k else d.eligShow), pend⟩) ∧
    (∀ (m : Master), exec (.confirm m) ⟨d, pend⟩ = .next ⟨(
        if d.accepts m .UPD 0x05C then
          let d := d.noKey
          if d.upd.trial = some 0 then d.updConfirm 0 else d
        else d.turnedDown m .UPD 0x05C), pend⟩) ∧
    (exec .updateRevert ⟨d, pend⟩ = .next ⟨(
        match d.upd.trial with
        | none => d
        | some n =>
          let k : Fin 5 := ⟨n % 5, Nat.mod_lt _ (by decide)⟩
          if d.bit PWR.STAT_HOLDUP || decide (1000 < d.get UPD.TRIAL_REM_MS) then d
          else
            let d := ((d.bankFlip k).modUpd fun u => { u with trial := none, reverted := u.reverted.set k true }).switched k
            let d := ((d.setBit UPD.STAT_REVERTED true).set UPD.REV_DOMAIN (slotDom k.val)).set UPD.REV_CAUSE 9
            let d := ((d.set UPD.TRIAL_REM_MS 0).raise UPD.page UPD.ev_REVERTED).updEvent (slotDom k.val) 2 9
            let d := (d.bundleDrop.set UPD.STAT_STATE 7).set UPD.STAT_CAUSE 9
            (((d.raise UPD.page UPD.ev_FAILED).updEvent (slotDom k.val) 4 9).eligShow)), pend⟩) ∧
    (∀ (busy : Bool), exec (.rollbackRetry busy) ⟨d, pend⟩ = .next ⟨(
        match d.upd.raise with
        | none => d
        | some (n, v) => if busy then d else d.counterAsk ⟨n % 5, Nat.mod_lt _ (by decide)⟩ v), pend⟩)

/-- A step runs the command at the front. For every command, device and queue: a step of the state with the command in front is
the command's effect on the device with the queue's rest. (R38, R45) -/
def Obligations.StepRunsFront : Prop :=
  ∀ (c : Instr) (d : Dev) (q : List Instr), Sys2Proof.Machine.step ⟨d, c :: q⟩ = exec c ⟨d, q⟩

/-- Every command answers a next state and leaves the queue. For every command and state: the command answers a next state, and
what waits in the queue stays as it was. (R38, R39, R40) -/
def Obligations.EveryCommandAnswers : Prop :=
  ∀ (c : Instr) (d : Dev) (q : List Instr), ∃ t : Dev, exec c ⟨d, q⟩ = .next ⟨t, q⟩

/-- A step with an empty queue is one bridge cycle. The model's choice (assumption 20). For every device: with no command
waiting and the domains off a step changes nothing; with the domains on it counts one bridge cycle and leaves the strapped
and fused part, the ledger and the vault's keys as they were. (R38, R514, R515) -/
def Obligations.IdleStep : Prop :=
  ∀ d : Dev,
    (d.pwr.off = true → Sys2Proof.Machine.step ⟨d, []⟩ = .next ⟨d, []⟩) ∧
    (d.pwr.off = false → ∃ t : Dev, Sys2Proof.Machine.step ⟨d, []⟩ = .next ⟨t, []⟩ ∧ t.now = d.now + 1 ∧ t.chip = d.chip ∧
      t.led = d.led ∧ t.vlt.slots = d.vlt.slots)

/-- The state after reset. After reset: no command waits, registers and memories are in their canonical form, the domains are
on, wheel time is 0, EN of every page that is not fixed is 1 for CAR, MPL, the meters of bays 0 to 3 and MET4, LSW and GPIO
and 0 for the others, the registers that chapters 3, 7 and 23 give a reset word hold it, and every waiting command is well
formed. That reset state shows the part D4LR is the model's choice (its log says so). (R36, R52, R75, R176, R178, R508, R517)
-/
def Obligations.ResetState : Prop :=
  State.reset.pending = [] ∧ State.reset.wf = true ∧ (State.reset.pending.all fun c => c.wellFormed) = true ∧
  State.reset.dev.pwr.off = false ∧ State.reset.dev.wheel = 0 ∧
  (∀ p ∈ allPages, p.fixed = false → State.reset.dev.bit (Hdr.EN p.base) =
    (match p with | .CAR | .MPL | .MET _ | .LSW | .GPIO => true | _ => false)) ∧
  State.reset.dev.rdN CAR.CFG = 0x00016004 ∧ State.reset.dev.rdN (PLC.ARBCFG 0) = 0x780C6258 ∧
  State.reset.dev.get SYS.WDT_TIMEOUT = 200 ∧ State.reset.dev.bit SYS.WDT_EN = true

/-- The variant code in SYS.VARIANT. For every device: a read of SYS.VARIANT shows the variant's name in ASCII, its first
character in the lowest byte, a name of three characters with a space in the highest. (R5) -/
def Obligations.VariantCode : Prop :=
  ∀ d : Dev, d.readWord .SYS 0x040 = ofLe ((match d.chip.variant with
    | .D4LR => ['D', '4', 'L', 'R'] | .D4L => ['D', '4', 'L', ' '] | .D4N => ['D', '4', 'N', ' '] | .A4L => ['A', '4', 'L', ' ']
    | .A4N => ['A', '4', 'N', ' '] | .D2LR => ['D', '2', 'L', 'R'] | .D2L => ['D', '2', 'L', ' '] | .A2L => ['A', '2', 'L', ' ']
    | .A2N => ['A', '2', 'N', ' '] | .D1L => ['D', '1', 'L', ' '] | .A1L => ['A', '1', 'L', ' ']
    | .A1N => ['A', '1', 'N', ' ']).map (fun (c : Char) => BitVec.ofNat 8 c.toNat))

/-- What a field holds after a write, and what the write leaves. For every device, field inside a 32-bit register and number:
the field then holds the number modulo its width; a field of the same register that shares no bit with it, every other
register, and the memories hold what they held. (R10, R11, R12) -/
def Obligations.FieldWrite : Prop :=
  ∀ (d : Dev) (f : Fld) (v : Nat), f.lo + f.w ≤ 32 →
    (d.set f v).get f = v % 2 ^ f.w ∧
    (∀ g : Fld, g.reg = f.reg → g.lo + g.w ≤ 32 → (g.lo + g.w ≤ f.lo ∨ f.lo + f.w ≤ g.lo) → (d.set f v).get g = d.get g) ∧
    (∀ a : Nat, a ≠ f.reg → (d.set f v).rd a = d.rd a) ∧ (∀ a : Nat, (d.set f v).rdByte a = d.rdByte a)

/-- Numbers in the memories are little-endian. For every device, address, length and number: the number written and read back
is the number modulo 256 to the length; its byte i is the i-th byte from the lowest; every byte outside, and every register,
holds what it held. (R10, R23, R24) -/
def Obligations.LittleEndianMemory : Prop :=
  ∀ (d : Dev) (a n v : Nat),
    (d.wrLe a n v).rdLe a n = v % 256 ^ n ∧
    (∀ i : Nat, i < n → (d.wrLe a n v).rdByte (a + i) = BitVec.ofNat 8 (v / 256 ^ i)) ∧
    (∀ b : Nat, b < a ∨ a + n ≤ b → (d.wrLe a n v).rdByte b = d.rdByte b) ∧ (∀ r : Nat, (d.wrLe a n v).rd r = d.rd r)

/-- The operations on registers and memories keep the canonical form. For every device whose registers and memories are in
canonical form: so are they after a register write, a field write, an event, a rejection, a write of bytes or of a number,
the clearing of a range, and a chip reset's choice of the bytes that stay. (R23, R24, R36, R508) -/
def Obligations.CanonicalFormKept : Prop :=
  ∀ d : Dev, d.wf = true →
    (∀ (a : Nat) (w : Word), (d.wr a w).wf = true) ∧ (∀ (f : Fld) (v : Nat), (d.set f v).wf = true) ∧
    (∀ p e : Nat, (d.raise p e).wf = true) ∧ (∀ p c : Nat, (d.reject p c).wf = true) ∧
    (∀ (a : Nat) (l : List Byte), (d.wrBytes a l).wf = true) ∧ (∀ a n v : Nat, (d.wrLe a n v).wf = true) ∧
    (∀ a n : Nat, (d.blankRange a n).wf = true) ∧ Memory.wf (d.mem.filter fun c => keptByte c.1) = true

/-- A rejection stores its code and counts. For every device: a rejection on a page stores its code and increments COUNT, which
stops at 0xFFFF, and posts ERR; a register write that the writer rules, the area rules or the start rules reject, on any
page, is such a rejection; the codes are those of the table. (R39) -/
def Obligations.RejectionStored : Prop :=
  (∀ (d : Dev) (p c : Nat), c < 256 → (d.reject p c).get (Hdr.CODE p) = c ∧
    (d.reject p c).get (Hdr.COUNT p) = min 0xFFFF (d.get (Hdr.COUNT p) + 1) ∧ (p, 31) ∈ (d.reject p c).raw) ∧
  (∀ (d : Dev) (m : Master) (p : PageId) (o e : Nat) (k : Dev → Dev), d.writerError m p o = some e →
    d.guard m p o k = d.noKey.reject p.base e) ∧
  (∀ (d : Dev) (m : Master) (p : PageId) (o : Nat) (k : Dev → Dev), d.writerError m p o = none → d.areaOpen p o = false →
    d.guard m p o k = d.noKey.reject p.base 0x03) ∧
  (∀ (d : Dev) (m : Master) (p : PageId) (o e : Nat) (f : Dev → Option Nat) (k : Dev → Dev), d.accepts m p o = true →
    d.workError p = some e → d.startWork m p o f k = d.noKey.reject p.base e) ∧
  (∀ (d : Dev) (m : Master) (p : PageId) (o e : Nat) (f : Dev → Option Nat) (k : Dev → Dev), d.starts m p o = true →
    f d.noKey = some e → d.startWork m p o f k = d.noKey.reject p.base e) ∧
  [Err.NONE, Err.NOT_OWNER, Err.LOCKED, Err.EXPERT_CLOSED, Err.BUSY, Err.RANGE, Err.DRAINING, Err.NOT_FUSED, Err.SAFETY_DENIED,
    Err.LEGAL_DENIED, Err.ROLE_DENIED, Err.SEQUENCE] = [0, 1, 2, 3, 4, 5, 6, 7, 8, 9, 10, 11]

/-- A rejected write leaves every register and byte unchanged. For every device: a write that the writer rules reject, and a
write of a register without a command of its own or of several commands together that ends in a rejection, leaves every
register but the page's ERRCODE and IRQ_STAT, and every byte of memory, as it was. (R39, R40) -/
def Obligations.RejectedWriteChangesNothing : Prop :=
  ∀ (d : Dev) (m : Master) (p : PageId) (a b : Nat), a ≠ p.base + 0x020 → a ≠ p.base + 0x018 →
    (∀ (o e : Nat) (k : Dev → Dev), d.writerError m p o = some e →
      (d.guard m p o k).rd a = d.rd a ∧ (d.guard m p o k).rdByte b = d.rdByte b) ∧
    (∀ o w : Nat, d.raw.count (p.base, 31) < (d.fieldsWrite m p o w).raw.count (p.base, 31) →
      (d.fieldsWrite m p o w).rd a = d.rd a ∧ (d.fieldsWrite m p o w).rdByte b = d.rdByte b) ∧
    (∀ (x y : Bool) (f g : State → Out) (t : Dev), both p x y f g d = some t → d.raw.count (p.base, 31) < t.raw.count (p.base, 31) →
      t.rd a = d.rd a ∧ t.rdByte b = d.rdByte b)

/-- Ownership of a page. For every device with the domains on and every page of the map that is present and is neither a legal
page, a safety page nor VLT: the owner's write of another code moves OWNER and closes the expert area, a write by another
master is rejected with NOT_OWNER; the HIF's register window writes as HOST, the application cores and the DMA as APP, the
debug port as the owner; on the pages fixed to SAF or LGL a write of another code by a master that may write them is rejected
with RANGE. (R44) -/
def Obligations.OwnerMoves : Prop :=
  (∀ m : Master, ownerCode m = match m with
    | .app0 | .app1 | .dma => some 0 | .hif => some 1 | .saf => some 2 | .lgl => some 3 | .vlt | .upd | .ylr | .dbg => none) ∧
  (∀ (d : Dev) (m : Master) (p : PageId), d.owns m p = true ↔ (m = .dbg ∨ ownerCode m = some (d.get (Hdr.OWNER p.base)))) ∧
  ∀ (d : Dev) (q : List Instr) (m : Master) (g : BitVec 8) (p : PageId) (o : BitVec 2), d.pwr.off = false → pageOf g = some p →
    (d.present p = true → p.legal = false → p.safety = false → p ≠ .VLT → d.owns m p = false →
      exec (.ownerChange m g o) ⟨d, q⟩ = .next ⟨d.noKey.reject p.base Err.NOT_OWNER, q⟩) ∧
    (d.present p = true → p.ownerFixed = false → p ≠ .VLT → d.owns m p = true → d.get (Hdr.OWNER p.base) ≠ o.toNat →
      ∃ t : Dev, exec (.ownerChange m g o) ⟨d, q⟩ = .next ⟨t, q⟩ ∧ t.get (Hdr.OWNER p.base) = o.toNat ∧
        t.bit (Hdr.EXPERT_OPEN p.base) = false ∧ t.mem = d.mem) ∧
    (p.ownerFixed = true → d.accepts m p 0x008 = true → d.get (Hdr.OWNER p.base) ≠ o.toNat →
      exec (.ownerChange m g o) ⟨d, q⟩ = .next ⟨d.noKey.reject p.base Err.RANGE, q⟩)

/-- A 64-bit wheel time read in two halves. For every device, master that may read the page and low word among WT_LO,
RTC_CAP_LO and BND_WT_LO: a read of the low word holds the high word's present value for that master, whatever the others
hold stays; and in any later device that still holds it, the master's read of the high word returns that value. (R74) -/
def Obligations.HighWordHeld : Prop :=
  ∀ (d : Dev) (m : Master) (a : Nat), a ∈ [CAR.WT_LO, CAR.RTC_CAP_LO, CAR.BND_WT_LO] →
    d.filterAllows m (0x40000000 + a) false = true →
    ((m, a + 4), BitVec.ofNat 32 (d.readWord .CAR (a + 4 - CAR.page))) ∈ (d.busRead m a).2.car.hold ∧
    (∀ x ∈ d.car.hold, x.1.1 ≠ m → x ∈ (d.busRead m a).2.car.hold) ∧
    (∀ e : Dev, e.car.hold = (d.busRead m a).2.car.hold → e.filterAllows m (0x40000000 + (a + 4)) false = true →
      (e.busRead m (a + 4)).1 = d.readWord .CAR (a + 4 - CAR.page) % 2 ^ 32)

/-- Events, their masks and their acknowledgement. For every device, page and event: posting the event shows it for the cycle;
where it is enabled its IRQ_STAT bit is set, where not IRQ_STAT is unchanged, and bits already set stay; no other register
changes. A write of IRQ_STAT clears the bits written 1 and no other, with ERR also ERRCODE; a write of IRQ_SET sets the bits
written 1, whatever is enabled. (R37, R38) -/
def Obligations.EventsRecorded : Prop :=
  (∀ (d : Dev) (p e : Nat), e < 32 → (p, e) ∈ (d.raise p e).raw ∧
    (∀ k : Nat, ((d.raise p e).rdN (Hdr.irqStat p)).testBit k =
      ((d.rdN (Hdr.irqStat p)).testBit k || (decide (k = e) && (d.rdN (Hdr.irqEn p)).testBit e))) ∧
    (∀ a : Nat, a ≠ Hdr.irqStat p → (d.raise p e).rd a = d.rd a) ∧ (d.raise p e).mem = d.mem) ∧
  (∀ (d : Dev) (p : PageId) (w : Nat), w < 2 ^ 32 →
    (∀ k : Nat, ((d.irqClear p w).rdN (Hdr.irqStat p.base)).testBit k = ((d.rdN (Hdr.irqStat p.base)).testBit k && !w.testBit k)) ∧
    (w.testBit 31 = true → (d.irqClear p w).rdN (p.base + 0x020) = 0) ∧
    (w.testBit 31 = false → (d.irqClear p w).rd (p.base + 0x020) = d.rd (p.base + 0x020)) ∧
    (∀ a : Nat, a ≠ Hdr.irqStat p.base → a ≠ p.base + 0x020 → (d.irqClear p w).rd a = d.rd a)) ∧
  (∀ (d : Dev) (p : PageId) (w : Word) (k : Nat),
    ((d.irqSet p w).rdN (Hdr.irqStat p.base)).testBit k = ((d.rdN (Hdr.irqStat p.base)).testBit k || w.toNat.testBit k))

/-- Where a packet goes. For every device with the domains on and the router running, and every packet with a good header that
arrives on a synchronised port whose loop is open: a packet for this unit's address is taken; another unicast packet with
hops left, of a class that is not stopped, goes to the primary port of its entry, or to the alternate while the primary is
down, unless that is the arrival port; one with no usable port is dropped and counted; a broadcast is taken and goes to every
other port that carries routed packets, once for its source and sequence number, if it has hops left and its class is not
stopped; nothing goes back on the arrival port. (R430) -/
def Obligations.PacketForwarding : Prop :=
  (∀ (d : Dev) (a : Nat), 1 ≤ a → a ≤ 250 →
    d.route a = (match d.portUp (d.routeEntry a).1 with | some p => some p | none => d.portUp (d.routeEntry a).2)) ∧
  ∀ (d : Dev) (q : List Instr) (p : Fin 3) (k : Pkt), d.pwr.off = false → d.portLooped p.val = false →
    d.bit (YL.STAT_SYNC p) = true → k.hcrcOk = true → d.ylrOn = true →
    (k.dst ≠ 0 → k.dst ≠ 255 → k.dst.toNat = d.ownAddr → exec (.packetReceive p k) ⟨d, q⟩ = .next ⟨d.takePkt p k, q⟩) ∧
    (∀ r : Fin 3, k.dst ≠ 0 → k.dst ≠ 255 → k.dst.toNat ≠ d.ownAddr → 2 ≤ k.ttl.toNat → d.route k.dst.toNat = some r → r ≠ p →
      d.classStopped k.cls.val = false → ∃ t : Dev, exec (.packetReceive p k) ⟨d, q⟩ = .next ⟨t, q⟩ ∧
        t.ylr.port[r].queue = d.ylr.port[r].queue ++ [syncHop { k with ttl := k.ttl - 1 }] ∧
        (∀ o : Fin 3, o ≠ r → t.ylr.port[o] = d.ylr.port[o]) ∧ (∀ a : Nat, t.rd a = d.rd a) ∧ t.mem = d.mem) ∧
    (k.dst ≠ 0 → k.dst ≠ 255 → k.dst.toNat ≠ d.ownAddr → 2 ≤ k.ttl.toNat →
      (d.route k.dst.toNat = none ∨ d.route k.dst.toNat = some p) →
      exec (.packetReceive p k) ⟨d, q⟩ = .next ⟨d.bump YLR.CNT1_NOROUTE, q⟩) ∧
    (k.dst = 255 → d.ylr.seen.contains (k.src.toNat, k.seq.toNat) = true → exec (.packetReceive p k) ⟨d, q⟩ = .next ⟨d, q⟩) ∧
    (∀ x : Dev, k.dst = 255 → d.ylr.seen.contains (k.src.toNat, k.seq.toNat) = false → 2 ≤ k.ttl.toNat →
      x = (d.modYlr fun y => { y with seen := (k.src.toNat, k.seq.toNat) :: y.seen }).takePkt p k →
      x.classStopped k.cls.val = false → ∃ t : Dev, exec (.packetReceive p k) ⟨d, q⟩ = .next ⟨t, q⟩ ∧
        (∀ o : Fin 3, t.ylr.port[o].queue = x.ylr.port[o].queue ++
          (if o ≠ p ∧ x.floodPorts.contains o = true then [syncHop { k with ttl := k.ttl - 1 }] else [])) ∧
        t.ylr.seen.contains (k.src.toNat, k.seq.toNat) = true)

/-- A bay's share never exceeds its demand or its minimum. For every limit, base and list of demands of different bays: the
division gives a share to every demand, none above the greater of that demand and its minimum, and no share to a bay with a
demand that is taken out of the set. (R440) -/
def Obligations.ShareWithinDemand : Prop :=
  ∀ (limit base : Int) (l : List (Nat × BayDemand)), (l.map fun x => (x.1, x.2.bay)).Nodup →
    (divide limit base l).map Prod.fst = l.map (fun x => (x.1, x.2.bay)) ∧
    (∀ x ∈ l, ∀ v : Nat, ((x.1, x.2.bay), v) ∈ divide limit base l → v ≤ max x.2.d x.2.pMin) ∧
    (∀ x ∈ l, (fitSet (limit - base) l.length l).contains x = false → ((x.1, x.2.bay), 0) ∈ divide limit base l)

/-- No permit without its conditions. For every device and bay: when the island has evaluated the bay, a permit shows only if
the bay is present, no safety function of it is active or latched, its earth-fault conditions hold, no self-test withholds it
and a channel in service grants it; and it shows what the evaluation gives. (R218, R222, R224, R225, R229) -/
def Obligations.PermitNeedsConditions : Prop :=
  ∀ (d : Dev) (n : Bay) (grant : Bool),
    (d.permitBay grant n).flag SAF.PERMIT_EFF n.val =
      effOf d.chMode (d.procOk n && (grant || d.flag SAF.PERMIT_PROC n.val)) (d.hlOk n && (grant || d.flag SAF.PERMIT_HL n.val)) ∧
    ((d.permitBay grant n).flag SAF.PERMIT_EFF n.val = true → d.hasBay n = true ∧ d.sfClear n = true ∧ d.earthOk n = true ∧
      d.bit (RCD.STAT_TEST_RUN n) = false ∧ d.chMode ≤ 4)

/-- A lost permit releases the contactors. For every device and bay whose permit is in force and whose conditions no longer
hold, in every state of its power path: after the evaluation the permit is withdrawn and every main drive and the precharge
output of the bay are off. (R182, R224) -/
def Obligations.PermitLossCutsOutputs : Prop :=
  ∀ (d : Dev) (n : Bay), d.flag SAF.PERMIT_EFF n.val = true →
    effOf d.chMode (d.procOk n && d.flag SAF.PERMIT_PROC n.val) (d.hlOk n && d.flag SAF.PERMIT_HL n.val) = false →
    (d.permitBay false n).flag SAF.PERMIT_EFF n.val = false ∧ (d.permitBay false n).ctc[n].drv = 0 ∧
    (d.permitBay false n).bit (CTC.STATE_PRE n) = false

/-- Only the assigned bay answers a sounding vehicle. For every device with the domains on and every modem that transmits with
ARB_EN = 1: a CM_ATTEN_CHAR.IND or CM_SLAC_MATCH.CNF for a RunID whose RESULT on the modem is ASSIGNED is sent (it changes
nothing here while the loop of the modem is open); any other is dropped, counted in TXSTAT.GATED and raises GATED. (R160) -/
def Obligations.AnswersGated : Prop :=
  ∀ (d : Dev) (q : List Instr) (n : Bay) (r : BitVec 64) (l : List Byte) (f : PlcFrame), d.pwr.off = false → d.plcSends n = true →
    d.bit (PLC.CFG_ARB_EN n) = true → (f = .attenChar r l ∨ f = .slacMatch r l) →
    (∀ k : Fin 4, d.soundSlot n r.toNat = some k → d.get (PLC.SND_STAT_RESULT n k) = 1 →
      exec (.plcFrameTx n f) ⟨d, q⟩ = .next ⟨d.plcEcho n f, q⟩ ∧ (d.plcLooped n = false → d.plcEcho n f = d)) ∧
    ((d.soundSlot n r.toNat = none ∨ ∃ k : Fin 4, d.soundSlot n r.toNat = some k ∧ d.get (PLC.SND_STAT_RESULT n k) ≠ 1) →
      exec (.plcFrameTx n f) ⟨d, q⟩ = .next ⟨(d.bump (PLC.TXSTAT_GATED n)).raise (PLC.page n) PLC.ev_GATED, q⟩)

/-- Rollback counters only rise. For every device, domain code and value: a counter is never lower after ROLLBACK_SET, it takes
exactly a value that is higher than it held, and no other register changes. (R348, R349) -/
def Obligations.RollbackCountersRise : Prop :=
  ∀ (d : Dev) (dom v : Nat),
    (∀ k : Nat, d.get (VLT.ARB_CNT k) ≤ (d.rollbackRaise dom v).2.get (VLT.ARB_CNT k)) ∧
    (∀ k : Nat, rollbackIndex dom = some k → d.get (VLT.ARB_CNT k) < v → v ≤ 65535 →
      (d.rollbackRaise dom v).1 = Err.NONE ∧ (d.rollbackRaise dom v).2.get (VLT.ARB_CNT k) = v) ∧
    (∀ k : Nat, rollbackIndex dom = some k → v ≤ d.get (VLT.ARB_CNT k) → d.rollbackRaise dom v = (Err.SEQUENCE, d)) ∧
    (∀ a : Nat, (∀ k : Nat, rollbackIndex dom = some k → a ≠ VLT.ARB k) → (d.rollbackRaise dom v).2.rd a = d.rd a)

/-- A key serves only who may use it and for what it is meant. For every device, requester and slot in use: a requester without
the slot's rights is refused and nothing changes; so is an operation its usage does not allow, and a slot found bad; a slot
that turns out corrupt is refused and marked bad; an empty slot and a number above 31 are refused and nothing changes. (R336,
R337, R338, R345) -/
def Obligations.KeySlotRights : Prop :=
  ∀ (d : Dev) (r : VltReq) (n : Nat) (op : VltOp) (ok : Bool) (work : Dev → Fin 32 → KeySlot → Nat → Nat × List Nat × Dev),
    (32 ≤ n → d.useSlot r n op ok work = (Err.RANGE, [], d)) ∧
    (∀ k : Fin 32, k.val = n → d.vlt.slots[k] = none → d.useSlot r n op ok work = (Err.SEQUENCE, [], d)) ∧
    (∀ (k : Fin 32) (s : KeySlot), k.val = n → d.vlt.slots[k] = some s →
      (op ≠ .attest → slotRights r (d.get (VLT.SLOT_ROLES k)) (d.get (VLT.SLOT_DOMAINS k)) = false →
        d.useSlot r n op ok work = (Err.ROLE_DENIED, [], d)) ∧
      ((op = .attest ∨ slotRights r (d.get (VLT.SLOT_ROLES k)) (d.get (VLT.SLOT_DOMAINS k)) = true) →
        (s.use.allows (d.get (VLT.SLOT_ALG k)) op = false → d.useSlot r n op ok work = (Err.RANGE, [], d)) ∧
        (s.use.allows (d.get (VLT.SLOT_ALG k)) op = true → (d.rdN VLT.SLOT_BAD).testBit n = true →
          d.useSlot r n op ok work = (Err.SEQUENCE, [], d)) ∧
        (s.use.allows (d.get (VLT.SLOT_ALG k)) op = true → (d.rdN VLT.SLOT_BAD).testBit n = false → ok = false →
          d.useSlot r n op ok work = (Err.SEQUENCE, [], d.slotBad k))))

/-- A general log entry is added in its ring slot. For every device, source, code, bay and data of the entry's length: the
entry takes the next sequence number, its 32 bytes stand in the ring slot of that number (the slot is the model's choice,
assumption 17) with their CRC-32 last, every byte outside the slot is unchanged, and so is the legal log's count. (R26, R272,
R273) -/
def Obligations.LogEntryAppended : Prop :=
  ∀ (d : Dev) (x : Domain) (c b : Nat) (l : List Byte),
    (d.glog x c b l).log.glogSeq = d.log.glogSeq + 1 ∧ (d.glog x c b l).log.llogSeq = d.log.llogSeq ∧
    (d.glog x c b l).rdBytes (glogAddr (d.log.glogSeq + 1)) 32 =
      withCrc (d.logHead (d.log.glogSeq + 1) (domainNo x) c b ++ padTo 12 l) ∧
    (∀ a : Nat, a < glogAddr (d.log.glogSeq + 1) ∨ glogAddr (d.log.glogSeq + 1) + 32 ≤ a → (d.glog x c b l).rdByte a = d.rdByte a)

/-- What a load-switch command leaves unchanged. For every device with the domains on and every load-switch command that is a
command of a port, an input, a current, a temperature, a budget, an inrush window, an open load or a Hall monitor: it answers
a next state in which every byte of memory, every register outside the load-switch page, the fused part, the ledger, the
power path and the bays are as they were. (R396, R398, R404, R407, R414) -/
def Obligations.LoadSwitchFrame : Prop :=
  ∀ (d : Dev) (q : List Instr) (m : Master) (c : Fin 12) (k : BitVec 12) (u : BitVec 16) (w : Word) (b : Bool) (v : Vector ChMeas 12) (o : OlSense) (h : Fin 2)
    (i : Instr), d.pwr.off = false →
    i ∈ [.cmdOn m k, .cmdOff m k, .latchClr m k, .hmKick m, .nop w, .setOn w, .setOff w, .readStat w, .readCur w, .spiLatchClr w,
      .spiFrameError, .dinInputChange c b, .lswCurrentLimit c u, .limitRecover c u, .thermalTrip c, .lswRestart c k, .budgetCut v,
      .inrushWindowEnd c, .openLoadDetect c o, .hallMonitorExpiry h] →
    ∃ t : Dev, exec i ⟨d, q⟩ = .next ⟨t, q⟩ ∧ (∀ a : Nat, t.rdByte a = d.rdByte a) ∧
      (∀ a : Nat, a < LSW.page ∨ LSW.page + 0x1000 ≤ a → t.rd a = d.rd a) ∧ t.chip = d.chip ∧ t.led = d.led ∧ t.ctc = d.ctc ∧
      t.bay = d.bay ∧ t.vlt = d.vlt ∧ t.pwr = d.pwr

/-- What a CAN command leaves unchanged. For every device with the domains on and every command of a CAN controller: it answers
a next state in which every byte of memory, every register outside the controller's page and the other controllers are as
they were. (R173, R174, R175) -/
def Obligations.CanFrame : Prop :=
  ∀ (d : Dev) (q : List Instr) (m : Master) (k : Fin 4) (w : Word) (f : Sys2Proof.CanFrame) (x : Bool)
    (i : Instr), d.pwr.off = false → i ∈ [.canTxPush m k w, .canRxPop m k, .canFrameRx k f x, .canFrameTx k x] →
    ∃ t : Dev, exec i ⟨d, q⟩ = .next ⟨t, q⟩ ∧ (∀ a : Nat, t.rdByte a = d.rdByte a) ∧
      (∀ a : Nat, a < CAN.page k ∨ CAN.page k + 0x1000 ≤ a → t.rd a = d.rd a) ∧
      (∀ j : Fin 4, j ≠ k → t.can[j] = d.can[j]) ∧ t.chip = d.chip ∧ t.led = d.led ∧ t.dma = d.dma

/-- What a primitive of a transition table leaves unchanged. For every device with the domains on and every primitive among the
duty, the pilot modes, the requests to the application, the closing request, the timers and the posted event: it answers a
next state in which every byte of memory, every register outside the bay's own page, the other bays, the ledger and the drive
of every contactor are as they were. (R140, R141, R142, R144) -/
def Obligations.PrimitiveFrame : Prop :=
  ∀ (d : Dev) (q : List Instr) (n : Bay) (u : BitVec 16) (e : BitVec 6) (a3 : BitVec 3) (k : Fin 8) (b : Bool) (i : Instr),
    d.pwr.off = false →
    i ∈ [.setDuty n u, .setStateX1 n, .setStateX2 n, .cpNeg n, .startSlac n, .requestAuth n a3, .notifyHost n u, .lock n b, .hlcStop n,
      .ctCloseAt n b, .startTimer n k u, .stopTimer n k, .postEvent n e] →
    ∃ t : Dev, exec i ⟨d, q⟩ = .next ⟨t, q⟩ ∧ (∀ a : Nat, t.rdByte a = d.rdByte a) ∧
      (∀ a : Nat, a < BAY.page n ∨ BAY.page n + 0x1000 ≤ a → t.rd a = d.rd a) ∧
      (∀ j : Bay, j ≠ n → t.bay[j] = d.bay[j]) ∧ t.led = d.led ∧ (∀ j : Bay, t.ctc[j].drv = d.ctc[j].drv) ∧ t.chip = d.chip

/-- What the fabric's roll call and timing leave unchanged. For every device with the domains on and every command among
synchronisation, greeting, loss of a link, election, beacon, report and wheel-time messages: it answers a next state in which
every byte of memory, every register outside the router's page and the ports' pages, the ledger, the vault and the power path
are as they were. (R426, R430, R433, R434, R439) -/
def Obligations.FabricFrame : Prop :=
  ∀ (d : Dev) (q : List Instr) (p : Fin 3) (u : BitVec 64) (a8 h : BitVec 8) (b : Bool) (v : BitVec 16) (r : Report) (i : Instr), d.pwr.off = false →
    i ∈ [.linkSync p, .hello p u a8, .helloPeriod, .linkDown p b v, .electionStart, .beacon u, .beaconPeriod, .report r, .sync u b h] →
    ∃ t : Dev, exec i ⟨d, q⟩ = .next ⟨t, q⟩ ∧ (∀ a : Nat, t.rdByte a = d.rdByte a) ∧
      (∀ a : Nat, a < YLR.page ∨ YLR.page + 0x4000 ≤ a → t.rd a = d.rd a) ∧ t.led = d.led ∧ t.vlt = d.vlt ∧ t.ctc = d.ctc ∧
      t.chip = d.chip

/-- With the domains off no waiting command acts. For every state whose domains are off after hold-up and in whose queue only
commands wait that VBAT, a field, a reset or the supply's return does not serve: every step answers a next state with the
same device, whose domains are off and whose queue is the old one without its front; so the state stays such a state. (R514,
R515, R516) -/
def Obligations.DarkStaysDark : Prop :=
  ∀ s t : State, s.dark = true → Sys2Proof.Machine.step s = .next t → t.dark = true ∧ t.dev = s.dev ∧ t.pending = s.pending.tail

/-- No run ends in a fault or a refusal. For every state, whatever commands wait, and for every number of steps: the run
reaches a next state; after as many steps as commands waited the queue is empty, and a step never adds a command to it. (R22,
R38, R39, R40) -/
def Obligations.NeverStops : Prop :=
  ∀ s : State, Safe s ∧ ∀ k : Nat, ∃ t : State, Sys2Proof.core.run k s = .next t ∧ t.pending = s.pending.drop k
end

