-- ==== Sys2Proof/Laws/Sparse.lean ====
section
/-!
SUPPORT. The laws of sparse tables: what a write leaves at every key, and that every operation keeps the canonical form.
-/
namespace Sys2Proof.Machine

variable {α : Type}

theorem Sparse.above_mono {b c : Nat} (h : b ≤ c) :
    ∀ {m : List (Nat × α)}, Sparse.sortedAbove (some c) m = true → Sparse.sortedAbove (some b) m = true := by
  intro m; cases m with
  | nil => intro _; rfl
  | cons e m =>
    obtain ⟨k, v⟩ := e
    simp only [Sparse.sortedAbove, Bool.and_eq_true, decide_eq_true_eq]
    exact fun ⟨h1, h2⟩ => ⟨Nat.lt_of_le_of_lt h h1, h2⟩

theorem Sparse.above_none {m : List (Nat × α)} {b : Nat} (h : Sparse.sortedAbove (some b) m = true) :
    Sparse.sortedAbove none m = true := by
  cases m with
  | nil => rfl
  | cons e m => obtain ⟨k, v⟩ := e; simp only [Sparse.sortedAbove, Bool.and_eq_true] at h ⊢; exact h.2

theorem Sparse.get_ins (d : Nat → α) (m : List (Nat × α)) (a b : Nat) (x : α) :
    Sparse.get d (Sparse.ins m a x) b = if b = a then x else Sparse.get d m b := by
  induction m with
  | nil => simp only [Sparse.ins, Sparse.get, eq_comm]
  | cons e m ih =>
    obtain ⟨k, v⟩ := e
    simp only [Sparse.ins]
    split
    · next h =>
      subst h
      simp only [Sparse.get]
      by_cases hb : b = k
      · simp [hb]
      · simp [hb, Ne.symm hb]
    · split
      · simp only [Sparse.get]
        by_cases hb : b = a
        · simp [hb]
        · simp [hb, Ne.symm hb]
      · next h1 h2 =>
        simp only [Sparse.get, ih]
        by_cases hb : k = b
        · subst hb; simp [h1]
        · simp [hb]

theorem Sparse.get_del (d : Nat → α) (m : List (Nat × α)) (a b : Nat) :
    Sparse.get d (Sparse.del m a) b = if b = a then d a else Sparse.get d m b := by
  unfold Sparse.del
  induction m with
  | nil => simp only [List.filter_nil, Sparse.get]; split <;> simp_all
  | cons e m ih =>
    obtain ⟨k, v⟩ := e
    by_cases hk : k = a
    · subst hk
      simp only [List.filter_cons, ne_eq, not_true_eq_false, decide_false, Bool.false_eq_true, if_false, ih, Sparse.get]
      by_cases hb : b = k
      · simp [hb]
      · simp [hb, Ne.symm hb]
    · simp only [List.filter_cons, ne_eq, hk, not_false_eq_true, decide_true, if_true, Sparse.get, ih]
      by_cases hb : k = b
      · subst hb; simp [hk]
      · simp [hb]

/-- What a write leaves at every key. -/
theorem Sparse.get_set [DecidableEq α] (d : Nat → α) (m : List (Nat × α)) (a b : Nat) (x : α) :
    Sparse.get d (Sparse.set d m a x) b = if b = a then x else Sparse.get d m b := by
  unfold Sparse.set
  split
  · next hx => rw [Sparse.get_del, hx]
  · exact Sparse.get_ins d m a b x

theorem Sparse.above_ins {a b : Nat} {x : α} (hb : b < a) :
    ∀ {m : List (Nat × α)}, Sparse.sortedAbove (some b) m = true → Sparse.sortedAbove (some b) (Sparse.ins m a x) = true := by
  intro m
  induction m generalizing b with
  | nil => intro _; simp [Sparse.ins, Sparse.sortedAbove, hb]
  | cons e m ih =>
    obtain ⟨k, v⟩ := e
    intro h
    simp only [Sparse.sortedAbove, Bool.and_eq_true, decide_eq_true_eq] at h
    simp only [Sparse.ins]
    split
    · next hk => subst hk; simp [Sparse.sortedAbove, h]
    · split
      · next h1 h2 => simp [Sparse.sortedAbove, hb, h2, h.2]
      · next h1 h2 =>
        simp only [Sparse.sortedAbove, Bool.and_eq_true, decide_eq_true_eq]
        exact ⟨h.1, ih (by omega) h.2⟩

theorem Sparse.above_del {a : Nat} :
    ∀ {m : List (Nat × α)} {o : Option Nat}, Sparse.sortedAbove o m = true →
      Sparse.sortedAbove o (Sparse.del m a) = true := by
  intro m
  unfold Sparse.del
  induction m with
  | nil => intro o _; cases o <;> rfl
  | cons e m ih =>
    obtain ⟨k, v⟩ := e
    intro o h
    by_cases hk : k = a
    · subst hk
      simp only [List.filter_cons, ne_eq, not_true_eq_false, decide_false, Bool.false_eq_true, if_false]
      cases o with
      | none => exact Sparse.above_none (ih h)
      | some b =>
        simp only [Sparse.sortedAbove, Bool.and_eq_true, decide_eq_true_eq] at h
        exact Sparse.above_mono (by omega) (ih h.2)
    · simp only [List.filter_cons, ne_eq, hk, not_false_eq_true, decide_true, if_true]
      cases o with
      | none => exact ih h
      | some b =>
        simp only [Sparse.sortedAbove, Bool.and_eq_true, decide_eq_true_eq] at h ⊢
        exact ⟨h.1, ih h.2⟩

theorem Sparse.sorted_ins {m : List (Nat × α)} {a : Nat} {x : α} (h : Sparse.sortedAbove none m = true) :
    Sparse.sortedAbove none (Sparse.ins m a x) = true := by
  cases m with
  | nil => rfl
  | cons e m =>
    obtain ⟨k, v⟩ := e
    have hk : Sparse.sortedAbove (some k) m = true := h
    simp only [Sparse.ins]
    split
    · next hka => subst hka; exact hk
    · split
      · next h2 => simp [Sparse.sortedAbove, h2, hk]
      · exact Sparse.above_ins (by omega) hk

theorem Sparse.all_del {p : Nat × α → Bool} {m : List (Nat × α)} {a : Nat} (h : m.all p = true) :
    (Sparse.del m a).all p = true := by
  unfold Sparse.del
  rw [List.all_eq_true] at h ⊢
  exact fun e he => h e (List.mem_filter.mp he).1

theorem Sparse.all_ins {p : Nat × α → Bool} {m : List (Nat × α)} {a : Nat} {x : α} (hx : p (a, x) = true)
    (h : m.all p = true) : (Sparse.ins m a x).all p = true := by
  induction m with
  | nil => simp [Sparse.ins, hx]
  | cons e m ih =>
    obtain ⟨k, v⟩ := e
    have h' := h
    simp only [List.all_cons, Bool.and_eq_true] at h
    simp only [Sparse.ins]
    split
    · simp only [List.all_cons, Bool.and_eq_true]; exact ⟨hx, h.2⟩
    · split
      · simp only [List.all_cons, Bool.and_eq_true]; exact ⟨hx, h.1, h.2⟩
      · simp only [List.all_cons, Bool.and_eq_true]; exact ⟨h.1, ih h.2⟩

/-- A write keeps the canonical form. -/
theorem Sparse.wf_set [DecidableEq α] {d : Nat → α} {m : List (Nat × α)} (h : Sparse.wf d m = true) (a : Nat) (x : α) :
    Sparse.wf d (Sparse.set d m a x) = true := by
  simp only [Sparse.wf, Bool.and_eq_true] at h ⊢
  unfold Sparse.set
  split
  · exact ⟨Sparse.above_del h.1, Sparse.all_del h.2⟩
  · next hx => exact ⟨Sparse.sorted_ins h.1, Sparse.all_ins (by simpa using hx) h.2⟩

end Sys2Proof.Machine
end

