-- ==== Sys2Proof/Laws/State.lean ====
section
/-!
SUPPORT. What each register and memory operation leaves in each field of the device (one lemma per field and operation, true by
definition), what reads give after writes, and that every operation keeps the canonical form.
-/
namespace Sys2Proof.Machine

/-! ### Fields a register write leaves -/

@[simp] theorem Dev.wr_chip (d : Dev) (a : Nat) (w : Word) : (d.wr a w).chip = d.chip := rfl
@[simp] theorem Dev.wr_now (d : Dev) (a : Nat) (w : Word) : (d.wr a w).now = d.now := rfl
@[simp] theorem Dev.wr_raw (d : Dev) (a : Nat) (w : Word) : (d.wr a w).raw = d.raw := rfl
@[simp] theorem Dev.wr_mem (d : Dev) (a : Nat) (w : Word) : (d.wr a w).mem = d.mem := rfl
@[simp] theorem Dev.wr_hostOut (d : Dev) (a : Nat) (w : Word) : (d.wr a w).hostOut = d.hostOut := rfl
@[simp] theorem Dev.wr_mbox (d : Dev) (a : Nat) (w : Word) : (d.wr a w).mbox = d.mbox := rfl
@[simp] theorem Dev.wr_fresh (d : Dev) (a : Nat) (w : Word) : (d.wr a w).fresh = d.fresh := rfl
@[simp] theorem Dev.wr_bay (d : Dev) (a : Nat) (w : Word) : (d.wr a w).bay = d.bay := rfl
@[simp] theorem Dev.wr_ctc (d : Dev) (a : Nat) (w : Word) : (d.wr a w).ctc = d.ctc := rfl
@[simp] theorem Dev.wr_rcd (d : Dev) (a : Nat) (w : Word) : (d.wr a w).rcd = d.rcd := rfl
@[simp] theorem Dev.wr_imd (d : Dev) (a : Nat) (w : Word) : (d.wr a w).imd = d.imd := rfl
@[simp] theorem Dev.wr_saf (d : Dev) (a : Nat) (w : Word) : (d.wr a w).saf = d.saf := rfl
@[simp] theorem Dev.wr_rtc (d : Dev) (a : Nat) (w : Word) : (d.wr a w).rtc = d.rtc := rfl
@[simp] theorem Dev.wr_log (d : Dev) (a : Nat) (w : Word) : (d.wr a w).log = d.log := rfl
@[simp] theorem Dev.wr_lsw (d : Dev) (a : Nat) (w : Word) : (d.wr a w).lsw = d.lsw := rfl
@[simp] theorem Dev.wr_car (d : Dev) (a : Nat) (w : Word) : (d.wr a w).car = d.car := rfl
@[simp] theorem Dev.wr_mpl (d : Dev) (a : Nat) (w : Word) : (d.wr a w).mpl = d.mpl := rfl
@[simp] theorem Dev.wr_met (d : Dev) (a : Nat) (w : Word) : (d.wr a w).met = d.met := rfl
@[simp] theorem Dev.wr_linkOut (d : Dev) (a : Nat) (w : Word) : (d.wr a w).linkOut = d.linkOut := rfl
@[simp] theorem Dev.wr_pair (d : Dev) (a : Nat) (w : Word) : (d.wr a w).pair = d.pair := rfl
@[simp] theorem Dev.wr_led (d : Dev) (a : Nat) (w : Word) : (d.wr a w).led = d.led := rfl
@[simp] theorem Dev.wr_roles (d : Dev) (a : Nat) (w : Word) : (d.wr a w).roles = d.roles := rfl
@[simp] theorem Dev.wr_links (d : Dev) (a : Nat) (w : Word) : (d.wr a w).links = d.links := rfl
@[simp] theorem Dev.wr_vlt (d : Dev) (a : Nat) (w : Word) : (d.wr a w).vlt = d.vlt := rfl
@[simp] theorem Dev.wr_nfr (d : Dev) (a : Nat) (w : Word) : (d.wr a w).nfr = d.nfr := rfl
@[simp] theorem Dev.wr_tag (d : Dev) (a : Nat) (w : Word) : (d.wr a w).tag = d.tag := rfl
@[simp] theorem Dev.wr_epd (d : Dev) (a : Nat) (w : Word) : (d.wr a w).epd = d.epd := rfl
@[simp] theorem Dev.wr_upd (d : Dev) (a : Nat) (w : Word) : (d.wr a w).upd = d.upd := rfl
@[simp] theorem Dev.wr_dma (d : Dev) (a : Nat) (w : Word) : (d.wr a w).dma = d.dma := rfl
@[simp] theorem Dev.wr_wav (d : Dev) (a : Nat) (w : Word) : (d.wr a w).wav = d.wav := rfl
@[simp] theorem Dev.wr_plc (d : Dev) (a : Nat) (w : Word) : (d.wr a w).plc = d.plc := rfl
@[simp] theorem Dev.wr_exi (d : Dev) (a : Nat) (w : Word) : (d.wr a w).exi = d.exi := rfl
@[simp] theorem Dev.wr_can (d : Dev) (a : Nat) (w : Word) : (d.wr a w).can = d.can := rfl
@[simp] theorem Dev.wr_ylr (d : Dev) (a : Nat) (w : Word) : (d.wr a w).ylr = d.ylr := rfl
@[simp] theorem Dev.wr_hif (d : Dev) (a : Nat) (w : Word) : (d.wr a w).hif = d.hif := rfl
@[simp] theorem Dev.wr_bus (d : Dev) (a : Nat) (w : Word) : (d.wr a w).bus = d.bus := rfl
@[simp] theorem Dev.wr_expKey (d : Dev) (a : Nat) (w : Word) : (d.wr a w).expKey = d.expKey := rfl
@[simp] theorem Dev.wr_mboxIrq (d : Dev) (a : Nat) (w : Word) : (d.wr a w).mboxIrq = d.mboxIrq := rfl
@[simp] theorem Dev.wr_loopHost (d : Dev) (a : Nat) (w : Word) : (d.wr a w).loopHost = d.loopHost := rfl
@[simp] theorem Dev.wr_pwr (d : Dev) (a : Nat) (w : Word) : (d.wr a w).pwr = d.pwr := rfl
@[simp] theorem Dev.wr_sar (d : Dev) (a : Nat) (w : Word) : (d.wr a w).sar = d.sar := rfl
@[simp] theorem Dev.wr_uart (d : Dev) (a : Nat) (w : Word) : (d.wr a w).uart = d.uart := rfl
@[simp] theorem Dev.wr_i2c (d : Dev) (a : Nat) (w : Word) : (d.wr a w).i2c = d.i2c := rfl
@[simp] theorem Dev.wr_ospi (d : Dev) (a : Nat) (w : Word) : (d.wr a w).ospi = d.ospi := rfl
@[simp] theorem Dev.wr_plic (d : Dev) (a : Nat) (w : Word) : (d.wr a w).plic = d.plic := rfl
@[simp] theorem Dev.wr_testAge (d : Dev) (a : Nat) (w : Word) : (d.wr a w).testAge = d.testAge := rfl

@[simp] theorem Dev.wrN_chip (d : Dev) (a n : Nat) : (d.wrN a n).chip = d.chip := rfl
@[simp] theorem Dev.wrN_now (d : Dev) (a n : Nat) : (d.wrN a n).now = d.now := rfl
@[simp] theorem Dev.wrN_raw (d : Dev) (a n : Nat) : (d.wrN a n).raw = d.raw := rfl
@[simp] theorem Dev.wrN_mem (d : Dev) (a n : Nat) : (d.wrN a n).mem = d.mem := rfl
@[simp] theorem Dev.wrN_hostOut (d : Dev) (a n : Nat) : (d.wrN a n).hostOut = d.hostOut := rfl
@[simp] theorem Dev.wrN_mbox (d : Dev) (a n : Nat) : (d.wrN a n).mbox = d.mbox := rfl
@[simp] theorem Dev.wrN_fresh (d : Dev) (a n : Nat) : (d.wrN a n).fresh = d.fresh := rfl
@[simp] theorem Dev.wrN_bay (d : Dev) (a n : Nat) : (d.wrN a n).bay = d.bay := rfl
@[simp] theorem Dev.wrN_ctc (d : Dev) (a n : Nat) : (d.wrN a n).ctc = d.ctc := rfl
@[simp] theorem Dev.wrN_rcd (d : Dev) (a n : Nat) : (d.wrN a n).rcd = d.rcd := rfl
@[simp] theorem Dev.wrN_imd (d : Dev) (a n : Nat) : (d.wrN a n).imd = d.imd := rfl
@[simp] theorem Dev.wrN_saf (d : Dev) (a n : Nat) : (d.wrN a n).saf = d.saf := rfl
@[simp] theorem Dev.wrN_rtc (d : Dev) (a n : Nat) : (d.wrN a n).rtc = d.rtc := rfl
@[simp] theorem Dev.wrN_log (d : Dev) (a n : Nat) : (d.wrN a n).log = d.log := rfl
@[simp] theorem Dev.wrN_lsw (d : Dev) (a n : Nat) : (d.wrN a n).lsw = d.lsw := rfl
@[simp] theorem Dev.wrN_car (d : Dev) (a n : Nat) : (d.wrN a n).car = d.car := rfl
@[simp] theorem Dev.wrN_mpl (d : Dev) (a n : Nat) : (d.wrN a n).mpl = d.mpl := rfl
@[simp] theorem Dev.wrN_met (d : Dev) (a n : Nat) : (d.wrN a n).met = d.met := rfl
@[simp] theorem Dev.wrN_linkOut (d : Dev) (a n : Nat) : (d.wrN a n).linkOut = d.linkOut := rfl
@[simp] theorem Dev.wrN_pair (d : Dev) (a n : Nat) : (d.wrN a n).pair = d.pair := rfl
@[simp] theorem Dev.wrN_led (d : Dev) (a n : Nat) : (d.wrN a n).led = d.led := rfl
@[simp] theorem Dev.wrN_roles (d : Dev) (a n : Nat) : (d.wrN a n).roles = d.roles := rfl
@[simp] theorem Dev.wrN_links (d : Dev) (a n : Nat) : (d.wrN a n).links = d.links := rfl
@[simp] theorem Dev.wrN_vlt (d : Dev) (a n : Nat) : (d.wrN a n).vlt = d.vlt := rfl
@[simp] theorem Dev.wrN_nfr (d : Dev) (a n : Nat) : (d.wrN a n).nfr = d.nfr := rfl
@[simp] theorem Dev.wrN_tag (d : Dev) (a n : Nat) : (d.wrN a n).tag = d.tag := rfl
@[simp] theorem Dev.wrN_epd (d : Dev) (a n : Nat) : (d.wrN a n).epd = d.epd := rfl
@[simp] theorem Dev.wrN_upd (d : Dev) (a n : Nat) : (d.wrN a n).upd = d.upd := rfl
@[simp] theorem Dev.wrN_dma (d : Dev) (a n : Nat) : (d.wrN a n).dma = d.dma := rfl
@[simp] theorem Dev.wrN_wav (d : Dev) (a n : Nat) : (d.wrN a n).wav = d.wav := rfl
@[simp] theorem Dev.wrN_plc (d : Dev) (a n : Nat) : (d.wrN a n).plc = d.plc := rfl
@[simp] theorem Dev.wrN_exi (d : Dev) (a n : Nat) : (d.wrN a n).exi = d.exi := rfl
@[simp] theorem Dev.wrN_can (d : Dev) (a n : Nat) : (d.wrN a n).can = d.can := rfl
@[simp] theorem Dev.wrN_ylr (d : Dev) (a n : Nat) : (d.wrN a n).ylr = d.ylr := rfl
@[simp] theorem Dev.wrN_hif (d : Dev) (a n : Nat) : (d.wrN a n).hif = d.hif := rfl
@[simp] theorem Dev.wrN_bus (d : Dev) (a n : Nat) : (d.wrN a n).bus = d.bus := rfl
@[simp] theorem Dev.wrN_expKey (d : Dev) (a n : Nat) : (d.wrN a n).expKey = d.expKey := rfl
@[simp] theorem Dev.wrN_mboxIrq (d : Dev) (a n : Nat) : (d.wrN a n).mboxIrq = d.mboxIrq := rfl
@[simp] theorem Dev.wrN_loopHost (d : Dev) (a n : Nat) : (d.wrN a n).loopHost = d.loopHost := rfl
@[simp] theorem Dev.wrN_pwr (d : Dev) (a n : Nat) : (d.wrN a n).pwr = d.pwr := rfl
@[simp] theorem Dev.wrN_sar (d : Dev) (a n : Nat) : (d.wrN a n).sar = d.sar := rfl
@[simp] theorem Dev.wrN_uart (d : Dev) (a n : Nat) : (d.wrN a n).uart = d.uart := rfl
@[simp] theorem Dev.wrN_i2c (d : Dev) (a n : Nat) : (d.wrN a n).i2c = d.i2c := rfl
@[simp] theorem Dev.wrN_ospi (d : Dev) (a n : Nat) : (d.wrN a n).ospi = d.ospi := rfl
@[simp] theorem Dev.wrN_plic (d : Dev) (a n : Nat) : (d.wrN a n).plic = d.plic := rfl
@[simp] theorem Dev.wrN_testAge (d : Dev) (a n : Nat) : (d.wrN a n).testAge = d.testAge := rfl

@[simp] theorem Dev.set_chip (d : Dev) (f : Fld) (v : Nat) : (d.set f v).chip = d.chip := rfl
@[simp] theorem Dev.set_now (d : Dev) (f : Fld) (v : Nat) : (d.set f v).now = d.now := rfl
@[simp] theorem Dev.set_raw (d : Dev) (f : Fld) (v : Nat) : (d.set f v).raw = d.raw := rfl
@[simp] theorem Dev.set_mem (d : Dev) (f : Fld) (v : Nat) : (d.set f v).mem = d.mem := rfl
@[simp] theorem Dev.set_hostOut (d : Dev) (f : Fld) (v : Nat) : (d.set f v).hostOut = d.hostOut := rfl
@[simp] theorem Dev.set_mbox (d : Dev) (f : Fld) (v : Nat) : (d.set f v).mbox = d.mbox := rfl
@[simp] theorem Dev.set_fresh (d : Dev) (f : Fld) (v : Nat) : (d.set f v).fresh = d.fresh := rfl
@[simp] theorem Dev.set_bay (d : Dev) (f : Fld) (v : Nat) : (d.set f v).bay = d.bay := rfl
@[simp] theorem Dev.set_ctc (d : Dev) (f : Fld) (v : Nat) : (d.set f v).ctc = d.ctc := rfl
@[simp] theorem Dev.set_rcd (d : Dev) (f : Fld) (v : Nat) : (d.set f v).rcd = d.rcd := rfl
@[simp] theorem Dev.set_imd (d : Dev) (f : Fld) (v : Nat) : (d.set f v).imd = d.imd := rfl
@[simp] theorem Dev.set_saf (d : Dev) (f : Fld) (v : Nat) : (d.set f v).saf = d.saf := rfl
@[simp] theorem Dev.set_rtc (d : Dev) (f : Fld) (v : Nat) : (d.set f v).rtc = d.rtc := rfl
@[simp] theorem Dev.set_log (d : Dev) (f : Fld) (v : Nat) : (d.set f v).log = d.log := rfl
@[simp] theorem Dev.set_lsw (d : Dev) (f : Fld) (v : Nat) : (d.set f v).lsw = d.lsw := rfl
@[simp] theorem Dev.set_car (d : Dev) (f : Fld) (v : Nat) : (d.set f v).car = d.car := rfl
@[simp] theorem Dev.set_mpl (d : Dev) (f : Fld) (v : Nat) : (d.set f v).mpl = d.mpl := rfl
@[simp] theorem Dev.set_met (d : Dev) (f : Fld) (v : Nat) : (d.set f v).met = d.met := rfl
@[simp] theorem Dev.set_linkOut (d : Dev) (f : Fld) (v : Nat) : (d.set f v).linkOut = d.linkOut := rfl
@[simp] theorem Dev.set_pair (d : Dev) (f : Fld) (v : Nat) : (d.set f v).pair = d.pair := rfl
@[simp] theorem Dev.set_led (d : Dev) (f : Fld) (v : Nat) : (d.set f v).led = d.led := rfl
@[simp] theorem Dev.set_roles (d : Dev) (f : Fld) (v : Nat) : (d.set f v).roles = d.roles := rfl
@[simp] theorem Dev.set_links (d : Dev) (f : Fld) (v : Nat) : (d.set f v).links = d.links := rfl
@[simp] theorem Dev.set_vlt (d : Dev) (f : Fld) (v : Nat) : (d.set f v).vlt = d.vlt := rfl
@[simp] theorem Dev.set_nfr (d : Dev) (f : Fld) (v : Nat) : (d.set f v).nfr = d.nfr := rfl
@[simp] theorem Dev.set_tag (d : Dev) (f : Fld) (v : Nat) : (d.set f v).tag = d.tag := rfl
@[simp] theorem Dev.set_epd (d : Dev) (f : Fld) (v : Nat) : (d.set f v).epd = d.epd := rfl
@[simp] theorem Dev.set_upd (d : Dev) (f : Fld) (v : Nat) : (d.set f v).upd = d.upd := rfl
@[simp] theorem Dev.set_dma (d : Dev) (f : Fld) (v : Nat) : (d.set f v).dma = d.dma := rfl
@[simp] theorem Dev.set_wav (d : Dev) (f : Fld) (v : Nat) : (d.set f v).wav = d.wav := rfl
@[simp] theorem Dev.set_plc (d : Dev) (f : Fld) (v : Nat) : (d.set f v).plc = d.plc := rfl
@[simp] theorem Dev.set_exi (d : Dev) (f : Fld) (v : Nat) : (d.set f v).exi = d.exi := rfl
@[simp] theorem Dev.set_can (d : Dev) (f : Fld) (v : Nat) : (d.set f v).can = d.can := rfl
@[simp] theorem Dev.set_ylr (d : Dev) (f : Fld) (v : Nat) : (d.set f v).ylr = d.ylr := rfl
@[simp] theorem Dev.set_hif (d : Dev) (f : Fld) (v : Nat) : (d.set f v).hif = d.hif := rfl
@[simp] theorem Dev.set_bus (d : Dev) (f : Fld) (v : Nat) : (d.set f v).bus = d.bus := rfl
@[simp] theorem Dev.set_expKey (d : Dev) (f : Fld) (v : Nat) : (d.set f v).expKey = d.expKey := rfl
@[simp] theorem Dev.set_mboxIrq (d : Dev) (f : Fld) (v : Nat) : (d.set f v).mboxIrq = d.mboxIrq := rfl
@[simp] theorem Dev.set_loopHost (d : Dev) (f : Fld) (v : Nat) : (d.set f v).loopHost = d.loopHost := rfl
@[simp] theorem Dev.set_pwr (d : Dev) (f : Fld) (v : Nat) : (d.set f v).pwr = d.pwr := rfl
@[simp] theorem Dev.set_sar (d : Dev) (f : Fld) (v : Nat) : (d.set f v).sar = d.sar := rfl
@[simp] theorem Dev.set_uart (d : Dev) (f : Fld) (v : Nat) : (d.set f v).uart = d.uart := rfl
@[simp] theorem Dev.set_i2c (d : Dev) (f : Fld) (v : Nat) : (d.set f v).i2c = d.i2c := rfl
@[simp] theorem Dev.set_ospi (d : Dev) (f : Fld) (v : Nat) : (d.set f v).ospi = d.ospi := rfl
@[simp] theorem Dev.set_plic (d : Dev) (f : Fld) (v : Nat) : (d.set f v).plic = d.plic := rfl
@[simp] theorem Dev.set_testAge (d : Dev) (f : Fld) (v : Nat) : (d.set f v).testAge = d.testAge := rfl

@[simp] theorem Dev.setBit_chip (d : Dev) (f : Fld) (b : Bool) : (d.setBit f b).chip = d.chip := rfl
@[simp] theorem Dev.setBit_now (d : Dev) (f : Fld) (b : Bool) : (d.setBit f b).now = d.now := rfl
@[simp] theorem Dev.setBit_raw (d : Dev) (f : Fld) (b : Bool) : (d.setBit f b).raw = d.raw := rfl
@[simp] theorem Dev.setBit_mem (d : Dev) (f : Fld) (b : Bool) : (d.setBit f b).mem = d.mem := rfl
@[simp] theorem Dev.setBit_hostOut (d : Dev) (f : Fld) (b : Bool) : (d.setBit f b).hostOut = d.hostOut := rfl
@[simp] theorem Dev.setBit_mbox (d : Dev) (f : Fld) (b : Bool) : (d.setBit f b).mbox = d.mbox := rfl
@[simp] theorem Dev.setBit_fresh (d : Dev) (f : Fld) (b : Bool) : (d.setBit f b).fresh = d.fresh := rfl
@[simp] theorem Dev.setBit_bay (d : Dev) (f : Fld) (b : Bool) : (d.setBit f b).bay = d.bay := rfl
@[simp] theorem Dev.setBit_ctc (d : Dev) (f : Fld) (b : Bool) : (d.setBit f b).ctc = d.ctc := rfl
@[simp] theorem Dev.setBit_rcd (d : Dev) (f : Fld) (b : Bool) : (d.setBit f b).rcd = d.rcd := rfl
@[simp] theorem Dev.setBit_imd (d : Dev) (f : Fld) (b : Bool) : (d.setBit f b).imd = d.imd := rfl
@[simp] theorem Dev.setBit_saf (d : Dev) (f : Fld) (b : Bool) : (d.setBit f b).saf = d.saf := rfl
@[simp] theorem Dev.setBit_rtc (d : Dev) (f : Fld) (b : Bool) : (d.setBit f b).rtc = d.rtc := rfl
@[simp] theorem Dev.setBit_log (d : Dev) (f : Fld) (b : Bool) : (d.setBit f b).log = d.log := rfl
@[simp] theorem Dev.setBit_lsw (d : Dev) (f : Fld) (b : Bool) : (d.setBit f b).lsw = d.lsw := rfl
@[simp] theorem Dev.setBit_car (d : Dev) (f : Fld) (b : Bool) : (d.setBit f b).car = d.car := rfl
@[simp] theorem Dev.setBit_mpl (d : Dev) (f : Fld) (b : Bool) : (d.setBit f b).mpl = d.mpl := rfl
@[simp] theorem Dev.setBit_met (d : Dev) (f : Fld) (b : Bool) : (d.setBit f b).met = d.met := rfl
@[simp] theorem Dev.setBit_linkOut (d : Dev) (f : Fld) (b : Bool) : (d.setBit f b).linkOut = d.linkOut := rfl
@[simp] theorem Dev.setBit_pair (d : Dev) (f : Fld) (b : Bool) : (d.setBit f b).pair = d.pair := rfl
@[simp] theorem Dev.setBit_led (d : Dev) (f : Fld) (b : Bool) : (d.setBit f b).led = d.led := rfl
@[simp] theorem Dev.setBit_roles (d : Dev) (f : Fld) (b : Bool) : (d.setBit f b).roles = d.roles := rfl
@[simp] theorem Dev.setBit_links (d : Dev) (f : Fld) (b : Bool) : (d.setBit f b).links = d.links := rfl
@[simp] theorem Dev.setBit_vlt (d : Dev) (f : Fld) (b : Bool) : (d.setBit f b).vlt = d.vlt := rfl
@[simp] theorem Dev.setBit_nfr (d : Dev) (f : Fld) (b : Bool) : (d.setBit f b).nfr = d.nfr := rfl
@[simp] theorem Dev.setBit_tag (d : Dev) (f : Fld) (b : Bool) : (d.setBit f b).tag = d.tag := rfl
@[simp] theorem Dev.setBit_epd (d : Dev) (f : Fld) (b : Bool) : (d.setBit f b).epd = d.epd := rfl
@[simp] theorem Dev.setBit_upd (d : Dev) (f : Fld) (b : Bool) : (d.setBit f b).upd = d.upd := rfl
@[simp] theorem Dev.setBit_dma (d : Dev) (f : Fld) (b : Bool) : (d.setBit f b).dma = d.dma := rfl
@[simp] theorem Dev.setBit_wav (d : Dev) (f : Fld) (b : Bool) : (d.setBit f b).wav = d.wav := rfl
@[simp] theorem Dev.setBit_plc (d : Dev) (f : Fld) (b : Bool) : (d.setBit f b).plc = d.plc := rfl
@[simp] theorem Dev.setBit_exi (d : Dev) (f : Fld) (b : Bool) : (d.setBit f b).exi = d.exi := rfl
@[simp] theorem Dev.setBit_can (d : Dev) (f : Fld) (b : Bool) : (d.setBit f b).can = d.can := rfl
@[simp] theorem Dev.setBit_ylr (d : Dev) (f : Fld) (b : Bool) : (d.setBit f b).ylr = d.ylr := rfl
@[simp] theorem Dev.setBit_hif (d : Dev) (f : Fld) (b : Bool) : (d.setBit f b).hif = d.hif := rfl
@[simp] theorem Dev.setBit_bus (d : Dev) (f : Fld) (b : Bool) : (d.setBit f b).bus = d.bus := rfl
@[simp] theorem Dev.setBit_expKey (d : Dev) (f : Fld) (b : Bool) : (d.setBit f b).expKey = d.expKey := rfl
@[simp] theorem Dev.setBit_mboxIrq (d : Dev) (f : Fld) (b : Bool) : (d.setBit f b).mboxIrq = d.mboxIrq := rfl
@[simp] theorem Dev.setBit_loopHost (d : Dev) (f : Fld) (b : Bool) : (d.setBit f b).loopHost = d.loopHost := rfl
@[simp] theorem Dev.setBit_pwr (d : Dev) (f : Fld) (b : Bool) : (d.setBit f b).pwr = d.pwr := rfl
@[simp] theorem Dev.setBit_sar (d : Dev) (f : Fld) (b : Bool) : (d.setBit f b).sar = d.sar := rfl
@[simp] theorem Dev.setBit_uart (d : Dev) (f : Fld) (b : Bool) : (d.setBit f b).uart = d.uart := rfl
@[simp] theorem Dev.setBit_i2c (d : Dev) (f : Fld) (b : Bool) : (d.setBit f b).i2c = d.i2c := rfl
@[simp] theorem Dev.setBit_ospi (d : Dev) (f : Fld) (b : Bool) : (d.setBit f b).ospi = d.ospi := rfl
@[simp] theorem Dev.setBit_plic (d : Dev) (f : Fld) (b : Bool) : (d.setBit f b).plic = d.plic := rfl
@[simp] theorem Dev.setBit_testAge (d : Dev) (f : Fld) (b : Bool) : (d.setBit f b).testAge = d.testAge := rfl

@[simp] theorem Dev.bump_chip (d : Dev) (f : Fld) : (d.bump f).chip = d.chip := rfl
@[simp] theorem Dev.bump_now (d : Dev) (f : Fld) : (d.bump f).now = d.now := rfl
@[simp] theorem Dev.bump_raw (d : Dev) (f : Fld) : (d.bump f).raw = d.raw := rfl
@[simp] theorem Dev.bump_mem (d : Dev) (f : Fld) : (d.bump f).mem = d.mem := rfl
@[simp] theorem Dev.bump_hostOut (d : Dev) (f : Fld) : (d.bump f).hostOut = d.hostOut := rfl
@[simp] theorem Dev.bump_mbox (d : Dev) (f : Fld) : (d.bump f).mbox = d.mbox := rfl
@[simp] theorem Dev.bump_fresh (d : Dev) (f : Fld) : (d.bump f).fresh = d.fresh := rfl
@[simp] theorem Dev.bump_bay (d : Dev) (f : Fld) : (d.bump f).bay = d.bay := rfl
@[simp] theorem Dev.bump_ctc (d : Dev) (f : Fld) : (d.bump f).ctc = d.ctc := rfl
@[simp] theorem Dev.bump_rcd (d : Dev) (f : Fld) : (d.bump f).rcd = d.rcd := rfl
@[simp] theorem Dev.bump_imd (d : Dev) (f : Fld) : (d.bump f).imd = d.imd := rfl
@[simp] theorem Dev.bump_saf (d : Dev) (f : Fld) : (d.bump f).saf = d.saf := rfl
@[simp] theorem Dev.bump_rtc (d : Dev) (f : Fld) : (d.bump f).rtc = d.rtc := rfl
@[simp] theorem Dev.bump_log (d : Dev) (f : Fld) : (d.bump f).log = d.log := rfl
@[simp] theorem Dev.bump_lsw (d : Dev) (f : Fld) : (d.bump f).lsw = d.lsw := rfl
@[simp] theorem Dev.bump_car (d : Dev) (f : Fld) : (d.bump f).car = d.car := rfl
@[simp] theorem Dev.bump_mpl (d : Dev) (f : Fld) : (d.bump f).mpl = d.mpl := rfl
@[simp] theorem Dev.bump_met (d : Dev) (f : Fld) : (d.bump f).met = d.met := rfl
@[simp] theorem Dev.bump_linkOut (d : Dev) (f : Fld) : (d.bump f).linkOut = d.linkOut := rfl
@[simp] theorem Dev.bump_pair (d : Dev) (f : Fld) : (d.bump f).pair = d.pair := rfl
@[simp] theorem Dev.bump_led (d : Dev) (f : Fld) : (d.bump f).led = d.led := rfl
@[simp] theorem Dev.bump_roles (d : Dev) (f : Fld) : (d.bump f).roles = d.roles := rfl
@[simp] theorem Dev.bump_links (d : Dev) (f : Fld) : (d.bump f).links = d.links := rfl
@[simp] theorem Dev.bump_vlt (d : Dev) (f : Fld) : (d.bump f).vlt = d.vlt := rfl
@[simp] theorem Dev.bump_nfr (d : Dev) (f : Fld) : (d.bump f).nfr = d.nfr := rfl
@[simp] theorem Dev.bump_tag (d : Dev) (f : Fld) : (d.bump f).tag = d.tag := rfl
@[simp] theorem Dev.bump_epd (d : Dev) (f : Fld) : (d.bump f).epd = d.epd := rfl
@[simp] theorem Dev.bump_upd (d : Dev) (f : Fld) : (d.bump f).upd = d.upd := rfl
@[simp] theorem Dev.bump_dma (d : Dev) (f : Fld) : (d.bump f).dma = d.dma := rfl
@[simp] theorem Dev.bump_wav (d : Dev) (f : Fld) : (d.bump f).wav = d.wav := rfl
@[simp] theorem Dev.bump_plc (d : Dev) (f : Fld) : (d.bump f).plc = d.plc := rfl
@[simp] theorem Dev.bump_exi (d : Dev) (f : Fld) : (d.bump f).exi = d.exi := rfl
@[simp] theorem Dev.bump_can (d : Dev) (f : Fld) : (d.bump f).can = d.can := rfl
@[simp] theorem Dev.bump_ylr (d : Dev) (f : Fld) : (d.bump f).ylr = d.ylr := rfl
@[simp] theorem Dev.bump_hif (d : Dev) (f : Fld) : (d.bump f).hif = d.hif := rfl
@[simp] theorem Dev.bump_bus (d : Dev) (f : Fld) : (d.bump f).bus = d.bus := rfl
@[simp] theorem Dev.bump_expKey (d : Dev) (f : Fld) : (d.bump f).expKey = d.expKey := rfl
@[simp] theorem Dev.bump_mboxIrq (d : Dev) (f : Fld) : (d.bump f).mboxIrq = d.mboxIrq := rfl
@[simp] theorem Dev.bump_loopHost (d : Dev) (f : Fld) : (d.bump f).loopHost = d.loopHost := rfl
@[simp] theorem Dev.bump_pwr (d : Dev) (f : Fld) : (d.bump f).pwr = d.pwr := rfl
@[simp] theorem Dev.bump_sar (d : Dev) (f : Fld) : (d.bump f).sar = d.sar := rfl
@[simp] theorem Dev.bump_uart (d : Dev) (f : Fld) : (d.bump f).uart = d.uart := rfl
@[simp] theorem Dev.bump_i2c (d : Dev) (f : Fld) : (d.bump f).i2c = d.i2c := rfl
@[simp] theorem Dev.bump_ospi (d : Dev) (f : Fld) : (d.bump f).ospi = d.ospi := rfl
@[simp] theorem Dev.bump_plic (d : Dev) (f : Fld) : (d.bump f).plic = d.plic := rfl
@[simp] theorem Dev.bump_testAge (d : Dev) (f : Fld) : (d.bump f).testAge = d.testAge := rfl

@[simp] theorem Dev.setFlag_chip (d : Dev) (f : Fld) (i : Nat) (b : Bool) : (d.setFlag f i b).chip = d.chip := rfl
@[simp] theorem Dev.setFlag_now (d : Dev) (f : Fld) (i : Nat) (b : Bool) : (d.setFlag f i b).now = d.now := rfl
@[simp] theorem Dev.setFlag_raw (d : Dev) (f : Fld) (i : Nat) (b : Bool) : (d.setFlag f i b).raw = d.raw := rfl
@[simp] theorem Dev.setFlag_mem (d : Dev) (f : Fld) (i : Nat) (b : Bool) : (d.setFlag f i b).mem = d.mem := rfl
@[simp] theorem Dev.setFlag_hostOut (d : Dev) (f : Fld) (i : Nat) (b : Bool) : (d.setFlag f i b).hostOut = d.hostOut := rfl
@[simp] theorem Dev.setFlag_mbox (d : Dev) (f : Fld) (i : Nat) (b : Bool) : (d.setFlag f i b).mbox = d.mbox := rfl
@[simp] theorem Dev.setFlag_fresh (d : Dev) (f : Fld) (i : Nat) (b : Bool) : (d.setFlag f i b).fresh = d.fresh := rfl
@[simp] theorem Dev.setFlag_bay (d : Dev) (f : Fld) (i : Nat) (b : Bool) : (d.setFlag f i b).bay = d.bay := rfl
@[simp] theorem Dev.setFlag_ctc (d : Dev) (f : Fld) (i : Nat) (b : Bool) : (d.setFlag f i b).ctc = d.ctc := rfl
@[simp] theorem Dev.setFlag_rcd (d : Dev) (f : Fld) (i : Nat) (b : Bool) : (d.setFlag f i b).rcd = d.rcd := rfl
@[simp] theorem Dev.setFlag_imd (d : Dev) (f : Fld) (i : Nat) (b : Bool) : (d.setFlag f i b).imd = d.imd := rfl
@[simp] theorem Dev.setFlag_saf (d : Dev) (f : Fld) (i : Nat) (b : Bool) : (d.setFlag f i b).saf = d.saf := rfl
@[simp] theorem Dev.setFlag_rtc (d : Dev) (f : Fld) (i : Nat) (b : Bool) : (d.setFlag f i b).rtc = d.rtc := rfl
@[simp] theorem Dev.setFlag_log (d : Dev) (f : Fld) (i : Nat) (b : Bool) : (d.setFlag f i b).log = d.log := rfl
@[simp] theorem Dev.setFlag_lsw (d : Dev) (f : Fld) (i : Nat) (b : Bool) : (d.setFlag f i b).lsw = d.lsw := rfl
@[simp] theorem Dev.setFlag_car (d : Dev) (f : Fld) (i : Nat) (b : Bool) : (d.setFlag f i b).car = d.car := rfl
@[simp] theorem Dev.setFlag_mpl (d : Dev) (f : Fld) (i : Nat) (b : Bool) : (d.setFlag f i b).mpl = d.mpl := rfl
@[simp] theorem Dev.setFlag_met (d : Dev) (f : Fld) (i : Nat) (b : Bool) : (d.setFlag f i b).met = d.met := rfl
@[simp] theorem Dev.setFlag_linkOut (d : Dev) (f : Fld) (i : Nat) (b : Bool) : (d.setFlag f i b).linkOut = d.linkOut := rfl
@[simp] theorem Dev.setFlag_pair (d : Dev) (f : Fld) (i : Nat) (b : Bool) : (d.setFlag f i b).pair = d.pair := rfl
@[simp] theorem Dev.setFlag_led (d : Dev) (f : Fld) (i : Nat) (b : Bool) : (d.setFlag f i b).led = d.led := rfl
@[simp] theorem Dev.setFlag_roles (d : Dev) (f : Fld) (i : Nat) (b : Bool) : (d.setFlag f i b).roles = d.roles := rfl
@[simp] theorem Dev.setFlag_links (d : Dev) (f : Fld) (i : Nat) (b : Bool) : (d.setFlag f i b).links = d.links := rfl
@[simp] theorem Dev.setFlag_vlt (d : Dev) (f : Fld) (i : Nat) (b : Bool) : (d.setFlag f i b).vlt = d.vlt := rfl
@[simp] theorem Dev.setFlag_nfr (d : Dev) (f : Fld) (i : Nat) (b : Bool) : (d.setFlag f i b).nfr = d.nfr := rfl
@[simp] theorem Dev.setFlag_tag (d : Dev) (f : Fld) (i : Nat) (b : Bool) : (d.setFlag f i b).tag = d.tag := rfl
@[simp] theorem Dev.setFlag_epd (d : Dev) (f : Fld) (i : Nat) (b : Bool) : (d.setFlag f i b).epd = d.epd := rfl
@[simp] theorem Dev.setFlag_upd (d : Dev) (f : Fld) (i : Nat) (b : Bool) : (d.setFlag f i b).upd = d.upd := rfl
@[simp] theorem Dev.setFlag_dma (d : Dev) (f : Fld) (i : Nat) (b : Bool) : (d.setFlag f i b).dma = d.dma := rfl
@[simp] theorem Dev.setFlag_wav (d : Dev) (f : Fld) (i : Nat) (b : Bool) : (d.setFlag f i b).wav = d.wav := rfl
@[simp] theorem Dev.setFlag_plc (d : Dev) (f : Fld) (i : Nat) (b : Bool) : (d.setFlag f i b).plc = d.plc := rfl
@[simp] theorem Dev.setFlag_exi (d : Dev) (f : Fld) (i : Nat) (b : Bool) : (d.setFlag f i b).exi = d.exi := rfl
@[simp] theorem Dev.setFlag_can (d : Dev) (f : Fld) (i : Nat) (b : Bool) : (d.setFlag f i b).can = d.can := rfl
@[simp] theorem Dev.setFlag_ylr (d : Dev) (f : Fld) (i : Nat) (b : Bool) : (d.setFlag f i b).ylr = d.ylr := rfl
@[simp] theorem Dev.setFlag_hif (d : Dev) (f : Fld) (i : Nat) (b : Bool) : (d.setFlag f i b).hif = d.hif := rfl
@[simp] theorem Dev.setFlag_bus (d : Dev) (f : Fld) (i : Nat) (b : Bool) : (d.setFlag f i b).bus = d.bus := rfl
@[simp] theorem Dev.setFlag_expKey (d : Dev) (f : Fld) (i : Nat) (b : Bool) : (d.setFlag f i b).expKey = d.expKey := rfl
@[simp] theorem Dev.setFlag_mboxIrq (d : Dev) (f : Fld) (i : Nat) (b : Bool) : (d.setFlag f i b).mboxIrq = d.mboxIrq := rfl
@[simp] theorem Dev.setFlag_loopHost (d : Dev) (f : Fld) (i : Nat) (b : Bool) : (d.setFlag f i b).loopHost = d.loopHost := rfl
@[simp] theorem Dev.setFlag_pwr (d : Dev) (f : Fld) (i : Nat) (b : Bool) : (d.setFlag f i b).pwr = d.pwr := rfl
@[simp] theorem Dev.setFlag_sar (d : Dev) (f : Fld) (i : Nat) (b : Bool) : (d.setFlag f i b).sar = d.sar := rfl
@[simp] theorem Dev.setFlag_uart (d : Dev) (f : Fld) (i : Nat) (b : Bool) : (d.setFlag f i b).uart = d.uart := rfl
@[simp] theorem Dev.setFlag_i2c (d : Dev) (f : Fld) (i : Nat) (b : Bool) : (d.setFlag f i b).i2c = d.i2c := rfl
@[simp] theorem Dev.setFlag_ospi (d : Dev) (f : Fld) (i : Nat) (b : Bool) : (d.setFlag f i b).ospi = d.ospi := rfl
@[simp] theorem Dev.setFlag_plic (d : Dev) (f : Fld) (i : Nat) (b : Bool) : (d.setFlag f i b).plic = d.plic := rfl
@[simp] theorem Dev.setFlag_testAge (d : Dev) (f : Fld) (i : Nat) (b : Bool) : (d.setFlag f i b).testAge = d.testAge := rfl

@[simp] theorem Dev.wrByte_chip (d : Dev) (a : Nat) (b : Byte) : (d.wrByte a b).chip = d.chip := rfl
@[simp] theorem Dev.wrByte_now (d : Dev) (a : Nat) (b : Byte) : (d.wrByte a b).now = d.now := rfl
@[simp] theorem Dev.wrByte_regs (d : Dev) (a : Nat) (b : Byte) : (d.wrByte a b).regs = d.regs := rfl
@[simp] theorem Dev.wrByte_raw (d : Dev) (a : Nat) (b : Byte) : (d.wrByte a b).raw = d.raw := rfl
@[simp] theorem Dev.wrByte_hostOut (d : Dev) (a : Nat) (b : Byte) : (d.wrByte a b).hostOut = d.hostOut := rfl
@[simp] theorem Dev.wrByte_mbox (d : Dev) (a : Nat) (b : Byte) : (d.wrByte a b).mbox = d.mbox := rfl
@[simp] theorem Dev.wrByte_fresh (d : Dev) (a : Nat) (b : Byte) : (d.wrByte a b).fresh = d.fresh := rfl
@[simp] theorem Dev.wrByte_bay (d : Dev) (a : Nat) (b : Byte) : (d.wrByte a b).bay = d.bay := rfl
@[simp] theorem Dev.wrByte_ctc (d : Dev) (a : Nat) (b : Byte) : (d.wrByte a b).ctc = d.ctc := rfl
@[simp] theorem Dev.wrByte_rcd (d : Dev) (a : Nat) (b : Byte) : (d.wrByte a b).rcd = d.rcd := rfl
@[simp] theorem Dev.wrByte_imd (d : Dev) (a : Nat) (b : Byte) : (d.wrByte a b).imd = d.imd := rfl
@[simp] theorem Dev.wrByte_saf (d : Dev) (a : Nat) (b : Byte) : (d.wrByte a b).saf = d.saf := rfl
@[simp] theorem Dev.wrByte_rtc (d : Dev) (a : Nat) (b : Byte) : (d.wrByte a b).rtc = d.rtc := rfl
@[simp] theorem Dev.wrByte_log (d : Dev) (a : Nat) (b : Byte) : (d.wrByte a b).log = d.log := rfl
@[simp] theorem Dev.wrByte_lsw (d : Dev) (a : Nat) (b : Byte) : (d.wrByte a b).lsw = d.lsw := rfl
@[simp] theorem Dev.wrByte_car (d : Dev) (a : Nat) (b : Byte) : (d.wrByte a b).car = d.car := rfl
@[simp] theorem Dev.wrByte_mpl (d : Dev) (a : Nat) (b : Byte) : (d.wrByte a b).mpl = d.mpl := rfl
@[simp] theorem Dev.wrByte_met (d : Dev) (a : Nat) (b : Byte) : (d.wrByte a b).met = d.met := rfl
@[simp] theorem Dev.wrByte_linkOut (d : Dev) (a : Nat) (b : Byte) : (d.wrByte a b).linkOut = d.linkOut := rfl
@[simp] theorem Dev.wrByte_pair (d : Dev) (a : Nat) (b : Byte) : (d.wrByte a b).pair = d.pair := rfl
@[simp] theorem Dev.wrByte_led (d : Dev) (a : Nat) (b : Byte) : (d.wrByte a b).led = d.led := rfl
@[simp] theorem Dev.wrByte_roles (d : Dev) (a : Nat) (b : Byte) : (d.wrByte a b).roles = d.roles := rfl
@[simp] theorem Dev.wrByte_links (d : Dev) (a : Nat) (b : Byte) : (d.wrByte a b).links = d.links := rfl
@[simp] theorem Dev.wrByte_vlt (d : Dev) (a : Nat) (b : Byte) : (d.wrByte a b).vlt = d.vlt := rfl
@[simp] theorem Dev.wrByte_nfr (d : Dev) (a : Nat) (b : Byte) : (d.wrByte a b).nfr = d.nfr := rfl
@[simp] theorem Dev.wrByte_tag (d : Dev) (a : Nat) (b : Byte) : (d.wrByte a b).tag = d.tag := rfl
@[simp] theorem Dev.wrByte_epd (d : Dev) (a : Nat) (b : Byte) : (d.wrByte a b).epd = d.epd := rfl
@[simp] theorem Dev.wrByte_upd (d : Dev) (a : Nat) (b : Byte) : (d.wrByte a b).upd = d.upd := rfl
@[simp] theorem Dev.wrByte_dma (d : Dev) (a : Nat) (b : Byte) : (d.wrByte a b).dma = d.dma := rfl
@[simp] theorem Dev.wrByte_wav (d : Dev) (a : Nat) (b : Byte) : (d.wrByte a b).wav = d.wav := rfl
@[simp] theorem Dev.wrByte_plc (d : Dev) (a : Nat) (b : Byte) : (d.wrByte a b).plc = d.plc := rfl
@[simp] theorem Dev.wrByte_exi (d : Dev) (a : Nat) (b : Byte) : (d.wrByte a b).exi = d.exi := rfl
@[simp] theorem Dev.wrByte_can (d : Dev) (a : Nat) (b : Byte) : (d.wrByte a b).can = d.can := rfl
@[simp] theorem Dev.wrByte_ylr (d : Dev) (a : Nat) (b : Byte) : (d.wrByte a b).ylr = d.ylr := rfl
@[simp] theorem Dev.wrByte_hif (d : Dev) (a : Nat) (b : Byte) : (d.wrByte a b).hif = d.hif := rfl
@[simp] theorem Dev.wrByte_bus (d : Dev) (a : Nat) (b : Byte) : (d.wrByte a b).bus = d.bus := rfl
@[simp] theorem Dev.wrByte_expKey (d : Dev) (a : Nat) (b : Byte) : (d.wrByte a b).expKey = d.expKey := rfl
@[simp] theorem Dev.wrByte_mboxIrq (d : Dev) (a : Nat) (b : Byte) : (d.wrByte a b).mboxIrq = d.mboxIrq := rfl
@[simp] theorem Dev.wrByte_loopHost (d : Dev) (a : Nat) (b : Byte) : (d.wrByte a b).loopHost = d.loopHost := rfl
@[simp] theorem Dev.wrByte_pwr (d : Dev) (a : Nat) (b : Byte) : (d.wrByte a b).pwr = d.pwr := rfl
@[simp] theorem Dev.wrByte_sar (d : Dev) (a : Nat) (b : Byte) : (d.wrByte a b).sar = d.sar := rfl
@[simp] theorem Dev.wrByte_uart (d : Dev) (a : Nat) (b : Byte) : (d.wrByte a b).uart = d.uart := rfl
@[simp] theorem Dev.wrByte_i2c (d : Dev) (a : Nat) (b : Byte) : (d.wrByte a b).i2c = d.i2c := rfl
@[simp] theorem Dev.wrByte_ospi (d : Dev) (a : Nat) (b : Byte) : (d.wrByte a b).ospi = d.ospi := rfl
@[simp] theorem Dev.wrByte_plic (d : Dev) (a : Nat) (b : Byte) : (d.wrByte a b).plic = d.plic := rfl
@[simp] theorem Dev.wrByte_testAge (d : Dev) (a : Nat) (b : Byte) : (d.wrByte a b).testAge = d.testAge := rfl

/-! ### Fields a change of one block leaves -/

@[simp] theorem Dev.modBay_chip (d : Dev) (n : Bay) (f : BayInt → BayInt) : (d.modBay n f).chip = d.chip := rfl
@[simp] theorem Dev.modBay_now (d : Dev) (n : Bay) (f : BayInt → BayInt) : (d.modBay n f).now = d.now := rfl
@[simp] theorem Dev.modBay_regs (d : Dev) (n : Bay) (f : BayInt → BayInt) : (d.modBay n f).regs = d.regs := rfl
@[simp] theorem Dev.modBay_raw (d : Dev) (n : Bay) (f : BayInt → BayInt) : (d.modBay n f).raw = d.raw := rfl
@[simp] theorem Dev.modBay_mem (d : Dev) (n : Bay) (f : BayInt → BayInt) : (d.modBay n f).mem = d.mem := rfl
@[simp] theorem Dev.modBay_hostOut (d : Dev) (n : Bay) (f : BayInt → BayInt) : (d.modBay n f).hostOut = d.hostOut := rfl
@[simp] theorem Dev.modBay_mbox (d : Dev) (n : Bay) (f : BayInt → BayInt) : (d.modBay n f).mbox = d.mbox := rfl
@[simp] theorem Dev.modBay_fresh (d : Dev) (n : Bay) (f : BayInt → BayInt) : (d.modBay n f).fresh = d.fresh := rfl
@[simp] theorem Dev.modBay_ctc (d : Dev) (n : Bay) (f : BayInt → BayInt) : (d.modBay n f).ctc = d.ctc := rfl
@[simp] theorem Dev.modBay_rcd (d : Dev) (n : Bay) (f : BayInt → BayInt) : (d.modBay n f).rcd = d.rcd := rfl
@[simp] theorem Dev.modBay_imd (d : Dev) (n : Bay) (f : BayInt → BayInt) : (d.modBay n f).imd = d.imd := rfl
@[simp] theorem Dev.modBay_saf (d : Dev) (n : Bay) (f : BayInt → BayInt) : (d.modBay n f).saf = d.saf := rfl
@[simp] theorem Dev.modBay_rtc (d : Dev) (n : Bay) (f : BayInt → BayInt) : (d.modBay n f).rtc = d.rtc := rfl
@[simp] theorem Dev.modBay_log (d : Dev) (n : Bay) (f : BayInt → BayInt) : (d.modBay n f).log = d.log := rfl
@[simp] theorem Dev.modBay_lsw (d : Dev) (n : Bay) (f : BayInt → BayInt) : (d.modBay n f).lsw = d.lsw := rfl
@[simp] theorem Dev.modBay_car (d : Dev) (n : Bay) (f : BayInt → BayInt) : (d.modBay n f).car = d.car := rfl
@[simp] theorem Dev.modBay_mpl (d : Dev) (n : Bay) (f : BayInt → BayInt) : (d.modBay n f).mpl = d.mpl := rfl
@[simp] theorem Dev.modBay_met (d : Dev) (n : Bay) (f : BayInt → BayInt) : (d.modBay n f).met = d.met := rfl
@[simp] theorem Dev.modBay_linkOut (d : Dev) (n : Bay) (f : BayInt → BayInt) : (d.modBay n f).linkOut = d.linkOut := rfl
@[simp] theorem Dev.modBay_pair (d : Dev) (n : Bay) (f : BayInt → BayInt) : (d.modBay n f).pair = d.pair := rfl
@[simp] theorem Dev.modBay_led (d : Dev) (n : Bay) (f : BayInt → BayInt) : (d.modBay n f).led = d.led := rfl
@[simp] theorem Dev.modBay_roles (d : Dev) (n : Bay) (f : BayInt → BayInt) : (d.modBay n f).roles = d.roles := rfl
@[simp] theorem Dev.modBay_links (d : Dev) (n : Bay) (f : BayInt → BayInt) : (d.modBay n f).links = d.links := rfl
@[simp] theorem Dev.modBay_vlt (d : Dev) (n : Bay) (f : BayInt → BayInt) : (d.modBay n f).vlt = d.vlt := rfl
@[simp] theorem Dev.modBay_nfr (d : Dev) (n : Bay) (f : BayInt → BayInt) : (d.modBay n f).nfr = d.nfr := rfl
@[simp] theorem Dev.modBay_tag (d : Dev) (n : Bay) (f : BayInt → BayInt) : (d.modBay n f).tag = d.tag := rfl
@[simp] theorem Dev.modBay_epd (d : Dev) (n : Bay) (f : BayInt → BayInt) : (d.modBay n f).epd = d.epd := rfl
@[simp] theorem Dev.modBay_upd (d : Dev) (n : Bay) (f : BayInt → BayInt) : (d.modBay n f).upd = d.upd := rfl
@[simp] theorem Dev.modBay_dma (d : Dev) (n : Bay) (f : BayInt → BayInt) : (d.modBay n f).dma = d.dma := rfl
@[simp] theorem Dev.modBay_wav (d : Dev) (n : Bay) (f : BayInt → BayInt) : (d.modBay n f).wav = d.wav := rfl
@[simp] theorem Dev.modBay_plc (d : Dev) (n : Bay) (f : BayInt → BayInt) : (d.modBay n f).plc = d.plc := rfl
@[simp] theorem Dev.modBay_exi (d : Dev) (n : Bay) (f : BayInt → BayInt) : (d.modBay n f).exi = d.exi := rfl
@[simp] theorem Dev.modBay_can (d : Dev) (n : Bay) (f : BayInt → BayInt) : (d.modBay n f).can = d.can := rfl
@[simp] theorem Dev.modBay_ylr (d : Dev) (n : Bay) (f : BayInt → BayInt) : (d.modBay n f).ylr = d.ylr := rfl
@[simp] theorem Dev.modBay_hif (d : Dev) (n : Bay) (f : BayInt → BayInt) : (d.modBay n f).hif = d.hif := rfl
@[simp] theorem Dev.modBay_bus (d : Dev) (n : Bay) (f : BayInt → BayInt) : (d.modBay n f).bus = d.bus := rfl
@[simp] theorem Dev.modBay_expKey (d : Dev) (n : Bay) (f : BayInt → BayInt) : (d.modBay n f).expKey = d.expKey := rfl
@[simp] theorem Dev.modBay_mboxIrq (d : Dev) (n : Bay) (f : BayInt → BayInt) : (d.modBay n f).mboxIrq = d.mboxIrq := rfl
@[simp] theorem Dev.modBay_loopHost (d : Dev) (n : Bay) (f : BayInt → BayInt) : (d.modBay n f).loopHost = d.loopHost := rfl
@[simp] theorem Dev.modBay_pwr (d : Dev) (n : Bay) (f : BayInt → BayInt) : (d.modBay n f).pwr = d.pwr := rfl
@[simp] theorem Dev.modBay_sar (d : Dev) (n : Bay) (f : BayInt → BayInt) : (d.modBay n f).sar = d.sar := rfl
@[simp] theorem Dev.modBay_uart (d : Dev) (n : Bay) (f : BayInt → BayInt) : (d.modBay n f).uart = d.uart := rfl
@[simp] theorem Dev.modBay_i2c (d : Dev) (n : Bay) (f : BayInt → BayInt) : (d.modBay n f).i2c = d.i2c := rfl
@[simp] theorem Dev.modBay_ospi (d : Dev) (n : Bay) (f : BayInt → BayInt) : (d.modBay n f).ospi = d.ospi := rfl
@[simp] theorem Dev.modBay_plic (d : Dev) (n : Bay) (f : BayInt → BayInt) : (d.modBay n f).plic = d.plic := rfl
@[simp] theorem Dev.modBay_testAge (d : Dev) (n : Bay) (f : BayInt → BayInt) : (d.modBay n f).testAge = d.testAge := rfl

@[simp] theorem Dev.modCtc_chip (d : Dev) (n : Bay) (f : CtcInt → CtcInt) : (d.modCtc n f).chip = d.chip := rfl
@[simp] theorem Dev.modCtc_now (d : Dev) (n : Bay) (f : CtcInt → CtcInt) : (d.modCtc n f).now = d.now := rfl
@[simp] theorem Dev.modCtc_regs (d : Dev) (n : Bay) (f : CtcInt → CtcInt) : (d.modCtc n f).regs = d.regs := rfl
@[simp] theorem Dev.modCtc_raw (d : Dev) (n : Bay) (f : CtcInt → CtcInt) : (d.modCtc n f).raw = d.raw := rfl
@[simp] theorem Dev.modCtc_mem (d : Dev) (n : Bay) (f : CtcInt → CtcInt) : (d.modCtc n f).mem = d.mem := rfl
@[simp] theorem Dev.modCtc_hostOut (d : Dev) (n : Bay) (f : CtcInt → CtcInt) : (d.modCtc n f).hostOut = d.hostOut := rfl
@[simp] theorem Dev.modCtc_mbox (d : Dev) (n : Bay) (f : CtcInt → CtcInt) : (d.modCtc n f).mbox = d.mbox := rfl
@[simp] theorem Dev.modCtc_fresh (d : Dev) (n : Bay) (f : CtcInt → CtcInt) : (d.modCtc n f).fresh = d.fresh := rfl
@[simp] theorem Dev.modCtc_bay (d : Dev) (n : Bay) (f : CtcInt → CtcInt) : (d.modCtc n f).bay = d.bay := rfl
@[simp] theorem Dev.modCtc_rcd (d : Dev) (n : Bay) (f : CtcInt → CtcInt) : (d.modCtc n f).rcd = d.rcd := rfl
@[simp] theorem Dev.modCtc_imd (d : Dev) (n : Bay) (f : CtcInt → CtcInt) : (d.modCtc n f).imd = d.imd := rfl
@[simp] theorem Dev.modCtc_saf (d : Dev) (n : Bay) (f : CtcInt → CtcInt) : (d.modCtc n f).saf = d.saf := rfl
@[simp] theorem Dev.modCtc_rtc (d : Dev) (n : Bay) (f : CtcInt → CtcInt) : (d.modCtc n f).rtc = d.rtc := rfl
@[simp] theorem Dev.modCtc_log (d : Dev) (n : Bay) (f : CtcInt → CtcInt) : (d.modCtc n f).log = d.log := rfl
@[simp] theorem Dev.modCtc_lsw (d : Dev) (n : Bay) (f : CtcInt → CtcInt) : (d.modCtc n f).lsw = d.lsw := rfl
@[simp] theorem Dev.modCtc_car (d : Dev) (n : Bay) (f : CtcInt → CtcInt) : (d.modCtc n f).car = d.car := rfl
@[simp] theorem Dev.modCtc_mpl (d : Dev) (n : Bay) (f : CtcInt → CtcInt) : (d.modCtc n f).mpl = d.mpl := rfl
@[simp] theorem Dev.modCtc_met (d : Dev) (n : Bay) (f : CtcInt → CtcInt) : (d.modCtc n f).met = d.met := rfl
@[simp] theorem Dev.modCtc_linkOut (d : Dev) (n : Bay) (f : CtcInt → CtcInt) : (d.modCtc n f).linkOut = d.linkOut := rfl
@[simp] theorem Dev.modCtc_pair (d : Dev) (n : Bay) (f : CtcInt → CtcInt) : (d.modCtc n f).pair = d.pair := rfl
@[simp] theorem Dev.modCtc_led (d : Dev) (n : Bay) (f : CtcInt → CtcInt) : (d.modCtc n f).led = d.led := rfl
@[simp] theorem Dev.modCtc_roles (d : Dev) (n : Bay) (f : CtcInt → CtcInt) : (d.modCtc n f).roles = d.roles := rfl
@[simp] theorem Dev.modCtc_links (d : Dev) (n : Bay) (f : CtcInt → CtcInt) : (d.modCtc n f).links = d.links := rfl
@[simp] theorem Dev.modCtc_vlt (d : Dev) (n : Bay) (f : CtcInt → CtcInt) : (d.modCtc n f).vlt = d.vlt := rfl
@[simp] theorem Dev.modCtc_nfr (d : Dev) (n : Bay) (f : CtcInt → CtcInt) : (d.modCtc n f).nfr = d.nfr := rfl
@[simp] theorem Dev.modCtc_tag (d : Dev) (n : Bay) (f : CtcInt → CtcInt) : (d.modCtc n f).tag = d.tag := rfl
@[simp] theorem Dev.modCtc_epd (d : Dev) (n : Bay) (f : CtcInt → CtcInt) : (d.modCtc n f).epd = d.epd := rfl
@[simp] theorem Dev.modCtc_upd (d : Dev) (n : Bay) (f : CtcInt → CtcInt) : (d.modCtc n f).upd = d.upd := rfl
@[simp] theorem Dev.modCtc_dma (d : Dev) (n : Bay) (f : CtcInt → CtcInt) : (d.modCtc n f).dma = d.dma := rfl
@[simp] theorem Dev.modCtc_wav (d : Dev) (n : Bay) (f : CtcInt → CtcInt) : (d.modCtc n f).wav = d.wav := rfl
@[simp] theorem Dev.modCtc_plc (d : Dev) (n : Bay) (f : CtcInt → CtcInt) : (d.modCtc n f).plc = d.plc := rfl
@[simp] theorem Dev.modCtc_exi (d : Dev) (n : Bay) (f : CtcInt → CtcInt) : (d.modCtc n f).exi = d.exi := rfl
@[simp] theorem Dev.modCtc_can (d : Dev) (n : Bay) (f : CtcInt → CtcInt) : (d.modCtc n f).can = d.can := rfl
@[simp] theorem Dev.modCtc_ylr (d : Dev) (n : Bay) (f : CtcInt → CtcInt) : (d.modCtc n f).ylr = d.ylr := rfl
@[simp] theorem Dev.modCtc_hif (d : Dev) (n : Bay) (f : CtcInt → CtcInt) : (d.modCtc n f).hif = d.hif := rfl
@[simp] theorem Dev.modCtc_bus (d : Dev) (n : Bay) (f : CtcInt → CtcInt) : (d.modCtc n f).bus = d.bus := rfl
@[simp] theorem Dev.modCtc_expKey (d : Dev) (n : Bay) (f : CtcInt → CtcInt) : (d.modCtc n f).expKey = d.expKey := rfl
@[simp] theorem Dev.modCtc_mboxIrq (d : Dev) (n : Bay) (f : CtcInt → CtcInt) : (d.modCtc n f).mboxIrq = d.mboxIrq := rfl
@[simp] theorem Dev.modCtc_loopHost (d : Dev) (n : Bay) (f : CtcInt → CtcInt) : (d.modCtc n f).loopHost = d.loopHost := rfl
@[simp] theorem Dev.modCtc_pwr (d : Dev) (n : Bay) (f : CtcInt → CtcInt) : (d.modCtc n f).pwr = d.pwr := rfl
@[simp] theorem Dev.modCtc_sar (d : Dev) (n : Bay) (f : CtcInt → CtcInt) : (d.modCtc n f).sar = d.sar := rfl
@[simp] theorem Dev.modCtc_uart (d : Dev) (n : Bay) (f : CtcInt → CtcInt) : (d.modCtc n f).uart = d.uart := rfl
@[simp] theorem Dev.modCtc_i2c (d : Dev) (n : Bay) (f : CtcInt → CtcInt) : (d.modCtc n f).i2c = d.i2c := rfl
@[simp] theorem Dev.modCtc_ospi (d : Dev) (n : Bay) (f : CtcInt → CtcInt) : (d.modCtc n f).ospi = d.ospi := rfl
@[simp] theorem Dev.modCtc_plic (d : Dev) (n : Bay) (f : CtcInt → CtcInt) : (d.modCtc n f).plic = d.plic := rfl
@[simp] theorem Dev.modCtc_testAge (d : Dev) (n : Bay) (f : CtcInt → CtcInt) : (d.modCtc n f).testAge = d.testAge := rfl

@[simp] theorem Dev.modRcd_chip (d : Dev) (n : Bay) (f : RcdInt → RcdInt) : (d.modRcd n f).chip = d.chip := rfl
@[simp] theorem Dev.modRcd_now (d : Dev) (n : Bay) (f : RcdInt → RcdInt) : (d.modRcd n f).now = d.now := rfl
@[simp] theorem Dev.modRcd_regs (d : Dev) (n : Bay) (f : RcdInt → RcdInt) : (d.modRcd n f).regs = d.regs := rfl
@[simp] theorem Dev.modRcd_raw (d : Dev) (n : Bay) (f : RcdInt → RcdInt) : (d.modRcd n f).raw = d.raw := rfl
@[simp] theorem Dev.modRcd_mem (d : Dev) (n : Bay) (f : RcdInt → RcdInt) : (d.modRcd n f).mem = d.mem := rfl
@[simp] theorem Dev.modRcd_hostOut (d : Dev) (n : Bay) (f : RcdInt → RcdInt) : (d.modRcd n f).hostOut = d.hostOut := rfl
@[simp] theorem Dev.modRcd_mbox (d : Dev) (n : Bay) (f : RcdInt → RcdInt) : (d.modRcd n f).mbox = d.mbox := rfl
@[simp] theorem Dev.modRcd_fresh (d : Dev) (n : Bay) (f : RcdInt → RcdInt) : (d.modRcd n f).fresh = d.fresh := rfl
@[simp] theorem Dev.modRcd_bay (d : Dev) (n : Bay) (f : RcdInt → RcdInt) : (d.modRcd n f).bay = d.bay := rfl
@[simp] theorem Dev.modRcd_ctc (d : Dev) (n : Bay) (f : RcdInt → RcdInt) : (d.modRcd n f).ctc = d.ctc := rfl
@[simp] theorem Dev.modRcd_imd (d : Dev) (n : Bay) (f : RcdInt → RcdInt) : (d.modRcd n f).imd = d.imd := rfl
@[simp] theorem Dev.modRcd_saf (d : Dev) (n : Bay) (f : RcdInt → RcdInt) : (d.modRcd n f).saf = d.saf := rfl
@[simp] theorem Dev.modRcd_rtc (d : Dev) (n : Bay) (f : RcdInt → RcdInt) : (d.modRcd n f).rtc = d.rtc := rfl
@[simp] theorem Dev.modRcd_log (d : Dev) (n : Bay) (f : RcdInt → RcdInt) : (d.modRcd n f).log = d.log := rfl
@[simp] theorem Dev.modRcd_lsw (d : Dev) (n : Bay) (f : RcdInt → RcdInt) : (d.modRcd n f).lsw = d.lsw := rfl
@[simp] theorem Dev.modRcd_car (d : Dev) (n : Bay) (f : RcdInt → RcdInt) : (d.modRcd n f).car = d.car := rfl
@[simp] theorem Dev.modRcd_mpl (d : Dev) (n : Bay) (f : RcdInt → RcdInt) : (d.modRcd n f).mpl = d.mpl := rfl
@[simp] theorem Dev.modRcd_met (d : Dev) (n : Bay) (f : RcdInt → RcdInt) : (d.modRcd n f).met = d.met := rfl
@[simp] theorem Dev.modRcd_linkOut (d : Dev) (n : Bay) (f : RcdInt → RcdInt) : (d.modRcd n f).linkOut = d.linkOut := rfl
@[simp] theorem Dev.modRcd_pair (d : Dev) (n : Bay) (f : RcdInt → RcdInt) : (d.modRcd n f).pair = d.pair := rfl
@[simp] theorem Dev.modRcd_led (d : Dev) (n : Bay) (f : RcdInt → RcdInt) : (d.modRcd n f).led = d.led := rfl
@[simp] theorem Dev.modRcd_roles (d : Dev) (n : Bay) (f : RcdInt → RcdInt) : (d.modRcd n f).roles = d.roles := rfl
@[simp] theorem Dev.modRcd_links (d : Dev) (n : Bay) (f : RcdInt → RcdInt) : (d.modRcd n f).links = d.links := rfl
@[simp] theorem Dev.modRcd_vlt (d : Dev) (n : Bay) (f : RcdInt → RcdInt) : (d.modRcd n f).vlt = d.vlt := rfl
@[simp] theorem Dev.modRcd_nfr (d : Dev) (n : Bay) (f : RcdInt → RcdInt) : (d.modRcd n f).nfr = d.nfr := rfl
@[simp] theorem Dev.modRcd_tag (d : Dev) (n : Bay) (f : RcdInt → RcdInt) : (d.modRcd n f).tag = d.tag := rfl
@[simp] theorem Dev.modRcd_epd (d : Dev) (n : Bay) (f : RcdInt → RcdInt) : (d.modRcd n f).epd = d.epd := rfl
@[simp] theorem Dev.modRcd_upd (d : Dev) (n : Bay) (f : RcdInt → RcdInt) : (d.modRcd n f).upd = d.upd := rfl
@[simp] theorem Dev.modRcd_dma (d : Dev) (n : Bay) (f : RcdInt → RcdInt) : (d.modRcd n f).dma = d.dma := rfl
@[simp] theorem Dev.modRcd_wav (d : Dev) (n : Bay) (f : RcdInt → RcdInt) : (d.modRcd n f).wav = d.wav := rfl
@[simp] theorem Dev.modRcd_plc (d : Dev) (n : Bay) (f : RcdInt → RcdInt) : (d.modRcd n f).plc = d.plc := rfl
@[simp] theorem Dev.modRcd_exi (d : Dev) (n : Bay) (f : RcdInt → RcdInt) : (d.modRcd n f).exi = d.exi := rfl
@[simp] theorem Dev.modRcd_can (d : Dev) (n : Bay) (f : RcdInt → RcdInt) : (d.modRcd n f).can = d.can := rfl
@[simp] theorem Dev.modRcd_ylr (d : Dev) (n : Bay) (f : RcdInt → RcdInt) : (d.modRcd n f).ylr = d.ylr := rfl
@[simp] theorem Dev.modRcd_hif (d : Dev) (n : Bay) (f : RcdInt → RcdInt) : (d.modRcd n f).hif = d.hif := rfl
@[simp] theorem Dev.modRcd_bus (d : Dev) (n : Bay) (f : RcdInt → RcdInt) : (d.modRcd n f).bus = d.bus := rfl
@[simp] theorem Dev.modRcd_expKey (d : Dev) (n : Bay) (f : RcdInt → RcdInt) : (d.modRcd n f).expKey = d.expKey := rfl
@[simp] theorem Dev.modRcd_mboxIrq (d : Dev) (n : Bay) (f : RcdInt → RcdInt) : (d.modRcd n f).mboxIrq = d.mboxIrq := rfl
@[simp] theorem Dev.modRcd_loopHost (d : Dev) (n : Bay) (f : RcdInt → RcdInt) : (d.modRcd n f).loopHost = d.loopHost := rfl
@[simp] theorem Dev.modRcd_pwr (d : Dev) (n : Bay) (f : RcdInt → RcdInt) : (d.modRcd n f).pwr = d.pwr := rfl
@[simp] theorem Dev.modRcd_sar (d : Dev) (n : Bay) (f : RcdInt → RcdInt) : (d.modRcd n f).sar = d.sar := rfl
@[simp] theorem Dev.modRcd_uart (d : Dev) (n : Bay) (f : RcdInt → RcdInt) : (d.modRcd n f).uart = d.uart := rfl
@[simp] theorem Dev.modRcd_i2c (d : Dev) (n : Bay) (f : RcdInt → RcdInt) : (d.modRcd n f).i2c = d.i2c := rfl
@[simp] theorem Dev.modRcd_ospi (d : Dev) (n : Bay) (f : RcdInt → RcdInt) : (d.modRcd n f).ospi = d.ospi := rfl
@[simp] theorem Dev.modRcd_plic (d : Dev) (n : Bay) (f : RcdInt → RcdInt) : (d.modRcd n f).plic = d.plic := rfl
@[simp] theorem Dev.modRcd_testAge (d : Dev) (n : Bay) (f : RcdInt → RcdInt) : (d.modRcd n f).testAge = d.testAge := rfl

@[simp] theorem Dev.modImd_chip (d : Dev) (n : Bay) (f : ImdInt → ImdInt) : (d.modImd n f).chip = d.chip := rfl
@[simp] theorem Dev.modImd_now (d : Dev) (n : Bay) (f : ImdInt → ImdInt) : (d.modImd n f).now = d.now := rfl
@[simp] theorem Dev.modImd_regs (d : Dev) (n : Bay) (f : ImdInt → ImdInt) : (d.modImd n f).regs = d.regs := rfl
@[simp] theorem Dev.modImd_raw (d : Dev) (n : Bay) (f : ImdInt → ImdInt) : (d.modImd n f).raw = d.raw := rfl
@[simp] theorem Dev.modImd_mem (d : Dev) (n : Bay) (f : ImdInt → ImdInt) : (d.modImd n f).mem = d.mem := rfl
@[simp] theorem Dev.modImd_hostOut (d : Dev) (n : Bay) (f : ImdInt → ImdInt) : (d.modImd n f).hostOut = d.hostOut := rfl
@[simp] theorem Dev.modImd_mbox (d : Dev) (n : Bay) (f : ImdInt → ImdInt) : (d.modImd n f).mbox = d.mbox := rfl
@[simp] theorem Dev.modImd_fresh (d : Dev) (n : Bay) (f : ImdInt → ImdInt) : (d.modImd n f).fresh = d.fresh := rfl
@[simp] theorem Dev.modImd_bay (d : Dev) (n : Bay) (f : ImdInt → ImdInt) : (d.modImd n f).bay = d.bay := rfl
@[simp] theorem Dev.modImd_ctc (d : Dev) (n : Bay) (f : ImdInt → ImdInt) : (d.modImd n f).ctc = d.ctc := rfl
@[simp] theorem Dev.modImd_rcd (d : Dev) (n : Bay) (f : ImdInt → ImdInt) : (d.modImd n f).rcd = d.rcd := rfl
@[simp] theorem Dev.modImd_saf (d : Dev) (n : Bay) (f : ImdInt → ImdInt) : (d.modImd n f).saf = d.saf := rfl
@[simp] theorem Dev.modImd_rtc (d : Dev) (n : Bay) (f : ImdInt → ImdInt) : (d.modImd n f).rtc = d.rtc := rfl
@[simp] theorem Dev.modImd_log (d : Dev) (n : Bay) (f : ImdInt → ImdInt) : (d.modImd n f).log = d.log := rfl
@[simp] theorem Dev.modImd_lsw (d : Dev) (n : Bay) (f : ImdInt → ImdInt) : (d.modImd n f).lsw = d.lsw := rfl
@[simp] theorem Dev.modImd_car (d : Dev) (n : Bay) (f : ImdInt → ImdInt) : (d.modImd n f).car = d.car := rfl
@[simp] theorem Dev.modImd_mpl (d : Dev) (n : Bay) (f : ImdInt → ImdInt) : (d.modImd n f).mpl = d.mpl := rfl
@[simp] theorem Dev.modImd_met (d : Dev) (n : Bay) (f : ImdInt → ImdInt) : (d.modImd n f).met = d.met := rfl
@[simp] theorem Dev.modImd_linkOut (d : Dev) (n : Bay) (f : ImdInt → ImdInt) : (d.modImd n f).linkOut = d.linkOut := rfl
@[simp] theorem Dev.modImd_pair (d : Dev) (n : Bay) (f : ImdInt → ImdInt) : (d.modImd n f).pair = d.pair := rfl
@[simp] theorem Dev.modImd_led (d : Dev) (n : Bay) (f : ImdInt → ImdInt) : (d.modImd n f).led = d.led := rfl
@[simp] theorem Dev.modImd_roles (d : Dev) (n : Bay) (f : ImdInt → ImdInt) : (d.modImd n f).roles = d.roles := rfl
@[simp] theorem Dev.modImd_links (d : Dev) (n : Bay) (f : ImdInt → ImdInt) : (d.modImd n f).links = d.links := rfl
@[simp] theorem Dev.modImd_vlt (d : Dev) (n : Bay) (f : ImdInt → ImdInt) : (d.modImd n f).vlt = d.vlt := rfl
@[simp] theorem Dev.modImd_nfr (d : Dev) (n : Bay) (f : ImdInt → ImdInt) : (d.modImd n f).nfr = d.nfr := rfl
@[simp] theorem Dev.modImd_tag (d : Dev) (n : Bay) (f : ImdInt → ImdInt) : (d.modImd n f).tag = d.tag := rfl
@[simp] theorem Dev.modImd_epd (d : Dev) (n : Bay) (f : ImdInt → ImdInt) : (d.modImd n f).epd = d.epd := rfl
@[simp] theorem Dev.modImd_upd (d : Dev) (n : Bay) (f : ImdInt → ImdInt) : (d.modImd n f).upd = d.upd := rfl
@[simp] theorem Dev.modImd_dma (d : Dev) (n : Bay) (f : ImdInt → ImdInt) : (d.modImd n f).dma = d.dma := rfl
@[simp] theorem Dev.modImd_wav (d : Dev) (n : Bay) (f : ImdInt → ImdInt) : (d.modImd n f).wav = d.wav := rfl
@[simp] theorem Dev.modImd_plc (d : Dev) (n : Bay) (f : ImdInt → ImdInt) : (d.modImd n f).plc = d.plc := rfl
@[simp] theorem Dev.modImd_exi (d : Dev) (n : Bay) (f : ImdInt → ImdInt) : (d.modImd n f).exi = d.exi := rfl
@[simp] theorem Dev.modImd_can (d : Dev) (n : Bay) (f : ImdInt → ImdInt) : (d.modImd n f).can = d.can := rfl
@[simp] theorem Dev.modImd_ylr (d : Dev) (n : Bay) (f : ImdInt → ImdInt) : (d.modImd n f).ylr = d.ylr := rfl
@[simp] theorem Dev.modImd_hif (d : Dev) (n : Bay) (f : ImdInt → ImdInt) : (d.modImd n f).hif = d.hif := rfl
@[simp] theorem Dev.modImd_bus (d : Dev) (n : Bay) (f : ImdInt → ImdInt) : (d.modImd n f).bus = d.bus := rfl
@[simp] theorem Dev.modImd_expKey (d : Dev) (n : Bay) (f : ImdInt → ImdInt) : (d.modImd n f).expKey = d.expKey := rfl
@[simp] theorem Dev.modImd_mboxIrq (d : Dev) (n : Bay) (f : ImdInt → ImdInt) : (d.modImd n f).mboxIrq = d.mboxIrq := rfl
@[simp] theorem Dev.modImd_loopHost (d : Dev) (n : Bay) (f : ImdInt → ImdInt) : (d.modImd n f).loopHost = d.loopHost := rfl
@[simp] theorem Dev.modImd_pwr (d : Dev) (n : Bay) (f : ImdInt → ImdInt) : (d.modImd n f).pwr = d.pwr := rfl
@[simp] theorem Dev.modImd_sar (d : Dev) (n : Bay) (f : ImdInt → ImdInt) : (d.modImd n f).sar = d.sar := rfl
@[simp] theorem Dev.modImd_uart (d : Dev) (n : Bay) (f : ImdInt → ImdInt) : (d.modImd n f).uart = d.uart := rfl
@[simp] theorem Dev.modImd_i2c (d : Dev) (n : Bay) (f : ImdInt → ImdInt) : (d.modImd n f).i2c = d.i2c := rfl
@[simp] theorem Dev.modImd_ospi (d : Dev) (n : Bay) (f : ImdInt → ImdInt) : (d.modImd n f).ospi = d.ospi := rfl
@[simp] theorem Dev.modImd_plic (d : Dev) (n : Bay) (f : ImdInt → ImdInt) : (d.modImd n f).plic = d.plic := rfl
@[simp] theorem Dev.modImd_testAge (d : Dev) (n : Bay) (f : ImdInt → ImdInt) : (d.modImd n f).testAge = d.testAge := rfl

@[simp] theorem Dev.modSaf_chip (d : Dev) (f : SafInt → SafInt) : (d.modSaf f).chip = d.chip := rfl
@[simp] theorem Dev.modSaf_now (d : Dev) (f : SafInt → SafInt) : (d.modSaf f).now = d.now := rfl
@[simp] theorem Dev.modSaf_regs (d : Dev) (f : SafInt → SafInt) : (d.modSaf f).regs = d.regs := rfl
@[simp] theorem Dev.modSaf_raw (d : Dev) (f : SafInt → SafInt) : (d.modSaf f).raw = d.raw := rfl
@[simp] theorem Dev.modSaf_mem (d : Dev) (f : SafInt → SafInt) : (d.modSaf f).mem = d.mem := rfl
@[simp] theorem Dev.modSaf_hostOut (d : Dev) (f : SafInt → SafInt) : (d.modSaf f).hostOut = d.hostOut := rfl
@[simp] theorem Dev.modSaf_mbox (d : Dev) (f : SafInt → SafInt) : (d.modSaf f).mbox = d.mbox := rfl
@[simp] theorem Dev.modSaf_fresh (d : Dev) (f : SafInt → SafInt) : (d.modSaf f).fresh = d.fresh := rfl
@[simp] theorem Dev.modSaf_bay (d : Dev) (f : SafInt → SafInt) : (d.modSaf f).bay = d.bay := rfl
@[simp] theorem Dev.modSaf_ctc (d : Dev) (f : SafInt → SafInt) : (d.modSaf f).ctc = d.ctc := rfl
@[simp] theorem Dev.modSaf_rcd (d : Dev) (f : SafInt → SafInt) : (d.modSaf f).rcd = d.rcd := rfl
@[simp] theorem Dev.modSaf_imd (d : Dev) (f : SafInt → SafInt) : (d.modSaf f).imd = d.imd := rfl
@[simp] theorem Dev.modSaf_rtc (d : Dev) (f : SafInt → SafInt) : (d.modSaf f).rtc = d.rtc := rfl
@[simp] theorem Dev.modSaf_log (d : Dev) (f : SafInt → SafInt) : (d.modSaf f).log = d.log := rfl
@[simp] theorem Dev.modSaf_lsw (d : Dev) (f : SafInt → SafInt) : (d.modSaf f).lsw = d.lsw := rfl
@[simp] theorem Dev.modSaf_car (d : Dev) (f : SafInt → SafInt) : (d.modSaf f).car = d.car := rfl
@[simp] theorem Dev.modSaf_mpl (d : Dev) (f : SafInt → SafInt) : (d.modSaf f).mpl = d.mpl := rfl
@[simp] theorem Dev.modSaf_met (d : Dev) (f : SafInt → SafInt) : (d.modSaf f).met = d.met := rfl
@[simp] theorem Dev.modSaf_linkOut (d : Dev) (f : SafInt → SafInt) : (d.modSaf f).linkOut = d.linkOut := rfl
@[simp] theorem Dev.modSaf_pair (d : Dev) (f : SafInt → SafInt) : (d.modSaf f).pair = d.pair := rfl
@[simp] theorem Dev.modSaf_led (d : Dev) (f : SafInt → SafInt) : (d.modSaf f).led = d.led := rfl
@[simp] theorem Dev.modSaf_roles (d : Dev) (f : SafInt → SafInt) : (d.modSaf f).roles = d.roles := rfl
@[simp] theorem Dev.modSaf_links (d : Dev) (f : SafInt → SafInt) : (d.modSaf f).links = d.links := rfl
@[simp] theorem Dev.modSaf_vlt (d : Dev) (f : SafInt → SafInt) : (d.modSaf f).vlt = d.vlt := rfl
@[simp] theorem Dev.modSaf_nfr (d : Dev) (f : SafInt → SafInt) : (d.modSaf f).nfr = d.nfr := rfl
@[simp] theorem Dev.modSaf_tag (d : Dev) (f : SafInt → SafInt) : (d.modSaf f).tag = d.tag := rfl
@[simp] theorem Dev.modSaf_epd (d : Dev) (f : SafInt → SafInt) : (d.modSaf f).epd = d.epd := rfl
@[simp] theorem Dev.modSaf_upd (d : Dev) (f : SafInt → SafInt) : (d.modSaf f).upd = d.upd := rfl
@[simp] theorem Dev.modSaf_dma (d : Dev) (f : SafInt → SafInt) : (d.modSaf f).dma = d.dma := rfl
@[simp] theorem Dev.modSaf_wav (d : Dev) (f : SafInt → SafInt) : (d.modSaf f).wav = d.wav := rfl
@[simp] theorem Dev.modSaf_plc (d : Dev) (f : SafInt → SafInt) : (d.modSaf f).plc = d.plc := rfl
@[simp] theorem Dev.modSaf_exi (d : Dev) (f : SafInt → SafInt) : (d.modSaf f).exi = d.exi := rfl
@[simp] theorem Dev.modSaf_can (d : Dev) (f : SafInt → SafInt) : (d.modSaf f).can = d.can := rfl
@[simp] theorem Dev.modSaf_ylr (d : Dev) (f : SafInt → SafInt) : (d.modSaf f).ylr = d.ylr := rfl
@[simp] theorem Dev.modSaf_hif (d : Dev) (f : SafInt → SafInt) : (d.modSaf f).hif = d.hif := rfl
@[simp] theorem Dev.modSaf_bus (d : Dev) (f : SafInt → SafInt) : (d.modSaf f).bus = d.bus := rfl
@[simp] theorem Dev.modSaf_expKey (d : Dev) (f : SafInt → SafInt) : (d.modSaf f).expKey = d.expKey := rfl
@[simp] theorem Dev.modSaf_mboxIrq (d : Dev) (f : SafInt → SafInt) : (d.modSaf f).mboxIrq = d.mboxIrq := rfl
@[simp] theorem Dev.modSaf_loopHost (d : Dev) (f : SafInt → SafInt) : (d.modSaf f).loopHost = d.loopHost := rfl
@[simp] theorem Dev.modSaf_pwr (d : Dev) (f : SafInt → SafInt) : (d.modSaf f).pwr = d.pwr := rfl
@[simp] theorem Dev.modSaf_sar (d : Dev) (f : SafInt → SafInt) : (d.modSaf f).sar = d.sar := rfl
@[simp] theorem Dev.modSaf_uart (d : Dev) (f : SafInt → SafInt) : (d.modSaf f).uart = d.uart := rfl
@[simp] theorem Dev.modSaf_i2c (d : Dev) (f : SafInt → SafInt) : (d.modSaf f).i2c = d.i2c := rfl
@[simp] theorem Dev.modSaf_ospi (d : Dev) (f : SafInt → SafInt) : (d.modSaf f).ospi = d.ospi := rfl
@[simp] theorem Dev.modSaf_plic (d : Dev) (f : SafInt → SafInt) : (d.modSaf f).plic = d.plic := rfl
@[simp] theorem Dev.modSaf_testAge (d : Dev) (f : SafInt → SafInt) : (d.modSaf f).testAge = d.testAge := rfl

/-! ### Posting an event touches the registers and the events of the cycle alone -/

@[simp] theorem Dev.raise_chip (d : Dev) (p e : Nat) : (d.raise p e).chip = d.chip := by simp only [Dev.raise]; split <;> rfl
@[simp] theorem Dev.raise_now (d : Dev) (p e : Nat) : (d.raise p e).now = d.now := by simp only [Dev.raise]; split <;> rfl
@[simp] theorem Dev.raise_mem (d : Dev) (p e : Nat) : (d.raise p e).mem = d.mem := by simp only [Dev.raise]; split <;> rfl
@[simp] theorem Dev.raise_hostOut (d : Dev) (p e : Nat) : (d.raise p e).hostOut = d.hostOut := by simp only [Dev.raise]; split <;> rfl
@[simp] theorem Dev.raise_mbox (d : Dev) (p e : Nat) : (d.raise p e).mbox = d.mbox := by simp only [Dev.raise]; split <;> rfl
@[simp] theorem Dev.raise_fresh (d : Dev) (p e : Nat) : (d.raise p e).fresh = d.fresh := by simp only [Dev.raise]; split <;> rfl
@[simp] theorem Dev.raise_bay (d : Dev) (p e : Nat) : (d.raise p e).bay = d.bay := by simp only [Dev.raise]; split <;> rfl
@[simp] theorem Dev.raise_ctc (d : Dev) (p e : Nat) : (d.raise p e).ctc = d.ctc := by simp only [Dev.raise]; split <;> rfl
@[simp] theorem Dev.raise_rcd (d : Dev) (p e : Nat) : (d.raise p e).rcd = d.rcd := by simp only [Dev.raise]; split <;> rfl
@[simp] theorem Dev.raise_imd (d : Dev) (p e : Nat) : (d.raise p e).imd = d.imd := by simp only [Dev.raise]; split <;> rfl
@[simp] theorem Dev.raise_saf (d : Dev) (p e : Nat) : (d.raise p e).saf = d.saf := by simp only [Dev.raise]; split <;> rfl
@[simp] theorem Dev.raise_rtc (d : Dev) (p e : Nat) : (d.raise p e).rtc = d.rtc := by simp only [Dev.raise]; split <;> rfl
@[simp] theorem Dev.raise_log (d : Dev) (p e : Nat) : (d.raise p e).log = d.log := by simp only [Dev.raise]; split <;> rfl
@[simp] theorem Dev.raise_lsw (d : Dev) (p e : Nat) : (d.raise p e).lsw = d.lsw := by simp only [Dev.raise]; split <;> rfl
@[simp] theorem Dev.raise_car (d : Dev) (p e : Nat) : (d.raise p e).car = d.car := by simp only [Dev.raise]; split <;> rfl
@[simp] theorem Dev.raise_mpl (d : Dev) (p e : Nat) : (d.raise p e).mpl = d.mpl := by simp only [Dev.raise]; split <;> rfl
@[simp] theorem Dev.raise_met (d : Dev) (p e : Nat) : (d.raise p e).met = d.met := by simp only [Dev.raise]; split <;> rfl
@[simp] theorem Dev.raise_linkOut (d : Dev) (p e : Nat) : (d.raise p e).linkOut = d.linkOut := by simp only [Dev.raise]; split <;> rfl
@[simp] theorem Dev.raise_pair (d : Dev) (p e : Nat) : (d.raise p e).pair = d.pair := by simp only [Dev.raise]; split <;> rfl
@[simp] theorem Dev.raise_led (d : Dev) (p e : Nat) : (d.raise p e).led = d.led := by simp only [Dev.raise]; split <;> rfl
@[simp] theorem Dev.raise_roles (d : Dev) (p e : Nat) : (d.raise p e).roles = d.roles := by simp only [Dev.raise]; split <;> rfl
@[simp] theorem Dev.raise_links (d : Dev) (p e : Nat) : (d.raise p e).links = d.links := by simp only [Dev.raise]; split <;> rfl
@[simp] theorem Dev.raise_vlt (d : Dev) (p e : Nat) : (d.raise p e).vlt = d.vlt := by simp only [Dev.raise]; split <;> rfl
@[simp] theorem Dev.raise_nfr (d : Dev) (p e : Nat) : (d.raise p e).nfr = d.nfr := by simp only [Dev.raise]; split <;> rfl
@[simp] theorem Dev.raise_tag (d : Dev) (p e : Nat) : (d.raise p e).tag = d.tag := by simp only [Dev.raise]; split <;> rfl
@[simp] theorem Dev.raise_epd (d : Dev) (p e : Nat) : (d.raise p e).epd = d.epd := by simp only [Dev.raise]; split <;> rfl
@[simp] theorem Dev.raise_upd (d : Dev) (p e : Nat) : (d.raise p e).upd = d.upd := by simp only [Dev.raise]; split <;> rfl
@[simp] theorem Dev.raise_dma (d : Dev) (p e : Nat) : (d.raise p e).dma = d.dma := by simp only [Dev.raise]; split <;> rfl
@[simp] theorem Dev.raise_wav (d : Dev) (p e : Nat) : (d.raise p e).wav = d.wav := by simp only [Dev.raise]; split <;> rfl
@[simp] theorem Dev.raise_plc (d : Dev) (p e : Nat) : (d.raise p e).plc = d.plc := by simp only [Dev.raise]; split <;> rfl
@[simp] theorem Dev.raise_exi (d : Dev) (p e : Nat) : (d.raise p e).exi = d.exi := by simp only [Dev.raise]; split <;> rfl
@[simp] theorem Dev.raise_can (d : Dev) (p e : Nat) : (d.raise p e).can = d.can := by simp only [Dev.raise]; split <;> rfl
@[simp] theorem Dev.raise_ylr (d : Dev) (p e : Nat) : (d.raise p e).ylr = d.ylr := by simp only [Dev.raise]; split <;> rfl
@[simp] theorem Dev.raise_hif (d : Dev) (p e : Nat) : (d.raise p e).hif = d.hif := by simp only [Dev.raise]; split <;> rfl
@[simp] theorem Dev.raise_bus (d : Dev) (p e : Nat) : (d.raise p e).bus = d.bus := by simp only [Dev.raise]; split <;> rfl
@[simp] theorem Dev.raise_expKey (d : Dev) (p e : Nat) : (d.raise p e).expKey = d.expKey := by simp only [Dev.raise]; split <;> rfl
@[simp] theorem Dev.raise_mboxIrq (d : Dev) (p e : Nat) : (d.raise p e).mboxIrq = d.mboxIrq := by simp only [Dev.raise]; split <;> rfl
@[simp] theorem Dev.raise_loopHost (d : Dev) (p e : Nat) : (d.raise p e).loopHost = d.loopHost := by simp only [Dev.raise]; split <;> rfl
@[simp] theorem Dev.raise_pwr (d : Dev) (p e : Nat) : (d.raise p e).pwr = d.pwr := by simp only [Dev.raise]; split <;> rfl
@[simp] theorem Dev.raise_sar (d : Dev) (p e : Nat) : (d.raise p e).sar = d.sar := by simp only [Dev.raise]; split <;> rfl
@[simp] theorem Dev.raise_uart (d : Dev) (p e : Nat) : (d.raise p e).uart = d.uart := by simp only [Dev.raise]; split <;> rfl
@[simp] theorem Dev.raise_i2c (d : Dev) (p e : Nat) : (d.raise p e).i2c = d.i2c := by simp only [Dev.raise]; split <;> rfl
@[simp] theorem Dev.raise_ospi (d : Dev) (p e : Nat) : (d.raise p e).ospi = d.ospi := by simp only [Dev.raise]; split <;> rfl
@[simp] theorem Dev.raise_plic (d : Dev) (p e : Nat) : (d.raise p e).plic = d.plic := by simp only [Dev.raise]; split <;> rfl
@[simp] theorem Dev.raise_testAge (d : Dev) (p e : Nat) : (d.raise p e).testAge = d.testAge := by simp only [Dev.raise]; split <;> rfl

@[simp] theorem Dev.raise_raw (d : Dev) (p e : Nat) : (d.raise p e).raw = (p, e) :: d.raw := by simp only [Dev.raise]; split <;> rfl

/-! ### Reads after writes -/

theorem Dev.rd_wr (d : Dev) (a b : Nat) (w : Word) : (d.wr a w).rd b = if b = a then w else d.rd b :=
  Sparse.get_set resetWord d.regs a b w

@[simp] theorem Dev.rd_wr_same (d : Dev) (a : Nat) (w : Word) : (d.wr a w).rd a = w := by simp [Dev.rd_wr]

theorem Dev.rd_wr_ne (d : Dev) {a b : Nat} (w : Word) (h : b ≠ a) : (d.wr a w).rd b = d.rd b := by simp [Dev.rd_wr, h]

@[simp] theorem Dev.rd_wrByte (d : Dev) (a b : Nat) (x : Byte) : (d.wrByte a x).rd b = d.rd b := rfl

theorem Dev.rdByte_wrByte (d : Dev) (a b : Nat) (x : Byte) : (d.wrByte a x).rdByte b = if b = a then x else d.rdByte b :=
  Sparse.get_set blankByte d.mem a b x

@[simp] theorem Dev.rdByte_wr (d : Dev) (a b : Nat) (w : Word) : (d.wr a w).rdByte b = d.rdByte b := rfl

theorem Dev.rd_set (d : Dev) (f : Fld) (v b : Nat) : (d.set f v).rd b = if b = f.reg then f.put (d.rd f.reg) v else d.rd b :=
  Dev.rd_wr d f.reg b _

theorem Dev.rd_set_ne (d : Dev) (f : Fld) (v : Nat) {b : Nat} (h : b ≠ f.reg) : (d.set f v).rd b = d.rd b := by simp [Dev.rd_set, h]

/-- A field's bits of a word. -/
theorem Fld.get_eq (f : Fld) (w : Word) : f.get w = w.toNat / 2 ^ f.lo % 2 ^ f.w := by
  rw [Fld.get, Nat.shiftRight_eq_div_pow]

/-- A field that has been put reads as what was put, modulo its width. -/
theorem Fld.get_put (f : Fld) (w : Word) (v : Nat) (h : f.lo + f.w ≤ 32) : f.get (f.put w v) = v % 2 ^ f.w := by
  have hw := w.isLt
  obtain ⟨r, lo, wd⟩ := f
  simp only [Fld.put, Fld.get_eq, BitVec.toNat_ofNat, Nat.shiftLeft_eq] at *
  generalize w.toNat = n at *
  have hL : 0 < 2 ^ lo := Nat.two_pow_pos lo
  have hW : 0 < 2 ^ wd := Nat.two_pow_pos wd
  generalize hu : v % 2 ^ wd = u
  have hu' : u < 2 ^ wd := hu ▸ Nat.mod_lt _ hW
  have hp : 2 ^ lo * 2 ^ wd ∣ 2 ^ 32 := by rw [← pow_add]; exact Nat.pow_dvd_pow 2 h
  obtain ⟨k, hk⟩ := hp
  have e1 : n = n / 2 ^ lo / 2 ^ wd * (2 ^ lo * 2 ^ wd) + (n / 2 ^ lo % 2 ^ wd) * 2 ^ lo + n % 2 ^ lo := by
    have a := Nat.div_add_mod n (2 ^ lo)
    have b := Nat.div_add_mod (n / 2 ^ lo) (2 ^ wd)
    calc n = 2 ^ lo * (n / 2 ^ lo) + n % 2 ^ lo := a.symm
      _ = 2 ^ lo * (2 ^ wd * (n / 2 ^ lo / 2 ^ wd) + n / 2 ^ lo % 2 ^ wd) + n % 2 ^ lo := by rw [b]
      _ = _ := by ring
  have e2 : n - n / 2 ^ lo % 2 ^ wd * 2 ^ lo + u * 2 ^ lo =
      n % 2 ^ lo + 2 ^ lo * (u + 2 ^ wd * (n / 2 ^ lo / 2 ^ wd)) := by
    have e3 : n - n / 2 ^ lo % 2 ^ wd * 2 ^ lo = n / 2 ^ lo / 2 ^ wd * (2 ^ lo * 2 ^ wd) + n % 2 ^ lo := by omega
    rw [e3]; ring
  rw [e2, hk, mul_assoc (2 ^ lo), Nat.mod_mul_right_div_self, Nat.add_mul_div_left _ _ hL, Nat.div_eq_of_lt (Nat.mod_lt _ hL),
    Nat.zero_add, Nat.mod_mul_right_mod, Nat.add_mul_mod_self_left, Nat.mod_eq_of_lt hu']

/-- Reading a field after it has been written. -/
theorem Dev.get_set_same (d : Dev) (f : Fld) (v : Nat) (h : f.lo + f.w ≤ 32) : (d.set f v).get f = v % 2 ^ f.w := by
  rw [Dev.get, Dev.set, Dev.rd_wr_same, Fld.get_put f _ v h]

/-- Reading a field of another register. -/
theorem Dev.get_set_ne (d : Dev) (f g : Fld) (v : Nat) (h : g.reg ≠ f.reg) : (d.set f v).get g = d.get g := by
  rw [Dev.get, Dev.rd_set_ne d f v h, ← Dev.get]

/-- A flag that has been written. -/
theorem Dev.bit_setBit (d : Dev) (f : Fld) (b : Bool) (h : f.lo + f.w ≤ 32) (hw : 0 < f.w) : (d.setBit f b).bit f = b := by
  have h2 : 1 < 2 ^ f.w := Nat.one_lt_two_pow (by omega)
  rw [Dev.bit, Dev.setBit, Dev.get_set_same d f _ h]
  cases b
  · simp
  · simp [Nat.mod_eq_of_lt h2]

/-! ### Canonical form -/

/-- A register write keeps the registers' canonical form. -/
theorem Dev.wr_regs_wf (d : Dev) (a : Nat) (w : Word) (h : Sparse.wf resetWord d.regs = true) :
    Sparse.wf resetWord (d.wr a w).regs = true := Sparse.wf_set h a w

/-- A byte write keeps the memories' canonical form. -/
theorem Dev.wrByte_mem_wf (d : Dev) (a : Nat) (b : Byte) (h : Memory.wf d.mem = true) : Memory.wf (d.wrByte a b).mem = true :=
  Sparse.wf_set h a b

/-- Writing a list of bytes keeps the memories' canonical form. -/
theorem Dev.wrBytes_mem_wf (l : List Byte) : ∀ (d : Dev) (a : Nat), Memory.wf d.mem = true →
    Memory.wf (d.wrBytes a l).mem = true := by
  induction l with
  | nil => exact fun _ _ h => h
  | cons b l ih => exact fun d a h => ih _ _ (Dev.wrByte_mem_wf d a b h)

/-- Posting an event keeps the registers' canonical form. -/
theorem Dev.raise_regs_wf (d : Dev) (p e : Nat) (h : Sparse.wf resetWord d.regs = true) :
    Sparse.wf resetWord (d.raise p e).regs = true := by
  unfold Dev.raise
  simp only
  split
  · exact Sparse.wf_set h _ _
  · exact h

end Sys2Proof.Machine
end

