-- ==== Sys2Proof/Laws/Access.lean ====
section
/-!
SUPPORT. What the guard of a register write does, once for every command that is one.
-/
namespace Sys2Proof.Machine

open Sys2Proof

/-- Forgetting the unlock sequence changes no register, memory byte or other field. -/
@[simp] theorem Dev.noKey_rd (d : Dev) (o : Nat) : d.noKey.rd o = d.rd o := rfl

@[simp] theorem Dev.noKey_rdN (d : Dev) (o : Nat) : d.noKey.rdN o = d.rdN o := rfl

@[simp] theorem Dev.noKey_get (d : Dev) (f : Fld) : d.noKey.get f = d.get f := rfl

@[simp] theorem Dev.noKey_bit (d : Dev) (f : Fld) : d.noKey.bit f = d.bit f := rfl

@[simp] theorem Dev.noKey_flag (d : Dev) (f : Fld) (k : Nat) : d.noKey.flag f k = d.flag f k := rfl

@[simp] theorem Dev.noKey_rdByte (d : Dev) (a : Nat) : d.noKey.rdByte a = d.rdByte a := rfl

/-- A write that passes the writer and area rules runs its effect on the device with no unlock sequence. -/
theorem Dev.guard_ok {d : Dev} {m : Master} {p : PageId} {o : Nat} (k : Dev → Dev) (h : d.accepts m p o = true) :
    d.guard m p o k = k d.noKey := by
  unfold Dev.accepts at h
  simp only [Bool.and_eq_true, Option.isNone_iff_eq_none] at h
  have h1 : d.noKey.writerError m p o = none := h.1
  have h2 : d.noKey.areaOpen p o = true := h.2
  simp only [Dev.guard, h1, h2, if_true]

/-- A write that a writer rule rejects stores the code and runs nothing. -/
theorem Dev.guard_writer {d : Dev} {m : Master} {p : PageId} {o e : Nat} (k : Dev → Dev) (h : d.writerError m p o = some e) :
    d.guard m p o k = d.noKey.reject p.base e := by
  have h1 : d.noKey.writerError m p o = some e := h
  simp only [Dev.guard, h1]

/-- A write to a closed area is rejected with EXPERT_CLOSED. -/
theorem Dev.guard_area {d : Dev} {m : Master} {p : PageId} {o : Nat} (k : Dev → Dev) (h : d.writerError m p o = none)
    (h' : d.areaOpen p o = false) : d.guard m p o k = d.noKey.reject p.base Err.EXPERT_CLOSED := by
  have h1 : d.noKey.writerError m p o = none := h
  have h2 : d.noKey.areaOpen p o = false := h'
  simp [Dev.guard, h1, h2]

/-- A header write to a page of the map is a guarded write. -/
theorem Dev.header_ok {d : Dev} {m : Master} {g : BitVec 8} {p : PageId} {o : Nat} (k : PageId → Dev → Dev)
    (hg : pageOf g = some p) (h : d.accepts m p o = true) : d.header m g o k = k p d.noKey := by
  simp only [Dev.header, hg, Dev.guard_ok (k p) h]

/-- A start that the page takes is checked by its own rule, then runs. -/
theorem Dev.startWork_ok {d : Dev} {m : Master} {p : PageId} {o : Nat} (e : Dev → Option Nat) (k : Dev → Dev)
    (h : d.starts m p o = true) :
    d.startWork m p o e k = match e d.noKey with
      | some c => d.noKey.reject p.base c
      | none => k d.noKey := by
  unfold Dev.starts at h
  simp only [Bool.and_eq_true, Option.isNone_iff_eq_none] at h
  have h1 : d.noKey.workError p = none := h.2
  simp only [Dev.startWork, Dev.guard_ok _ h.1, h1] <;> rfl

/-- What a page-checked write does, in either case (R40). -/
theorem Dev.guard_eq (d : Dev) (m : Master) (p : PageId) (o : Nat) (k : Dev → Dev) :
    d.guard m p o k = if d.accepts m p o then k d.noKey else d.turnedDown m p o := by
  by_cases h : d.accepts m p o = true
  · rw [Dev.guard_ok k h, if_pos h]
  · rw [if_neg h]
    unfold Dev.accepts at h
    have hw : d.noKey.writerError m p o = d.writerError m p o := rfl
    have ha : d.noKey.areaOpen p o = d.areaOpen p o := rfl
    simp only [Dev.guard, Dev.turnedDown, hw, ha]
    cases he : d.writerError m p o with
    | some e => rfl
    | none =>
      simp only [he, Option.isNone_none, Bool.true_and] at h
      simp [h]

/-- What a start of work does, in either case (R40, R46). -/
theorem Dev.startWork_eq (d : Dev) (m : Master) (p : PageId) (o : Nat) (e : Dev → Option Nat) (k : Dev → Dev) :
    d.startWork m p o e k =
      if d.starts m p o then (match e d.noKey with | some c => d.noKey.reject p.base c | none => k d.noKey)
      else d.startRefused m p o := by
  unfold Dev.startWork
  rw [Dev.guard_eq]
  unfold Dev.starts Dev.startRefused
  have hw : d.noKey.workError p = d.workError p := rfl
  simp only [hw]
  by_cases h : d.accepts m p o = true <;> cases he : d.workError p <;> simp [h] <;> rfl

/-- What a write to a header does, in either case (R36, R40). -/
theorem Dev.header_eq (d : Dev) (m : Master) (g : BitVec 8) (o : Nat) (k : PageId → Dev → Dev) :
    d.header m g o k = match pageOf g with
      | none => d.noSuchPage
      | some p => if d.accepts m p o then k p d.noKey else d.turnedDown m p o := by
  unfold Dev.header
  cases pageOf g with
  | none => rfl
  | some p => exact Dev.guard_eq d m p o (k p)

end Sys2Proof.Machine
end

