-- ==== Sys2Proof/Laws/Serve.lean ====
section
/-!
SUPPORT. What serving a request does: the vault, a key slot, the legal domain; and what a command does with the domains on or off.
-/
namespace Sys2Proof.Machine

open Sys2Proof

/-- With the domains on, a command is its effect on the device; the queue stays. -/
theorem State.on_on {d : Dev} {q : List Instr} (f : Dev → Dev) (h : d.pwr.off = false) :
    State.on ⟨d, q⟩ f = .next ⟨f d, q⟩ := by
  simp [State.on, State.vbat, h]

/-- With the domains off, a command changes nothing. -/
theorem State.on_off {d : Dev} {q : List Instr} (f : Dev → Dev) (h : d.pwr.off = true) : State.on ⟨d, q⟩ f = .next ⟨d, q⟩ := by
  simp [State.on, State.vbat, h]

/-- What VBAT or the field supplies acts in either case. -/
theorem State.vbat_eq {d : Dev} {q : List Instr} (f : Dev → Dev) : State.vbat ⟨d, q⟩ f = .next ⟨f d, q⟩ := rfl

/-- A request that the vault serves is worked on, then answered. -/
theorem Dev.vltServe_ok {d : Dev} {q : VltReq} {typ : Nat} {need : VltNeed} (work : Dev → Nat × List Nat × Dev)
    (h : d.vltError q need = none) :
    d.vltServe q typ need work =
      (let r := work (if need.random then d.modVlt fun v => { v with drbgReqs := v.drbgReqs + 1 } else d)
       r.2.2.vltAnswer q typ r.1 r.2.1) := by
  simp only [Dev.vltServe, h]

/-- A request that the vault does not serve is answered with the reason. -/
theorem Dev.vltServe_refused {d : Dev} {q : VltReq} {typ e : Nat} {need : VltNeed} (work : Dev → Nat × List Nat × Dev)
    (h : d.vltError q need = some e) : d.vltServe q typ need work = d.vltAnswer q typ e := by
  simp only [Dev.vltServe, h]

/-- A used slot whose key the requester may use for the operation, intact and not found bad, is used; the operation counts. -/
theorem Dev.useSlot_ok {d : Dev} {q : VltReq} {n : Nat} {k : Fin 32} {s : KeySlot} {op : VltOp}
    (work : Dev → Fin 32 → KeySlot → Nat → Nat × List Nat × Dev) (hk : k.val = n) (hs : d.vlt.slots[k] = some s)
    (hr : op = .attest ∨ slotRights q (d.get (VLT.SLOT_ROLES k)) (d.get (VLT.SLOT_DOMAINS k)) = true)
    (ha : s.use.allows (d.get (VLT.SLOT_ALG k)) op = true) (hb : (d.rdN VLT.SLOT_BAD).testBit n = false) :
    d.useSlot q n op true work = work d.vltOp k s (d.get (VLT.SLOT_ALG k)) := by
  subst hk
  have hs' : d.vlt.slots[(⟨k.val, k.isLt⟩ : Fin 32)] = some s := hs
  unfold Dev.useSlot
  simp only [k.isLt, dif_pos, hs', ha, hb]
  rcases hr with h | h <;> simp [h]

/-- A message of a role that has the right is served; what it changes is committed when it succeeds. -/
theorem Dev.serve_ok {d : Dev} {q : Req} {typ n : Nat} {o : Obis} (work : Dev → Nat × Dev)
    (h : d.boundaryFirst.requestError q o n (if typ = 0x0203 then 2 else 1) = none) :
    d.serve q typ o n work =
      (let r := work d.boundaryFirst
       (if r.1 = Err.NONE then r.2.ledTxn.legalRefresh else r.2).ledAnswer q typ r.1) := by
  simp only [Dev.serve, h]

/-- A message without the right is answered with the reason. -/
theorem Dev.serve_refused {d : Dev} {q : Req} {typ n e : Nat} {o : Obis} (work : Dev → Nat × Dev)
    (h : d.boundaryFirst.requestError q o n (if typ = 0x0203 then 2 else 1) = some e) :
    d.serve q typ o n work = d.boundaryFirst.ledAnswer q typ e := by
  simp only [Dev.serve, h]

end Sys2Proof.Machine
end

