-- ==== Sys2Proof/Tests/Slice0.lean ====
section
/-!
SUPPORT. Witnesses: states and operands that meet the hypotheses of each statement. Tests: ill-formed commands, and single
steps against figures the spec prints.
-/
namespace Sys2Proof.Tests

open Sys2Proof Sys2Proof.Machine

set_option Elab.async false
set_option linter.unusedVariables false

/-- Device after reset. -/
def base : Dev := {}
/-- A page enabled. -/
def turnedOn (p : Nat) : Dev := base.setBit (Hdr.EN p) true
/-- The ledger ready, with an open session of every role. -/
def legally : Dev := { base with led := { base.led with started := true, ready := true }, roles := [1, 2, 3, 4].map fun r => { role := r, link := .spi } }
/-- A request of the role `r`. -/
def role (r : Nat) : Req := { link := .spi, role := r }
/-- A request of the operator's host, and one of the application domain. -/
def fromHost : VltReq := { host := some { link := .spi, role := 1 } }
/-- A request of the application domain. -/
def fromApp : VltReq := {}
/-- A vault that serves, with an attestation key and keys for codes, signatures and the tag. -/
def vaultUp : Dev :=
  let s := (((legally.vlt.slots.set 0 (some { use := .attest })).set 5 (some { use := .blob 4 })).set 6 (some { use := .blob 1 })).set 7
    (some { use := .blob 5 })
  let d : Dev := { legally with vlt := { legally.vlt with rootOk := true, slots := s } }
  let d := ((d.setBit VLT.STAT_READY true).setBit VLT.STAT_TRNG_OK true).setBit VLT.STAT_DRBG_OK true
  let d := ((d.set (VLT.SLOT_ALG 5) 1).set (VLT.SLOT_ALG 6) 0x10).set (VLT.SLOT_ALG 7) 1
  [5, 6, 7].foldl (fun d k => (d.set (VLT.SLOT_ROLES k) 255).set (VLT.SLOT_DOMAINS k) 255) d
/-- A key blob of a NIST P-256 key of usage 1. -/
def blob : List Byte := [0x56, 0x4B, 0x42, 0x31, 0x10, 1, 0xFF, 0xFF, 0, 0, 32, 0, 9, 0, 0, 0] ++ leBytes 4 (vaultUp.rdN VLT.ROOT_GEN) ++ List.replicate 60 0
/-- Modem 0 running, keyed and taking part in the arbitration. -/
def modem : Dev := (((turnedOn (PLC.page 0)).setBit (PLC.STAT_AFE_ON 0) true).setBit (PLC.CFG_ARB_EN 0) true).modPlc 0 fun p => { p with keyed := true }
/-- The router running. -/
def routerOn : Dev := (turnedOn YLR.page).setBit YLR.CFG_SHARE_AUTH false
/-- An application packet for a unit without an address. -/
def packet : Pkt := { cls := 3, typ := 0x80, dst := 0, src := 9 }
/-- A router whose ports 1 and 2 carry packets, every unit behind port 2. -/
def routed : Dev := (((routerOn.setBit (YL.STAT_SYNC 1) true).setBit (YL.STAT_LINK_UP 1) true).setBit (YL.STAT_LINK_UP 2) true).wrN (YLR.ROUTE 0) 0x22222222

/-- The hypotheses of ResetCommands can be met. -/
theorem witness_ResetCommands :
    ((fun (d : Dev) (v x : BitVec 16) => (d.pwr.off = true) ∧ (d.pwr.thermal = false) ∧ (8500 ≤ v.toNat) ∧ ((d.bit
      PWR.CFG_VSENSE_EN = true → d.ofNom (d.get PWR.VSENSE_CFG_LOSS + d.get PWR.THR_HYST) ≤ x.toNat)))
      ({ base with pwr := { base.pwr with off := true } }) 9000 20000) ∧
    ((fun (d : Dev) (tj : BitVec 12) => (d.pwr.off = true) ∧ (d.pwr.thermal = true) ∧ (tj.toInt < 1250))
      ({ base with pwr := { base.pwr with off := true, thermal := true } }) 100) := by
  refine ⟨?_, ?_⟩ <;> decide +kernel

/-- The hypotheses of DomainResetCommands can be met. -/
theorem witness_DomainResetCommands :
    (fun d : Dev => d.pwr.off = false) base := by decide +kernel

/-- The hypotheses of SupplyCommands can be met. -/
theorem witness_SupplyCommands :
    (fun d : Dev => d.pwr.off = false) base := by decide +kernel

/-- The hypotheses of HeaderCommands can be met. -/
theorem witness_HeaderCommands :
    (fun d : Dev => d.pwr.off = false) base := by decide +kernel

/-- The hypotheses of SerialCommands can be met. -/
theorem witness_SerialCommands :
    (fun d : Dev => d.pwr.off = false) base := by decide +kernel

/-- The hypotheses of OspiEthCommands can be met. -/
theorem witness_OspiEthCommands :
    (fun d : Dev => d.pwr.off = false) base := by decide +kernel

/-- The hypotheses of HostCommands can be met. -/
theorem witness_HostCommands :
    (fun d : Dev => d.pwr.off = false) base := by decide +kernel

/-- The hypotheses of BusCommands can be met. -/
theorem witness_BusCommands :
    (fun d : Dev => d.pwr.off = false) base := by decide +kernel

/-- The hypotheses of TestCommands can be met. -/
theorem witness_TestCommands :
    (fun d : Dev => d.pwr.off = false) base := by decide +kernel

/-- The hypotheses of CarouselCommands can be met. -/
theorem witness_CarouselCommands :
    (fun d : Dev => d.pwr.off = false) base := by decide +kernel

/-- The hypotheses of PoolCommands can be met. -/
theorem witness_PoolCommands :
    (fun d : Dev => d.pwr.off = false) base := by decide +kernel

/-- The hypotheses of MeterCommands can be met. -/
theorem witness_MeterCommands :
    (fun d : Dev => d.pwr.off = false) base := by decide +kernel

/-- The hypotheses of BayCommands can be met. -/
theorem witness_BayCommands :
    (fun d : Dev => d.pwr.off = false) base := by decide +kernel

/-- The hypotheses of PrimitiveCommands can be met. -/
theorem witness_PrimitiveCommands :
    (fun d : Dev => d.pwr.off = false) base := by decide +kernel

/-- The hypotheses of PowerPathCommands can be met. -/
theorem witness_PowerPathCommands :
    (fun d : Dev => d.pwr.off = false) base := by decide +kernel

/-- The hypotheses of EarthFaultCommands can be met. -/
theorem witness_EarthFaultCommands :
    (fun d : Dev => d.pwr.off = false) base := by decide +kernel

/-- The hypotheses of SafetyCommands can be met. -/
theorem witness_SafetyCommands :
    (fun d : Dev => d.pwr.off = false) base := by decide +kernel

/-- The hypotheses of SafetyMessageCommands can be met. -/
theorem witness_SafetyMessageCommands :
    (fun d : Dev => d.pwr.off = false) base := by decide +kernel

/-- The hypotheses of LedgerCommands can be met. -/
theorem witness_LedgerCommands :
    (fun d : Dev => d.pwr.off = false) base := by decide +kernel

/-- The hypotheses of LegalMessageCommands can be met. -/
theorem witness_LegalMessageCommands :
    (fun d : Dev => d.pwr.off = false) base := by decide +kernel

/-- The hypotheses of RtcCommands can be met. -/
theorem witness_RtcCommands :
    (fun d : Dev => d.pwr.off = false) base := by decide +kernel

/-- The hypotheses of VaultKeyCommands can be met. -/
theorem witness_VaultKeyCommands :
    (fun d : Dev => d.pwr.off = false) base := by decide +kernel

/-- The hypotheses of VaultCommands can be met. -/
theorem witness_VaultCommands :
    (fun d : Dev => d.pwr.off = false) base := by decide +kernel

/-- The hypotheses of ReaderCommands can be met. -/
theorem witness_ReaderCommands :
    (fun d : Dev => d.pwr.off = false) base := by decide +kernel

/-- The hypotheses of TagCommands can be met. -/
theorem witness_TagCommands :
    (fun d : Dev => d.pwr.off = false) base := by decide +kernel

/-- The hypotheses of DisplayCommands can be met. -/
theorem witness_DisplayCommands :
    (fun d : Dev => d.pwr.off = false) base := by decide +kernel

/-- The hypotheses of LoadSwitchCommands can be met. -/
theorem witness_LoadSwitchCommands :
    (fun d : Dev => d.pwr.off = false) base := by decide +kernel

/-- The hypotheses of VehicleLinkCommands can be met. -/
theorem witness_VehicleLinkCommands :
    (fun d : Dev => d.pwr.off = false) base := by decide +kernel

/-- The hypotheses of ExiCommands can be met. -/
theorem witness_ExiCommands :
    (fun d : Dev => d.pwr.off = false) base := by decide +kernel

/-- The hypotheses of FabricCommands can be met. -/
theorem witness_FabricCommands :
    (fun d : Dev => d.pwr.off = false) base := by decide +kernel

/-- The hypotheses of PairCommands can be met. -/
theorem witness_PairCommands :
    (fun d : Dev => d.pwr.off = false) base := by decide +kernel

/-- The hypotheses of UpdateCommands can be met. -/
theorem witness_UpdateCommands :
    (fun d : Dev => d.pwr.off = false) base := by decide +kernel

/-- The hypotheses of IdleStep can be met. -/
theorem witness_IdleStep :
    (fun d : Dev => d.pwr.off = true) { base with pwr := { base.pwr with off := true } } ∧ (fun d : Dev => d.pwr.off = false)
      base := by decide +kernel

/-- The hypotheses of FieldWrite can be met. -/
theorem witness_FieldWrite :
    (fun (f g : Fld) (a : Nat) => f.lo + f.w ≤ 32 ∧ g.reg = f.reg ∧ g.lo + g.w ≤ 32 ∧ (g.lo + g.w ≤ f.lo ∨ f.lo + f.w ≤ g.lo) ∧
      a ≠ f.reg) ⟨0x40, 31, 1⟩ ⟨0x40, 0, 31⟩ 0x44 ∧ (fun (f g : Fld) => f.lo + f.w ≤ 32 ∧ g.reg = f.reg ∧ g.lo + g.w ≤ 32 ∧
      f.lo + f.w ≤ g.lo) ⟨0x40, 0, 8⟩ ⟨0x40, 8, 24⟩ := by decide +kernel

/-- The hypotheses of LittleEndianMemory can be met. -/
theorem witness_LittleEndianMemory :
    (fun (a n i b : Nat) => i < n ∧ (b < a ∨ a + n ≤ b)) 8 4 3 12 ∧ (fun (a n i b : Nat) => i < n ∧ (b < a ∨ a + n ≤ b)) 8 4 0
      7 := by decide +kernel

/-- The hypotheses of CanonicalFormKept can be met. -/
theorem witness_CanonicalFormKept :
    (fun d : Dev => d.wf = true) ((base.wrByte 0x20000000 5).wrN YLR.SYNC_OFS 3) := by decide +kernel

/-- The hypotheses of RejectionStored can be met. -/
theorem witness_RejectionStored :
    (fun (d : Dev) (m : Master) (p : PageId) (o e : Nat) => e < 256 ∧ d.writerError m p o = some e) base .app0 .SAF 0x08 1 ∧
      (fun (d : Dev) (m : Master) (p : PageId) (o : Nat) => d.writerError m p o = none ∧ d.areaOpen p o = false) base .app0
      .CAR 0x400 ∧ (fun (d : Dev) (m : Master) (p : PageId) (o e : Nat) => d.accepts m p o = true ∧ d.workError p = some e)
      base .app0 .EXI 0x0A8 Err.SEQUENCE ∧ (fun (d : Dev) (m : Master) (p : PageId) (o e : Nat) => d.starts m p o = true ∧ (fun
      d : Dev => if d.isRm then none else some Err.SEQUENCE) d.noKey = some e) routerOn .app0 .YLR 0x04C Err.SEQUENCE := by decide +kernel

/-- The hypotheses of RejectedWriteChangesNothing can be met. -/
theorem witness_RejectedWriteChangesNothing :
    (fun (d : Dev) (m : Master) (p : PageId) (a o e : Nat) => a ≠ p.base + 0x020 ∧ a ≠ p.base + 0x018 ∧ d.writerError m p o =
      some e) base .app0 .SAF 5 8 1 ∧ (fun (d : Dev) (m : Master) (p : PageId) (o w : Nat) => d.raw.count (p.base, 31) <
      (d.fieldsWrite m p o w).raw.count (p.base, 31)) (base.setBit EPD.STAT_RAILS_ON true) .app0 .EPD 0x040 0 ∧ (fun (d : Dev)
      (p : PageId) => ∃ t : Dev, both p true true (execPairHandover (.inl .app0)) (execPairRejoin (.inl .app0)) d = some t ∧
      d.raw.count (p.base, 31) < t.raw.count (p.base, 31)) base .PAIR := ⟨by decide +kernel, by decide +kernel, _, rfl, by decide +kernel⟩

/-- The hypotheses of OwnerMoves can be met. -/
theorem witness_OwnerMoves :
    (fun (d : Dev) (m : Master) (g : BitVec 8) (p : PageId) (_ : BitVec 2) => d.pwr.off = false ∧ pageOf g = some p ∧ d.present
      p = true ∧ p.legal = false ∧ p.safety = false ∧ p ≠ .VLT ∧ d.owns m p = false) base .hif 0x40 .EXI 1 ∧ (fun (d : Dev) (m
      : Master) (g : BitVec 8) (p : PageId) (o : BitVec 2) => d.pwr.off = false ∧ pageOf g = some p ∧ d.present p = true ∧
      p.ownerFixed = false ∧ p ≠ .VLT ∧ d.owns m p = true ∧ d.get (Hdr.OWNER p.base) ≠ o.toNat) base .app0 0x40 .EXI 1 ∧ (fun
      (d : Dev) (m : Master) (g : BitVec 8) (p : PageId) (o : BitVec 2) => d.pwr.off = false ∧ pageOf g = some p ∧ p.ownerFixed
      = true ∧ d.accepts m p 0x008 = true ∧ d.get (Hdr.OWNER p.base) ≠ o.toNat) base .saf 0x50 .SAF 1 := by decide +kernel

/-- The hypotheses of HighWordHeld can be met. -/
theorem witness_HighWordHeld :
    (fun (d : Dev) (m : Master) (a : Nat) => a ∈ [CAR.WT_LO, CAR.RTC_CAP_LO, CAR.BND_WT_LO] ∧ d.filterAllows m (0x40000000 + a)
      false = true ∧ (d.busRead m a).2.filterAllows m (0x40000000 + (a + 4)) false = true) base .app0 CAR.WT_LO ∧ (fun (d :
      Dev) (m : Master) => ∃ x ∈ d.car.hold, x.1.1 ≠ m)
      { base with car := { base.car with hold := [((.app1, CAR.WT_HI), 5)] } } .app0 := ⟨by decide +kernel, _, List.mem_singleton.mpr rfl, by decide +kernel⟩

/-- The hypotheses of EventsRecorded can be met. -/
theorem witness_EventsRecorded :
    (fun (e w : Nat) => e < 32 ∧ w < 2 ^ 32 ∧ w.testBit 31 = true) 31 0x80000000 ∧ (fun w : Nat => w < 2 ^ 32 ∧ w.testBit 31 =
      false) 1 := by decide +kernel

/-- The hypotheses of PacketForwarding can be met. -/
theorem witness_PacketForwarding :
    (fun (d : Dev) (p : Fin 3) (k : Pkt) => d.pwr.off = false ∧ d.portLooped p.val = false ∧ d.bit (YL.STAT_SYNC p) = true ∧
      k.hcrcOk = true ∧ d.ylrOn = true ∧ k.dst ≠ 0 ∧ k.dst ≠ 255 ∧ k.dst.toNat = d.ownAddr) (routed.set YLR.STAT_ADDR 5) 1
      { packet with dst := 5 } ∧ (fun (d : Dev) (p : Fin 3) (k : Pkt) (r : Fin 3) => d.bit (YL.STAT_SYNC p) = true ∧ d.ylrOn =
      true ∧ k.dst.toNat ≠ d.ownAddr ∧ 2 ≤ k.ttl.toNat ∧ d.route k.dst.toNat = some r ∧ r ≠ p ∧ d.classStopped k.cls.val =
      false) (routed.set PWR.STAT_LEVEL 0) 1 { packet with dst := 5 } 2 ∧ (fun (d : Dev) (p : Fin 3) (k : Pkt) => d.bit
      (YL.STAT_SYNC p) = true ∧ d.ylrOn = true ∧ k.dst.toNat ≠ d.ownAddr ∧ 2 ≤ k.ttl.toNat ∧ d.route k.dst.toNat = some p)
      (routed.wrN (YLR.ROUTE 0) 0x11111111) 1 { packet with dst := 5 } ∧ (fun (d : Dev) (k : Pkt) => d.route k.dst.toNat =
      none) base { packet with dst := 5 } ∧ (fun (d : Dev) (p : Fin 3) (k : Pkt) => d.bit (YL.STAT_SYNC p) = true ∧ d.ylrOn =
      true ∧ k.dst = 255 ∧ d.ylr.seen.contains (k.src.toNat, k.seq.toNat) = true) (routed.modYlr fun y =>
      { y with seen := [(9, 0)] }) 1 { packet with dst := 255 } ∧ (fun (d : Dev) (p : Fin 3) (k : Pkt) => d.bit (YL.STAT_SYNC
      p) = true ∧ d.ylrOn = true ∧ k.dst = 255 ∧ d.ylr.seen.contains (k.src.toNat, k.seq.toNat) = false ∧ 2 ≤ k.ttl.toNat ∧
      ((d.modYlr fun y => { y with seen := (k.src.toNat, k.seq.toNat) :: y.seen }).takePkt p k).classStopped k.cls.val = false)
      (routed.set PWR.STAT_LEVEL 0) 1 { packet with dst := 255 } := by decide +kernel

/-- The hypotheses of ShareWithinDemand can be met. -/
theorem witness_ShareWithinDemand :
    (fun (limit base : Int) (l : List (Nat × BayDemand)) (x y : Nat × BayDemand) => (l.map fun x => (x.1, x.2.bay)).Nodup ∧ x ∈
      l ∧ ((x.1, x.2.bay), 220) ∈ divide limit base l ∧ y ∈ l ∧ (fitSet (limit - base) l.length l).contains y = false) 260 0
      [(3, ⟨0, 220, 40, 200, 5⟩), (3, ⟨1, 300, 230, 0, 9⟩)] (3, ⟨0, 220, 40, 200, 5⟩) (3, ⟨1, 300, 230, 0, 9⟩) := by decide +kernel

/-- The hypotheses of PermitNeedsConditions can be met. -/
theorem witness_PermitNeedsConditions :
    (fun (d : Dev) (n : Bay) (grant : Bool) => (d.permitBay grant n).flag SAF.PERMIT_EFF n.val = true) ((((((((base.set
      SAF.MODE_CHMODE 0).setBit (Hdr.EN (RCD.page 0)) true).wrN (RCD.SCALE_A 0) 1).wrN (RCD.SCALE_B 0) 1).modRcd 0 fun r =>
      { r with lastPass := true }).modSafBay 0 fun b =>
      { b with ownProc := false, ownHl := false, ocg := false, hlOcg := false, hlWeld := false, lfault := 0 }).set
      (SAF.SF_BAY_ACT 0) 0).set (SAF.SF_BAY_LATCH 0) 0) 0 true := by decide +kernel

/-- The hypotheses of PermitLossCutsOutputs can be met. -/
theorem witness_PermitLossCutsOutputs :
    (fun (d : Dev) (n : Bay) => d.flag SAF.PERMIT_EFF n.val = true ∧ effOf d.chMode (d.procOk n && d.flag SAF.PERMIT_PROC
      n.val) (d.hlOk n && d.flag SAF.PERMIT_HL n.val) = false) (((base.setFlag SAF.PERMIT_EFF 0 true).set (CTC.STATE_ST 0)
      Ct.CLOSED).modCtc 0 fun c => { c with drv := 7 }) 0 := by decide +kernel

/-- The hypotheses of AnswersGated can be met. -/
theorem witness_AnswersGated :
    (fun (d : Dev) (n : Bay) (r : BitVec 64) (l : List Byte) (f : PlcFrame) => d.pwr.off = false ∧ d.plcSends n = true ∧ d.bit
      (PLC.CFG_ARB_EN n) = true ∧ (f = .attenChar r l ∨ f = .slacMatch r l) ∧ d.soundSlot n r.toNat = none) (modem.setBit
      (PLC.CTL_TX_EN 0) true) 0 9 [] (.attenChar 9 []) ∧ (fun (d : Dev) (n : Bay) (r : BitVec 64) (l : List Byte) (f :
      PlcFrame) (k : Fin 4) => d.pwr.off = false ∧ d.plcSends n = true ∧ d.bit (PLC.CFG_ARB_EN n) = true ∧ (f = .attenChar r l
      ∨ f = .slacMatch r l) ∧ d.soundSlot n r.toNat = some k ∧ d.get (PLC.SND_STAT_RESULT n k) = 1) (((modem.setBit
      (PLC.CTL_TX_EN 0) true).soundOpen 0 0 9).set (PLC.SND_STAT_RESULT 0 0) 1) 0 9 [] (.slacMatch 9 []) 0 ∧ (fun (d : Dev) (n
      : Bay) (r : BitVec 64) (k : Fin 4) => d.soundSlot n r.toNat = some k ∧ d.get (PLC.SND_STAT_RESULT n k) ≠ 1)
      ((modem.setBit (PLC.CTL_TX_EN 0) true).soundOpen 0 0 9) 0 9 0 := by decide +kernel

/-- The hypotheses of RollbackCountersRise can be met. -/
theorem witness_RollbackCountersRise :
    (fun (d : Dev) (dom v k : Nat) => rollbackIndex dom = some k ∧ d.get (VLT.ARB_CNT k) < v ∧ v ≤ 65535) base 0 7 0 ∧ (fun (d
      : Dev) (dom v k : Nat) => rollbackIndex dom = some k ∧ v ≤ d.get (VLT.ARB_CNT k)) base 0 0 0 := by decide +kernel

/-- The hypotheses of KeySlotRights can be met. -/
theorem witness_KeySlotRights :
    (fun (d : Dev) (r : VltReq) (n : Nat) (op : VltOp) (k : Fin 32) (s : KeySlot) => k.val = n ∧ d.vlt.slots[k] = some s ∧ op ≠
      .attest ∧ slotRights r (d.get (VLT.SLOT_ROLES k)) (d.get (VLT.SLOT_DOMAINS k)) = false) (vaultUp.set (VLT.SLOT_ROLES 6)
      0) fromHost 6 .sign 6 { use := .blob 1 } ∧ (fun (d : Dev) (n : Nat) (op : VltOp) (k : Fin 32) (s : KeySlot) => k.val = n
      ∧ d.vlt.slots[k] = some s ∧ op = .attest ∧ s.use.allows (d.get (VLT.SLOT_ALG k)) op = false) vaultUp 6 .attest 6
      { use := .blob 1 } ∧ (fun (d : Dev) (n : Nat) (op : VltOp) (k : Fin 32) (s : KeySlot) => k.val = n ∧ d.vlt.slots[k] =
      some s ∧ s.use.allows (d.get (VLT.SLOT_ALG k)) op = true ∧ (d.rdN VLT.SLOT_BAD).testBit n = false) vaultUp 6 .sign 6
      { use := .blob 1 } ∧ (fun (d : Dev) (n : Nat) => (d.rdN VLT.SLOT_BAD).testBit n = true ∧ d.vlt.slots[(1 : Fin 32)] =
      none) (vaultUp.wrN VLT.SLOT_BAD 64) 6 := by decide +kernel

/-- The hypotheses of LoadSwitchFrame can be met. -/
theorem witness_LoadSwitchFrame :
    (fun (d : Dev) (c : Fin 12) (i : Instr) (a : Nat) => d.pwr.off = false ∧ i ∈ [Instr.thermalTrip c] ∧ (a < LSW.page ∨
      LSW.page + 0x1000 ≤ a)) base 3 (.thermalTrip 3) 0x40 := by decide +kernel

/-- The hypotheses of CanFrame can be met. -/
theorem witness_CanFrame :
    (fun (d : Dev) (k : Fin 4) (i : Instr) (a : Nat) (j : Fin 4) => d.pwr.off = false ∧ i ∈ [Instr.canFrameTx k true] ∧ (a <
      CAN.page k ∨ CAN.page k + 0x1000 ≤ a) ∧ j ≠ k) base 1 (.canFrameTx 1 true) 0x40 2 := by decide +kernel

/-- The hypotheses of PrimitiveFrame can be met. -/
theorem witness_PrimitiveFrame :
    (fun (d : Dev) (n : Bay) (i : Instr) (a : Nat) (j : Bay) => d.pwr.off = false ∧ i ∈ [Instr.cpNeg n] ∧ (a < BAY.page n ∨
      BAY.page n + 0x1000 ≤ a) ∧ j ≠ n) base 1 (.cpNeg 1) 0x40 2 := by decide +kernel

/-- The hypotheses of FabricFrame can be met. -/
theorem witness_FabricFrame :
    (fun (d : Dev) (p : Fin 3) (i : Instr) (a : Nat) => d.pwr.off = false ∧ i ∈ [Instr.linkDown p true 0] ∧ (a < YLR.page ∨
      YLR.page + 0x4000 ≤ a)) base 1 (.linkDown 1 true 0) 0x40 := by decide +kernel

/-- The hypotheses of DarkStaysDark can be met. -/
theorem witness_DarkStaysDark :
    ∃ t : State, (fun s : State => s.dark = true ∧ Sys2Proof.Machine.step s = .next t)
      ⟨{ base with pwr := { base.pwr with off := true } }, [.cpNeg 1, .sysInfo (role 0)]⟩ := ⟨_, by decide +kernel, rfl⟩

/-- The conditions that the completion statements branch on hold in some state and fail in another: a page that accepts a write, one
that takes a start, a vault request and a legal request that are served. -/
theorem witness_branches :
    base.accepts .app0 .GPIO 0x048 = true ∧ base.accepts .hif .GPIO 0x048 = false ∧
    (turnedOn (UART.page 0)).starts .app0 (.UART 0) 0x044 = true ∧ base.starts .app0 (.UART 0) 0x044 = false ∧
    vaultUp.vltError fromApp {} = none ∧ (base.vltError fromApp {}).isSome = true ∧
    (legally.requestError (role 1) ⟨1, 1, 1, 8, 0, 255⟩ 2 0).isNone = true ∧ (base.requestError (role 1) ⟨1, 1, 1, 8, 0, 255⟩ 2 0).isSome = true := by
  decide +kernel

/-! ### Ill-formed commands (one for each check) -/

/-- A request of a role outside the table, and one with a tag of more than 16 bits. -/
def badRole : Req := { link := .spi, role := 9 }
def badTag : Req := { link := .spi, role := 1, tag := 65536 }
/-- A bad operand for each check of `Instr.wellFormed` is refused. -/
theorem test_ill_formed_refused :
    ([.vltInfo { host := some badRole }, .vltInfo { host := some badTag }, .vltInfo { dom := .saf, host := some { link := .spi, role := 1 } },
      .pairHandover (.inr badRole), .legalParameterWrite { link := .spi, role := 1 } ⟨256, 0, 0, 0, 0, 255⟩ [],
      .ledgerRead { link := .spi, role := 1 } ⟨1, 0, 1, 8, 0, 255⟩ 2 (some ⟨true, 65536, 0, 0⟩) none,
      .carCycleBoundary { periodNs := 0 }, .carCycleBoundary { src := [(0x18, [])] }, .carCycleBoundary { src := [(1, []), (1, [5])] },
      .plcFrameRx 0 (.sound 9 [0]), .exiJobDone { tokens := [{ kind := 7 }] },
      .packetReceive 0 { cls := 3, typ := 0x80, dst := 0, src := 9, payload := List.replicate 257 0 },
      .memoryAccess { master := .app0, addr := 0, write := some [] }, .memoryAccess { master := .app0, addr := 0, len := 0 },
      .mailboxWrIdxWrite .app0 .app .app 0, .mailboxRdIdxWrite .app0 .saf .saf 0, .fragmentTrainReceive { src := .app, dst := .app, typ := 0 },
      .fragmentTrainReceive { src := .app, dst := .saf, typ := 0, frags := [⟨1, 1, 0, []⟩] },
      .canFrameRx 0 { id := 5, dlc := 3 } false, .canFrameRx 0 { id := 2048 } false, .canFrameRx 0 { id := 5, brs := true } false,
      .hlChannelLost 0, .hlChannelLost 6, .sessionAuth 0 0 0 (List.replicate 65 0), .receiptSigned [], .roleSessionIdleTimeout .spi 8,
      .verifyPwd 0 [], .report { uid := 0, neigh := [none, none, none, none] }, .demand 0 [⟨0, 0, 0, 0, 0⟩, ⟨0, 0, 0, 0, 0⟩] none,
      .share [] 0, .session 0 { drv := 8 }, .ledger (.registers 0 0 (List.replicate 10 0) [] 0 0 []),
      .ethDatagramRx true .own (.echo 0 (List.replicate 4373 0))].all fun (c : Instr) => !c.wellFormed) = true := by
  decide +kernel

/-- The same commands with operands in range can be sent. -/
theorem test_well_formed_accepted :
    ([.vltInfo {}, .pairHandover (.inl .app0), .carCycleBoundary { src := [(1, []), (0x20, [5])] }, .exiJobDone { tokens := [{ kind := 6 }] },
      .plcFrameRx 0 (.sound 9 (List.replicate 58 0)), .memoryAccess { master := .app0, addr := 0 }, .mailboxWrIdxWrite .app0 .app .saf 0,
      .canFrameRx 0 { id := 2048, ide := true } false, .canFrameRx 0 { id := 5, fdf := true, dlc := 9, data := List.replicate 12 0 } false,
      .hlChannelLost 5, .verifyPwd 0 (List.replicate 8 0), .share [0, 0, 0, 0] 0].all fun (c : Instr) => c.wellFormed) = true := by
  decide +kernel

/-- What a device shows after one step. -/
def after (s : State) (f : Dev → Nat) : Option Nat :=
  match Sys2Proof.Machine.step s with
  | .next t => some (f t.dev)
  | _ => none

/-! ### Single steps and functions against the spec's figures -/

/-- CRC-32 (IEEE 802.3) and the header CRC-16 (R428) of "123456789": the published check values. -/
theorem test_crc : crc32 [0x31, 0x32, 0x33, 0x34, 0x35, 0x36, 0x37, 0x38, 0x39] = 0xCBF43926 ∧
    crc16 [0x31, 0x32, 0x33, 0x34, 0x35, 0x36, 0x37, 0x38, 0x39] = 0x29B1 := by decide +kernel

/-- The share round of chapter 19's worked example, in 0.1 kW: 22.0, 182.0, 150.0 and 11.0. -/
theorem test_share_round : (divide 4000 350 [(1, ⟨0, 220, 0, 220, 1⟩), (1, ⟨2, 3100, 0, 3000, 2⟩), (2, ⟨0, 1500, 0, 1400, 3⟩),
    (3, ⟨0, 110, 0, 110, 4⟩)]).map Prod.snd = [220, 1820, 1500, 110] := by decide +kernel

/-- The duty for 32.0 A of chapter 6's worked example: floor(533.3). -/
theorem test_auto_duty : autoDuty 320 = 533 := by decide +kernel

/-- SYS.VARIANT of unit A in chapter 0's worked example, and BLKID of BAY2 in chapter 2's. -/
theorem test_identity : base.readWord .SYS 0x040 = 0x524C3444 ∧ base.readWord (.BAY 2) 0x000 = 0x00300203 := by decide +kernel

/-- Chapter 2's worked example: the host's write to a page of the application is rejected; ERRCODE = 0x0001_0001. -/
theorem test_not_owner : after ⟨base, [.registerWrite .hif 0x30100 0]⟩ (fun d => d.readWord (.BAY 2) 0x020) = some 0x00010001 := by decide +kernel

/-- Chapter 2's worked example: EN = 0 on a bay in session leaves it BUSY and DRAINING; BLKSTAT = 0x0000_0006. -/
theorem test_drain_starts : 
    after ⟨(turnedOn (BAY.page 2)).setBit (BAY.STATE_SESSION 2) true, [.blockDisable .app0 0x30]⟩ (fun d => d.readWord (.BAY 2) 0x00C) = some 6 := by decide +kernel

/-- Ill-formed bits spell no command: the table gives no row bits, so no word is decoded. -/
theorem test_no_row_has_bits : Sys2Proof.decodeTableWord 8 0 = none := by decide +kernel

end Sys2Proof.Tests
end

section
/-!
PROOFS. What a register keeps of its other fields when a field is written (R10–R12).
-/
namespace Sys2Proof.Machine

/-- Putting a field replaces its own bits: those below it and those above it stay. -/
theorem Fld.toNat_put (f : Fld) (w : Word) (v : Nat) (h : f.lo + f.w ≤ 32) :
    (f.put w v).toNat = w.toNat % 2 ^ f.lo + 2 ^ f.lo * (v % 2 ^ f.w + 2 ^ f.w * (w.toNat / 2 ^ (f.lo + f.w))) := by
  obtain ⟨r, lo, wd⟩ := f
  obtain ⟨m, hm⟩ : 2 ^ (lo + wd) ∣ 2 ^ 32 := Nat.pow_dvd_pow 2 h
  have habove : w.toNat / 2 ^ (lo + wd) < m := Nat.div_lt_of_lt_mul (hm ▸ w.isLt)
  simp only [Fld.put, Fld.get_eq, BitVec.toNat_ofNat, Nat.shiftLeft_eq, hm]
  rw [pow_add] at habove ⊢
  have hbelow : w.toNat % 2 ^ lo < 2 ^ lo := Nat.mod_lt _ (Nat.two_pow_pos lo)
  have hnew : v % 2 ^ wd < 2 ^ wd := Nat.mod_lt _ (Nat.two_pow_pos wd)
  have hsplit : w.toNat = w.toNat % 2 ^ lo +
      2 ^ lo * (w.toNat / 2 ^ lo % 2 ^ wd + 2 ^ wd * (w.toNat / (2 ^ lo * 2 ^ wd))) := by
    rw [← Nat.div_div_eq_div_mul, Nat.mod_add_div, Nat.mod_add_div]
  have hput : w.toNat - w.toNat / 2 ^ lo % 2 ^ wd * 2 ^ lo + v % 2 ^ wd * 2 ^ lo =
      w.toNat % 2 ^ lo + 2 ^ lo * (v % 2 ^ wd + 2 ^ wd * (w.toNat / (2 ^ lo * 2 ^ wd))) := by
    rw [mul_add] at hsplit ⊢
    rw [mul_comm _ (2 ^ lo), mul_comm _ (2 ^ lo)]
    omega
  rw [hput, Nat.mod_eq_of_lt]
  calc _ < 2 ^ lo * (v % 2 ^ wd + 2 ^ wd * (w.toNat / (2 ^ lo * 2 ^ wd)) + 1) := by rw [mul_add _ _ 1]; omega
    _ ≤ 2 ^ lo * (2 ^ wd * (w.toNat / (2 ^ lo * 2 ^ wd) + 1)) := by gcongr; rw [mul_add _ _ 1]; omega
    _ ≤ 2 ^ lo * 2 ^ wd * m := by rw [mul_assoc]; gcongr; omega

/-- A field below the one that is put reads as before. -/
theorem Fld.get_put_below (f g : Fld) (w : Word) (v : Nat) (h : f.lo + f.w ≤ 32) (hg : g.lo + g.w ≤ f.lo) :
    g.get (f.put w v) = g.get w := by
  have hlow : (f.put w v).toNat % 2 ^ f.lo = w.toNat % 2 ^ f.lo := by
    rw [Fld.toNat_put f w v h, Nat.add_mul_mod_self_left, Nat.mod_mod]
  have hcut (n : Nat) : n / 2 ^ g.lo % 2 ^ g.w = n % 2 ^ f.lo % 2 ^ (g.lo + g.w) / 2 ^ g.lo := by
    rw [Nat.mod_mod_of_dvd _ (Nat.pow_dvd_pow 2 hg), pow_add, Nat.mod_mul_right_div_self]
  rw [Fld.get_eq, Fld.get_eq, hcut, hlow, ← hcut]

/-- A field above the one that is put reads as before. -/
theorem Fld.get_put_above (f g : Fld) (w : Word) (v : Nat) (h : f.lo + f.w ≤ 32) (hg : f.lo + f.w ≤ g.lo) :
    g.get (f.put w v) = g.get w := by
  have hdrop {k r q : Nat} (hr : r < 2 ^ k) : (r + 2 ^ k * q) / 2 ^ k = q := by
    rw [Nat.add_mul_div_left _ _ (Nat.two_pow_pos k), Nat.div_eq_of_lt hr, Nat.zero_add]
  have hhigh : (f.put w v).toNat / 2 ^ (f.lo + f.w) = w.toNat / 2 ^ (f.lo + f.w) := by
    rw [Fld.toNat_put f w v h, pow_add, ← Nat.div_div_eq_div_mul, hdrop (Nat.mod_lt _ (Nat.two_pow_pos _)),
      hdrop (Nat.mod_lt _ (Nat.two_pow_pos _))]
  obtain ⟨k, hk⟩ := Nat.exists_eq_add_of_le hg
  rw [Fld.get_eq, Fld.get_eq, hk, pow_add, ← Nat.div_div_eq_div_mul, hhigh, Nat.div_div_eq_div_mul]

/-- Reading a field of the written register that shares no bit with the written field. -/
theorem Dev.get_set_disjoint (d : Dev) (f g : Fld) (v : Nat) (h : f.lo + f.w ≤ 32) (hr : g.reg = f.reg)
    (hd : g.lo + g.w ≤ f.lo ∨ f.lo + f.w ≤ g.lo) : (d.set f v).get g = d.get g := by
  rw [Dev.get, Dev.get, Dev.set, hr, Dev.rd_wr_same]
  rcases hd with hbelow | habove
  · exact Fld.get_put_below f g _ v h hbelow
  · exact Fld.get_put_above f g _ v h habove

/-- Settles O39: a write replaces the field's own bits of its register's word and touches nothing else. -/
theorem fieldWrite : Obligations.FieldWrite := fun d f v h =>
  ⟨d.get_set_same f v h, fun g hr _ hd => d.get_set_disjoint f g v h hr hd, fun _ ha => d.rd_set_ne f v ha, fun _ => rfl⟩

end Sys2Proof.Machine
end

section
/-!
PROOFS. Lists of bytes and little-endian numbers in the memories (R10, R23, R24).
-/
namespace Sys2Proof.Machine

open Sys2Proof

/-! ### The bytes of a number -/

@[simp] theorem length_leBytes (n : Nat) : ∀ v : Nat, (leBytes n v).length = n := by
  induction n with
  | zero => exact fun _ => rfl
  | succ n ih => exact fun v => congrArg (· + 1) (ih (v / 256))

theorem getElem_leBytes (n : Nat) : ∀ (v : Nat) {i : Nat} (hi : i < (leBytes n v).length),
    (leBytes n v)[i] = BitVec.ofNat 8 (v / 256 ^ i) := by
  induction n with
  | zero => exact fun _ _ hi => absurd hi (Nat.not_lt_zero _)
  | succ n ih =>
    intro v i hi
    cases i with
    | zero => simp [leBytes]
    | succ i => simp [leBytes, ih, Nat.div_div_eq_div_mul, Nat.pow_succ']

/-- The bytes of a number spell it, modulo 256 to their count. -/
theorem ofLe_leBytes (n : Nat) : ∀ v : Nat, ofLe (leBytes n v) = v % 256 ^ n := by
  induction n with
  | zero => exact fun v => (Nat.mod_one v).symm
  | succ n ih =>
    intro v
    rw [leBytes, ofLe, ih, BitVec.toNat_ofNat, Nat.pow_succ' (m := 256)]
    exact Nat.mod_mul.symm

/-! ### Bytes written from an address up -/

@[simp] theorem Dev.rd_wrBytes (l : List Byte) : ∀ (d : Dev) (a r : Nat), (d.wrBytes a l).rd r = d.rd r := by
  induction l with
  | nil => exact fun _ _ _ => rfl
  | cons x l ih => exact fun d a r => (ih _ _ r).trans (d.rd_wrByte a r x)

theorem Dev.rdByte_wrBytes_outside (l : List Byte) : ∀ (d : Dev) {a b : Nat}, b < a ∨ a + l.length ≤ b →
    (d.wrBytes a l).rdByte b = d.rdByte b := by
  induction l with
  | nil => exact fun _ _ _ _ => rfl
  | cons x l ih =>
    intro d a b hb
    rw [List.length_cons] at hb
    rw [Dev.wrBytes, ih _ (by omega), Dev.rdByte_wrByte, if_neg (by omega)]

theorem Dev.rdByte_wrBytes_inside (l : List Byte) : ∀ (d : Dev) (a : Nat) {i : Nat} (hi : i < l.length),
    (d.wrBytes a l).rdByte (a + i) = l[i] := by
  induction l with
  | nil => exact fun _ _ _ hi => absurd hi (Nat.not_lt_zero _)
  | cons x l ih =>
    intro d a i hi
    rw [Dev.wrBytes]
    cases i with
    | zero => rw [Dev.rdByte_wrBytes_outside l _ (by omega), Dev.rdByte_wrByte, if_pos (Nat.add_zero a)]; rfl
    | succ i =>
      rw [← Nat.add_assoc, Nat.add_right_comm]
      exact ih _ (a + 1) (Nat.lt_of_succ_lt_succ hi)

/-! ### Reading them back -/

theorem Dev.rdBytes_eq_ofFn (d : Dev) (n : Nat) : ∀ a : Nat, d.rdBytes a n = List.ofFn fun i : Fin n => d.rdByte (a + i) := by
  induction n with
  | zero => exact fun _ => rfl
  | succ n ih => exact fun a => by simp [Dev.rdBytes, ih, List.ofFn_succ, Nat.add_assoc, Nat.add_comm 1]

theorem Dev.rdBytes_wrBytes (d : Dev) (a : Nat) (l : List Byte) : (d.wrBytes a l).rdBytes a l.length = l := by
  rw [Dev.rdBytes_eq_ofFn]
  refine List.ext_getElem List.length_ofFn fun i _ hi => ?_
  rw [List.getElem_ofFn, Dev.rdByte_wrBytes_inside l d a hi]

theorem Dev.rdLe_wrLe (d : Dev) (a n v : Nat) : (d.wrLe a n v).rdLe a n = v % 256 ^ n := by
  have hback := d.rdBytes_wrBytes a (leBytes n v)
  rw [length_leBytes] at hback
  rw [Dev.rdLe, Dev.wrLe, hback, ofLe_leBytes]

/-- Settles O40: the bytes of a number are written as a list, read back as that list, and spell the number. -/
theorem littleEndianMemory : Obligations.LittleEndianMemory := by
  intro d a n v
  refine ⟨d.rdLe_wrLe a n v, fun i hi => ?inside, fun b hb => ?outside, fun r => Dev.rd_wrBytes _ d a r⟩
  case inside => rw [Dev.wrLe, Dev.rdByte_wrBytes_inside _ d a (by rwa [length_leBytes]), getElem_leBytes]
  case outside => exact Dev.rdByte_wrBytes_outside _ d (by rwa [length_leBytes])

end Sys2Proof.Machine
end

section
/-!
PROOFS. The accesses of the bus masters (R19–R21, R27–R29, R74, R415–R422) and the variant code (R5).
-/
namespace Sys2Proof.Machine

open Sys2Proof

/-- Settles O8: each command's meaning acts on the device while the domains are on; the two writes of CHn_CTL run behind the page's
guard, which takes the write or turns it down. -/
theorem busCommands : Obligations.BusCommands := by
  intro d q h
  refine ⟨?registerWrite, ?loRegisterRead, ?memoryAccess, ?mailboxWrIdxWrite, ?mailboxRdIdxWrite, ?fragmentTrainReceive,
    ?scrubPass, ?dmaStart, ?dmaAbort, ?pacingRequest, ?dmaBurst, ?descriptorEnd⟩
  case registerWrite => exact fun m a w => show execRegisterWrite m a w ⟨d, q⟩ = _ from State.on_on _ h
  case loRegisterRead => exact fun m a => show execLoRegisterRead m a ⟨d, q⟩ = _ from State.on_on _ h
  case memoryAccess => exact fun x => show execMemoryAccess x ⟨d, q⟩ = _ from State.on_on _ h
  case mailboxWrIdxWrite => exact fun m src dst v => show execMailboxWrIdxWrite m src dst v ⟨d, q⟩ = _ from State.on_on _ h
  case mailboxRdIdxWrite => exact fun m src dst v => show execMailboxRdIdxWrite m src dst v ⟨d, q⟩ = _ from State.on_on _ h
  case fragmentTrainReceive => exact fun t => show execFragmentTrainReceive t ⟨d, q⟩ = _ from State.on_on _ h
  case scrubPass => exact fun cor uncor => show execScrubPass cor uncor ⟨d, q⟩ = _ from State.on_on _ h
  case dmaStart =>
    intro m c w
    change execDmaStart m c w ⟨d, q⟩ = _
    rw [execDmaStart, State.on_on _ h, Dev.guard_eq]
  case dmaAbort =>
    intro m c
    change execDmaAbort m c ⟨d, q⟩ = _
    rw [execDmaAbort, State.on_on _ h, Dev.guard_eq]
  case pacingRequest => exact fun c data => show execPacingRequest c data ⟨d, q⟩ = _ from State.on_on _ h
  case dmaBurst => exact fun ecc => show execDmaBurst ecc ⟨d, q⟩ = _ from State.on_on _ h
  case descriptorEnd => exact fun c => show execDescriptorEnd c ⟨d, q⟩ = _ from State.on_on _ h

theorem clearBits_zero (v : Nat) : clearBits v 0 = v := by simp [clearBits]

/-- SYS.VARIANT has no bit that reads 0 by its access code, so a read shows the variant's code whole. -/
theorem Dev.readWord_sys_variant (d : Dev) : d.readWord .SYS 0x040 = d.chip.variant.code := by
  have hrow : findRow (PageId.table .SYS) 0x040 = some (⟨0x040, 0, 1, 0, 0, 0, 0, 0, 0, 0xFFFFFFFF, [], []⟩, 0) := rfl
  have hshown : d.shown .SYS (PageId.base .SYS + 0x040) = d.chip.variant.code := rfl
  simp [Dev.readWord, hrow, hshown, clearBits_zero]

/-- Settles O38: each variant's code spells its name. -/
theorem variantCode : Obligations.VariantCode := by
  intro d
  rw [Dev.readWord_sys_variant]
  cases d.chip.variant <;> rfl

end Sys2Proof.Machine
end

section
/-!
PROOFS. Every command answers (R38–R40): no run ends in a fault or a refusal.
-/
namespace Sys2Proof.Machine

open Sys2Proof

/-- What every command can do: its meaning is an effect on the device (`State.on` or `State.vbat`), which answers a next state
and leaves the queue. -/
theorem exec_next (c : Instr) (d : Dev) (q : List Instr) : ∃ t : Dev, exec c ⟨d, q⟩ = .next ⟨t, q⟩ := by
  cases c <;> exact ⟨_, rfl⟩

/-- What every step can do: it answers a next state and takes one command at most from the queue. -/
theorem step_next (s : State) : ∃ t : State, step s = .next t ∧ t.pending = s.pending.tail := by
  obtain ⟨d, q⟩ := s
  cases q with
  | nil => exact ⟨⟨d.cycle, []⟩, rfl, rfl⟩
  | cons c q =>
    obtain ⟨t, ht⟩ := exec_next c d q
    exact ⟨⟨t, q⟩, ht, rfl⟩

/-- A step that answers a next state is the first of a run's steps. -/
theorem run_succ_of_next {s s' : State} (k : Nat) (h : step s = .next s') :
    Sys2Proof.core.run (k + 1) s = Sys2Proof.core.run k s' := by
  have hcore : Sys2Proof.core.step s = .next s' := h
  simp only [Host.Core.run, hcore]

/-- What `k` steps can do: they answer a next state and take the first `k` commands from the queue. -/
theorem run_next (k : Nat) : ∀ s : State, ∃ t : State, Sys2Proof.core.run k s = .next t ∧ t.pending = s.pending.drop k := by
  induction k with
  | zero => exact fun s => ⟨s, rfl, rfl⟩
  | succ k ih =>
    intro s
    obtain ⟨s', hstep, hq'⟩ := step_next s
    obtain ⟨t, hrun, hq⟩ := ih s'
    exact ⟨t, (run_succ_of_next k hstep).trans hrun, by rw [hq, hq', List.drop_tail]⟩

/-- Settles O60: a step never stops, so a run of any length does not; each step takes the queue's front. -/
theorem neverStops : Obligations.NeverStops := fun s =>
  ⟨fun k => (run_next k s).imp fun _ h => h.1, fun k => run_next k s⟩

end Sys2Proof.Machine
end

section
/-!
PROOFS. The canonical form of registers and memories (R23, R24, R36, R508).
-/
namespace Sys2Proof.Machine

open Sys2Proof

/-! ### Entries taken out of a sparse table -/

theorem Sparse.above_filter {α : Type} (p : Nat × α → Bool) {m : List (Nat × α)} :
    ∀ {o : Option Nat}, Sparse.sortedAbove o m = true → Sparse.sortedAbove o (m.filter p) = true := by
  induction m with
  | nil => exact fun h => h
  | cons e m ih =>
    obtain ⟨k, v⟩ := e
    intro o h
    have htail : Sparse.sortedAbove (some k) m = true := by
      cases o with
      | none => exact h
      | some b => exact (Bool.and_eq_true_iff.mp h).2
    by_cases hp : p (k, v) = true
    · rw [List.filter_cons_of_pos hp]
      cases o with
      | none => exact ih htail
      | some b => exact Bool.and_eq_true_iff.mpr ⟨(Bool.and_eq_true_iff.mp h).1, ih htail⟩
    · rw [List.filter_cons_of_neg hp]
      cases o with
      | none => exact Sparse.above_none (ih htail)
      | some b => exact Sparse.above_mono (Nat.le_of_lt (of_decide_eq_true (Bool.and_eq_true_iff.mp h).1)) (ih htail)

/-- Taking entries out keeps the canonical form. -/
theorem Sparse.wf_filter {α : Type} [DecidableEq α] {d : Nat → α} {m : List (Nat × α)} (p : Nat × α → Bool)
    (h : Sparse.wf d m = true) : Sparse.wf d (m.filter p) = true := by
  obtain ⟨hsorted, hvalues⟩ := Bool.and_eq_true_iff.mp h
  rw [List.all_eq_true] at hvalues
  exact Bool.and_eq_true_iff.mpr
    ⟨Sparse.above_filter p hsorted, List.all_eq_true.mpr fun e he => hvalues e (List.mem_filter.mp he).1⟩

/-! ### The device's operations keep it -/

theorem Dev.wf_iff (d : Dev) : d.wf = true ↔ Sparse.wf resetWord d.regs = true ∧ Memory.wf d.mem = true :=
  Bool.and_eq_true_iff

theorem Dev.wf_wr {d : Dev} (h : d.wf = true) (a : Nat) (w : Word) : (d.wr a w).wf = true :=
  have ⟨hregs, hmem⟩ := d.wf_iff.mp h
  (Dev.wf_iff _).mpr ⟨d.wr_regs_wf a w hregs, hmem⟩

theorem Dev.wf_set {d : Dev} (h : d.wf = true) (f : Fld) (v : Nat) : (d.set f v).wf = true := Dev.wf_wr h f.reg _

theorem Dev.wf_raise {d : Dev} (h : d.wf = true) (p e : Nat) : (d.raise p e).wf = true :=
  have ⟨hregs, hmem⟩ := d.wf_iff.mp h
  (Dev.wf_iff _).mpr ⟨d.raise_regs_wf p e hregs, by rwa [Dev.raise_mem]⟩

theorem Dev.wf_reject {d : Dev} (h : d.wf = true) (p c : Nat) : (d.reject p c).wf = true :=
  Dev.wf_raise (Dev.wf_set (Dev.wf_set h _ _) _ _) p 31

@[simp] theorem Dev.regs_wrBytes (l : List Byte) : ∀ (d : Dev) (a : Nat), (d.wrBytes a l).regs = d.regs := by
  induction l with
  | nil => exact fun _ _ => rfl
  | cons x l ih => exact fun d a => ih (d.wrByte a x) (a + 1)

theorem Dev.wf_wrBytes {d : Dev} (h : d.wf = true) (a : Nat) (l : List Byte) : (d.wrBytes a l).wf = true :=
  have ⟨hregs, hmem⟩ := d.wf_iff.mp h
  (Dev.wf_iff _).mpr ⟨by rwa [Dev.regs_wrBytes], Dev.wrBytes_mem_wf l d a hmem⟩

theorem Dev.wf_blankRange {d : Dev} (h : d.wf = true) (a n : Nat) : (d.blankRange a n).wf = true :=
  have ⟨hregs, hmem⟩ := d.wf_iff.mp h
  (Dev.wf_iff _).mpr ⟨hregs, Sparse.wf_filter _ hmem⟩

/-- Settles O41: a write sets or removes one key of its table, and what clears or keeps a range takes entries out of it. -/
theorem canonicalFormKept : Obligations.CanonicalFormKept := fun d h =>
  ⟨Dev.wf_wr h, Dev.wf_set h, Dev.wf_raise h, Dev.wf_reject h, Dev.wf_wrBytes h, fun a n v => Dev.wf_wrBytes h a (leBytes n v),
    Dev.wf_blankRange h, Sparse.wf_filter _ (d.wf_iff.mp h).2⟩

end Sys2Proof.Machine
end

section
/-!
PROOFS. Entries of the general event log (R26, R272, R273).
-/
namespace Sys2Proof.Machine

open Sys2Proof

@[simp] theorem Dev.log_wrBytes (l : List Byte) : ∀ (d : Dev) (a : Nat), (d.wrBytes a l).log = d.log := by
  induction l with
  | nil => exact fun _ _ => rfl
  | cons x l ih => exact fun d a => ih (d.wrByte a x) (a + 1)

@[simp] theorem length_padTo (n : Nat) (l : List Byte) : (padTo n l).length = n := by
  rw [padTo, List.length_take, List.length_append, List.length_replicate]
  omega

@[simp] theorem length_withCrc (l : List Byte) : (withCrc l).length = l.length + 4 := by simp [withCrc]

@[simp] theorem Dev.length_logHead (d : Dev) (seq src code bay : Nat) : (d.logHead seq src code bay).length = 16 := by
  simp [Dev.logHead]

/-- An entry of the general log (R272): the head, 12 bytes of data, the CRC-32. -/
def Dev.glogEntry (d : Dev) (x : Domain) (c b : Nat) (l : List Byte) : List Byte :=
  withCrc (d.logHead (d.log.glogSeq + 1) (domainNo x) c b ++ padTo 12 l)

theorem Dev.length_glogEntry (d : Dev) (x : Domain) (c b : Nat) (l : List Byte) : (d.glogEntry x c b l).length = 32 := by
  simp [Dev.glogEntry]

/-- The device whose log counter has taken the entry's number. -/
def Dev.glogNumbered (d : Dev) : Dev := { d with log := { d.log with glogSeq := d.log.glogSeq + 1 } }

/-- The event and the notice of a new entry leave the memories as the entry's bytes left them. -/
theorem Dev.mem_glog (d : Dev) (x : Domain) (c b : Nat) (l : List Byte) :
    (d.glog x c b l).mem = (d.glogNumbered.wrBytes (glogAddr (d.log.glogSeq + 1)) (d.glogEntry x c b l)).mem :=
  Dev.raise_mem _ _ _

theorem Dev.log_glog (d : Dev) (x : Domain) (c b : Nat) (l : List Byte) : (d.glog x c b l).log = d.glogNumbered.log :=
  (Dev.raise_log _ _ _).trans (Dev.log_wrBytes _ _ _)

theorem Dev.rdByte_congr {d t : Dev} (h : t.mem = d.mem) (a : Nat) : t.rdByte a = d.rdByte a :=
  congrArg (Sparse.get blankByte · a) h

theorem Dev.rdBytes_congr {d t : Dev} (h : t.mem = d.mem) (a n : Nat) : t.rdBytes a n = d.rdBytes a n := by
  simp only [Dev.rdBytes_eq_ofFn, Dev.rdByte_congr h]

/-- Settles O54: an entry is 32 bytes written at its ring slot, after the count has taken its number. -/
theorem logEntryAppended : Obligations.LogEntryAppended := by
  intro d x c b l
  have hlen : (d.glogEntry x c b l).length = 32 := d.length_glogEntry x c b l
  refine ⟨by rw [Dev.log_glog]; rfl, by rw [Dev.log_glog]; rfl, ?entry, fun a ha => ?outside⟩
  case entry =>
    rw [Dev.rdBytes_congr (d.mem_glog x c b l), ← hlen]
    exact Dev.rdBytes_wrBytes _ _ _
  case outside =>
    rw [Dev.rdByte_congr (d.mem_glog x c b l), Dev.rdByte_wrBytes_outside _ _ (by rwa [hlen])]
    rfl

end Sys2Proof.Machine
end

section
/-!
PROOFS. Domain resets, supply and the ledger's own commands: each is its effect on a device whose domains are on.
-/
namespace Sys2Proof.Machine

open Sys2Proof

/-- With the domains on, a write behind a page's guard runs its effect where the page takes it, and is turned down elsewhere (R40);
the queue stays. -/
theorem State.on_guard {d : Dev} {q : List Instr} {m : Master} {p : PageId} {o : Nat} (k : Dev → Dev) (h : d.pwr.off = false) :
    State.on ⟨d, q⟩ (fun d => d.guard m p o k) =
      .next ⟨if d.accepts m p o then k d.noKey else d.turnedDown m p o, q⟩ := by
  rw [State.on_on _ h, Dev.guard_eq]

/-- Settles O2: events act on the device; a write of SYS acts behind the page's guard, which takes it or turns it down. -/
theorem domainResetCommands : Obligations.DomainResetCommands := by
  intro d q h
  refine ⟨?watchdogExpiry, ?processorFault, ?drstApp, ?drstSaf, ?drstLgl, ?drstVlt, ?crst, ?wdtKick, ?bootStageDone, ?fwViolClr⟩
  case watchdogExpiry => exact fun dom => show execWatchdogExpiry dom ⟨d, q⟩ = _ from State.on_on _ h
  case processorFault => exact fun f => show execProcessorFault f ⟨d, q⟩ = _ from State.on_on _ h
  case drstApp => exact fun m => show execDrstApp m ⟨d, q⟩ = _ from State.on_guard _ h
  case drstSaf => exact fun m => show execDrstSaf m ⟨d, q⟩ = _ from State.on_guard _ h
  case drstLgl => exact fun m => show execDrstLgl m ⟨d, q⟩ = _ from State.on_guard _ h
  case drstVlt => exact fun m => show execDrstVlt m ⟨d, q⟩ = _ from State.on_guard _ h
  case crst => exact fun m w => show execCrst m w ⟨d, q⟩ = _ from State.on_guard _ h
  case wdtKick => exact fun m => show execWdtKick m ⟨d, q⟩ = _ from State.on_guard _ h
  case bootStageDone => exact fun g => show execBootStageDone g ⟨d, q⟩ = _ from State.on_on _ h
  case fwViolClr => exact fun m => show execFwViolClr m ⟨d, q⟩ = _ from State.on_guard _ h

/-- Settles O3: every one of these commands is an event, which acts on the device while the domains are on. -/
theorem supplyCommands : Obligations.SupplyCommands := by
  intro d q h
  refine ⟨?clockFault, ?clockRecovered, ?supplyLevelEnter, ?supplyLevelLeave, ?shedStopTimeout, ?holdupEntry,
    ?holdupStepAdvance, ?thermalShutdown, ?supplyMonitor, ?thermalLevelChange⟩
  case clockFault => exact fun lost => show execClockFault lost ⟨d, q⟩ = _ from State.on_on _ h
  case clockRecovered => exact show execClockRecovered ⟨d, q⟩ = _ from State.on_on _ h
  case supplyLevelEnter => exact fun lvl vsup => show execSupplyLevelEnter lvl vsup ⟨d, q⟩ = _ from State.on_on _ h
  case supplyLevelLeave => exact fun lvl vsup => show execSupplyLevelLeave lvl vsup ⟨d, q⟩ = _ from State.on_on _ h
  case shedStopTimeout => exact fun n => show execShedStopTimeout n ⟨d, q⟩ = _ from State.on_on _ h
  case holdupEntry => exact fun vsup vsense c => show execHoldupEntry vsup vsense c ⟨d, q⟩ = _ from State.on_on _ h
  case holdupStepAdvance => exact fun dur vend => show execHoldupStepAdvance dur vend ⟨d, q⟩ = _ from State.on_on _ h
  case thermalShutdown => exact fun c => show execThermalShutdown c ⟨d, q⟩ = _ from State.on_on _ h
  case supplyMonitor =>
    exact fun vsup vsense vls vbat i33 icore =>
      show execSupplyMonitor vsup vsense vls vbat i33 icore ⟨d, q⟩ = _ from State.on_on _ h
  case thermalLevelChange => exact fun v tvb => show execThermalLevelChange v tvb ⟨d, q⟩ = _ from State.on_on _ h

/-- Settles O19: every one of these commands acts on the device while the domains are on. -/
theorem ledgerCommands : Obligations.LedgerCommands := by
  intro d q h
  refine ⟨?entryDrain, ?boundaryTransaction, ?sessionHandover, ?legalDomainStart, ?legalReady, ?legalNotReadyTimeout,
    ?sessionAuth, ?receiptSigned, ?vaultWaitTimeout, ?fallbackCheck⟩
  case entryDrain => exact show execEntryDrain ⟨d, q⟩ = _ from State.on_on _ h
  case boundaryTransaction => exact show execBoundaryTransaction ⟨d, q⟩ = _ from State.on_on _ h
  case sessionHandover => exact fun n => show execSessionHandover n ⟨d, q⟩ = _ from State.on_on _ h
  case legalDomainStart => exact fun replayed => show execLegalDomainStart replayed ⟨d, q⟩ = _ from State.on_on _ h
  case legalReady => exact show execLegalReady ⟨d, q⟩ = _ from State.on_on _ h
  case legalNotReadyTimeout => exact show execLegalNotReadyTimeout ⟨d, q⟩ = _ from State.on_on _ h
  case sessionAuth => exact fun bay num tariff id => show execSessionAuth bay num tariff id ⟨d, q⟩ = _ from State.on_on _ h
  case receiptSigned => exact fun sig => show execReceiptSigned sig ⟨d, q⟩ = _ from State.on_on _ h
  case vaultWaitTimeout => exact show execVaultWaitTimeout ⟨d, q⟩ = _ from State.on_on _ h
  case fallbackCheck => exact fun n => show execFallbackCheck n ⟨d, q⟩ = _ from State.on_on _ h

end Sys2Proof.Machine
end

section
/-!
PROOFS. Rejections (R39, R40): what one stores, and that it leaves every other register and byte.
-/
namespace Sys2Proof.Machine

open Sys2Proof

/-! ### What posting an event and a rejection leave in the registers -/

theorem Dev.rd_raise_ne (d : Dev) (p e : Nat) {a : Nat} (h : a ≠ Hdr.irqStat p) : (d.raise p e).rd a = d.rd a := by
  simp only [Dev.raise]
  split
  · exact Dev.rd_wr_ne _ _ h
  · rfl

/-- A field of a register other than IRQ_STAT keeps its value over an event. -/
theorem Dev.get_raise_ne (d : Dev) (p e : Nat) {f : Fld} (h : f.reg ≠ Hdr.irqStat p) : (d.raise p e).get f = d.get f :=
  congrArg f.get (d.rd_raise_ne p e h)

theorem Dev.rd_reject_ne (d : Dev) (p c : Nat) {a : Nat} (herr : a ≠ p + 0x020) (hirq : a ≠ p + 0x018) :
    (d.reject p c).rd a = d.rd a := by
  rw [Dev.reject, Dev.rd_raise_ne _ _ _ hirq, Dev.bump, Dev.rd_set_ne _ _ _ herr, Dev.rd_set_ne _ _ _ herr]

@[simp] theorem Dev.reject_mem (d : Dev) (p c : Nat) : (d.reject p c).mem = d.mem := by
  rw [Dev.reject, Dev.raise_mem, Dev.bump, Dev.set_mem, Dev.set_mem]

@[simp] theorem Dev.reject_raw (d : Dev) (p c : Nat) : (d.reject p c).raw = (p, 31) :: d.raw := by
  rw [Dev.reject, Dev.raise_raw, Dev.bump, Dev.set_raw, Dev.set_raw]

/-- The two fields of ERRCODE lie inside the register and share no bit. -/
theorem Hdr.code_fits (p : Nat) : (Hdr.CODE p).lo + (Hdr.CODE p).w ≤ 32 := by simp [Hdr.CODE]

theorem Hdr.count_fits (p : Nat) : (Hdr.COUNT p).lo + (Hdr.COUNT p).w ≤ 32 := by simp [Hdr.COUNT]

theorem Hdr.code_below_count (p : Nat) : (Hdr.CODE p).lo + (Hdr.CODE p).w ≤ (Hdr.COUNT p).lo := by simp [Hdr.CODE, Hdr.COUNT]

/-- The code stays as the count above it is written. -/
theorem Dev.code_reject (d : Dev) (p c : Nat) : (d.reject p c).get (Hdr.CODE p) = c % 256 := by
  rw [Dev.reject, Dev.get_raise_ne _ _ _ (by simp [Hdr.CODE, Hdr.irqStat]), Dev.bump,
    Dev.get_set_disjoint _ (Hdr.COUNT p) (Hdr.CODE p) _ (Hdr.count_fits p) rfl (.inl (Hdr.code_below_count p)),
    Dev.get_set_same _ _ _ (Hdr.code_fits p)]
  rfl

theorem satInc_eq_min {m n : Nat} (h : n ≤ m) : satInc m n = min m (n + 1) := by
  unfold satInc
  split <;> omega

/-- COUNT counts the rejection and stops at 0xFFFF. -/
theorem Dev.count_reject (d : Dev) (p c : Nat) : (d.reject p c).get (Hdr.COUNT p) = min 0xFFFF (d.get (Hdr.COUNT p) + 1) := by
  have hcode : (d.set (Hdr.CODE p) c).get (Hdr.COUNT p) = d.get (Hdr.COUNT p) :=
    Dev.get_set_disjoint d _ _ c (Hdr.code_fits p) rfl (.inr (Hdr.code_below_count p))
  have hlt : d.get (Hdr.COUNT p) < 2 ^ 16 := Nat.mod_lt _ (Nat.two_pow_pos 16)
  have hinc : satInc (2 ^ 16 - 1) (d.get (Hdr.COUNT p)) = min 0xFFFF (d.get (Hdr.COUNT p) + 1) := satInc_eq_min (by omega)
  have hw : (Hdr.COUNT p).w = 16 := rfl
  rw [Dev.reject, Dev.get_raise_ne _ _ _ (by simp [Hdr.COUNT, Hdr.irqStat]), Dev.bump,
    Dev.get_set_same _ _ _ (Hdr.count_fits p), hcode, hw, hinc, Nat.mod_eq_of_lt (by omega)]

/-! ### Writes that end in a rejection -/

/-- `t` is what a rejection on the page at `b` leaves of `d`, whether or not an unlock sequence stood. -/
def Dev.Rejected (d t : Dev) (b : Nat) : Prop := ∃ c, t = d.reject b c ∨ t = d.noKey.reject b c

/-- A rejection leaves every register but ERRCODE and IRQ_STAT, and every byte. -/
theorem Dev.Rejected.frame {d t : Dev} {b : Nat} (h : d.Rejected t b) {a : Nat} (herr : a ≠ b + 0x020) (hirq : a ≠ b + 0x018)
    (x : Nat) : t.rd a = d.rd a ∧ t.rdByte x = d.rdByte x := by
  obtain ⟨c, rfl | rfl⟩ := h
  · exact ⟨d.rd_reject_ne b c herr hirq, Dev.rdByte_congr (d.reject_mem b c) x⟩
  · exact ⟨d.noKey.rd_reject_ne b c herr hirq, Dev.rdByte_congr (d.noKey.reject_mem b c) x⟩

/-- A write of several parts that posts ERR anew has been rejected as a whole. -/
theorem Dev.whole_rejected {d x : Dev} {p : PageId} (h : d.raw.count (p.base, 31) < (d.whole p x).raw.count (p.base, 31)) :
    d.Rejected (d.whole p x) p.base := by
  unfold Dev.whole at h ⊢
  split at h
  case isTrue hx => rw [if_pos hx]; exact ⟨_, .inr rfl⟩
  case isFalse hx => exact absurd h hx

/-- A register write that posts ERR anew has been rejected: by LOCKED, RANGE, the page's own rule, or one of its parts. -/
theorem Dev.fieldsWrite_rejected {d : Dev} {m : Master} {p : PageId} {o w : Nat}
    (h : d.raw.count (p.base, 31) < (d.fieldsWrite m p o w).raw.count (p.base, 31)) :
    d.Rejected (d.fieldsWrite m p o w) p.base := by
  unfold Dev.fieldsWrite at h ⊢
  cases hrow : findRow p.table o with
  | none => exact absurd (by simpa only [hrow] using h) (lt_irrefl _)
  | some row =>
    simp only [hrow] at h ⊢
    split at h
    case isTrue hlocked => rw [if_pos hlocked]; exact ⟨_, .inl rfl⟩
    case isFalse hlocked =>
      rw [if_neg hlocked]
      split at h
      case isTrue hrange => rw [if_pos hrange]; exact ⟨_, .inl rfl⟩
      case isFalse hrange =>
        rw [if_neg hrange]
        cases hpage : d.pageError p o w with
        | some e => exact ⟨e, .inl rfl⟩
        | none =>
          simp only [hpage] at h
          exact Dev.whole_rejected h

/-- Settles O43: each of these writes is a rejection on the page, which changes ERRCODE and IRQ_STAT alone. -/
theorem rejectedWriteChangesNothing : Obligations.RejectedWriteChangesNothing := by
  intro d m p a b herr hirq
  refine ⟨fun o e k hw => ?writer, fun o w hcount => (Dev.fieldsWrite_rejected hcount).frame herr hirq b,
    fun x y f g t hboth hcount => ?parts⟩
  case writer =>
    have hrej : d.Rejected (d.guard m p o k) p.base := ⟨e, .inr (Dev.guard_writer k hw)⟩
    exact hrej.frame herr hirq b
  case parts =>
    unfold both at hboth
    split at hboth
    · obtain rfl := Option.some.inj hboth
      exact (Dev.whole_rejected hcount).frame herr hirq b
    · exact nomatch hboth

/-- Settles O42: what a rejection stores, and the writes that the writer, area and start rules reject. -/
theorem rejectionStored : Obligations.RejectionStored := by
  refine ⟨fun d p c hc => ⟨?code, d.count_reject p c, ?err⟩, fun _ _ _ _ _ k hw => Dev.guard_writer k hw,
    fun _ _ _ _ k hw ha => Dev.guard_area k hw ha, fun d m p o e f k hacc hwork => ?work,
    fun d m p o e f k hst hf => ?rule, rfl⟩
  case code => rw [Dev.code_reject, Nat.mod_eq_of_lt hc]
  case err => rw [Dev.reject_raw]; exact List.mem_cons_self
  case work =>
    have hst : ¬ d.starts m p o = true := by simp [Dev.starts, hwork]
    rw [Dev.startWork_eq, if_neg hst, Dev.startRefused, if_pos hacc, hwork, Option.getD_some]
  case rule => rw [Dev.startWork_ok f k hst, hf]

end Sys2Proof.Machine
end

section
/-!
PROOFS. Events, their masks and their acknowledgement (R38).
-/
namespace Sys2Proof.Machine

open Sys2Proof

/-- A number is the bits it shares with a mask and those it does not. -/
theorem and_add_ldiff (v : Nat) : ∀ k : Nat, (v &&& k) + Nat.ldiff v k = v := by
  induction v using Nat.binaryRec with
  | zero => simp [Nat.ldiff]
  | bit b v ih =>
    intro k
    induction k using Nat.bitCasesOn with
    | bit c k =>
      have hrest := ih k
      rw [Nat.land_bit, Nat.ldiff_bit, Nat.bit_val, Nat.bit_val, Nat.bit_val]
      cases b <;> cases c <;> simp <;> omega

/-- Clearing the bits of a mask is a bitwise operation. -/
theorem clearBits_eq_ldiff (v k : Nat) : clearBits v k = Nat.ldiff v k := by
  rw [clearBits, Nat.sub_eq_iff_eq_add' Nat.and_le_left, and_add_ldiff]

theorem testBit_clearBits (v k i : Nat) : (clearBits v k).testBit i = (v.testBit i && !k.testBit i) := by
  rw [clearBits_eq_ldiff, Nat.testBit_ldiff]

theorem clearBits_le (v k : Nat) : clearBits v k ≤ v := Nat.sub_le _ _

theorem Dev.rdN_lt (d : Dev) (a : Nat) : d.rdN a < 2 ^ 32 := (d.rd a).isLt

theorem Dev.rdN_wr_same (d : Dev) (a : Nat) (w : Word) : (d.wr a w).rdN a = w.toNat := by rw [Dev.rdN, Dev.rd_wr_same]

theorem Dev.rdN_wrN_same (d : Dev) (a : Nat) {n : Nat} (h : n < 2 ^ 32) : (d.wrN a n).rdN a = n := by
  rw [Dev.wrN, Dev.rdN_wr_same, BitVec.toNat_ofNat, Nat.mod_eq_of_lt h]

theorem Dev.rd_wrN_ne (d : Dev) {a b : Nat} (n : Nat) (h : b ≠ a) : (d.wrN a n).rd b = d.rd b := d.rd_wr_ne _ h

/-- IRQ_STAT after an event: its bit is set where it is enabled. -/
theorem Dev.testBit_irqStat_raise (d : Dev) (p : Nat) {e : Nat} (he : e < 32) (k : Nat) :
    ((d.raise p e).rdN (Hdr.irqStat p)).testBit k =
      ((d.rdN (Hdr.irqStat p)).testBit k || (decide (k = e) && (d.rdN (Hdr.irqEn p)).testBit e)) := by
  have hen : ({ d with raw := (p, e) :: d.raw } : Dev).rdN (Hdr.irqEn p) = d.rdN (Hdr.irqEn p) := rfl
  have hpow : 2 ^ e < 2 ^ 32 := Nat.pow_lt_pow_right (by decide) he
  simp only [Dev.raise, hen]
  split
  case isTrue h =>
    rw [Dev.rdN_wr_same, BitVec.toNat_or, BitVec.toNat_ofNat, Nat.mod_eq_of_lt hpow, Nat.testBit_or, Nat.testBit_two_pow, h,
      Bool.and_true, decide_eq_decide.mpr eq_comm]
    rfl
  case isFalse h => rw [Bool.eq_false_of_not_eq_true h, Bool.and_false, Bool.or_false]; rfl

/-- A write of IRQ_STAT clears the bits written 1, and ERRCODE with ERR; the two registers are apart. -/
theorem Dev.testBit_irqStat_irqClear (d : Dev) (p : PageId) (w k : Nat) :
    ((d.irqClear p w).rdN (Hdr.irqStat p.base)).testBit k = ((d.rdN (Hdr.irqStat p.base)).testBit k && !w.testBit k) := by
  have hstat : (d.irqClear p w).rdN (Hdr.irqStat p.base) = clearBits (d.rdN (Hdr.irqStat p.base)) w := by
    have hlt := (clearBits_le (d.rdN (Hdr.irqStat p.base)) w).trans_lt (d.rdN_lt _)
    have hapart : Hdr.irqStat p.base ≠ p.base + 0x020 := by simp [Hdr.irqStat]
    rw [← Dev.rdN_wrN_same d (Hdr.irqStat p.base) hlt, Dev.irqClear]
    split
    · exact congrArg BitVec.toNat (Dev.rd_wrN_ne _ 0 hapart)
    · rfl
  rw [hstat, testBit_clearBits]

theorem Dev.rdN_errcode_irqClear (d : Dev) (p : PageId) {w : Nat} (h : w.testBit 31 = true) :
    (d.irqClear p w).rdN (p.base + 0x020) = 0 := by
  rw [Dev.irqClear, if_pos h, Dev.rdN_wrN_same _ _ (by decide)]

theorem Dev.rd_irqClear_ne (d : Dev) (p : PageId) (w : Nat) {a : Nat} (hirq : a ≠ Hdr.irqStat p.base)
    (herr : a = p.base + 0x020 → w.testBit 31 = false) : (d.irqClear p w).rd a = d.rd a := by
  rw [Dev.irqClear]
  split
  case isTrue h =>
    have hne : a ≠ p.base + 0x020 := fun ha => Bool.false_ne_true ((herr ha).symm.trans h)
    rw [Dev.rd_wrN_ne _ _ hne, Dev.rd_wrN_ne _ _ hirq]
  case isFalse => exact Dev.rd_wrN_ne _ _ hirq

/-- Settles O46: posting sets an enabled bit, a write of IRQ_STAT clears bits and ERRCODE with ERR, a write of IRQ_SET sets bits. -/
theorem eventsRecorded : Obligations.EventsRecorded := by
  refine ⟨fun d p e he => ⟨?posted, d.testBit_irqStat_raise p he, fun a => d.rd_raise_ne p e, d.raise_mem p e⟩,
    fun d p w _ => ⟨d.testBit_irqStat_irqClear p w, d.rdN_errcode_irqClear p, fun h => ?kept, fun a hirq herr => ?others⟩,
    fun d p w k => ?set⟩
  case posted => rw [Dev.raise_raw]; exact List.mem_cons_self
  case kept => exact d.rd_irqClear_ne p w (by simp [Hdr.irqStat]) fun _ => h
  case others => exact d.rd_irqClear_ne p w hirq fun ha => absurd ha herr
  case set => rw [Dev.irqSet, Dev.rdN_wr_same, BitVec.toNat_or, Nat.testBit_or]; rfl

end Sys2Proof.Machine
end

section
/-!
PROOFS. Commands on page headers, by the host links and on the wheel: each is its effect on a device whose domains are on, a
write behind the page's guard (R40).
-/
namespace Sys2Proof.Machine

open Sys2Proof

/-- With the domains on, a write to a header runs behind the guard of the page it names; a header that no page has is a bus error
(R36). -/
theorem State.on_header {d : Dev} {q : List Instr} {m : Master} {g : BitVec 8} {o : Nat} (k : Dev → PageId → Dev → Dev)
    (h : d.pwr.off = false) :
    State.on ⟨d, q⟩ (fun d => d.header m g o (k d)) = .next ⟨
      match pageOf g with
      | none => d.noSuchPage
      | some p => if d.accepts m p o then k d p d.noKey else d.turnedDown m p o, q⟩ := by
  rw [State.on_on _ h]
  exact congrArg (fun t : Dev => (.next ⟨t, q⟩ : Out)) (Dev.header_eq d m g o (k d))

/-- Settles O4: writes to a header act behind the guard of its page; the end of a drain and its time-out are events. -/
theorem headerCommands : Obligations.HeaderCommands := by
  intro d q h
  refine ⟨?blockEnable, ?blockDisable, ?blockForceOff, ?blockDrainSet, ?drainComplete, ?drainTimeout, ?ownerChange, ?expclose,
    ?pageLock, ?expkeyWrite, ?irqStatClear, ?irqSetWrite⟩
  case blockEnable => exact fun m g => show execBlockEnable m g ⟨d, q⟩ = _ from State.on_header _ h
  case blockDisable => exact fun m g => show execBlockDisable m g ⟨d, q⟩ = _ from State.on_header _ h
  case blockForceOff => exact fun m g => show execBlockForceOff m g ⟨d, q⟩ = _ from State.on_header _ h
  case blockDrainSet => exact fun m g on => show execBlockDrainSet m g on ⟨d, q⟩ = _ from State.on_header _ h
  case drainComplete => exact fun g => show execDrainComplete g ⟨d, q⟩ = _ from State.on_on _ h
  case drainTimeout => exact fun g => show execDrainTimeout g ⟨d, q⟩ = _ from State.on_on _ h
  case ownerChange => exact fun m g o => show execOwnerChange m g o ⟨d, q⟩ = _ from State.on_header _ h
  case expclose => exact fun m g => show execExpclose m g ⟨d, q⟩ = _ from State.on_header _ h
  case pageLock => exact fun m g => show execPageLock m g ⟨d, q⟩ = _ from State.on_header _ h
  case expkeyWrite => exact fun m g w => show execExpkeyWrite m g w ⟨d, q⟩ = _ from State.on_header _ h
  case irqStatClear => exact fun m g w => show execIrqStatClear m g w ⟨d, q⟩ = _ from State.on_header _ h
  case irqSetWrite => exact fun m g w => show execIrqSetWrite m g w ⟨d, q⟩ = _ from State.on_header _ h

/-- Settles O7: every message and register access of a host link acts on the device while the domains are on. -/
theorem hostCommands : Obligations.HostCommands := by
  intro d q h
  refine ⟨?writeMsg, ?ethDatagramRx, ?readMsg, ?regRead, ?regWrite, ?spiStat, ?sysInfo, ?sysEcho, ?sysExpert⟩
  case writeMsg => exact fun x => show execWriteMsg x ⟨d, q⟩ = _ from State.on_on _ h
  case ethDatagramRx => exact fun fcs dst f => show execEthDatagramRx fcs dst f ⟨d, q⟩ = _ from State.on_on _ h
  case readMsg => exact fun whole => show execReadMsg whole ⟨d, q⟩ = _ from State.on_on _ h
  case regRead => exact fun a whole => show execRegRead a whole ⟨d, q⟩ = _ from State.on_on _ h
  case regWrite => exact fun a w whole => show execRegWrite a w whole ⟨d, q⟩ = _ from State.on_on _ h
  case spiStat => exact fun whole => show execSpiStat whole ⟨d, q⟩ = _ from State.on_on _ h
  case sysInfo => exact fun r => show execSysInfo r ⟨d, q⟩ = _ from State.on_on _ h
  case sysEcho => exact fun r data => show execSysEcho r data ⟨d, q⟩ = _ from State.on_on _ h
  case sysExpert => exact fun r v => show execSysExpert r v ⟨d, q⟩ = _ from State.on_on _ h

/-- Settles O10: the wheel and its events act while the domains are on, writes of CAR and its seats behind the page's guard; the
second of the clock, which VBAT supplies, acts in either case. -/
theorem carouselCommands : Obligations.CarouselCommands := by
  intro d q
  refine ⟨fun h => ?domainsOn, fun adv => show execRtcSecondTick adv ⟨d, q⟩ = _ from State.vbat_eq _⟩
  refine ⟨?carSourceChange, ?carZeroCrossing, ?sourceLost, ?carCycleBoundary, ?carTick, ?intervalBoundary, ?seatWrite, ?seatArm,
    ?seatCancel, ?seatFire⟩
  case carSourceChange => exact fun m w => show execCarSourceChange m w ⟨d, q⟩ = _ from State.on_guard _ h
  case carZeroCrossing =>
    exact fun period i r angle c => show execCarZeroCrossing period i r angle c ⟨d, q⟩ = _ from State.on_on _ h
  case sourceLost => exact show execSourceLost ⟨d, q⟩ = _ from State.on_on _ h
  case carCycleBoundary => exact fun c => show execCarCycleBoundary c ⟨d, q⟩ = _ from State.on_on _ h
  case carTick => exact show execCarTick ⟨d, q⟩ = _ from State.on_on _ h
  case intervalBoundary => exact show execIntervalBoundary ⟨d, q⟩ = _ from State.on_on _ h
  case seatWrite => exact fun m k word w => show execSeatWrite m k word w ⟨d, q⟩ = _ from State.on_guard _ h
  case seatArm => exact fun m hi mask => show execSeatArm m hi mask ⟨d, q⟩ = _ from State.on_guard _ h
  case seatCancel => exact fun m hi mask => show execSeatCancel m hi mask ⟨d, q⟩ = _ from State.on_guard _ h
  case seatFire => exact fun k => show execSeatFire k ⟨d, q⟩ = _ from State.on_on _ h

end Sys2Proof.Machine
end

section
/-!
PROOFS. Steps and the state after reset. In a bridge cycle with no command waiting (assumption 20) the hardware posts events, shows
states and sends messages; none of that touches the strapped and fused part, the ledger or the vault.
-/
namespace Sys2Proof.Machine

open Sys2Proof

/-- The count of cycles, and what the hardware of itself leaves alone in a cycle: the strapped and fused part, the ledger, the
vault. -/
def Dev.lasting (d : Dev) : Nat × Chip × LedInt × VltInt := (d.now, d.chip, d.led, d.vlt)

/-! ### Operations that registers and memories share -/

@[simp] theorem Dev.lasting_set (d : Dev) (f : Fld) (v : Nat) : (d.set f v).lasting = d.lasting := rfl

@[simp] theorem Dev.lasting_setBit (d : Dev) (f : Fld) (b : Bool) : (d.setBit f b).lasting = d.lasting := rfl

@[simp] theorem Dev.lasting_wrN (d : Dev) (a n : Nat) : (d.wrN a n).lasting = d.lasting := rfl

@[simp] theorem Dev.lasting_bump (d : Dev) (f : Fld) : (d.bump f).lasting = d.lasting := rfl

@[simp] theorem Dev.lasting_setFlag (d : Dev) (f : Fld) (i : Nat) (b : Bool) : (d.setFlag f i b).lasting = d.lasting := rfl

@[simp] theorem Dev.lasting_raise (d : Dev) (p e : Nat) : (d.raise p e).lasting = d.lasting := by simp [Dev.lasting]

@[simp] theorem Dev.lasting_ite (c : Prop) [Decidable c] (x y : Dev) :
    (if c then x else y).lasting = if c then x.lasting else y.lasting := apply_ite Dev.lasting c x y

@[simp] theorem Dev.lasting_wrBytes (l : List Byte) : ∀ (d : Dev) (a : Nat), (d.wrBytes a l).lasting = d.lasting := by
  induction l with
  | nil => exact fun _ _ => rfl
  | cons x l ih => exact fun d a => ih (d.wrByte a x) (a + 1)

/-- The logs' counters and the pair's own state lie outside the lasting part. -/
@[simp] theorem Dev.lasting_log (d : Dev) (l : LogInt) : { d with log := l }.lasting = d.lasting := rfl

@[simp] theorem Dev.lasting_pair (d : Dev) (x : PairInt) : { d with pair := x }.lasting = d.lasting := rfl

@[simp] theorem Dev.lasting_notice (d : Dev) (typ : Nat) (body : List Nat) : (d.notice typ body).lasting = d.lasting := rfl

/-- Effects on a list, one after the other, keep what each keeps. -/
theorem Dev.lasting_foldl {α : Type} (f : Dev → α → Dev) (hf : ∀ d x, (f d x).lasting = d.lasting) (l : List α) (d : Dev) :
    (l.foldl f d).lasting = d.lasting :=
  l.foldlRecOn f (motive := fun t => t.lasting = d.lasting) rfl fun t ht x _ => (hf t x).trans ht

/-! ### Pads, serial pages and the wheel's source -/

@[simp] theorem Dev.lasting_gpioEdge (d : Dev) (k : Nat) (level : Bool) : (d.gpioEdge k level).lasting = d.lasting := by
  simp [Dev.gpioEdge]

@[simp] theorem Dev.lasting_gpioPads (d : Dev) : d.gpioPads.lasting = d.lasting := by
  unfold Dev.gpioPads
  exact Dev.lasting_foldl _ (fun t k => by simp) _ d

@[simp] theorem Dev.lasting_uartLevels (d : Dev) (k : Fin 4) : (d.uartLevels k).lasting = d.lasting := by simp [Dev.uartLevels]

@[simp] theorem Dev.lasting_uartsLevel (d : Dev) : d.uartsLevel.lasting = d.lasting :=
  Dev.lasting_foldl _ (fun t k => by simp) _ d

@[simp] theorem Dev.lasting_modCar (d : Dev) (f : CarInt → CarInt) : (d.modCar f).lasting = d.lasting := rfl

@[simp] theorem Dev.lasting_carEnter (d : Dev) (locked acq : Bool) : (d.carEnter locked acq).lasting = d.lasting := by
  simp [Dev.carEnter]

@[simp] theorem Dev.lasting_carLost (d : Dev) : d.carLost.lasting = d.lasting := by simp [Dev.carLost]

@[simp] theorem Dev.lasting_carFollow (d : Dev) : d.carFollow.lasting = d.lasting := by simp [Dev.carFollow]

/-! ### The legal log and the pair link -/

@[simp] theorem Dev.lasting_llog (d : Dev) (role code bay : Nat) (data : List Byte) :
    (d.llog role code bay data).lasting = d.lasting := by
  simp [Dev.llog, Dev.ledNotify]

@[simp] theorem Dev.lasting_pairLog (d : Dev) (reason : Nat) : (d.pairLog reason).lasting = d.lasting := Dev.lasting_llog ..

@[simp] theorem Dev.lasting_sendNext (d : Dev) (c : Fin 4) : (d.sendNext c).2.lasting = d.lasting := by
  simp only [Dev.sendNext]
  split <;> rfl

@[simp] theorem Dev.lasting_linkPut (d : Dev) (l : List LinkMsg) : (d.linkPut l).lasting = d.lasting := rfl

@[simp] theorem Dev.lasting_link (d : Dev) (m : LinkMsg) : (d.link m).lasting = d.lasting :=
  (Dev.lasting_linkPut _ _).trans (d.lasting_sendNext _)

@[simp] theorem Dev.lasting_pairSend (d : Dev) (typ : Nat) (body : List Nat) : (d.pairSend typ body).lasting = d.lasting := by
  simp [Dev.pairSend]

@[simp] theorem Dev.lasting_modPair (d : Dev) (f : PairInt → PairInt) : (d.modPair f).lasting = d.lasting := rfl

/-! ### The report card of the pair (R459–R462) -/

@[simp] theorem Dev.lasting_eligShow (d : Dev) : d.eligShow.lasting = d.lasting := by simp [Dev.eligShow]

@[simp] theorem Dev.lasting_deferShow (d : Dev) : d.deferShow.lasting = d.lasting := by simp [Dev.deferShow]

@[simp] theorem Dev.lasting_pairEnter (d : Dev) (st : Nat) : (d.pairEnter st).lasting = d.lasting := by simp [Dev.pairEnter]

@[simp] theorem Dev.lasting_pairResign (d : Dev) (cause : Nat) : (d.pairResign cause).lasting = d.lasting := by
  simp only [Dev.pairResign]
  split
  · simp only [Dev.lasting_pairLog, Dev.lasting_pairEnter, Dev.lasting_raise, Dev.lasting_pairSend, Dev.lasting_pair,
      Dev.lasting_setBit, Dev.lasting_bump, Dev.lasting_set]
  · rfl

@[simp] theorem Dev.lasting_card (d : Dev) (item result : Nat) : (d.card item result).lasting = d.lasting := by
  simp only [Dev.card]
  split
  · rfl
  · split <;> simp

@[simp] theorem Dev.lasting_cardOf (d : Dev) (item : Nat) (fail pass : Bool) : (d.cardOf item fail pass).lasting = d.lasting := by
  simp [Dev.cardOf]

@[simp] theorem Dev.lasting_cardWatch (d : Dev) : d.cardWatch.lasting = d.lasting := by simp [Dev.cardWatch]

/-! ### What the active of a pair sends of itself (R452, R456, R457) -/

theorem Dev.lasting_forBays (d : Dev) (f : Bay → Dev → Dev) (hf : ∀ n t, (f n t).lasting = t.lasting) :
    (d.forBays f).lasting = d.lasting := by simp only [Dev.forBays, hf]

@[simp] theorem Dev.lasting_sessionSend (d : Dev) (n : Bay) : (d.sessionSend n).lasting = d.lasting := by simp [Dev.sessionSend]

/-- The minute's sums, each bay's outputs and session, and the records go out one after the other. -/
@[simp] theorem Dev.lasting_pairFollow (d : Dev) : d.pairFollow.lasting = d.lasting := by
  unfold Dev.pairFollow
  extract_lets st minute bays recs keys new gone sent
  have hminute : minute.lasting = d.lasting := by
    unfold minute
    split
    case h_1 m l _ =>
      have hsums (t : Dev) : (l.foldl (fun d x => if h : x.1 < 5 then d.pairSend 0x33 (recBody (d.registersOf m ⟨x.1, h⟩))
          else d) t).lasting = t.lasting := Dev.lasting_foldl _ (fun t x => by split <;> simp) l t
      simp [hsums]
    case h_2 => rfl
  have hbays : bays.lasting = minute.lasting := Dev.lasting_forBays _ _ fun n t => by simp
  have hsent : sent.lasting = bays.lasting := Dev.lasting_foldl _ (fun t r => t.lasting_pairSend _ _) _ bays
  simp [hminute, hbays, hsent]

/-! ### A step of an update that confirms itself (R493) -/

@[simp] theorem Dev.lasting_modUpd (d : Dev) (f : UpdInt → UpdInt) : (d.modUpd f).lasting = d.lasting := rfl

@[simp] theorem Dev.lasting_rollbackRaise (d : Dev) (dom v : Nat) : (d.rollbackRaise dom v).2.lasting = d.lasting := by
  unfold Dev.rollbackRaise
  split
  · rfl
  · split
    · rfl
    · split <;> rfl

@[simp] theorem Dev.lasting_updEvent (d : Dev) (dom event cause : Nat) : (d.updEvent dom event cause).lasting = d.lasting := rfl

@[simp] theorem Dev.lasting_bundleDrop (d : Dev) : d.bundleDrop.lasting = d.lasting := by simp [Dev.bundleDrop, Dev.updShow]

@[simp] theorem Dev.lasting_updNext (d : Dev) : d.updNext.lasting = d.lasting := by simp [Dev.updNext]

@[simp] theorem Dev.lasting_counterAsk (d : Dev) (k : Fin 5) (v : Nat) : (d.counterAsk k v).lasting = d.lasting := by
  simp [Dev.counterAsk]

@[simp] theorem Dev.lasting_updConfirm (d : Dev) (k : Fin 5) : (d.updConfirm k).lasting = d.lasting := by simp [Dev.updConfirm]

@[simp] theorem Dev.lasting_updFollow (d : Dev) : d.updFollow.lasting = d.lasting := by
  unfold Dev.updFollow
  split
  · split <;> simp
  · split <;> simp
  · rfl

/-! ### Messages of the RMII link -/

@[simp] theorem Dev.lasting_ethPut (d : Dev) (l : List EthOut) : (d.ethPut l).lasting = d.lasting := by
  simp only [Dev.ethPut]
  split
  · exact Dev.lasting_foldl _ (fun t _ => t.lasting_bump _) l _
  · rfl

@[simp] theorem Dev.lasting_ethSend (d : Dev) : d.ethSend.lasting = d.lasting := by
  simp only [Dev.ethSend]
  split
  · rfl
  · exact Dev.lasting_ethPut _ _

/-! ### Steps -/

/-- With the domains on a bridge cycle counts itself and changes nothing else of the lasting part. -/
theorem Dev.lasting_cycle (d : Dev) (h : d.pwr.off = false) : d.cycle.lasting = { d with now := d.now + 1 }.lasting := by
  simp only [Dev.cycle, h, Bool.false_eq_true, if_false, Dev.lasting_ethSend, Dev.lasting_updFollow, Dev.lasting_pairFollow,
    Dev.lasting_cardWatch, Dev.lasting_carFollow, Dev.lasting_uartsLevel, Dev.lasting_gpioPads]
  rfl

/-- Settles O34: `step` runs the command in front on the queue's rest. -/
theorem stepRunsFront : Obligations.StepRunsFront := fun _ _ _ => rfl

/-- Settles O35: every command is an effect on the device. -/
theorem everyCommandAnswers : Obligations.EveryCommandAnswers := exec_next

/-- Settles O36: with the queue empty a step is `Dev.cycle`, whose follow-ups keep the lasting part. -/
theorem idleStep : Obligations.IdleStep := by
  refine fun d => ⟨fun h => ?off, fun h => ⟨d.cycle, rfl, ?on⟩⟩
  case off => simp [step, Dev.cycle, h]
  case on =>
    have hlast := d.lasting_cycle h
    simp only [Dev.lasting, Prod.mk.injEq] at hlast
    obtain ⟨hnow, hchip, hled, hvlt⟩ := hlast
    exact ⟨hnow, hchip, hled, congrArg VltInt.slots hvlt⟩

/-- Settles O37: the reset state is a closed term without stored registers or bytes, so each reset word is evaluated. -/
theorem resetState : Obligations.ResetState := by
  refine ⟨rfl, rfl, rfl, rfl, ?wheel, ?enables, ?carCfg, ?plcArbcfg, ?wdtTimeout, ?wdtEn⟩
  case wheel => decide
  case enables => decide
  case carCfg => decide
  case plcArbcfg => decide
  case wdtTimeout => decide
  case wdtEn => decide

end Sys2Proof.Machine
end

section
/-!
PROOFS. The measurement pool, the waveform capture and the meters' configuration: each command is its effect on a device whose
domains are on; a register write acts behind the page's guard (R40), and CTL.ARM and RINJ_CFG.START are starts of work (R46).
-/
namespace Sys2Proof.Machine

open Sys2Proof

/-- With the domains on, a start of work is checked by its own rule and run where the page takes it, and refused elsewhere (R40,
R46); the queue stays. -/
theorem State.on_startWork {d : Dev} {q : List Instr} {m : Master} {p : PageId} {o : Nat} (e : Dev → Option Nat) (k : Dev → Dev)
    (h : d.pwr.off = false) :
    State.on ⟨d, q⟩ (fun d => d.startWork m p o e k) = .next ⟨
      if d.starts m p o then (match e d.noKey with | some c => d.noKey.reject p.base c | none => k d.noKey)
      else d.startRefused m p o, q⟩ := by
  rw [State.on_on _ h]
  exact congrArg (fun t : Dev => (.next ⟨t, q⟩ : Out)) (Dev.startWork_eq d m p o e k)

/-- Settles O11: calibration, streams and the reference are events, which act on the device; a map entry is written behind MPL's
guard, and the injection check is a start of work on it. -/
theorem poolCommands : Obligations.PoolCommands := by
  intro d q h
  refine ⟨?initialCalibrationDone, ?rotationStep, ?shadowResult, ?calAged, ?shadowGrant, ?mapEntryWrite, ?mapCrcCompare,
    ?mdatStuck, ?mdatRecover, ?mclkLoss, ?refFault, ?rinjStart, ?rinjDone⟩
  case initialCalibrationDone =>
    exact fun refOk faults => show execInitialCalibrationDone refOk faults ⟨d, q⟩ = _ from State.on_on _ h
  case rotationStep => exact fun g gain ofs => show execRotationStep g gain ofs ⟨d, q⟩ = _ from State.on_on _ h
  case shadowResult =>
    exact fun g samples relGain relOfs dGain dOfs =>
      show execShadowResult g samples relGain relOfs dGain dOfs ⟨d, q⟩ = _ from State.on_on _ h
  case calAged => exact fun c => show execCalAged c ⟨d, q⟩ = _ from State.on_on _ h
  case shadowGrant => exact fun g on => show execShadowGrant g on ⟨d, q⟩ = _ from State.on_on _ h
  case mapEntryWrite => exact fun m i w => show execMapEntryWrite m i w ⟨d, q⟩ = _ from State.on_guard _ h
  case mapCrcCompare => exact show execMapCrcCompare ⟨d, q⟩ = _ from State.on_on _ h
  case mdatStuck => exact fun i => show execMdatStuck i ⟨d, q⟩ = _ from State.on_on _ h
  case mdatRecover => exact fun i => show execMdatRecover i ⟨d, q⟩ = _ from State.on_on _ h
  case mclkLoss => exact fun k lost err => show execMclkLoss k lost err ⟨d, q⟩ = _ from State.on_on _ h
  case refFault => exact show execRefFault ⟨d, q⟩ = _ from State.on_on _ h
  case rinjStart => exact fun m w => show execRinjStart m w ⟨d, q⟩ = _ from State.on_startWork _ _ h
  case rinjDone => exact fun avg => show execRinjDone avg ⟨d, q⟩ = _ from State.on_on _ h

/-- Settles O12: records, windows and the redundant currents are events, which act on the device; CTL.STOP, MET.CFG and ECLR are
written behind their page's guard, and arming the capture is a start of work on WAV. -/
theorem meterCommands : Obligations.MeterCommands := by
  intro d q h
  refine ⟨?wavArm, ?wavTrigger, ?wavDone, ?wavStop, ?wavOverrun, ?sensorParamLoad, ?meterCfgWrite, ?harmonicWindowEnd,
    ?rederrSet, ?rederrClear, ?eclr⟩
  case wavArm => exact fun m => show execWavArm m ⟨d, q⟩ = _ from State.on_startWork _ _ h
  case wavTrigger => exact fun m cause => show execWavTrigger m cause ⟨d, q⟩ = _ from State.on_on _ h
  case wavDone => exact show execWavDone ⟨d, q⟩ = _ from State.on_on _ h
  case wavStop => exact fun m => show execWavStop m ⟨d, q⟩ = _ from State.on_guard _ h
  case wavOverrun => exact fun n => show execWavOverrun n ⟨d, q⟩ = _ from State.on_on _ h
  case sensorParamLoad => exact fun m p r w => show execSensorParamLoad m p r w ⟨d, q⟩ = _ from State.on_on _ h
  case meterCfgWrite => exact fun m p w => show execMeterCfgWrite m p w ⟨d, q⟩ = _ from State.on_guard _ h
  case harmonicWindowEnd => exact fun p => show execHarmonicWindowEnd p ⟨d, q⟩ = _ from State.on_on _ h
  case rederrSet => exact fun p i12 i13 => show execRederrSet p i12 i13 ⟨d, q⟩ = _ from State.on_on _ h
  case rederrClear => exact fun p => show execRederrClear p ⟨d, q⟩ = _ from State.on_on _ h
  case eclr => exact fun m p => show execEclr m p ⟨d, q⟩ = _ from State.on_guard _ h

end Sys2Proof.Machine
end

section
/-!
PROOFS. The bay engine's inputs, table, queue and stops, and the primitives of its transition tables: each command is its effect on a
device whose domains are on, a write of TBL_SEL or EVT_POST behind the page's guard (R40). A primitive that works on the pilot, the
requests, the timers or the queues of its bay leaves everything outside the bay as it is.
-/
namespace Sys2Proof.Machine

open Sys2Proof

/-! ### What stays when a bay engine acts on its own bay -/

/-- In memory, registers, bay engines, ledger, contactor drives and the fused part, `t` differs from `d` at most in bay `n`'s register
page and engine. -/
structure Dev.SameButBay (n : Bay) (d t : Dev) : Prop where
  mem : t.mem = d.mem
  rd : ∀ a : Nat, a < BAY.page n ∨ BAY.page n + 0x1000 ≤ a → t.rd a = d.rd a
  bay : ∀ j : Bay, j ≠ n → t.bay[j] = d.bay[j]
  led : t.led = d.led
  drv : ∀ j : Bay, t.ctc[j].drv = d.ctc[j].drv
  chip : t.chip = d.chip

theorem Dev.SameButBay.refl (n : Bay) (d : Dev) : d.SameButBay n d :=
  ⟨rfl, fun _ _ => rfl, fun _ _ => rfl, rfl, fun _ => rfl, rfl⟩

theorem Dev.SameButBay.trans {n : Bay} {d t u : Dev} (h : d.SameButBay n t) (k : t.SameButBay n u) : d.SameButBay n u :=
  ⟨k.mem.trans h.mem, fun a ha => (k.rd a ha).trans (h.rd a ha), fun j hj => (k.bay j hj).trans (h.bay j hj),
    k.led.trans h.led, fun j => (k.drv j).trans (h.drv j), k.chip.trans h.chip⟩

/-- A field of the bay's page is written. -/
theorem Dev.SameButBay.set {n : Bay} {f : Fld} (hf : BAY.page n ≤ f.reg ∧ f.reg < BAY.page n + 0x1000) (d : Dev) (v : Nat) :
    d.SameButBay n (d.set f v) where
  mem := rfl
  rd a ha := d.rd_set_ne f v (by omega)
  bay _ _ := rfl
  led := rfl
  drv _ := rfl
  chip := rfl

/-- An event of the bay's page is posted. -/
theorem Dev.SameButBay.raise (n : Bay) (d : Dev) (e : Nat) : d.SameButBay n (d.raise (BAY.page n) e) where
  mem := d.raise_mem _ e
  rd a ha := d.rd_raise_ne _ e (by simp only [Hdr.irqStat]; omega)
  bay j _ := by rw [Dev.raise_bay]
  led := d.raise_led _ e
  drv j := by rw [Dev.raise_ctc]
  chip := d.raise_chip _ e

/-- The bay's engine changes. -/
theorem Dev.SameButBay.modBay (n : Bay) (d : Dev) (f : BayInt → BayInt) : d.SameButBay n (d.modBay n f) where
  mem := rfl
  rd _ _ := rfl
  bay j hj := Vector.getElem_set_ne n.isLt j.isLt fun h => hj (Fin.ext h.symm)
  led := rfl
  drv _ := rfl
  chip := rfl

/-- The bay's power path changes, but not the contactors' drive. -/
theorem Dev.SameButBay.modCtc (n : Bay) (d : Dev) {f : CtcInt → CtcInt} (hf : ∀ c, (f c).drv = c.drv) :
    d.SameButBay n (d.modCtc n f) where
  mem := rfl
  rd _ _ := rfl
  bay _ _ := rfl
  led := rfl
  drv j := by
    by_cases hj : j = n
    · subst hj; simp [Dev.modCtc, hf]
    · exact congrArg CtcInt.drv (Vector.getElem_set_ne n.isLt j.isLt fun h => hj (Fin.ext h.symm))
  chip := rfl

/-- A branch keeps what both its sides keep. -/
theorem Dev.SameButBay.ite {n : Bay} {d t u : Dev} {c : Prop} [Decidable c] (ht : d.SameButBay n t) (hu : d.SameButBay n u) :
    d.SameButBay n (if c then t else u) := by
  split
  · exact ht
  · exact hu

/-! ### The primitives on their own bay -/

/-- Posting an event reaches the bay's queue and pending map, or counts the event merged (R143). -/
theorem Dev.SameButBay.bayPost (n : Bay) (d : Dev) (e : Nat) : d.SameButBay n (d.bayPost n e) := by
  have merged : d.SameButBay n ((d.bump (BAY.EVT_STAT_MERGED n)).raise (BAY.page n) BAY.ev_MERGED) :=
    .trans (.set (by simp [BAY.EVT_STAT_MERGED, BAY.EVT_STAT]) d _) (.raise n _ _)
  unfold Dev.bayPost
  exact .ite (.refl n d) (.ite (.modBay n d _) (.ite (.modBay n d _) (.ite merged (.modBay n d _))))

/-- A request waits in the engine's queue and posts REQ; with the queue full nothing happens (R153). -/
theorem Dev.SameButBay.askApp (n : Bay) (d : Dev) (code arg : Nat) : d.SameButBay n (d.askApp n code arg) :=
  .ite (.refl n d) (.trans (.modBay n d _) (.raise n _ _))

theorem Dev.SameButBay.cpMode (n : Bay) (d : Dev) (m : Nat) : d.SameButBay n (d.cpMode n m) := .ite (.refl n d) (.modBay n d _)

/-- AUTO at work posts LIMIT_LOW or LIMIT_OK as the limit passes 6 A, and gives the pending duty (R136). -/
theorem Dev.SameButBay.bayAuto (n : Bay) (d : Dev) : d.SameButBay n (d.bayAuto n) := by
  have post (f : BayInt → BayInt) (e : Nat) : d.SameButBay n ((d.modBay n f).bayPost n e) :=
    .trans (.modBay n d f) (.bayPost n _ e)
  unfold Dev.bayAuto
  exact .ite (.refl n d) (.ite (.ite (.refl n d) (post _ _)) (.trans (.ite (post _ _) (.refl n d)) (.modBay n _ _)))

theorem Dev.SameButBay.setDuty (n : Bay) (d : Dev) (arg : Nat) : d.SameButBay n (d.setDuty n arg) := by
  have auto (b : Bool) : d.SameButBay n (d.setBit (BAY.CP_DUTY_AUTO n) b) :=
    .set (by simp [BAY.CP_DUTY_AUTO, BAY.CP_DUTY]) d _
  unfold Dev.setDuty
  exact .ite (.ite (auto false) (.trans (auto true) (.bayAuto n _))) (.ite (.trans (auto false) (.modBay n _ _)) (.refl n d))

/-- A timer starts or stops: its bit of TMR_ACT and the engine's own state of it change (R144). -/
theorem Dev.SameButBay.timer (n : Bay) (d : Dev) (k : Nat) (b : Bool) (f : BayInt → BayInt) :
    d.SameButBay n ((d.setFlag (BAY.TMR_ACT_ACT n) k b).modBay n f) :=
  .trans (.set (by simp [BAY.TMR_ACT_ACT, BAY.TMR_ACT]) d _) (.modBay n _ f)

theorem Dev.SameButBay.startTimer (n : Bay) (d : Dev) (k ms : Nat) : d.SameButBay n (d.startTimer n k ms) := by
  unfold Dev.startTimer
  exact .timer n d k true _

theorem Dev.SameButBay.stopTimer (n : Bay) (d : Dev) (k : Nat) : d.SameButBay n (d.stopTimer n k) := by
  unfold Dev.stopTimer
  exact .timer n d k false _

/-- Settles O13: every one of these commands acts on the device while the domains are on; a write of TBL_SEL or EVT_POST acts
behind the bay page's guard, and LIM and STOP_REQ have writer rules of their own (R135, R146). -/
theorem bayCommands : Obligations.BayCommands := by
  intro d q h
  refine ⟨?cpPwmPeriod, ?cpStateChange, ?diodeFail, ?diodeOkRestore, ?ppMeasure, ?limitRegisterWrite, ?tableLoad,
    ?tableValidationDone, ?evtPost, ?bayEventHandle, ?bayTimerExpiry, ?reqPop, ?stopReqHost, ?stopRequest, ?bayStopTimeout⟩
  case cpPwmPeriod => exact fun n samples => show execCpPwmPeriod n samples ⟨d, q⟩ = _ from State.on_on _ h
  case cpStateChange => exact fun n => show execCpStateChange n ⟨d, q⟩ = _ from State.on_on _ h
  case diodeFail => exact fun n => show execDiodeFail n ⟨d, q⟩ = _ from State.on_on _ h
  case diodeOkRestore => exact fun n => show execDiodeOkRestore n ⟨d, q⟩ = _ from State.on_on _ h
  case ppMeasure => exact fun n mv => show execPpMeasure n mv ⟨d, q⟩ = _ from State.on_on _ h
  case limitRegisterWrite => exact fun m n k w => show execLimitRegisterWrite m n k w ⟨d, q⟩ = _ from State.on_on _ h
  case tableLoad => exact fun m n w => show execTableLoad m n w ⟨d, q⟩ = _ from State.on_guard _ h
  case tableValidationDone => exact fun n => show execTableValidationDone n ⟨d, q⟩ = _ from State.on_on _ h
  case evtPost => exact fun m n e => show execEvtPost m n e ⟨d, q⟩ = _ from State.on_guard _ h
  case bayEventHandle => exact fun n => show execBayEventHandle n ⟨d, q⟩ = _ from State.on_on _ h
  case bayTimerExpiry => exact fun n k => show execBayTimerExpiry n k ⟨d, q⟩ = _ from State.on_on _ h
  case reqPop => exact fun n => show execReqPop n ⟨d, q⟩ = _ from State.on_on _ h
  case stopReqHost => exact fun m n => show execStopReqHost m n ⟨d, q⟩ = _ from State.on_on _ h
  case stopRequest => exact fun n mask => show execStopRequest n mask ⟨d, q⟩ = _ from State.on_on _ h
  case bayStopTimeout => exact fun n => show execBayStopTimeout n ⟨d, q⟩ = _ from State.on_on _ h

/-- Settles O14: every primitive acts on the device while the domains are on. -/
theorem primitiveCommands : Obligations.PrimitiveCommands := by
  intro d q h
  refine ⟨?endList, ?setDuty, ?setStateX1, ?setStateX2, ?cpNeg, ?startSlac, ?requestAuth, ?notifyHost, ?lock, ?hlcStop,
    ?ctCloseAt, ?ctOpenAt, ?startTimer, ?stopTimer, ?limitCurrent, ?openSession, ?startMetering, ?endSession, ?rcdTest,
    ?imdRun, ?postEvent, ?snetResume⟩
  case endList => exact fun n => show execEndList n ⟨d, q⟩ = _ from State.on_on _ h
  case setDuty => exact fun n arg => show execSetDuty n arg ⟨d, q⟩ = _ from State.on_on _ h
  case setStateX1 => exact fun n => show execSetStateX1 n ⟨d, q⟩ = _ from State.on_on _ h
  case setStateX2 => exact fun n => show execSetStateX2 n ⟨d, q⟩ = _ from State.on_on _ h
  case cpNeg => exact fun n => show execCpNeg n ⟨d, q⟩ = _ from State.on_on _ h
  case startSlac => exact fun n => show execStartSlac n ⟨d, q⟩ = _ from State.on_on _ h
  case requestAuth => exact fun n methods => show execRequestAuth n methods ⟨d, q⟩ = _ from State.on_on _ h
  case notifyHost => exact fun n code => show execNotifyHost n code ⟨d, q⟩ = _ from State.on_on _ h
  case lock => exact fun n on => show execLock n on ⟨d, q⟩ = _ from State.on_on _ h
  case hlcStop => exact fun n => show execHlcStop n ⟨d, q⟩ = _ from State.on_on _ h
  case ctCloseAt => exact fun n pre => show execCtCloseAt n pre ⟨d, q⟩ = _ from State.on_on _ h
  case ctOpenAt => exact fun n pre => show execCtOpenAt n pre ⟨d, q⟩ = _ from State.on_on _ h
  case startTimer => exact fun n k ms => show execStartTimer n k ms ⟨d, q⟩ = _ from State.on_on _ h
  case stopTimer => exact fun n k => show execStopTimer n k ⟨d, q⟩ = _ from State.on_on _ h
  case limitCurrent => exact fun n i => show execLimitCurrent n i ⟨d, q⟩ = _ from State.on_on _ h
  case openSession => exact fun n => show execOpenSession n ⟨d, q⟩ = _ from State.on_on _ h
  case startMetering => exact fun n => show execStartMetering n ⟨d, q⟩ = _ from State.on_on _ h
  case endSession => exact fun n => show execEndSession n ⟨d, q⟩ = _ from State.on_on _ h
  case rcdTest => exact fun n => show execRcdTest n ⟨d, q⟩ = _ from State.on_on _ h
  case imdRun => exact fun n on => show execImdRun n on ⟨d, q⟩ = _ from State.on_on _ h
  case postEvent => exact fun n e => show execPostEvent n e ⟨d, q⟩ = _ from State.on_on _ h
  case snetResume => exact fun n => show execSnetResume n ⟨d, q⟩ = _ from State.on_on _ h

/-- Settles O57: the primitive answers what its completion clause writes out, and in what the frame names that differs from the
old device in its own bay alone. -/
theorem primitiveFrame : Obligations.PrimitiveFrame := by
  intro d q n u e a3 k b i h hi
  obtain ⟨-, setDuty, setStateX1, setStateX2, cpNeg, startSlac, requestAuth, notifyHost, lock, hlcStop, ctCloseAt, -,
    startTimer, stopTimer, -, -, -, -, -, -, postEvent, -⟩ := primitiveCommands d q h
  have answer : ∃ t : Dev, exec i ⟨d, q⟩ = .next ⟨t, q⟩ ∧ d.SameButBay n t := by
    simp only [List.mem_cons, List.not_mem_nil, or_false] at hi
    rcases hi with rfl | rfl | rfl | rfl | rfl | rfl | rfl | rfl | rfl | rfl | rfl | rfl | rfl
    · exact ⟨_, setDuty n u, .setDuty n d _⟩
    · exact ⟨_, setStateX1 n, .cpMode n d 1⟩
    · exact ⟨_, setStateX2 n, .cpMode n d 2⟩
    · exact ⟨_, cpNeg n, .cpMode n d 3⟩
    · exact ⟨_, startSlac n, .askApp n d 1 0⟩
    · exact ⟨_, requestAuth n a3, .askApp n d 2 _⟩
    · exact ⟨_, notifyHost n u, .askApp n d 3 _⟩
    · exact ⟨_, lock n b, .askApp n d 4 _⟩
    · exact ⟨_, hlcStop n, .askApp n d 5 0⟩
    · exact ⟨_, ctCloseAt n b, .modCtc n d fun _ => rfl⟩
    · exact ⟨_, startTimer n k u, .startTimer n d _ _⟩
    · exact ⟨_, stopTimer n k, .stopTimer n d _⟩
    · exact ⟨_, postEvent n e, .modBay n d _⟩
  obtain ⟨t, ht, hsame⟩ := answer
  exact ⟨t, ht, Dev.rdByte_congr hsame.mem, hsame.rd, hsame.bay, hsame.led, hsame.drv, hsame.chip⟩

end Sys2Proof.Machine
end

section
/-!
PROOFS. Vehicle communication (ch. 7): modems, 10BASE-T1S, CAN FD and the EXI codec, and the loops and self-tests of every page
(ch. 24). Each command is its effect on a device whose domains are on; a write acts behind the page's guard (R40), and a start of
work is checked by its own rule too (R46).
-/
namespace Sys2Proof.Machine

open Sys2Proof

/-- Settles O29: what a modem, a segment or a bus brings acts on the device; CTL.LINK_RESET is written behind the modem page's
guard, and CTL.KEY_SET and a push to TX_DATA are starts of work on their pages. -/
theorem vehicleLinkCommands : Obligations.VehicleLinkCommands := by
  intro d q h
  refine ⟨?ucodeLoaded, ?ucodeReload, ?keySet, ?linkReset, ?plcStationJoin, ?plcLinkDown, ?plcFrameRx, ?plcFrameTx,
    ?arbitrationDecision, ?soundSlotExpiry, ?modemWake, ?t1sFrameRx, ?plcaStatusChange, ?canTxPush, ?canRxPop, ?canFrameRx,
    ?canFrameTx⟩
  case ucodeLoaded => exact fun n ok ver => show execUcodeLoaded n ok ver ⟨d, q⟩ = _ from State.on_on _ h
  case ucodeReload => exact fun n => show execUcodeReload n ⟨d, q⟩ = _ from State.on_on _ h
  case keySet => exact fun m n => show execKeySet m n ⟨d, q⟩ = _ from State.on_startWork _ _ h
  case linkReset => exact fun m n => show execLinkReset m n ⟨d, q⟩ = _ from State.on_guard _ h
  case plcStationJoin => exact fun n mac => show execPlcStationJoin n mac ⟨d, q⟩ = _ from State.on_on _ h
  case plcLinkDown => exact fun n => show execPlcLinkDown n ⟨d, q⟩ = _ from State.on_on _ h
  case plcFrameRx => exact fun n f => show execPlcFrameRx n f ⟨d, q⟩ = _ from State.on_on _ h
  case plcFrameTx => exact fun n f => show execPlcFrameTx n f ⟨d, q⟩ = _ from State.on_on _ h
  case arbitrationDecision => exact fun run => show execArbitrationDecision run ⟨d, q⟩ = _ from State.on_on _ h
  case soundSlotExpiry => exact fun n k => show execSoundSlotExpiry n k ⟨d, q⟩ = _ from State.on_on _ h
  case modemWake => exact fun n => show execModemWake n ⟨d, q⟩ = _ from State.on_on _ h
  case t1sFrameRx =>
    exact fun n mac data collided => show execT1sFrameRx n mac data collided ⟨d, q⟩ = _ from State.on_on _ h
  case plcaStatusChange => exact fun n up => show execPlcaStatusChange n up ⟨d, q⟩ = _ from State.on_on _ h
  case canTxPush => exact fun m k w => show execCanTxPush m k w ⟨d, q⟩ = _ from State.on_startWork _ _ h
  case canRxPop => exact fun m k => show execCanRxPop m k ⟨d, q⟩ = _ from State.on_on _ h
  case canFrameRx => exact fun k f err => show execCanFrameRx k f err ⟨d, q⟩ = _ from State.on_on _ h
  case canFrameTx => exact fun k ok => show execCanFrameTx k ok ⟨d, q⟩ = _ from State.on_on _ h

/-- Settles O30: GSLOT.LOAD and JOB_CTL.START are starts of work on the codec's page; a job's end acts on the device. -/
theorem exiCommands : Obligations.ExiCommands := by
  intro d q h
  refine ⟨?gslotLoad, ?exiJobStart, ?exiJobDone⟩
  case gslotLoad => exact fun m k w => show execGslotLoad m k w ⟨d, q⟩ = _ from State.on_startWork _ _ h
  case exiJobStart => exact fun m w => show execExiJobStart m w ⟨d, q⟩ = _ from State.on_startWork _ _ h
  case exiJobDone => exact fun r => show execExiJobDone r ⟨d, q⟩ = _ from State.on_on _ h

/-- Settles O9: a write of LOOPCTL acts behind the guard of the page it names; the tests' events and the host's test messages act
on the device. -/
theorem testCommands : Obligations.TestCommands := by
  intro d q h
  refine ⟨?loopbackSet, ?testQueuedStart, ?testComplete, ?testQueueTimeout, ?gateTest, ?tripOutputTest, ?cfgCrcTest,
    ?nfrTagTest, ?lswLimitTest, ?frameLoopTest, ?scrubTest, ?linearitySweep, ?trngCharacterisation, ?testRun, ?loopSet⟩
  case loopbackSet => exact fun m g w => show execLoopbackSet m g w ⟨d, q⟩ = _ from State.on_header _ h
  case testQueuedStart => exact fun g => show execTestQueuedStart g ⟨d, q⟩ = _ from State.on_on _ h
  case testComplete => exact fun g pass ms => show execTestComplete g pass ms ⟨d, q⟩ = _ from State.on_on _ h
  case testQueueTimeout => exact fun g => show execTestQueueTimeout g ⟨d, q⟩ = _ from State.on_on _ h
  case gateTest => exact fun pass => show execGateTest pass ⟨d, q⟩ = _ from State.on_on _ h
  case tripOutputTest => exact fun pass => show execTripOutputTest pass ⟨d, q⟩ = _ from State.on_on _ h
  case cfgCrcTest => exact fun pass => show execCfgCrcTest pass ⟨d, q⟩ = _ from State.on_on _ h
  case nfrTagTest => exact fun pass => show execNfrTagTest pass ⟨d, q⟩ = _ from State.on_on _ h
  case lswLimitTest => exact fun pass => show execLswLimitTest pass ⟨d, q⟩ = _ from State.on_on _ h
  case frameLoopTest => exact fun n t1s pass => show execFrameLoopTest n t1s pass ⟨d, q⟩ = _ from State.on_on _ h
  case scrubTest => exact fun pass => show execScrubTest pass ⟨d, q⟩ = _ from State.on_on _ h
  case linearitySweep => exact fun pass => show execLinearitySweep pass ⟨d, q⟩ = _ from State.on_on _ h
  case trngCharacterisation => exact fun pass => show execTrngCharacterisation pass ⟨d, q⟩ = _ from State.on_on _ h
  case testRun => exact fun r page id now => show execTestRun r page id now ⟨d, q⟩ = _ from State.on_on _ h
  case loopSet => exact fun r page depth en => show execLoopSet r page depth en ⟨d, q⟩ = _ from State.on_on _ h

/-! ### What only the assigned bay may send -/

/-- A modem that transmits passes an answer to a sounding vehicle to its gate. -/
theorem exec_plcFrameTx_answer {d : Dev} {q : List Instr} {n : Bay} {r : BitVec 64} {l : List Byte} {f : PlcFrame}
    (h : d.pwr.off = false) (hs : d.plcSends n = true) (hf : f = .attenChar r l ∨ f = .slacMatch r l) :
    exec (.plcFrameTx n f) ⟨d, q⟩ = .next ⟨d.plcGate n r.toNat f, q⟩ := by
  obtain ⟨-, -, -, -, -, -, -, plcFrameTx, -⟩ := vehicleLinkCommands d q h
  rcases hf with rfl | rfl
  · rw [plcFrameTx, hs]; rfl
  · rw [plcFrameTx, hs]; rfl

/-- With ARB_EN = 1 a modem holds back the answers for every RunID that it does not capture or whose RESULT is not ASSIGNED. -/
theorem Dev.gated_iff {d : Dev} {n : Bay} (harb : d.bit (PLC.CFG_ARB_EN n) = true) (run : Nat) :
    d.gated n run = true ↔
      d.soundSlot n run = none ∨ ∃ k : Fin 4, d.soundSlot n run = some k ∧ d.get (PLC.SND_STAT_RESULT n k) ≠ 1 := by
  unfold Dev.gated
  cases d.soundSlot n run with
  | none => simp [harb]
  | some k => simp [harb]

/-- Settles O51: the gate drops and counts the answers that the modem holds back, and sends the others. -/
theorem answersGated : Obligations.AnswersGated := by
  intro d q n r l f h hs harb hf
  rw [exec_plcFrameTx_answer h hs hf, ← Dev.gated_iff harb, Dev.plcGate]
  refine ⟨fun k hk hres => ?assigned, fun hg => by rw [if_pos hg]⟩
  case assigned =>
    have hopen : ¬ d.gated n r.toNat = true := by
      rw [Dev.gated_iff harb, hk]
      simp [hres]
    refine ⟨by rw [if_neg hopen], fun hloop => ?_⟩
    rw [Dev.plcEcho, hloop]
    rfl

end Sys2Proof.Machine
end

section
/-!
PROOFS. What stays when a CAN FD controller takes, sends or receives (R173–R175): it works on its own page and its own FIFOs.
-/
namespace Sys2Proof.Machine

open Sys2Proof

/-- In memory, registers, CAN controllers, the fused part, ledger and DMA, `t` differs from `d` at most in controller `k` and its
register page. -/
structure Dev.SameButCan (k : Fin 4) (d t : Dev) : Prop where
  mem : t.mem = d.mem
  rd : ∀ a : Nat, a < CAN.page k ∨ CAN.page k + 0x1000 ≤ a → t.rd a = d.rd a
  can : ∀ j : Fin 4, j ≠ k → t.can[j] = d.can[j]
  chip : t.chip = d.chip
  led : t.led = d.led
  dma : t.dma = d.dma

theorem Dev.SameButCan.refl (k : Fin 4) (d : Dev) : d.SameButCan k d :=
  ⟨rfl, fun _ _ => rfl, fun _ _ => rfl, rfl, rfl, rfl⟩

theorem Dev.SameButCan.trans {k : Fin 4} {d t u : Dev} (h : d.SameButCan k t) (g : t.SameButCan k u) : d.SameButCan k u :=
  ⟨g.mem.trans h.mem, fun a ha => (g.rd a ha).trans (h.rd a ha), fun j hj => (g.can j hj).trans (h.can j hj),
    g.chip.trans h.chip, g.led.trans h.led, g.dma.trans h.dma⟩

/-- A branch keeps what both its sides keep. -/
theorem Dev.SameButCan.ite {k : Fin 4} {d t u : Dev} {c : Prop} [Decidable c] (ht : d.SameButCan k t) (hu : d.SameButCan k u) :
    d.SameButCan k (if c then t else u) := by
  split
  · exact ht
  · exact hu

/-- A register at an offset below 0x1000 of the controller's page is written. -/
theorem Dev.SameButCan.wr {k : Fin 4} {a o : Nat} (ha : a = CAN.page k + o) (ho : o < 0x1000) (d : Dev) (w : Word) :
    d.SameButCan k (d.wr a w) where
  mem := rfl
  rd b hb := d.rd_wr_ne w (by omega)
  can _ _ := rfl
  chip := rfl
  led := rfl
  dma := rfl

/-- The controller itself changes. -/
theorem Dev.SameButCan.modCan (k : Fin 4) (d : Dev) (f : CanInt → CanInt) : d.SameButCan k (d.modCan k f) where
  mem := rfl
  rd _ _ := rfl
  can j hj := Vector.getElem_set_ne k.isLt j.isLt fun h => hj (Fin.ext h.symm)
  chip := rfl
  led := rfl
  dma := rfl

/-- An event of the controller's page is posted. -/
theorem Dev.SameButCan.raise (k : Fin 4) (d : Dev) (e : Nat) : d.SameButCan k (d.raise (CAN.page k) e) where
  mem := d.raise_mem _ e
  rd a ha := d.rd_raise_ne _ e (by simp only [Hdr.irqStat]; omega)
  can j _ := by rw [Dev.raise_can]
  chip := d.raise_chip _ e
  led := d.raise_led _ e
  dma := d.raise_dma _ e

/-- An unlock sequence is no state of a controller. -/
theorem Dev.SameButCan.noKey (k : Fin 4) (d : Dev) : d.SameButCan k d.noKey :=
  ⟨rfl, fun _ _ => rfl, fun _ _ => rfl, rfl, rfl, rfl⟩

/-! ### Rejections on the controller's page -/

theorem Dev.SameButCan.reject (k : Fin 4) (d : Dev) (c : Nat) : d.SameButCan k (d.reject (CAN.page k) c) :=
  .trans (.trans (.wr rfl (by decide : 0x020 < 0x1000) d _) (.wr rfl (by decide : 0x020 < 0x1000) _ _)) (.raise k _ 31)

theorem Dev.SameButCan.startRefused (k : Fin 4) (d : Dev) (m : Master) (o : Nat) :
    d.SameButCan k (d.startRefused m (.CAN k) o) :=
  .trans (.noKey k d) (.ite (.reject k _ _) (.reject k _ _))

/-! ### The controller's own operations -/

theorem Dev.SameButCan.canShow (k : Fin 4) (d : Dev) : d.SameButCan k (d.canShow k) :=
  .trans (.wr rfl (by decide : 0x068 < 0x1000) d _) (.wr rfl (by decide : 0x068 < 0x1000) _ _)

/-- A FIFO changes and FIFO_STAT follows it (R174). -/
theorem Dev.SameButCan.fifo (k : Fin 4) (d : Dev) (f : CanInt → CanInt) : d.SameButCan k ((d.modCan k f).canShow k) :=
  .trans (.modCan k d f) (.canShow k _)

theorem Dev.SameButCan.canErrors (k : Fin 4) (d : Dev) (tec r : Nat) : d.SameButCan k (d.canErrors k tec r) :=
  have stat (t : Dev) (w : Word) : t.SameButCan k (t.wr (CAN.STAT k) w) := .wr rfl (by decide : 0x04C < 0x1000) t w
  .trans (.trans (stat d _) (stat _ _)) (stat _ _)

theorem Dev.SameButCan.canHeard (k : Fin 4) (d : Dev) (err : Bool) : d.SameButCan k (d.canHeard k err) := .canErrors k d _ _

theorem Dev.SameButCan.canTake (k : Fin 4) (d : Dev) (id : Nat) (fdf : Bool) (l : List Nat) :
    d.SameButCan k (d.canTake k id fdf l) := .ite (.refl k d) (.fifo k d _)

/-! ### The commands -/

/-- A word written to TX_DATA joins the frame in the making or completes it; a write that finds the FIFO full, or that the page does
not take, is rejected on the controller's page (R174). -/
theorem Dev.SameButCan.canTxPush (d : Dev) (q : List Instr) (m : Master) (k : Fin 4) (w : Word) (h : d.pwr.off = false) :
    ∃ t : Dev, exec (.canTxPush m k w) ⟨d, q⟩ = .next ⟨t, q⟩ ∧ d.SameButCan k t := by
  obtain ⟨-, -, -, -, -, -, -, -, -, -, -, -, -, canTxPush, -, -, -⟩ := vehicleLinkCommands d q h
  refine ⟨_, canTxPush m k w, .ite (.trans (.noKey k d) ?taken) (.startRefused k d m _)⟩
  dsimp only
  by_cases hfull : 16 ≤ d.noKey.can[k].tx.length
  · rw [if_pos hfull]
    exact .reject k _ _
  · rw [if_neg hfull]
    exact .trans (.ite (.modCan k _ _) (.modCan k _ _)) (.canShow k _)

/-- A read of RX_DATA takes a word from the receive FIFO into the register (R174). -/
theorem Dev.SameButCan.canRxPop (d : Dev) (q : List Instr) (m : Master) (k : Fin 4) (h : d.pwr.off = false) :
    ∃ t : Dev, exec (.canRxPop m k) ⟨d, q⟩ = .next ⟨t, q⟩ ∧ d.SameButCan k t := by
  obtain ⟨-, -, -, -, -, -, -, -, -, -, -, -, -, -, canRxPop, -, -⟩ := vehicleLinkCommands d q h
  refine ⟨_, canRxPop m k, .ite (.refl k d) ?popped⟩
  have shown (t : Dev) (v : Nat) : t.SameButCan k (t.wrN (CAN.RX_DATA k) v) := .wr rfl (by decide : 0x064 < 0x1000) t _
  split
  · exact .trans (.trans (.modCan k d _) (shown _ _)) (.canShow k _)
  · exact .fifo k d _
  · exact shown d 0

/-- A frame on the bus moves the error counters and, when it is good and accepted, joins the receive FIFO (R173, R174). -/
theorem Dev.SameButCan.canFrameRx (d : Dev) (q : List Instr) (k : Fin 4) (f : Sys2Proof.CanFrame) (err : Bool)
    (h : d.pwr.off = false) : ∃ t : Dev, exec (.canFrameRx k f err) ⟨d, q⟩ = .next ⟨t, q⟩ ∧ d.SameButCan k t := by
  obtain ⟨-, -, -, -, -, -, -, -, -, -, -, -, -, -, -, canFrameRx, -⟩ := vehicleLinkCommands d q h
  have heard : d.SameButCan k (if d.get (CAN.MODE_MODE k) = 1 then d.canHeard k err else d) :=
    .ite (.canHeard k d err) (.refl k d)
  exact ⟨_, canFrameRx k f err, .ite (.refl k d) (.trans heard (.ite (.refl k _) (.canTake k _ _ _ _)))⟩

/-- A transmission moves the error counters; a good one takes its frame from the FIFO, to the own receiver in a closed loop (R173,
R177). -/
theorem Dev.SameButCan.canFrameTx (d : Dev) (q : List Instr) (k : Fin 4) (ok : Bool) (h : d.pwr.off = false) :
    ∃ t : Dev, exec (.canFrameTx k ok) ⟨d, q⟩ = .next ⟨t, q⟩ ∧ d.SameButCan k t := by
  obtain ⟨-, -, -, -, -, -, -, -, -, -, -, -, -, -, -, -, canFrameTx⟩ := vehicleLinkCommands d q h
  refine ⟨_, canFrameTx k ok, .ite (.refl k d) ?sends⟩
  cases d.can[k].tx with
  | nil => exact .refl k d
  | cons fr rest =>
    have sent : d.SameButCan k (((d.canErrors k (d.get (CAN.STAT_TEC k) - 1) (d.get (CAN.STAT_REC k))).modCan k fun c =>
        { c with tx := rest }).canShow k) := .trans (.canErrors k d _ _) (.fifo k _ _)
    exact .ite (.canErrors k d _ _) (.trans sent (.ite (.canTake k _ _ _ _) (.refl k _)))

/-- Settles O56: every command of a controller answers, and in what the frame names the device differs from the old one in that
controller and its page alone. -/
theorem canFrame : Obligations.CanFrame := by
  intro d q m k w f x i h hi
  have answer : ∃ t : Dev, exec i ⟨d, q⟩ = .next ⟨t, q⟩ ∧ d.SameButCan k t := by
    simp only [List.mem_cons, List.not_mem_nil, or_false] at hi
    rcases hi with rfl | rfl | rfl | rfl
    · exact Dev.SameButCan.canTxPush d q m k w h
    · exact Dev.SameButCan.canRxPop d q m k h
    · exact Dev.SameButCan.canFrameRx d q k f x h
    · exact Dev.SameButCan.canFrameTx d q k x h
  obtain ⟨t, ht, hsame⟩ := answer
  exact ⟨t, ht, Dev.rdByte_congr hsame.mem, hsame.rd, hsame.can, hsame.chip, hsame.led, hsame.dma⟩

end Sys2Proof.Machine
end

section
/-!
PROOFS. The power path (ch. 8): its commands, and what a lost permit does to a bay's outputs (R182, R224). Every cut of the outputs
ends with all of them low, and works outside the safety island, so the permit that it follows stays withdrawn.
-/
namespace Sys2Proof.Machine

open Sys2Proof

/-- Settles O15: feedback, make, break and the windows act on the device while the domains are on; WELD_CLR.CLR and SEED are written
behind the guard of the power path's page. -/
theorem powerPathCommands : Obligations.PowerPathCommands := by
  intro d q h
  refine ⟨?permitWithdrawn, ?economiserStart, ?ctFbChange, ?makeObserved, ?breakObserved, ?noMakeTimeout, ?breakCheckTimeout,
    ?dcOpenCurrentLow, ?dcOpenTimeout, ?prechargeReached, ?prechargeOverlapEnd, ?prechargeTimeout, ?fwWaitExpiry, ?weldClr,
    ?lineVoltageReturn, ?seedApply⟩
  case permitWithdrawn => exact fun n hl => show execPermitWithdrawn n hl ⟨d, q⟩ = _ from State.on_on _ h
  case economiserStart => exact fun n => show execEconomiserStart n ⟨d, q⟩ = _ from State.on_on _ h
  case ctFbChange => exact fun n high => show execCtFbChange n high ⟨d, q⟩ = _ from State.on_on _ h
  case makeObserved =>
    exact fun n pole us vx sup => show execMakeObserved n pole us vx sup ⟨d, q⟩ = _ from State.on_on _ h
  case breakObserved => exact fun n pole us vx => show execBreakObserved n pole us vx ⟨d, q⟩ = _ from State.on_on _ h
  case noMakeTimeout => exact fun n => show execNoMakeTimeout n ⟨d, q⟩ = _ from State.on_on _ h
  case breakCheckTimeout => exact fun n v => show execBreakCheckTimeout n v ⟨d, q⟩ = _ from State.on_on _ h
  case dcOpenCurrentLow => exact fun n i => show execDcOpenCurrentLow n i ⟨d, q⟩ = _ from State.on_on _ h
  case dcOpenTimeout => exact fun n => show execDcOpenTimeout n ⟨d, q⟩ = _ from State.on_on _ h
  case prechargeReached => exact fun n chg veh => show execPrechargeReached n chg veh ⟨d, q⟩ = _ from State.on_on _ h
  case prechargeOverlapEnd => exact fun n => show execPrechargeOverlapEnd n ⟨d, q⟩ = _ from State.on_on _ h
  case prechargeTimeout => exact fun n => show execPrechargeTimeout n ⟨d, q⟩ = _ from State.on_on _ h
  case fwWaitExpiry => exact fun n => show execFwWaitExpiry n ⟨d, q⟩ = _ from State.on_on _ h
  case weldClr => exact fun m n v => show execWeldClr m n v ⟨d, q⟩ = _ from State.on_guard _ h
  case lineVoltageReturn => exact fun n v => show execLineVoltageReturn n v ⟨d, q⟩ = _ from State.on_on _ h
  case seedApply => exact fun m n w => show execSeedApply m n w ⟨d, q⟩ = _ from State.on_guard _ h

/-! ### A flag that has been written -/

theorem setBitN_false (v i : Nat) : setBitN v i false = clearBits v (2 ^ i) := by
  cases hi : v.testBit i <;> simp [setBitN, clearBits, Nat.and_two_pow, hi]

theorem testBit_setBitN_same (v i : Nat) (b : Bool) : (setBitN v i b).testBit i = b := by
  cases b with
  | false => simp [setBitN_false, testBit_clearBits, Nat.testBit_two_pow_self]
  | true => simp [setBitN, Nat.testBit_or, Nat.testBit_two_pow_self]

theorem Dev.flag_setFlag_same (d : Dev) {f : Fld} {i : Nat} (b : Bool) (hf : f.lo + f.w ≤ 32) (hi : i < f.w) :
    (d.setFlag f i b).flag f i = b := by
  rw [Dev.flag, Dev.setFlag, Dev.get_set_same d f _ hf, Nat.testBit_mod_two_pow, testBit_setBitN_same, decide_eq_true hi,
    Bool.true_and]

/-! ### What stays in the safety island -/

/-- Every register from the safety island's page up reads in `t` as in `d`. -/
structure Dev.SameIsland (d t : Dev) : Prop where
  rd : ∀ a : Nat, SAF.page ≤ a → t.rd a = d.rd a

theorem Dev.SameIsland.refl (d : Dev) : d.SameIsland d := ⟨fun _ _ => rfl⟩

theorem Dev.SameIsland.trans {d t u : Dev} (h : d.SameIsland t) (k : t.SameIsland u) : d.SameIsland u :=
  ⟨fun a ha => (k.rd a ha).trans (h.rd a ha)⟩

/-- A branch keeps what both its sides keep. -/
theorem Dev.SameIsland.ite {d t u : Dev} {c : Prop} [Decidable c] (ht : d.SameIsland t) (hu : d.SameIsland u) :
    d.SameIsland (if c then t else u) := by
  split
  · exact ht
  · exact hu

/-- A register below the island is written. -/
theorem Dev.SameIsland.wr {a : Nat} (ha : a < SAF.page) (d : Dev) (w : Word) : d.SameIsland (d.wr a w) :=
  ⟨fun _ hb => d.rd_wr_ne w (by omega)⟩

/-- A power path itself changes. -/
theorem Dev.SameIsland.modCtc (n : Bay) (d : Dev) (f : CtcInt → CtcInt) : d.SameIsland (d.modCtc n f) := ⟨fun _ _ => rfl⟩

/-- A field of a power path's page is written. -/
theorem Dev.SameIsland.setCtc {n : Bay} {f : Fld} (hf : f.reg < CTC.page n + 0x1000) (d : Dev) (v : Nat) :
    d.SameIsland (d.set f v) :=
  .wr (by simp only [CTC.page, SAF.page] at *; omega) d _

/-- An event of a power path's page is posted. -/
theorem Dev.SameIsland.raiseCtc (n : Bay) (d : Dev) (e : Nat) : d.SameIsland (d.raise (CTC.page n) e) :=
  ⟨fun _ ha => d.rd_raise_ne _ e (by simp only [CTC.page, SAF.page, Hdr.irqStat] at *; omega)⟩

/-- What a bay engine does on its own page and in its own state leaves the island as it is. -/
theorem Dev.SameButBay.sameIsland {n : Bay} {d t : Dev} (h : d.SameButBay n t) : d.SameIsland t :=
  ⟨fun a ha => h.rd a (by simp only [BAY.page, SAF.page] at *; omega)⟩

/-- A permit shows in the island's own register. -/
theorem Dev.SameIsland.permit {d t : Dev} (h : d.SameIsland t) (n : Bay) :
    t.flag SAF.PERMIT_EFF n.val = d.flag SAF.PERMIT_EFF n.val := by
  have hrd : t.rd SAF.PERMIT = d.rd SAF.PERMIT := h.rd _ (Nat.le_add_right _ _)
  simp only [Dev.flag, Dev.get, SAF.PERMIT_EFF, hrd]

theorem Dev.SameIsland.ctcSeatsOff (n : Bay) (d : Dev) : d.SameIsland (d.ctcSeatsOff n) := by
  have off (k : Nat) (hk : k < 32) (t : Dev) : t.SameIsland (t.seatCancel k) :=
    .wr (by simp only [CAR.SEAT_ACT, CAR.page, SAF.page]; omega) t _
  exact .trans (.trans (.trans (off _ (by omega) d) (off _ (by omega) _)) (off _ (by omega) _)) (off _ (by omega) _)

theorem Dev.SameIsland.ctDrive (n : Bay) (d : Dev) (drv : Nat) : d.SameIsland (d.ctDrive n drv) :=
  .ite (.trans (.modCtc n d _) (.setCtc (n := n) (by simp [CTC.STATE_ECO, CTC.STATE]) _ _)) (.modCtc n d _)

theorem Dev.SameIsland.ctLow (n : Bay) (d : Dev) : d.SameIsland (d.ctLow n) :=
  .trans (.ctDrive n d 0) (.setCtc (n := n) (by simp [CTC.STATE_PRE, CTC.STATE]) _ _)

theorem Dev.SameIsland.ctUntimed (n : Bay) (d : Dev) : d.SameIsland (d.ctUntimed n) :=
  .ite (.refl d) (.trans (.trans (.setCtc (n := n) (by simp [CTC.STAT_UNTIMED, CTC.STAT]) d _)
    (.setCtc (n := n) (by simp [CTC.CNT_A_UNTIMED, CTC.CNT_A]) _ _)) (.raiseCtc n _ _))

theorem Dev.SameIsland.ctEnter (n : Bay) (d : Dev) (st : Nat) : d.SameIsland (d.ctEnter n st) := by
  have entered : d.SameIsland (d.set (CTC.STATE_ST n) st) := .setCtc (n := n) (by simp [CTC.STATE_ST, CTC.STATE]) d st
  exact .ite (.trans entered (.setCtc (n := n) (by simp [CTC.STATE_PRE, CTC.STATE]) _ _)) entered

theorem Dev.SameIsland.ctRelease (n : Bay) (d : Dev) (poles : Nat) : d.SameIsland (d.ctRelease n poles) := by
  unfold Dev.ctRelease
  dsimp only
  exact .trans (.trans (.trans (.ite (.modCtc n d _) (.refl d)) (.ctDrive n _ _)) (.modCtc n _ _)) (.ctEnter n _ _)

theorem Dev.SameIsland.ctCut (n : Bay) (d : Dev) : d.SameIsland (d.ctCut n) := by
  have stopped (f : CtcInt → CtcInt) : d.SameIsland ((d.ctcSeatsOff n).modCtc n f) := .trans (.ctcSeatsOff n d) (.modCtc n _ f)
  have cut (t : Dev) : t.SameIsland ((t.ctLow n).ctUntimed n) := .trans (.ctLow n t) (.ctUntimed n _)
  unfold Dev.ctCut
  dsimp only
  exact .ite (.ctLow n d) (.ite (.ite (.ctLow n d) (.trans (stopped _) (cut _)))
    (.trans (.trans (stopped _) (.ctRelease n _ 7)) (cut _)))

/-! ### The outputs of a power path -/

/-- Every coil drive and the precharge output of a bay's power path are off (R181, R182). -/
def Dev.OutputsOff (d : Dev) (n : Bay) : Prop := d.ctc[n].drv = 0 ∧ d.bit (CTC.STATE_PRE n) = false

theorem Dev.outputsOff_ctLow (d : Dev) (n : Bay) : (d.ctLow n).OutputsOff n :=
  ⟨by simp [Dev.ctLow, Dev.ctDrive, Dev.setBit, Dev.modCtc],
    Dev.bit_setBit _ _ false (by simp [CTC.STATE_PRE]) (by simp [CTC.STATE_PRE])⟩

@[simp] theorem Dev.ctUntimed_ctc (d : Dev) (n : Bay) : (d.ctUntimed n).ctc = d.ctc := by
  unfold Dev.ctUntimed
  split <;> simp [Dev.setBit, Dev.bump]

/-- Marking an operation untimed works in STAT, the counters and IRQ_STAT (R195). -/
theorem Dev.rd_ctUntimed_state (d : Dev) (n : Bay) : (d.ctUntimed n).rd (CTC.STATE n) = d.rd (CTC.STATE n) := by
  unfold Dev.ctUntimed
  split
  · rfl
  · rw [Dev.rd_raise_ne _ _ _ (by simp [CTC.STATE, Hdr.irqStat]), Dev.bump,
      Dev.rd_set_ne _ _ _ (by simp [CTC.STATE, CTC.CNT_A_UNTIMED, CTC.CNT_A]), Dev.setBit,
      Dev.rd_set_ne _ _ _ (by simp [CTC.STATE, CTC.STAT_UNTIMED, CTC.STAT])]

theorem Dev.OutputsOff.ctUntimed {d : Dev} {n : Bay} (h : d.OutputsOff n) : (d.ctUntimed n).OutputsOff n := by
  simpa [Dev.OutputsOff, Dev.bit, Dev.get, CTC.STATE_PRE, Dev.rd_ctUntimed_state] using h

/-- In every state of the power path a cut ends with the outputs low (R182, R187, R200). -/
theorem Dev.outputsOff_ctCut (d : Dev) (n : Bay) : (d.ctCut n).OutputsOff n := by
  unfold Dev.ctCut
  dsimp only
  split
  · exact d.outputsOff_ctLow n
  · split
    · split
      · exact d.outputsOff_ctLow n
      · exact (Dev.outputsOff_ctLow _ n).ctUntimed
    · exact (Dev.outputsOff_ctLow _ n).ctUntimed

/-! ### A lost permit -/

/-- Handling a stop moves the bay's queue and posts STOP on its page (R146). -/
theorem Dev.SameButBay.stopPost (n : Bay) (d : Dev) (i : Nat) : d.SameButBay n (d.stopPost n i) := by
  have held (f g : BayInt → BayInt) : d.SameButBay n (((d.modBay n f).modBay n g).raise (BAY.page n) BAY.ev_STOP) :=
    .trans (.trans (.modBay n d f) (.modBay n _ g)) (.raise n _ _)
  unfold Dev.stopPost
  dsimp only
  cases stopEvent i with
  | none => exact held _ _
  | some e => exact .trans (held _ _) (.bayPost n _ e)

/-- A stop request shows in STOPSRC and is handled in the bay's queue (R146). -/
theorem Dev.SameButBay.stopRequest (n : Bay) (d : Dev) (mask : Nat) : d.SameButBay n (d.stopRequest n mask) := by
  have shown (v : Nat) : d.SameButBay n (d.set (BAY.STOPSRC_SRC n) v) := .set (by simp [BAY.STOPSRC_SRC, BAY.STOPSRC]) d v
  refine .ite (.refl n d) ?_
  cases lowestBit mask with
  | none => exact shown _
  | some i => exact .ite (.trans (shown _) (.stopPost n _ i)) (shown _)

/-- The device that shows a bay's evaluated permits: those of the channels and the effective one in SAF.PERMIT, their copies on SAFL
and on the power path's page, and the event of a change (R222). -/
def Dev.permitShown (d : Dev) (n : Bay) (was proc hl eff : Bool) : Dev :=
  let d := ((((d.setFlag SAF.PERMIT_PROC n.val proc).setFlag SAF.PERMIT_HL n.val hl).setFlag SAF.PERMIT_EFF n.val eff).setFlag
    SAFL.HL_STAT_PERMIT n.val hl).setBit (CTC.STAT_PERMIT n) eff
  if was == eff then d else d.raise SAF.page SAF.ev_PERMIT

/-- What the evaluation gives is what SAF.PERMIT shows. -/
theorem Dev.permit_permitShown (d : Dev) (n : Bay) (was proc hl eff : Bool) :
    (d.permitShown n was proc hl eff).flag SAF.PERMIT_EFF n.val = eff := by
  have shown (t : Dev) : ((((t.setFlag SAF.PERMIT_EFF n.val eff).setFlag SAFL.HL_STAT_PERMIT n.val hl).setBit
      (CTC.STAT_PERMIT n) eff)).flag SAF.PERMIT_EFF n.val = eff := by
    have hctc : SAF.PERMIT_EFF.reg ≠ (CTC.STAT_PERMIT n).reg := by
      simp only [SAF.PERMIT_EFF, SAF.PERMIT, SAF.page, CTC.STAT_PERMIT, CTC.STAT, CTC.page]; omega
    rw [Dev.flag, Dev.setBit, Dev.get_set_ne _ _ _ _ hctc, Dev.setFlag, Dev.get_set_ne _ _ _ _ (by decide), ← Dev.flag]
    exact t.flag_setFlag_same eff (by decide) n.isLt
  unfold Dev.permitShown
  dsimp only
  split
  · exact shown _
  · rw [Dev.flag, Dev.get_raise_ne _ _ _ (by decide), ← Dev.flag]
    exact shown _

/-- A permit that was in force and is so no longer: it shows withdrawn, and the outputs are cut, after a stop request where the power
path was not OPEN (R146, R182). -/
theorem Dev.permitBay_lost {d : Dev} {n : Bay} (hwas : d.flag SAF.PERMIT_EFF n.val = true)
    (heff : effOf d.chMode (d.procOk n && d.flag SAF.PERMIT_PROC n.val) (d.hlOk n && d.flag SAF.PERMIT_HL n.val) = false) :
    ∃ t : Dev, t.flag SAF.PERMIT_EFF n.val = false ∧ d.permitBay false n = t.ctCut n := by
  obtain ⟨s, hs, hlost⟩ : ∃ s : Dev, s.flag SAF.PERMIT_EFF n.val = false ∧
      d.permitBay false n = if s.ctState n = Ct.OPEN then s.ctCut n else (s.stopRequest n 1).ctCut n := by
    refine ⟨_, d.permit_permitShown n true (d.procOk n && d.flag SAF.PERMIT_PROC n.val)
      (d.hlOk n && d.flag SAF.PERMIT_HL n.val) false, ?_⟩
    simp only [Dev.permitBay, Bool.false_or, hwas, heff]
    rfl
  by_cases hopen : s.ctState n = Ct.OPEN
  · exact ⟨s, hs, by rw [hlost, if_pos hopen]⟩
  · have hsame : s.SameIsland (s.stopRequest n 1) := (Dev.SameButBay.stopRequest n s 1).sameIsland
    exact ⟨s.stopRequest n 1, (hsame.permit n).trans hs, by rw [hlost, if_neg hopen]⟩

/-- Settles O50: a lost permit ends in a cut, which leaves every output low and the island's registers as they are. -/
theorem permitLossCutsOutputs : Obligations.PermitLossCutsOutputs := by
  intro d n hwas heff
  obtain ⟨t, hpermit, hcut⟩ := Dev.permitBay_lost hwas heff
  rw [hcut]
  exact ⟨((Dev.SameIsland.ctCut n t).permit n).trans hpermit, t.outputsOff_ctCut n⟩

end Sys2Proof.Machine
end

section
/-!
PROOFS. Residual-current and insulation monitoring (ch. 9): its commands, and what a bay's permit asks of the earth-fault conditions
and of the safety island's other conditions (R218, R222, R224, R225, R229).
-/
namespace Sys2Proof.Machine

open Sys2Proof

/-- Settles O16: trips, the discrepancy, self-tests and the insulation monitor's results are events, which act on the device while
the domains are on; the curve's APPLY, TRIP_CLR and the monitor's START and STOP are written behind their page's guard. -/
theorem earthFaultCommands : Obligations.EarthFaultCommands := by
  intro d q h
  refine ⟨?rcdTrip, ?curveApply, ?rcdTripClr, ?rcdDiscrepancy, ?discrepClear, ?excFault, ?rcdPeriodicTestDue, ?rcdSelfTestStart,
    ?rcdSelfTestEnd, ?imdStart, ?imdStop, ?imdPeriodResult, ?imdNoresult⟩
  case rcdTrip => exact fun n a b => show execRcdTrip n a b ⟨d, q⟩ = _ from State.on_on _ h
  case curveApply => exact fun m n => show execCurveApply m n ⟨d, q⟩ = _ from State.on_guard _ h
  case rcdTripClr => exact fun m n sound => show execRcdTripClr m n sound ⟨d, q⟩ = _ from State.on_guard _ h
  case rcdDiscrepancy => exact fun n aDc bDc => show execRcdDiscrepancy n aDc bDc ⟨d, q⟩ = _ from State.on_on _ h
  case discrepClear => exact fun n => show execDiscrepClear n ⟨d, q⟩ = _ from State.on_on _ h
  case excFault => exact fun n => show execExcFault n ⟨d, q⟩ = _ from State.on_on _ h
  case rcdPeriodicTestDue => exact fun n => show execRcdPeriodicTestDue n ⟨d, q⟩ = _ from State.on_on _ h
  case rcdSelfTestStart => exact fun n => show execRcdSelfTestStart n ⟨d, q⟩ = _ from State.on_on _ h
  case rcdSelfTestEnd => exact fun n r => show execRcdSelfTestEnd n r ⟨d, q⟩ = _ from State.on_on _ h
  case imdStart => exact fun m n => show execImdStart m n ⟨d, q⟩ = _ from State.on_guard _ h
  case imdStop => exact fun m n => show execImdStop m n ⟨d, q⟩ = _ from State.on_guard _ h
  case imdPeriodResult => exact fun n plus minus => show execImdPeriodResult n plus minus ⟨d, q⟩ = _ from State.on_on _ h
  case imdNoresult => exact fun n => show execImdNoresult n ⟨d, q⟩ = _ from State.on_on _ h

/-! ### What the evaluation of a bay shows -/

/-- A channel's permit after the evaluation: its conditions hold, and the evaluation grants it or it stood before (R223). -/
def channelPermit (ok grant stood : Bool) : Bool := ok && (grant || stood)

/-- The effective permit that the evaluation of a bay gives (R222, R225). -/
def Dev.permitEval (d : Dev) (grant : Bool) (n : Bay) : Bool :=
  effOf d.chMode (channelPermit (d.procOk n) grant (d.flag SAF.PERMIT_PROC n.val))
    (channelPermit (d.hlOk n) grant (d.flag SAF.PERMIT_HL n.val))

/-- The device that shows what the evaluation of a bay gives, before the outputs follow. -/
def Dev.permitStored (d : Dev) (grant : Bool) (n : Bay) : Dev :=
  d.permitShown n (d.flag SAF.PERMIT_EFF n.val) (channelPermit (d.procOk n) grant (d.flag SAF.PERMIT_PROC n.val))
    (channelPermit (d.hlOk n) grant (d.flag SAF.PERMIT_HL n.val)) (d.permitEval grant n)

/-- Once the evaluated permits are shown, the outputs follow: nothing while the permit is not lost, else a cut, after a stop request
where the power path is not OPEN (R146, R182). -/
theorem Dev.permitBay_eq (d : Dev) (grant : Bool) (n : Bay) :
    d.permitBay grant n =
      let t := d.permitStored grant n
      if !d.flag SAF.PERMIT_EFF n.val || d.permitEval grant n then t
      else if t.ctState n = Ct.OPEN then t.ctCut n else (t.stopRequest n 1).ctCut n := rfl

/-- What follows the shown permits works outside the safety island. -/
theorem Dev.SameIsland.permitBay (d : Dev) (grant : Bool) (n : Bay) :
    (d.permitStored grant n).SameIsland (d.permitBay grant n) := by
  rw [Dev.permitBay_eq]
  exact .ite (.refl _) (.ite (.ctCut n _) (.trans (Dev.SameButBay.stopRequest n _ 1).sameIsland (.ctCut n _)))

/-- After the evaluation SAF.PERMIT shows what it gives. -/
theorem Dev.permit_permitBay (d : Dev) (grant : Bool) (n : Bay) :
    (d.permitBay grant n).flag SAF.PERMIT_EFF n.val = d.permitEval grant n :=
  ((Dev.SameIsland.permitBay d grant n).permit n).trans (d.permit_permitShown n _ _ _ _)

/-! ### What a permit asks for -/

/-- A permit is in force only while a channel serves and grants it (R222, R225, R229). -/
theorem effOf_true {mode : Nat} {proc hl : Bool} (h : effOf mode proc hl = true) : mode ≤ 4 ∧ (proc = true ∨ hl = true) := by
  unfold effOf at h
  split at h
  case isTrue hboth => exact ⟨by omega, .inl (Bool.and_eq_true_iff.mp h).1⟩
  case isFalse =>
    split at h
    case isTrue hproc => exact ⟨by omega, .inl h⟩
    case isFalse =>
      split at h
      case isTrue hhl => exact ⟨by omega, .inr h⟩
      case isFalse => cases h

/-- What both channels ask for: the bay is present, its safety functions are clear, its earth-fault conditions hold and no self-test
withholds the permit (R218, R224). -/
theorem Dev.permitBase_iff (d : Dev) (n : Bay) : d.permitBase n = true ↔
    d.hasBay n = true ∧ d.sfClear n = true ∧ d.earthOk n = true ∧ d.bit (RCD.STAT_TEST_RUN n) = false := by
  simp [Dev.permitBase, and_assoc]

theorem Dev.permitBase_of_procOk {d : Dev} {n : Bay} (h : d.procOk n = true) : d.permitBase n = true := by
  simp only [Dev.procOk, Bool.and_eq_true] at h
  obtain ⟨⟨⟨hbase, _hocg⟩, _hown⟩, _hmode⟩ := h
  exact hbase

theorem Dev.permitBase_of_hlOk {d : Dev} {n : Bay} (h : d.hlOk n = true) : d.permitBase n = true := by
  simp only [Dev.hlOk, Bool.and_eq_true] at h
  obtain ⟨⟨⟨⟨hbase, _hweld⟩, _hocg⟩, _hown⟩, _hmode⟩ := h
  exact hbase

/-- A permit comes from a channel in service, whose conditions include those of both channels (R224). -/
theorem Dev.permitEval_true {d : Dev} {grant : Bool} {n : Bay} (h : d.permitEval grant n = true) :
    d.chMode ≤ 4 ∧ d.permitBase n = true := by
  obtain ⟨hmode, hproc | hhl⟩ := effOf_true h
  · exact ⟨hmode, Dev.permitBase_of_procOk (Bool.and_eq_true_iff.mp hproc).1⟩
  · exact ⟨hmode, Dev.permitBase_of_hlOk (Bool.and_eq_true_iff.mp hhl).1⟩

/-- Settles O49: the permit shown is the one evaluated, and that one needs the conditions of both channels and a channel in service. -/
theorem permitNeedsConditions : Obligations.PermitNeedsConditions := by
  intro d n grant
  refine ⟨d.permit_permitBay grant n, fun heff => ?_⟩
  rw [Dev.permit_permitBay] at heff
  obtain ⟨hmode, hbase⟩ := Dev.permitEval_true heff
  obtain ⟨hbay, hclear, hearth, htest⟩ := (d.permitBase_iff n).mp hbase
  exact ⟨hbay, hclear, hearth, htest, hmode⟩

end Sys2Proof.Machine
end

section
/-!
PROOFS. The safety island (ch. 10): the exchange of its channels, its modes, inputs and nets, and the messages that it answers. Each
command is its effect on a device whose domains are on: the island's inputs are events, and its requests come as messages, so no page's
guard stands before them (R223, R243).
-/
namespace Sys2Proof.Machine

open Sys2Proof

/-- Settles O17: the exchange, the proof test, the inputs' samples and the nets' timers are events, which act on the device while the
domains are on. -/
theorem safetyCommands : Obligations.SafetyCommands := by
  intro d q h
  refine ⟨?channelHeartbeat, ?hlChannelLost, ?safetyStartupDone, ?proofTestStart, ?proofTestEnd, ?proofOverdue, ?siInputChange,
    ?siDiscrepancy, ?siTestPulse, ?sainSample, ?tempTrip, ?ocgTrip, ?hlWeldDetect, ?snetEnter, ?snetExpire, ?tripPulseEnd⟩
  case channelHeartbeat =>
    exact fun hlMiss procMiss disagree hlCrc ownProc ownHl =>
      show execChannelHeartbeat hlMiss procMiss disagree hlCrc ownProc ownHl ⟨d, q⟩ = _ from State.on_on _ h
  case hlChannelLost => exact fun cause => show execHlChannelLost cause ⟨d, q⟩ = _ from State.on_on _ h
  case safetyStartupDone => exact show execSafetyStartupDone ⟨d, q⟩ = _ from State.on_on _ h
  case proofTestStart => exact show execProofTestStart ⟨d, q⟩ = _ from State.on_on _ h
  case proofTestEnd => exact fun pass => show execProofTestEnd pass ⟨d, q⟩ = _ from State.on_on _ h
  case proofOverdue => exact show execProofOverdue ⟨d, q⟩ = _ from State.on_on _ h
  case siInputChange => exact fun k a b => show execSiInputChange k a b ⟨d, q⟩ = _ from State.on_on _ h
  case siDiscrepancy => exact fun k => show execSiDiscrepancy k ⟨d, q⟩ = _ from State.on_on _ h
  case siTestPulse => exact fun k onB a b => show execSiTestPulse k onB a b ⟨d, q⟩ = _ from State.on_on _ h
  case sainSample => exact fun i mv => show execSainSample i mv ⟨d, q⟩ = _ from State.on_on _ h
  case tempTrip => exact fun i => show execTempTrip i ⟨d, q⟩ = _ from State.on_on _ h
  case ocgTrip => exact fun n hl ma ms => show execOcgTrip n hl ma ms ⟨d, q⟩ = _ from State.on_on _ h
  case hlWeldDetect => exact fun n v ms => show execHlWeldDetect n v ms ⟨d, q⟩ = _ from State.on_on _ h
  case snetEnter => exact fun n cause => show execSnetEnter n cause ⟨d, q⟩ = _ from State.on_on _ h
  case snetExpire => exact fun n => show execSnetExpire n ⟨d, q⟩ = _ from State.on_on _ h
  case tripPulseEnd => exact fun p => show execTripPulseEnd p ⟨d, q⟩ = _ from State.on_on _ h

/-- Settles O18: a request of the application is staged, answered or left without an answer by its effect on the device; the check of
the configuration's CRC is the island's own event. -/
theorem safetyMessageCommands : Obligations.SafetyMessageCommands := by
  intro d q h
  refine ⟨?cfgWrite, ?cfgCommit, ?siClr, ?tripClr, ?proofNow, ?cfgCrcSelfCheck⟩
  case cfgWrite => exact fun ofs val => show execCfgWrite ofs val ⟨d, q⟩ = _ from State.on_on _ h
  case cfgCommit => exact show execCfgCommit ⟨d, q⟩ = _ from State.on_on _ h
  case siClr => exact fun mask => show execSiClr mask ⟨d, q⟩ = _ from State.on_on _ h
  case tripClr => exact show execTripClr ⟨d, q⟩ = _ from State.on_on _ h
  case proofNow => exact show execProofNow ⟨d, q⟩ = _ from State.on_on _ h
  case cfgCrcSelfCheck => exact fun crc => show execCfgCrcSelfCheck crc ⟨d, q⟩ = _ from State.on_on _ h

end Sys2Proof.Machine
end

section
/-!
PROOFS. Messages to the legal domain (ch. 11–13): a write or a method of an object is served by the ledger, after the common checks of
rights and presence; the reads, and the ends of what a message has begun, act on the device by their own rules.
-/
namespace Sys2Proof.Machine

open Sys2Proof

/-- What the ledger does with a write or a method, in either case: after a boundary that is due, it answers a refusal, or works on the
request and, where that is accepted, takes it as one transaction (R252–R258). -/
theorem Dev.serve_eq (d : Dev) (q : Req) (typ : Nat) (o : Obis) (n : Nat) (work : Dev → Nat × Dev) :
    d.serve q typ o n work =
      match d.boundaryFirst.requestError q o n (if typ = 0x0203 then 2 else 1) with
      | some e => d.boundaryFirst.ledAnswer q typ e
      | none =>
        let r := work d.boundaryFirst
        (if r.1 = Err.NONE then r.2.ledTxn.legalRefresh else r.2).ledAnswer q typ r.1 := by
  cases h : d.boundaryFirst.requestError q o n (if typ = 0x0203 then 2 else 1) with
  | some e => exact Dev.serve_refused work h
  | none => exact Dev.serve_ok work h

/-- With the domains on, a write or a method of an object is served by the ledger; the queue stays. -/
theorem State.on_serve {d : Dev} {pend : List Instr} {q : Req} {typ : Nat} {o : Obis} {n : Nat} (work : Dev → Nat × Dev)
    (h : d.pwr.off = false) :
    State.on ⟨d, pend⟩ (fun d => d.serve q typ o n work) = .next ⟨
      match d.boundaryFirst.requestError q o n (if typ = 0x0203 then 2 else 1) with
      | some e => d.boundaryFirst.ledAnswer q typ e
      | none =>
        let r := work d.boundaryFirst
        (if r.1 = Err.NONE then r.2.ledTxn.legalRefresh else r.2).ledAnswer q typ r.1, pend⟩ := by
  rw [State.on_on _ h, Dev.serve_eq]

/-- Settles O20: writes and methods are served by the ledger; a read is answered by its own rule, and a slew, a clock step, a
measurement and the mirror end or act as events. -/
theorem legalMessageCommands : Obligations.LegalMessageCommands := by
  intro d pend h
  refine ⟨?ledgerRead, ?legalParameterWrite, ?rightsTableWrite, ?demandConfigWrite, ?profileDefinitionWrite, ?calendarStageWrite,
    ?calendarCommit, ?calendarClear, ?accountWrite, ?accountLoad, ?llogAcknowledge, ?clockSlew, ?slewDone, ?clockStep,
    ?clockStepApply, ?measure, ?measureComplete, ?tamperAck, ?mirrorRefresh⟩
  case ledgerRead =>
    exact fun q o attr sel cont => show execLedgerRead q o attr sel cont ⟨d, pend⟩ = _ from State.on_on _ h
  case legalParameterWrite =>
    exact fun q o val => show execLegalParameterWrite q o val ⟨d, pend⟩ = _ from State.on_serve _ h
  case rightsTableWrite =>
    exact fun q changes => show execRightsTableWrite q changes ⟨d, pend⟩ = _ from State.on_serve _ h
  case demandConfigWrite =>
    exact fun q p exp attr v => show execDemandConfigWrite q p exp attr v ⟨d, pend⟩ = _ from State.on_serve _ h
  case profileDefinitionWrite =>
    exact fun q p2 period defs => show execProfileDefinitionWrite q p2 period defs ⟨d, pend⟩ = _ from State.on_serve _ h
  case calendarStageWrite =>
    exact fun q ofs data => show execCalendarStageWrite q ofs data ⟨d, pend⟩ = _ from State.on_serve _ h
  case calendarCommit => exact fun q => show execCalendarCommit q ⟨d, pend⟩ = _ from State.on_serve _ h
  case calendarClear => exact fun q => show execCalendarClear q ⟨d, pend⟩ = _ from State.on_serve _ h
  case accountWrite => exact fun q n attr v => show execAccountWrite q n attr v ⟨d, pend⟩ = _ from State.on_serve _ h
  case accountLoad => exact fun q n amount id => show execAccountLoad q n amount id ⟨d, pend⟩ = _ from State.on_serve _ h
  case llogAcknowledge => exact fun q seq => show execLlogAcknowledge q seq ⟨d, pend⟩ = _ from State.on_serve _ h
  case clockSlew => exact fun q ofs => show execClockSlew q ofs ⟨d, pend⟩ = _ from State.on_serve _ h
  case slewDone => exact show execSlewDone ⟨d, pend⟩ = _ from State.on_on _ h
  case clockStep => exact fun q ms => show execClockStep q ms ⟨d, pend⟩ = _ from State.on_serve _ h
  case clockStepApply => exact show execClockStepApply ⟨d, pend⟩ = _ from State.on_on _ h
  case measure => exact fun q p cycles => show execMeasure q p cycles ⟨d, pend⟩ = _ from State.on_serve _ h
  case measureComplete => exact fun p => show execMeasureComplete p ⟨d, pend⟩ = _ from State.on_on _ h
  case tamperAck => exact fun q k => show execTamperAck q k ⟨d, pend⟩ = _ from State.on_serve _ h
  case mirrorRefresh => exact show execMirrorRefresh ⟨d, pend⟩ = _ from State.on_on _ h

end Sys2Proof.Machine
end

section
/-!
PROOFS. The clock, the tamper inputs and the vault's zeroisation (R307, R319, R320, R324, R326, R330, R331): writes of TMP.EVT and
RTC.ALARM_CTL stand behind their page's guard and the alarm needs the domains; the crystal, the tamper inputs, the mesh and a
zeroisation run from VBAT, so they act with the domains on or off.
-/
namespace Sys2Proof.Machine

open Sys2Proof

/-- Settles O21: with the domains on, TMP.EVT and ALARM_CTL are written behind the guard of their page and the alarm acts as an event;
the tamper inputs and the stop of the crystal act in either case. -/
theorem rtcCommands : Obligations.RtcCommands := by
  intro d q
  refine ⟨fun h => ⟨?tmpEvtClear, ?rtcAlarm, ?alarmCtlWrite⟩, ?tamperInputEvent, ?tamperInputLeave, ?xt32Stop⟩
  case tmpEvtClear => exact fun m mask => show execTmpEvtClear m mask ⟨d, q⟩ = _ from State.on_guard _ h
  case rtcAlarm => exact show execRtcAlarm ⟨d, q⟩ = _ from State.on_on _ h
  case alarmCtlWrite => exact fun m en => show execAlarmCtlWrite m en ⟨d, q⟩ = _ from State.on_guard _ h
  case tamperInputEvent => exact fun k => show execTamperInputEvent k ⟨d, q⟩ = _ from State.vbat_eq _
  case tamperInputLeave => exact fun k => show execTamperInputLeave k ⟨d, q⟩ = _ from State.vbat_eq _
  case xt32Stop => exact show execXt32Stop ⟨d, q⟩ = _ from State.vbat_eq _

/-- Settles O24: a zeroisation and the check of the mesh act in either case, the domains on or off. -/
theorem zeroiseCommands : Obligations.ZeroiseCommands := by
  intro d q
  refine ⟨?zeroisation, ?meshCheck⟩
  case zeroisation => exact fun cause => show execZeroisation cause ⟨d, q⟩ = _ from State.vbat_eq _
  case meshCheck => exact fun ok => show execMeshCheck ok ⟨d, q⟩ = _ from State.vbat_eq _

end Sys2Proof.Machine
end

section
/-!
PROOFS. With the domains off (R514–R516): a command that VBAT, a field, a reset or the supply's return does not serve changes nothing,
and neither does a bridge cycle, so a dark state stays dark.
-/
namespace Sys2Proof.Machine

open Sys2Proof

/-- With the domains off a command that needs them leaves the device and the queue. The listed constructors are those that `actsOff`
names; the meaning of every other one is an effect under `State.on`. -/
theorem exec_off {c : Instr} {d : Dev} {q : List Instr} (hc : actsOff c = false) (h : d.pwr.off = true) :
    exec c ⟨d, q⟩ = .next ⟨d, q⟩ := by
  unfold exec
  cases c with
  | chipReset | powerOnReset | porstN | resetN | trstN | supplyReturnReset | thermalShutdownEnd | powerGood | rtcSecondTick
  | xt32Stop | tamperInputEvent | tamperInputLeave | zeroisation | meshCheck | tagFieldOn | tagFieldLoss | reqb | xreqb | xmark
  | readSigB | attrib | hltb | readBinary | getSig | getInfo | authBegin | authEnd | verifyPwd | writeRecord => cases hc
  | _ => exact State.on_off _ h

/-- A dark state has its domains off, and every command that waits needs them. -/
theorem State.dark_iff {d : Dev} {q : List Instr} :
    State.dark ⟨d, q⟩ = true ↔ d.pwr.off = true ∧ ∀ c ∈ q, actsOff c = false := by
  simp [State.dark, List.all_eq_true]

/-- A step of a dark state takes the queue's front and leaves the device. -/
theorem step_dark {d : Dev} {q : List Instr} (h : State.dark ⟨d, q⟩ = true) : step ⟨d, q⟩ = .next ⟨d, q.tail⟩ := by
  obtain ⟨hoff, hq⟩ := State.dark_iff.mp h
  cases q with
  | nil => exact (idleStep d).1 hoff
  | cons c q => exact exec_off (hq c List.mem_cons_self) hoff

/-- Settles O59: each step of a dark state only shortens the queue, and what is left still needs the domains. -/
theorem darkStaysDark : Obligations.DarkStaysDark := by
  rintro ⟨d, q⟩ t hdark hstep
  obtain ⟨hoff, hq⟩ := State.dark_iff.mp hdark
  obtain rfl := Host.Outcome.next.inj ((step_dark hdark).symm.trans hstep)
  exact ⟨State.dark_iff.mpr ⟨hoff, fun c hc => hq c (List.mem_of_mem_tail hc)⟩, rfl, rfl⟩

end Sys2Proof.Machine
end

section
/-!
PROOFS. The key vault (ch. 14): rollback counters (R348), the use of a key slot (R336–R338), and the vault's commands.
-/
namespace Sys2Proof.Machine

open Sys2Proof

/-! ### Rollback counters -/

theorem VLT.arb_ne {j k : Nat} (h : j ≠ k) : VLT.ARB j ≠ VLT.ARB k := by
  simp only [VLT.ARB]
  omega

/-- What ROLLBACK_SET can do: it refuses and changes nothing, or it stores a value above the one held in the counter of its domain. -/
theorem Dev.rollbackRaise_cases (d : Dev) (dom v : Nat) :
    (d.rollbackRaise dom v).2 = d ∨
      ∃ k, rollbackIndex dom = some k ∧ d.get (VLT.ARB_CNT k) < v ∧ v ≤ 65535 ∧
        (d.rollbackRaise dom v).2 = d.set (VLT.ARB_CNT k) v := by
  unfold Dev.rollbackRaise
  cases hk : rollbackIndex dom with
  | none => exact .inl rfl
  | some k =>
    dsimp only
    split
    · exact .inl rfl
    · split
      · exact .inl rfl
      · exact .inr ⟨k, rfl, by omega, by omega, rfl⟩

/-- A stored rollback value reads back whole, and the other counters read as before. -/
theorem Dev.get_set_arb (d : Dev) (j k : Nat) {v : Nat} (hv : v ≤ 65535) :
    (d.set (VLT.ARB_CNT k) v).get (VLT.ARB_CNT j) = if j = k then v else d.get (VLT.ARB_CNT j) := by
  split
  case isTrue h =>
    subst h
    rw [Dev.get_set_same d _ v (by simp [VLT.ARB_CNT])]
    exact Nat.mod_eq_of_lt (by simp only [VLT.ARB_CNT]; omega)
  case isFalse h => exact Dev.get_set_ne d _ _ v (VLT.arb_ne h)

/-- Settles O52: a counter is written only with a value above the one it holds, and no other register is written. -/
theorem rollbackCountersRise : Obligations.RollbackCountersRise := by
  intro d dom v
  refine ⟨fun k => ?rises, fun k hk hlt hv => ?taken, fun k hk hle => ?refused, fun a ha => ?others⟩
  case rises =>
    rcases d.rollbackRaise_cases dom v with h | ⟨j, -, hlt, hv, h⟩
    · rw [h]
    · rw [h, Dev.get_set_arb d k j hv]
      split
      case isTrue hkj => exact hkj ▸ hlt.le
      case isFalse => exact le_rfl
  case taken =>
    have hset : d.rollbackRaise dom v = (Err.NONE, d.set (VLT.ARB_CNT k) v) := by
      simp only [Dev.rollbackRaise, hk]
      rw [if_neg (by omega), if_neg (by omega)]
    rw [hset]
    exact ⟨rfl, by rw [Dev.get_set_arb d k k hv, if_pos rfl]⟩
  case refused =>
    have hheld : d.get (VLT.ARB_CNT k) < 65536 := Nat.mod_lt _ (Nat.two_pow_pos 16)
    simp only [Dev.rollbackRaise, hk]
    rw [if_neg (by omega), if_pos hle]
  case others =>
    rcases d.rollbackRaise_cases dom v with h | ⟨k, hk, -, -, h⟩
    · rw [h]
    · rw [h]
      exact d.rd_set_ne _ v (ha k hk)

/-! ### Use of a key slot -/

theorem Dev.useSlot_above {d : Dev} {q : VltReq} {n : Nat} {op : VltOp} {ok : Bool}
    (work : Dev → Fin 32 → KeySlot → Nat → Nat × List Nat × Dev) (hn : 32 ≤ n) : d.useSlot q n op ok work = (Err.RANGE, [], d) :=
  dif_neg (by omega)

theorem Dev.useSlot_empty {d : Dev} {q : VltReq} {k : Fin 32} {op : VltOp} {ok : Bool}
    (work : Dev → Fin 32 → KeySlot → Nat → Nat × List Nat × Dev) (hs : d.vlt.slots[k] = none) :
    d.useSlot q k op ok work = (Err.SEQUENCE, [], d) := by
  have hs' : d.vlt.slots[(⟨k.val, k.isLt⟩ : Fin 32)] = none := hs
  simp only [Dev.useSlot, k.isLt, dif_pos, hs']

/-- A slot in use is checked for rights, usage, the mark of a bad slot and its integrity, in this order, before the work. -/
theorem Dev.useSlot_used {d : Dev} {q : VltReq} {k : Fin 32} {s : KeySlot} {op : VltOp} {ok : Bool}
    (work : Dev → Fin 32 → KeySlot → Nat → Nat × List Nat × Dev) (hs : d.vlt.slots[k] = some s) :
    d.useSlot q k op ok work =
      if op ≠ .attest ∧ slotRights q (d.get (VLT.SLOT_ROLES k)) (d.get (VLT.SLOT_DOMAINS k)) = false then (Err.ROLE_DENIED, [], d)
      else if s.use.allows (d.get (VLT.SLOT_ALG k)) op = false then (Err.RANGE, [], d)
      else if (d.rdN VLT.SLOT_BAD).testBit k = true then (Err.SEQUENCE, [], d)
      else if ok = false then (Err.SEQUENCE, [], d.slotBad k)
      else work d.vltOp k s (d.get (VLT.SLOT_ALG k)) := by
  have hs' : d.vlt.slots[(⟨k.val, k.isLt⟩ : Fin 32)] = some s := hs
  simp only [Dev.useSlot, k.isLt, dif_pos, hs', Bool.not_eq_true']

/-- Settles O53: the checks of a slot answer before the work, and only a failed integrity check changes the device. -/
theorem keySlotRights : Obligations.KeySlotRights := by
  intro d r n op ok work
  refine ⟨Dev.useSlot_above work, ?empty, ?used⟩
  case empty =>
    rintro k rfl hs
    exact Dev.useSlot_empty work hs
  case used =>
    rintro k s rfl hs
    rw [Dev.useSlot_used work hs]
    refine ⟨fun hop hno => if_pos ⟨hop, hno⟩, fun hmay => ?_⟩
    have hrights : ¬ (op ≠ .attest ∧ slotRights r (d.get (VLT.SLOT_ROLES k)) (d.get (VLT.SLOT_DOMAINS k)) = false) := by
      rintro ⟨hop, hno⟩
      rcases hmay with h | h
      · exact hop h
      · exact Bool.false_ne_true (hno.symm.trans h)
    rw [if_neg hrights]
    refine ⟨fun husage => if_pos husage, fun husage hbad => ?bad, fun husage hbad hcorrupt => ?corrupt⟩
    case bad => rw [if_neg (by simp [husage]), if_pos hbad]
    case corrupt => rw [if_neg (by simp [husage]), if_neg (by simp [hbad]), if_pos hcorrupt]

/-! ### The messages of the vault -/

/-- A message to the vault answers its rejection, or does its work, which draws on the random source where it needs to. -/
theorem State.on_vltServe {d : Dev} {pend : List Instr} {q : VltReq} {typ : Nat} {need : VltNeed}
    (work : Dev → Nat × List Nat × Dev) (h : d.pwr.off = false) :
    State.on ⟨d, pend⟩ (fun d => d.vltServe q typ need work) = .next ⟨
      match d.vltError q need with
      | some e => d.vltAnswer q typ e
      | none =>
        let r := work (if need.random then d.modVlt fun v => { v with drbgReqs := v.drbgReqs + 1 } else d)
        r.2.2.vltAnswer q typ r.1 r.2.1, pend⟩ := by
  rw [State.on_on _ h]
  cases hneed : d.vltError q need with
  | some e => rw [Dev.vltServe_refused work hneed]
  | none => rw [Dev.vltServe_ok work hneed]

/-- Settles O22: each message on a key goes through the vault's checks to its work. -/
theorem vaultKeyCommands : Obligations.VaultKeyCommands := by
  intro d pend h
  refine ⟨?vltInfo, ?keyGenerate, ?keyLoad, ?keyUnload, ?keyPublic, ?sign, ?ecdh, ?mac, ?keyTransfer, ?keyToTag, ?random,
    ?attest⟩
  case vltInfo => exact fun q => show execVltInfo q ⟨d, pend⟩ = _ from State.on_vltServe _ h
  case keyGenerate => exact fun q hdr => show execKeyGenerate q hdr ⟨d, pend⟩ = _ from State.on_vltServe _ h
  case keyLoad => exact fun q blob slot tagOk => show execKeyLoad q blob slot tagOk ⟨d, pend⟩ = _ from State.on_vltServe _ h
  case keyUnload => exact fun q slot => show execKeyUnload q slot ⟨d, pend⟩ = _ from State.on_vltServe _ h
  case keyPublic => exact fun q slot => show execKeyPublic q slot ⟨d, pend⟩ = _ from State.on_vltServe _ h
  case sign => exact fun q slot data intact => show execSign q slot data intact ⟨d, pend⟩ = _ from State.on_vltServe _ h
  case ecdh => exact fun q slot peer intact => show execEcdh q slot peer intact ⟨d, pend⟩ = _ from State.on_vltServe _ h
  case mac => exact fun q slot data tag intact => show execMac q slot data tag intact ⟨d, pend⟩ = _ from State.on_vltServe _ h
  case keyTransfer =>
    exact fun q slot peer intact => show execKeyTransfer q slot peer intact ⟨d, pend⟩ = _ from State.on_vltServe _ h
  case keyToTag => exact fun q slot intact => show execKeyToTag q slot intact ⟨d, pend⟩ = _ from State.on_vltServe _ h
  case random => exact fun q n => show execRandom q n ⟨d, pend⟩ = _ from State.on_vltServe _ h
  case attest => exact fun q nonce intact => show execAttest q nonce intact ⟨d, pend⟩ = _ from State.on_vltServe _ h

/-- Settles O23: each message on a role, an anchor, the lifecycle or debug goes through the vault's checks to its work; the timers and
the random source act as events. -/
theorem vaultCommands : Obligations.VaultCommands := by
  intro d pend h
  refine ⟨?roleChallenge, ?roleOpen, ?roleClose, ?roleSessionIdleTimeout, ?anchorSet, ?rollbackSet, ?lifecycleSet,
    ?debugChallenge, ?debugOpen, ?debugScopeExpiry, ?vaultTamperCfg, ?trngHealthFail, ?trngRetest, ?drbgReseed⟩
  case roleChallenge => exact fun q role => show execRoleChallenge q role ⟨d, pend⟩ = _ from State.on_vltServe _ h
  case roleOpen => exact fun q role idx eph ok => show execRoleOpen q role idx eph ok ⟨d, pend⟩ = _ from State.on_vltServe _ h
  case roleClose => exact fun q role => show execRoleClose q role ⟨d, pend⟩ = _ from State.on_vltServe _ h
  case roleSessionIdleTimeout =>
    exact fun link role => show execRoleSessionIdleTimeout link role ⟨d, pend⟩ = _ from State.on_on _ h
  case anchorSet => exact fun q role idx key => show execAnchorSet q role idx key ⟨d, pend⟩ = _ from State.on_vltServe _ h
  case rollbackSet => exact fun q dom v => show execRollbackSet q dom v ⟨d, pend⟩ = _ from State.on_vltServe _ h
  case lifecycleSet => exact fun q target => show execLifecycleSet q target ⟨d, pend⟩ = _ from State.on_vltServe _ h
  case debugChallenge => exact fun q scope => show execDebugChallenge q scope ⟨d, pend⟩ = _ from State.on_vltServe _ h
  case debugOpen => exact fun q ok => show execDebugOpen q ok ⟨d, pend⟩ = _ from State.on_vltServe _ h
  case debugScopeExpiry => exact show execDebugScopeExpiry ⟨d, pend⟩ = _ from State.on_on _ h
  case vaultTamperCfg => exact fun q en => show execVaultTamperCfg q en ⟨d, pend⟩ = _ from State.on_vltServe _ h
  case trngHealthFail => exact show execTrngHealthFail ⟨d, pend⟩ = _ from State.on_on _ h
  case trngRetest => exact fun pass => show execTrngRetest pass ⟨d, pend⟩ = _ from State.on_on _ h
  case drbgReseed => exact show execDrbgReseed ⟨d, pend⟩ = _ from State.on_on _ h

end Sys2Proof.Machine
end

section
/-!
PROOFS. How the site's budget is divided (R440): a bay's share stays within its demand or its minimum.
-/
namespace Sys2Proof.Machine

open Sys2Proof

/-- The newest session is taken out of the set; no other demand changes. -/
theorem dropNewest_subset (l : List (Nat × BayDemand)) : dropNewest l ⊆ l := by
  unfold dropNewest
  split
  · exact List.erase_subset
  · exact List.Subset.refl l

/-- The set that the budget carries holds demands of the list. -/
theorem fitSet_subset (budget : Int) (fuel : Nat) : ∀ l : List (Nat × BayDemand), fitSet budget fuel l ⊆ l := by
  induction fuel with
  | zero => exact List.Subset.refl
  | succ fuel ih =>
    intro l
    unfold fitSet
    split
    · exact List.Subset.trans (ih _) (dropNewest_subset l)
    · exact List.Subset.refl l

/-- Water-filling gives no bay more than it demands: while a demand lies below the even share it gets that demand, and the even share
goes to those that demand more. -/
theorem waterFill_le (fuel : Nat) : ∀ (rest : Int) (l : List (Nat × BayDemand)), ∀ e ∈ waterFill fuel rest l,
    ∃ x ∈ l, e.1 = (x.1, x.2.bay) ∧ e.2 ≤ x.2.d := by
  induction fuel with
  | zero => exact fun _ _ _ he => absurd he List.not_mem_nil
  | succ fuel ih =>
    intro rest l e he
    unfold waterFill at he
    dsimp only at he
    split at he
    · exact absurd he List.not_mem_nil
    · split at he
      case isTrue hlow =>
        obtain ⟨x, hx, rfl⟩ := List.mem_map.mp he
        have habove := List.filter_eq_nil_iff.mp hlow x hx
        simp only [decide_eq_true_eq] at habove
        exact ⟨x, hx, rfl, by dsimp only; omega⟩
      case isFalse =>
        rcases List.mem_append.mp he with hlow | hrest
        · obtain ⟨x, hx, rfl⟩ := List.mem_map.mp hlow
          exact ⟨x, List.mem_of_mem_filter hx, rfl, le_rfl⟩
        · obtain ⟨x, hx, hkey, hle⟩ := ih _ _ e hrest
          exact ⟨x, List.mem_of_mem_filter hx, hkey, hle⟩

/-- The share of one demand: the filling's, and at least the minimum, while it is in the set; nothing elsewhere. -/
def shareOf (limit base : Int) (l : List (Nat × BayDemand)) (x : Nat × BayDemand) : Nat :=
  let set := fitSet (limit - base) l.length l
  if set.contains x then
    max (match (waterFill (set.length + 1) (limit - base) set).find? fun e => e.1 == (x.1, x.2.bay) with
      | some e => e.2 | none => 0) x.2.pMin
  else 0

theorem divide_eq (limit base : Int) (l : List (Nat × BayDemand)) :
    divide limit base l = l.map fun x => ((x.1, x.2.bay), shareOf limit base l x) := rfl

/-- Demands of different bays are told apart by unit and bay. -/
theorem demand_unique {l : List (Nat × BayDemand)} (h : (l.map fun x => (x.1, x.2.bay)).Nodup) {x y : Nat × BayDemand}
    (hx : x ∈ l) (hy : y ∈ l) (hkey : (x.1, x.2.bay) = (y.1, y.2.bay)) : x = y :=
  List.inj_on_of_nodup_map h hx hy hkey

theorem shareOf_le {limit base : Int} {l : List (Nat × BayDemand)} (h : (l.map fun x => (x.1, x.2.bay)).Nodup)
    {x : Nat × BayDemand} (hx : x ∈ l) : shareOf limit base l x ≤ max x.2.d x.2.pMin := by
  unfold shareOf
  dsimp only
  split
  case isFalse => exact Nat.zero_le _
  case isTrue =>
    refine max_le_max ?_ le_rfl
    split
    case h_2 => exact Nat.zero_le _
    case h_1 e he =>
      obtain ⟨y, hy, hkey, hle⟩ := waterFill_le _ _ _ e (List.mem_of_find?_eq_some he)
      have hxe : e.1 = (x.1, x.2.bay) := by simpa using List.find?_some he
      rwa [demand_unique h hx (fitSet_subset _ _ l hy) (hxe.symm.trans hkey)]

/-- Settles O48: a share is the filling's or the minimum, and the filling stays within the demand. -/
theorem shareWithinDemand : Obligations.ShareWithinDemand := by
  intro limit base l hnodup
  rw [divide_eq]
  refine ⟨by rw [List.map_map]; rfl, fun x hx v hv => ?_, fun x hx hout => ?_⟩
  · obtain ⟨y, hy, hshare⟩ := List.mem_map.mp hv
    obtain ⟨hkey, rfl⟩ := Prod.mk.inj hshare
    obtain rfl := demand_unique hnodup hy hx hkey
    exact shareOf_le hnodup hy
  · refine List.mem_map.mpr ⟨x, hx, ?_⟩
    rw [shareOf, if_neg (by simp only [hout, Bool.false_eq_true, not_false_eq_true])]

end Sys2Proof.Machine
end

section
/-!
PROOFS. The serial pages, the OSPI and the Ethernet pages (R481, R483, R541–R549): a write stands behind the guard of its page, a start
behind the start rules, and the rest are events.
-/
namespace Sys2Proof.Machine

open Sys2Proof

/-- Settles O5: GPIO and the flushes are written behind their guard, the sequences, pushes and transfers are started, and reads, pins
and timers act at once. -/
theorem serialCommands : Obligations.SerialCommands := by
  intro d pend h
  refine ⟨?gpioSet, ?gpioClr, ?gpioTgl, ?gpioEdge, ?sarSequenceStart, ?sarSequenceDone, ?resultRead, ?uartTxPush, ?uartRxPop,
    ?uartCharRx, ?uartRxTimeout, ?uartCharTx, ?txFlush, ?rxFlush, ?i2cGo, ?i2cTransferEnd, ?i2cTimeout, ?recover⟩
  case gpioSet => exact fun m w => show execGpioSet m w ⟨d, pend⟩ = _ from State.on_guard _ h
  case gpioClr => exact fun m w => show execGpioClr m w ⟨d, pend⟩ = _ from State.on_guard _ h
  case gpioTgl => exact fun m w => show execGpioTgl m w ⟨d, pend⟩ = _ from State.on_guard _ h
  case gpioEdge => exact fun k level => show execGpioEdge k level ⟨d, pend⟩ = _ from State.on_on _ h
  case sarSequenceStart => exact fun m mask => show execSarSequenceStart m mask ⟨d, pend⟩ = _ from State.on_startWork _ _ h
  case sarSequenceDone => exact fun vals => show execSarSequenceDone vals ⟨d, pend⟩ = _ from State.on_on _ h
  case resultRead => exact fun m c => show execResultRead m c ⟨d, pend⟩ = _ from State.on_on _ h
  case uartTxPush => exact fun m k c => show execUartTxPush m k c ⟨d, pend⟩ = _ from State.on_startWork _ _ h
  case uartRxPop => exact fun m k => show execUartRxPop m k ⟨d, pend⟩ = _ from State.on_on _ h
  case uartCharRx => exact fun k c pe fe brk => show execUartCharRx k c pe fe brk ⟨d, pend⟩ = _ from State.on_on _ h
  case uartRxTimeout => exact fun k => show execUartRxTimeout k ⟨d, pend⟩ = _ from State.on_on _ h
  case uartCharTx => exact fun k => show execUartCharTx k ⟨d, pend⟩ = _ from State.on_on _ h
  case txFlush => exact fun m k => show execTxFlush m k ⟨d, pend⟩ = _ from State.on_guard _ h
  case rxFlush => exact fun m k => show execRxFlush m k ⟨d, pend⟩ = _ from State.on_guard _ h
  case i2cGo => exact fun m n w => show execI2cGo m n w ⟨d, pend⟩ = _ from State.on_startWork _ _ h
  case i2cTransferEnd => exact fun n e => show execI2cTransferEnd n e ⟨d, pend⟩ = _ from State.on_on _ h
  case i2cTimeout => exact fun n => show execI2cTimeout n ⟨d, pend⟩ = _ from State.on_on _ h
  case recover => exact fun m n => show execRecover m n ⟨d, pend⟩ = _ from State.on_startWork _ _ h

/-- Settles O6: a command, a flush and an access of the PHY are started, FW_READY is written behind the guard, and the rest are events. -/
theorem ospiEthCommands : Obligations.OspiEthCommands := by
  intro d pend h
  refine ⟨?ospiWindowWrite, ?ospiCmdGo, ?ospiCmdDone, ?flush, ?pageBufferTimeout, ?programDone, ?programStallTimeout, ?fwReady,
    ?mdioAccess, ?mdioDone, ?phyLinkPoll⟩
  case ospiWindowWrite => exact fun m a data => show execOspiWindowWrite m a data ⟨d, pend⟩ = _ from State.on_on _ h
  case ospiCmdGo => exact fun m w => show execOspiCmdGo m w ⟨d, pend⟩ = _ from State.on_startWork _ _ h
  case ospiCmdDone => exact fun data => show execOspiCmdDone data ⟨d, pend⟩ = _ from State.on_on _ h
  case flush => exact fun m => show execFlush m ⟨d, pend⟩ = _ from State.on_startWork _ _ h
  case pageBufferTimeout => exact show execPageBufferTimeout ⟨d, pend⟩ = _ from State.on_on _ h
  case programDone => exact show execProgramDone ⟨d, pend⟩ = _ from State.on_on _ h
  case programStallTimeout => exact show execProgramStallTimeout ⟨d, pend⟩ = _ from State.on_on _ h
  case fwReady => exact fun m => show execFwReady m ⟨d, pend⟩ = _ from State.on_guard _ h
  case mdioAccess => exact fun m w => show execMdioAccess m w ⟨d, pend⟩ = _ from State.on_startWork _ _ h
  case mdioDone => exact fun data => show execMdioDone data ⟨d, pend⟩ = _ from State.on_on _ h
  case phyLinkPoll => exact fun up refclk => show execPhyLinkPoll up refclk ⟨d, pend⟩ = _ from State.on_on _ h

end Sys2Proof.Machine
end

section
/-!
PROOFS. The contactless reader and tag (R352–R374).
-/
namespace Sys2Proof.Machine

open Sys2Proof

/-- Settles O25: the field and the watch for cards are started, the list is written behind the guard of its page, and the rest are
events. -/
theorem readerCommands : Obligations.ReaderCommands := by
  intro d pend h
  refine ⟨?nfrFieldOn, ?nfrFieldOff, ?lpcdStart, ?lpcdPulse, ?transceive, ?anticoll, ?nfrAbort, ?nfrRxDone, ?listClear,
    ?listDataWrite, ?loadDone⟩
  case nfrFieldOn => exact fun m => show execNfrFieldOn m ⟨d, pend⟩ = _ from State.on_startWork _ _ h
  case nfrFieldOff => exact fun m => show execNfrFieldOff m ⟨d, pend⟩ = _ from State.on_guard _ h
  case lpcdStart => exact fun m => show execLpcdStart m ⟨d, pend⟩ = _ from State.on_startWork _ _ h
  case lpcdPulse => exact fun amp => show execLpcdPulse amp ⟨d, pend⟩ = _ from State.on_on _ h
  case transceive => exact fun m => show execTransceive m ⟨d, pend⟩ = _ from State.on_on _ h
  case anticoll => exact fun m => show execAnticoll m ⟨d, pend⟩ = _ from State.on_on _ h
  case nfrAbort => exact fun m => show execNfrAbort m ⟨d, pend⟩ = _ from State.on_guard _ h
  case nfrRxDone => exact fun r => show execNfrRxDone r ⟨d, pend⟩ = _ from State.on_on _ h
  case listClear => exact fun m => show execListClear m ⟨d, pend⟩ = _ from State.on_guard _ h
  case listDataWrite => exact fun m w => show execListDataWrite m w ⟨d, pend⟩ = _ from State.on_guard _ h
  case loadDone => exact fun m => show execLoadDone m ⟨d, pend⟩ = _ from State.on_guard _ h

/-- Settles O26: the host's record write stands behind the guard of the page, its commit and its read act as events, and the tag
answers its reader from the field, with the domains on or off. -/
theorem tagCommands : Obligations.TagCommands := by
  intro d pend
  refine ⟨fun h => ⟨?hostRecordWrite, ?hostRecordCommit, ?hostDataRead⟩,
    ?tagFieldOn, ?tagFieldLoss, ?reqb, ?xreqb, ?xmark, ?readSigB, ?attrib, ?hltb, ?readBinary, ?getSig, ?getInfo, ?authBegin,
    ?authEnd, ?verifyPwd, ?writeRecord⟩
  case hostRecordWrite => exact fun m rec => show execHostRecordWrite m rec ⟨d, pend⟩ = _ from State.on_guard _ h
  case hostRecordCommit => exact show execHostRecordCommit ⟨d, pend⟩ = _ from State.on_on _ h
  case hostDataRead => exact fun m busy => show execHostDataRead m busy ⟨d, pend⟩ = _ from State.on_on _ h
  case tagFieldOn => exact fun own => show execTagFieldOn own ⟨d, pend⟩ = _ from State.vbat_eq _
  case tagFieldLoss => exact show execTagFieldLoss ⟨d, pend⟩ = _ from State.vbat_eq _
  case reqb => exact fun n afi wake => show execReqb n afi wake ⟨d, pend⟩ = _ from State.vbat_eq _
  case xreqb => exact fun afi param => show execXreqb afi param ⟨d, pend⟩ = _ from State.vbat_eq _
  case xmark => exact fun std sl => show execXmark std sl ⟨d, pend⟩ = _ from State.vbat_eq _
  case readSigB => exact fun pupi => show execReadSigB pupi ⟨d, pend⟩ = _ from State.vbat_eq _
  case attrib => exact fun pupi => show execAttrib pupi ⟨d, pend⟩ = _ from State.vbat_eq _
  case hltb => exact fun pupi => show execHltb pupi ⟨d, pend⟩ = _ from State.vbat_eq _
  case readBinary => exact fun ofs le => show execReadBinary ofs le ⟨d, pend⟩ = _ from State.vbat_eq _
  case getSig => exact fun p le => show execGetSig p le ⟨d, pend⟩ = _ from State.vbat_eq _
  case getInfo => exact fun p le => show execGetInfo p le ⟨d, pend⟩ = _ from State.vbat_eq _
  case authBegin => exact fun p le => show execAuthBegin p le ⟨d, pend⟩ = _ from State.vbat_eq _
  case authEnd => exact fun p len ok => show execAuthEnd p len ok ⟨d, pend⟩ = _ from State.vbat_eq _
  case verifyPwd => exact fun p pwd => show execVerifyPwd p pwd ⟨d, pend⟩ = _ from State.vbat_eq _
  case writeRecord =>
    exact fun p txn data macOk cut => show execWriteRecord p txn data macOk cut ⟨d, pend⟩ = _ from State.vbat_eq _

end Sys2Proof.Machine
end

section
/-!
PROOFS. The electronic-paper engine (R376–R391).
-/
namespace Sys2Proof.Machine

open Sys2Proof

/-- Settles O27: an update and a table load are started, the registers are written behind the guard of their page, and the frame, the
rails and the timers act as events. -/
theorem displayCommands : Obligations.DisplayCommands := by
  intro d pend h
  refine ⟨?updXyGo, ?epdrGo, ?regionStart, ?epdFrame, ?regionEnd, ?wbAck, ?rectWrite, ?railIdleOff, ?railFault, ?wfLoad,
    ?bandLoad, ?tempStale, ?blinkToggle, ?blDataWrite⟩
  case updXyGo => exact fun m mode => show execUpdXyGo m mode ⟨d, pend⟩ = _ from State.on_startWork _ _ h
  case epdrGo => exact fun m mode => show execEpdrGo m mode ⟨d, pend⟩ = _ from State.on_guard _ h
  case regionStart => exact show execRegionStart ⟨d, pend⟩ = _ from State.on_on _ h
  case epdFrame => exact fun late sns => show execEpdFrame late sns ⟨d, pend⟩ = _ from State.on_on _ h
  case regionEnd => exact fun id => show execRegionEnd id ⟨d, pend⟩ = _ from State.on_on _ h
  case wbAck => exact fun m => show execWbAck m ⟨d, pend⟩ = _ from State.on_guard _ h
  case rectWrite => exact fun m wh w => show execRectWrite m wh w ⟨d, pend⟩ = _ from State.on_guard _ h
  case railIdleOff => exact show execRailIdleOff ⟨d, pend⟩ = _ from State.on_on _ h
  case railFault => exact fun cause => show execRailFault cause ⟨d, pend⟩ = _ from State.on_on _ h
  case wfLoad => exact fun m w => show execWfLoad m w ⟨d, pend⟩ = _ from State.on_startWork _ _ h
  case bandLoad => exact show execBandLoad ⟨d, pend⟩ = _ from State.on_on _ h
  case tempStale => exact show execTempStale ⟨d, pend⟩ = _ from State.on_on _ h
  case blinkToggle => exact fun k => show execBlinkToggle k ⟨d, pend⟩ = _ from State.on_on _ h
  case blDataWrite => exact fun m w => show execBlDataWrite m w ⟨d, pend⟩ = _ from State.on_guard _ h

end Sys2Proof.Machine
end

section
/-!
PROOFS. The load switches: the registers behind the guard of their page, the frames of port 1, and the events of a channel (R396–R414).
-/
namespace Sys2Proof.Machine

open Sys2Proof

/-- Settles O28: LATCH_CLR, HM_KICK and FS_STORE stand behind the guard of the page; the other commands and the events act at once. -/
theorem loadSwitchCommands : Obligations.LoadSwitchCommands := by
  intro d pend h
  refine ⟨?cmdOn, ?cmdOff, ?latchClr, ?hmKick, ?nop, ?setOn, ?setOff, ?readStat, ?readCur, ?spiLatchClr, ?spiFrameError,
    ?dinInputChange, ?lswCurrentLimit, ?limitRecover, ?thermalTrip, ?lswRestart, ?budgetCut, ?inrushWindowEnd, ?openLoadDetect,
    ?hallMonitorExpiry, ?fsStore, ?fsStoreDone⟩
  case cmdOn => exact fun m mask => show execCmdOn m mask ⟨d, pend⟩ = _ from State.on_on _ h
  case cmdOff => exact fun m mask => show execCmdOff m mask ⟨d, pend⟩ = _ from State.on_on _ h
  case latchClr => exact fun m mask => show execLatchClr m mask ⟨d, pend⟩ = _ from State.on_guard _ h
  case hmKick => exact fun m => show execHmKick m ⟨d, pend⟩ = _ from State.on_guard _ h
  case nop => exact fun frame => show execNop frame ⟨d, pend⟩ = _ from State.on_on _ h
  case setOn => exact fun frame => show execSetOn frame ⟨d, pend⟩ = _ from State.on_on _ h
  case setOff => exact fun frame => show execSetOff frame ⟨d, pend⟩ = _ from State.on_on _ h
  case readStat => exact fun frame => show execReadStat frame ⟨d, pend⟩ = _ from State.on_on _ h
  case readCur => exact fun frame => show execReadCur frame ⟨d, pend⟩ = _ from State.on_on _ h
  case spiLatchClr => exact fun frame => show execSpiLatchClr frame ⟨d, pend⟩ = _ from State.on_on _ h
  case spiFrameError => exact show execSpiFrameError ⟨d, pend⟩ = _ from State.on_on _ h
  case dinInputChange => exact fun c level => show execDinInputChange c level ⟨d, pend⟩ = _ from State.on_on _ h
  case lswCurrentLimit => exact fun c ma => show execLswCurrentLimit c ma ⟨d, pend⟩ = _ from State.on_on _ h
  case limitRecover => exact fun c ma => show execLimitRecover c ma ⟨d, pend⟩ = _ from State.on_on _ h
  case thermalTrip => exact fun c => show execThermalTrip c ⟨d, pend⟩ = _ from State.on_on _ h
  case lswRestart => exact fun c dC => show execLswRestart c dC ⟨d, pend⟩ = _ from State.on_on _ h
  case budgetCut =>
    -- The choice of the victim stays opaque: it is the same on both sides, and need not be evaluated.
    refine fun meas => (show execBudgetCut meas ⟨d, pend⟩ = _ from State.on_on _ h).trans ?_
    generalize Dev.lswVictim = victim
    rfl
  case inrushWindowEnd => exact fun c => show execInrushWindowEnd c ⟨d, pend⟩ = _ from State.on_on _ h
  case openLoadDetect => exact fun c sense => show execOpenLoadDetect c sense ⟨d, pend⟩ = _ from State.on_on _ h
  case hallMonitorExpiry => exact fun port => show execHallMonitorExpiry port ⟨d, pend⟩ = _ from State.on_on _ h
  case fsStore => exact fun m => show execFsStore m ⟨d, pend⟩ = _ from State.on_guard _ h
  case fsStoreDone => exact show execFsStoreDone ⟨d, pend⟩ = _ from State.on_on _ h

end Sys2Proof.Machine
end

section
/-!
PROOFS. What stays outside a window of register pages; the load switches (ch. 17) work on their own page and in their own channels.
-/
namespace Sys2Proof.Machine

open Sys2Proof

/-! ### Outside a window of pages -/

/-- The memories, the registers and the parts that a block with a page of its own may leave alone: the fused part, the ledger, the power
path, the bays, the vault and the supply. -/
def Dev.outerParts (d : Dev) :
    List Host.Cell × List (Nat × Word) × Chip × LedInt × Vector CtcInt 4 × Vector BayInt 4 × VltInt × PwrInt :=
  (d.mem, d.regs, d.chip, d.led, d.ctc, d.bay, d.vlt, d.pwr)

/-- In memory, fused part, ledger, power path, bays, vault and supply `t` is as `d`, and so it is in every register outside the `n`
bytes from `lo`. -/
structure Dev.SameOutside (lo n : Nat) (d t : Dev) : Prop where
  mem : t.mem = d.mem
  rd : ∀ a : Nat, a < lo ∨ lo + n ≤ a → t.rd a = d.rd a
  chip : t.chip = d.chip
  led : t.led = d.led
  ctc : t.ctc = d.ctc
  bay : t.bay = d.bay
  vlt : t.vlt = d.vlt
  pwr : t.pwr = d.pwr

section
variable {lo n : Nat}

/-- What changes none of the parts named changes no register either. -/
theorem Dev.SameOutside.of_outerParts {d t : Dev} (h : t.outerParts = d.outerParts) : d.SameOutside lo n t := by
  simp only [Dev.outerParts, Prod.mk.injEq] at h
  obtain ⟨hmem, hregs, hchip, hled, hctc, hbay, hvlt, hpwr⟩ := h
  exact ⟨hmem, fun a _ => congrArg (Sparse.get resetWord · a) hregs, hchip, hled, hctc, hbay, hvlt, hpwr⟩

theorem Dev.SameOutside.refl (d : Dev) : d.SameOutside lo n d := .of_outerParts rfl

theorem Dev.SameOutside.trans {d t u : Dev} (h : d.SameOutside lo n t) (k : t.SameOutside lo n u) : d.SameOutside lo n u :=
  ⟨k.mem.trans h.mem, fun a ha => (k.rd a ha).trans (h.rd a ha), k.chip.trans h.chip, k.led.trans h.led, k.ctc.trans h.ctc,
    k.bay.trans h.bay, k.vlt.trans h.vlt, k.pwr.trans h.pwr⟩

/-- A branch keeps what both its sides keep. -/
theorem Dev.SameOutside.ite {d t u : Dev} {c : Prop} [Decidable c] (ht : d.SameOutside lo n t) (hu : d.SameOutside lo n u) :
    d.SameOutside lo n (if c then t else u) := by
  split
  · exact ht
  · exact hu

/-- Effects on a list, one after the other, keep what each keeps. -/
theorem Dev.SameOutside.foldl {α : Type} {f : Dev → α → Dev} (hf : ∀ (t : Dev) (x : α), t.SameOutside lo n (f t x)) (l : List α) (d : Dev) :
    d.SameOutside lo n (l.foldl f d) :=
  l.foldlRecOn f (motive := fun t => d.SameOutside lo n t) (.refl d) fun t ht x _ => ht.trans (hf t x)

/-- A register of the window is written. -/
theorem Dev.SameOutside.wr {a : Nat} (ha : lo ≤ a ∧ a < lo + n) (d : Dev) (w : Word) : d.SameOutside lo n (d.wr a w) :=
  ⟨rfl, fun _ hb => d.rd_wr_ne w (by omega), rfl, rfl, rfl, rfl, rfl, rfl⟩

/-- A field of the window is written. -/
theorem Dev.SameOutside.set {f : Fld} (hf : lo ≤ f.reg ∧ f.reg < lo + n) (d : Dev) (v : Nat) : d.SameOutside lo n (d.set f v) :=
  .wr hf d _

/-- An event of a page in the window is posted. -/
theorem Dev.SameOutside.raise {p : Nat} (hp : lo ≤ p ∧ p + 0x018 < lo + n) (d : Dev) (e : Nat) :
    d.SameOutside lo n (d.raise p e) where
  mem := d.raise_mem p e
  rd a ha := d.rd_raise_ne p e (by simp only [Hdr.irqStat]; omega)
  chip := d.raise_chip p e
  led := d.raise_led p e
  ctc := d.raise_ctc p e
  bay := d.raise_bay p e
  vlt := d.raise_vlt p e
  pwr := d.raise_pwr p e

/-- A rejection on a page in the window. -/
theorem Dev.SameOutside.reject {p : Nat} (hp : lo ≤ p ∧ p + 0x020 < lo + n) (d : Dev) (c : Nat) :
    d.SameOutside lo n (d.reject p c) :=
  have hcode : lo ≤ p + 0x020 ∧ p + 0x020 < lo + n := ⟨by omega, hp.2⟩
  .trans (.trans (.wr hcode d _) (.wr hcode _ _)) (.raise ⟨hp.1, by omega⟩ _ 31)

end

/-! ### The load switches -/

theorem LSW.chStat_in_page (c : Fin 12) : LSW.page ≤ LSW.CH_STAT c.val ∧ LSW.CH_STAT c.val < LSW.page + 0x1000 := by
  simp only [LSW.CH_STAT]
  omega

theorem LSW.chMeas_in_page (c : Fin 12) : LSW.page ≤ LSW.CH_MEAS c.val ∧ LSW.CH_MEAS c.val < LSW.page + 0x1000 := by
  simp only [LSW.CH_MEAS]
  omega

/-- The estimated dissipation of each channel in mW (R402). -/
def Dev.budgetMw (d : Dev) (meas : Vector ChMeas 12) : Vector Nat 12 := Vector.ofFn fun c : Fin 12 => d.lswMw c meas[c]

/-- The device in which CHn_MEAS and BUDGET show the millisecond's estimate, counted while it runs above the limit (R402). -/
def Dev.budgetCounted (d : Dev) (meas : Vector ChMeas 12) : Dev :=
  let sum := (d.budgetMw meas).toList.sum
  let d := (d.lswMeasure meas).set LSW.BUDGET_P (satAt 4095 sum)
  let above := if sum ≤ d.get LSW.BUDGET_CFG_LIMIT then 0 else d.lsw.overMs + 1
  let d : Dev := { d with lsw := { d.lsw with overMs := above, cutLeft := d.lsw.cutLeft - 1 } }
  d.setBit LSW.BUDGET_CUTTING (d.lsw.cutLeft != 0)

/-- A load-switch command works on the load switches' page and in their own state. -/
abbrev Dev.SameButLsw (d t : Dev) : Prop := d.SameOutside LSW.page 0x1000 t

namespace Dev.SameButLsw

theorem chStat (c : Fin 12) {f : Fld} (hf : f.reg = LSW.CH_STAT c.val) (d : Dev) (v : Nat) : d.SameButLsw (d.set f v) :=
  .set (hf ▸ LSW.chStat_in_page c) d v

theorem chMeas (c : Fin 12) {f : Fld} (hf : f.reg = LSW.CH_MEAS c.val) (d : Dev) (v : Nat) : d.SameButLsw (d.set f v) :=
  .set (hf ▸ LSW.chMeas_in_page c) d v

/-- An event of the page is posted. -/
theorem event (d : Dev) (e : Nat) : d.SameButLsw (d.raise LSW.page e) := .raise (by decide) d e

theorem rejected (d : Dev) (e : Nat) : d.SameButLsw (d.reject LSW.page e) := .reject (by decide) d e

/-- The block's hidden state changes. -/
theorem hidden (d : Dev) (x : LswInt) : d.SameButLsw { d with lsw := x } := .of_outerParts rfl

theorem modLsw (d : Dev) (c : Fin 12) (f : LswCh → LswCh) : d.SameButLsw (d.modLsw c f) := hidden d _

theorem cmdState (d : Dev) (i : Nat) (b : Bool) : d.SameButLsw (d.setFlag LSW.CMD_STATE_CMD i b) := .set (by decide) d _

theorem forLsw {f : Fin 12 → Dev → Dev} (hf : ∀ (c : Fin 12) (t : Dev), t.SameButLsw (f c t)) (d : Dev) (mask : Nat) :
    d.SameButLsw (d.forLsw mask f) :=
  .foldl (fun t c => .ite (hf c t) (.refl t)) lswChans d

/-! #### A channel's state (R400, R401) -/

theorem lswEnter (d : Dev) (c : Fin 12) (st : Nat) : d.SameButLsw (d.lswEnter c st) :=
  .trans (chStat c rfl d st) (.set (by decide) _ _)

theorem lswShowCounts (d : Dev) (c : Fin 12) : d.SameButLsw (d.lswShowCounts c) :=
  .trans (chStat c rfl d _) (chStat c rfl _ _)

theorem lswOpenWindow (d : Dev) (c : Fin 12) : d.SameButLsw (d.lswOpenWindow c) := .trans (modLsw d c _) (lswShowCounts _ c)

theorem lswCloseWindow (d : Dev) (c : Fin 12) : d.SameButLsw (d.lswCloseWindow c) := hidden d _

theorem lswOn (d : Dev) (c : Fin 12) : d.SameButLsw (d.lswOn c) :=
  .trans (.ite (.refl d) (lswOpenWindow d c)) (lswEnter _ c _)

/-- A switched-off channel closes its window and enters its state. -/
theorem closed (d : Dev) (c : Fin 12) (st : Nat) : d.SameButLsw ((d.lswCloseWindow c).lswEnter c st) :=
  .trans (lswCloseWindow d c) (lswEnter _ c st)

theorem lswEval (d : Dev) (c : Fin 12) : d.SameButLsw (d.lswEval c) := by
  have denied (st e : Nat) : d.SameButLsw (((d.lswCloseWindow c).lswEnter c st).raise LSW.page e) :=
    .trans (closed d c st) (event _ e)
  have switchedOn : d.SameButLsw ((d.modLsw c fun x => { x with waitCool := false }).lswOn c) := .trans (modLsw d c _) (lswOn _ c)
  unfold Dev.lswEval
  exact .ite (.refl d) (.ite (.ite (.refl d) (denied _ _)) (.ite (.ite (.refl d) (denied _ _))
    (.ite (.ite (.ite (lswEnter d c _) switchedOn) (lswEnter d c _)) (.ite (.refl d) (.ite (.refl d) (closed d c _))))))

theorem lswTripped (d : Dev) (c : Fin 12) : d.SameButLsw (d.lswTripped c) := by
  unfold Dev.lswTripped
  exact .ite (.trans (lswEnter d c _) (event _ _))
    (.ite (.trans (.trans (.trans (lswEnter d c _) (cmdState _ _ _)) (lswCloseWindow _ c)) (event _ _)) (lswEnter d c _))

theorem lswCount (d : Dev) (c : Fin 12) (thermal : Bool) : d.SameButLsw (d.lswCount c thermal) := by
  unfold Dev.lswCount
  exact .trans (.trans (.ite (.refl d) (.trans (lswOpenWindow d c) (modLsw _ c _))) (modLsw _ c _)) (lswShowCounts _ c)

/-! #### The two ports (R404, R405) -/

theorem lswCommand (d : Dev) (mask : Nat) (on : Bool) : d.SameButLsw (d.lswCommand mask on) :=
  forLsw (fun c t => .trans (.trans (.trans (cmdState t _ _) (chStat c rfl _ _)) (.ite (lswEnter _ c _) (.refl _)))
    (lswEval _ c)) d mask

theorem lswLatchClear (d : Dev) (mask : Nat) : d.SameButLsw (d.lswLatchClear mask) :=
  forLsw (fun c t => .ite (.trans (.trans (.trans (.trans (modLsw t c _) (lswShowCounts _ c)) (cmdState _ _ _))
    (lswEnter _ c _)) (lswEval _ c)) (.refl t)) d mask

theorem hmRestart (d : Dev) (port : Nat) : d.SameButLsw (d.hmRestart port) := by
  unfold Dev.hmRestart
  split
  · exact .set (by decide) d _
  · exact .set (by decide) d _

/-- A write of the page that port 0 makes: the unlock sequence ends, and the page takes the write or turns it down. -/
theorem guarded {d t : Dev} {m : Master} {o : Nat} (ht : d.noKey.SameButLsw t) :
    d.SameButLsw (if d.accepts m .LSW o then t else d.turnedDown m .LSW o) :=
  have hkey : d.SameButLsw d.noKey := .of_outerParts rfl
  .ite (.trans hkey ht) (.trans hkey (rejected _ _))

/-- A command of a port on a mask of channels is checked first. -/
theorem checked {d t : Dev} {f : Nat → Dev} (e : Option Nat) (hf : ∀ c, d.SameButLsw (f c)) (ht : d.SameButLsw t) :
    d.SameButLsw (match e with | some c => f c | none => t) := by
  cases e with
  | some c => exact hf c
  | none => exact ht

theorem lswCmd0 (d : Dev) (m : Master) (mask : Nat) (on : Bool) : d.SameButLsw (d.lswCmd0 m mask on) := by
  rw [Dev.lswCmd0, Dev.guard_eq]
  exact guarded (checked _ (rejected _) (.trans (lswCommand _ mask on) (hmRestart _ 0)))

theorem spiAnswer (d : Dev) (cmd code data : Nat) : d.SameButLsw (d.spiAnswer cmd code data) := hidden d _

theorem spiReject (d : Dev) (cmd e : Nat) : d.SameButLsw (d.spiReject cmd e) := .trans (rejected d e) (spiAnswer _ _ _ _)

theorem spiBad (d : Dev) : d.SameButLsw d.spiBad := .trans (.set (by decide) d _) (spiAnswer _ _ _ _)

theorem spiSet (d : Dev) (frame : Word) (on : Bool) : d.SameButLsw (d.spiSet frame on) :=
  checked _ (spiReject d _) (.trans (lswCommand d _ on) (spiAnswer _ _ _ _))

theorem spiLatch (d : Dev) (frame : Word) : d.SameButLsw (d.spiLatch frame) :=
  checked _ (spiReject d _) (.trans (lswLatchClear d _) (spiAnswer _ _ _ _))

theorem spiDo (d : Dev) (frame : Word) : d.SameButLsw (d.spiDo frame) := by
  unfold Dev.spiDo
  split
  case h_1 => exact spiAnswer d _ _ _
  case h_2 => exact spiSet d frame true
  case h_3 => exact spiSet d frame false
  case h_4 => exact .ite (spiReject d _ _) (spiAnswer d _ _ _)
  case h_5 => exact .ite (spiReject d _ _) (spiAnswer d _ _ _)
  case h_6 => exact spiLatch d frame
  case h_7 => exact spiReject d _ _

theorem spiFrame (d : Dev) (frame : Word) : d.SameButLsw (d.spiFrame frame) :=
  .ite (hidden d _) (.ite (spiBad d) (.trans (.trans (.set (by decide) d _) (hmRestart _ 1)) (spiDo _ frame)))

/-! #### Channel events (R396–R409) -/

theorem inputShown (d : Dev) (c : Fin 12) (level : Bool) :
    d.SameButLsw ((d.modLsw c fun x => { x with din := level }).lswEval c) := .trans (modLsw d c _) (lswEval _ c)

/-- The measured current shows, and the channel enters a state. -/
theorem currentShown (d : Dev) (c : Fin 12) (ma st : Nat) :
    d.SameButLsw ((d.set (LSW.CH_MEAS_I c.val) ma).lswEnter c st) := .trans (chMeas c rfl d ma) (lswEnter _ c st)

theorem tripCounted (d : Dev) (c : Fin 12) :
    d.SameButLsw ((((d.set (LSW.CH_MEAS_T c.val) 1750).lswCount c true).lswTripped c).raise LSW.page LSW.ev_THERM) :=
  .trans (.trans (.trans (chMeas c rfl d _) (lswCount _ c true)) (lswTripped _ c)) (event _ _)

theorem lswMeasure (d : Dev) (meas : Vector ChMeas 12) : d.SameButLsw (d.lswMeasure meas) :=
  forLsw (fun c t => .trans (chMeas c rfl t _) (chMeas c rfl _ _)) d d.lswPresent

theorem lswCut (d : Dev) (mw : Vector Nat 12) (c : Fin 12) : d.SameButLsw (d.lswCut mw c) := by
  have counted (t : Dev) : t.SameButLsw ((t.lswCount c false).modLsw c fun x => { x with cutMw := mw[c] }) :=
    .trans (lswCount t c false) (modLsw _ c _)
  exact .trans (.trans (.trans (.trans (hidden d _) (counted _)) (lswTripped _ c)) (.set (by decide) _ _)) (event _ _)

/-- BUDGET shows the millisecond's estimate `p`, counted in `x` (R402). -/
theorem budgetShown (d : Dev) (p : Nat) (x : LswInt) (b : Bool) :
    d.SameButLsw (({ d.set LSW.BUDGET_P p with lsw := x } : Dev).setBit LSW.BUDGET_CUTTING b) :=
  .trans (.trans (.set (by decide) d p) (hidden _ x)) (.set (by decide) _ _)

theorem budgetCounted (d : Dev) (meas : Vector ChMeas 12) : d.SameButLsw (d.budgetCounted meas) :=
  .trans (lswMeasure d meas) (budgetShown _ _ _ _)

/-- BUDGET_CUT measures, counts, and in the tenth millisecond above the limit cuts one channel (R402). -/
theorem budgetCut (d : Dev) (q : List Instr) (meas : Vector ChMeas 12) (h : d.pwr.off = false) :
    ∃ t : Dev, exec (.budgetCut meas) ⟨d, q⟩ = .next ⟨t, q⟩ ∧ d.SameButLsw t := by
  obtain ⟨-, -, -, -, -, -, -, -, -, -, -, -, -, -, -, -, budgetCut, -⟩ := loadSwitchCommands d q h
  refine ⟨_, budgetCut meas, .trans (budgetCounted d meas) ?_⟩
  refine .ite (.refl (d.budgetCounted meas)) ?_
  split
  · exact .refl (d.budgetCounted meas)
  · exact lswCut (d.budgetCounted meas) (d.budgetMw meas) _

/-- RETRY_GAP has passed: the sensor's value shows, and the channel restarts where R400 lets it. -/
theorem lswRestart (d : Dev) (q : List Instr) (c : Fin 12) (dC : BitVec 12) (h : d.pwr.off = false) :
    ∃ t : Dev, exec (.lswRestart c dC) ⟨d, q⟩ = .next ⟨t, q⟩ ∧ d.SameButLsw t := by
  obtain ⟨-, -, -, -, -, -, -, -, -, -, -, -, -, -, -, lswRestart, -⟩ := loadSwitchCommands d q h
  have shown : d.SameButLsw (d.set (LSW.CH_MEAS_T c.val) dC.toNat) := chMeas c rfl d _
  exact ⟨_, lswRestart c dC, .trans shown (.ite (.trans (modLsw _ c _) (lswOn _ c)) (.refl _))⟩

/-- The check of a channel's open load shows what it senses in CHn_STAT (R403). -/
theorem openLoadDetect (d : Dev) (q : List Instr) (c : Fin 12) (sense : OlSense) (h : d.pwr.off = false) :
    ∃ t : Dev, exec (.openLoadDetect c sense) ⟨d, q⟩ = .next ⟨t, q⟩ ∧ d.SameButLsw t := by
  obtain ⟨-, -, -, -, -, -, -, -, -, -, -, -, -, -, -, -, -, -, openLoadDetect, -⟩ := loadSwitchCommands d q h
  have shown {f : Fld} (hf : f.reg = LSW.CH_STAT c.val) (present found : Prop) [Decidable present] [Decidable found] :
      d.SameButLsw (if present then d.setBit f false
        else if found then (d.setBit f true).raise LSW.page LSW.ev_OPEN_LOAD else d) :=
    .ite (chStat c hf d _) (.ite (.trans (chStat c hf d _) (event _ _)) (.refl d))
  refine ⟨_, openLoadDetect c sense, ?_⟩
  cases sense with
  | onState ma => exact shown rfl _ _
  | offState mv => exact shown rfl _ _

/-- A hall monitor that expires shows it, counts, and sends its port's channels to their fail-safe states (R407–R409). -/
theorem hallMonitorExpiry (d : Dev) (q : List Instr) (port : Fin 2) (h : d.pwr.off = false) :
    ∃ t : Dev, exec (.hallMonitorExpiry port) ⟨d, q⟩ = .next ⟨t, q⟩ ∧ d.SameButLsw t := by
  obtain ⟨-, -, -, -, -, -, -, -, -, -, -, -, -, -, -, -, -, -, -, hallMonitorExpiry, -⟩ := loadSwitchCommands d q h
  have hmStat (t : Dev) (v : Nat) {f g : Fld} (hf : f.reg = LSW.HM_STAT) (hg : g.reg = LSW.HM_STAT) :
      t.SameButLsw (t.set (if port = 0 then f else g) v) := by
    split
    · exact .set (hf ▸ by decide) t v
    · exact .set (hg ▸ by decide) t v
  refine ⟨_, hallMonitorExpiry port, .ite (.trans (.trans (.trans (hmStat d _ rfl rfl) (hmStat _ _ rfl rfl)) (event _ _))
    (forLsw (fun c t => .ite (.trans (chStat c rfl t _) (lswEval _ c)) (.refl t)) _ _)) (.refl d)⟩

end Dev.SameButLsw

open Dev.SameButLsw in
/-- Settles O55: every one of these commands answers what its completion clause writes out, and that differs from the old device, in
what the frame names, in the load switches' page alone. -/
theorem loadSwitchFrame : Obligations.LoadSwitchFrame := by
  intro d q m c k u w b v o p i h hi
  obtain ⟨cmdOn, cmdOff, latchClr, hmKick, nop, setOn, setOff, readStat, readCur, spiLatchClr, spiFrameError, dinInputChange,
    lswCurrentLimit, limitRecover, thermalTrip, -, -, inrushWindowEnd, -⟩ := loadSwitchCommands d q h
  have answer : ∃ t : Dev, exec i ⟨d, q⟩ = .next ⟨t, q⟩ ∧ d.SameButLsw t := by
    simp only [List.mem_cons, List.not_mem_nil, or_false] at hi
    rcases hi with rfl | rfl | rfl | rfl | rfl | rfl | rfl | rfl | rfl | rfl | rfl | rfl | rfl | rfl | rfl | rfl | rfl | rfl |
      rfl | rfl
    · exact ⟨_, cmdOn m k, lswCmd0 d m _ true⟩
    · exact ⟨_, cmdOff m k, lswCmd0 d m _ false⟩
    · exact ⟨_, latchClr m k, guarded (checked _ (rejected _) (lswLatchClear _ _))⟩
    · exact ⟨_, hmKick m, guarded (hmRestart _ 0)⟩
    · exact ⟨_, nop w, spiFrame d w⟩
    · exact ⟨_, setOn w, spiFrame d w⟩
    · exact ⟨_, setOff w, spiFrame d w⟩
    · exact ⟨_, readStat w, spiFrame d w⟩
    · exact ⟨_, readCur w, spiFrame d w⟩
    · exact ⟨_, spiLatchClr w, spiFrame d w⟩
    · exact ⟨_, spiFrameError, .ite (.refl d) (spiBad d)⟩
    · exact ⟨_, dinInputChange c b, inputShown d c b⟩
    · exact ⟨_, lswCurrentLimit c u, .ite (.trans (currentShown d c _ _) (event _ _)) (.refl d)⟩
    · exact ⟨_, limitRecover c u, .ite (currentShown d c _ _) (.refl d)⟩
    · exact ⟨_, thermalTrip c, .ite (tripCounted d c) (.refl d)⟩
    · exact lswRestart d q c k h
    · exact budgetCut d q v h
    · exact ⟨_, inrushWindowEnd c, .ite (modLsw d c _) (.ite (.trans (modLsw d c _) (lswShowCounts _ c)) (.refl d))⟩
    · exact openLoadDetect d q c o h
    · exact hallMonitorExpiry d q p h
  obtain ⟨t, ht, hsame⟩ := answer
  exact ⟨t, ht, Dev.rdByte_congr hsame.mem, hsame.rd, hsame.chip, hsame.led, hsame.ctc, hsame.bay, hsame.vlt, hsame.pwr⟩

end Sys2Proof.Machine
end

section
/-!
PROOFS. The links of the fabric, the packets and the roll call (R426–R442), with the fabric's two guarded registers.
-/
namespace Sys2Proof.Machine

open Sys2Proof

/-- Settles O31: a link, a packet, a message of the roll call and a share act as events; RC_CTL starts work, and TXQ_WR and KEY
are written behind the guard of the page. -/
theorem fabricCommands : Obligations.FabricCommands := by
  intro d pend h
  refine ⟨?linkSync, ?hello, ?helloPeriod, ?linkDown, ?packetReceive, ?packetTransmit, ?electionStart, ?beaconPeriod, ?beacon,
    ?ringmasterElect, ?rollcall, ?report, ?routesCompute, ?routes, ?rollcallHoldExpiry, ?rcCtlStart, ?sync, ?demand,
    ?shareDivision, ?share, ?shareTimeout, ?txqWrWrite, ?ylrKeyWrite⟩
  case linkSync => exact fun p => show execLinkSync p ⟨d, pend⟩ = _ from State.on_on _ h
  case hello => exact fun p uid addr => show execHello p uid addr ⟨d, pend⟩ = _ from State.on_on _ h
  case helloPeriod => exact show execHelloPeriod ⟨d, pend⟩ = _ from State.on_on _ h
  case linkDown => exact fun p silent viol => show execLinkDown p silent viol ⟨d, pend⟩ = _ from State.on_on _ h
  case packetReceive => exact fun p k => show execPacketReceive p k ⟨d, pend⟩ = _ from State.on_on _ h
  case packetTransmit => exact fun p busy => show execPacketTransmit p busy ⟨d, pend⟩ = _ from State.on_on _ h
  case electionStart => exact show execElectionStart ⟨d, pend⟩ = _ from State.on_on _ h
  case beaconPeriod => exact show execBeaconPeriod ⟨d, pend⟩ = _ from State.on_on _ h
  case beacon => exact fun uid => show execBeacon uid ⟨d, pend⟩ = _ from State.on_on _ h
  case ringmasterElect => exact show execRingmasterElect ⟨d, pend⟩ = _ from State.on_on _ h
  case rollcall => exact fun p epoch => show execRollcall p epoch ⟨d, pend⟩ = _ from State.on_on _ h
  case report => exact fun r => show execReport r ⟨d, pend⟩ = _ from State.on_on _ h
  case routesCompute => exact show execRoutesCompute ⟨d, pend⟩ = _ from State.on_on _ h
  case routes => exact fun data => show execRoutes data ⟨d, pend⟩ = _ from State.on_on _ h
  case rollcallHoldExpiry => exact show execRollcallHoldExpiry ⟨d, pend⟩ = _ from State.on_on _ h
  case rcCtlStart => exact fun m => show execRcCtlStart m ⟨d, pend⟩ = _ from State.on_startWork _ _ h
  case sync => exact fun wt fw hops => show execSync wt fw hops ⟨d, pend⟩ = _ from State.on_on _ h
  case demand => exact fun src bays site => show execDemand src bays site ⟨d, pend⟩ = _ from State.on_on _ h
  case shareDivision => exact show execShareDivision ⟨d, pend⟩ = _ from State.on_on _ h
  case share => exact fun bays cyc => show execShare bays cyc ⟨d, pend⟩ = _ from State.on_on _ h
  case shareTimeout => exact show execShareTimeout ⟨d, pend⟩ = _ from State.on_on _ h
  case txqWrWrite => exact fun m w => show execTxqWrWrite m w ⟨d, pend⟩ = _ from State.on_guard _ h
  case ylrKeyWrite => exact fun m w => show execYlrKeyWrite m w ⟨d, pend⟩ = _ from State.on_guard _ h

end Sys2Proof.Machine
end

section
/-!
PROOFS. The fabric's greeting and timing (R426–R439) work on the router's page and the ports' pages.
-/
namespace Sys2Proof.Machine

open Sys2Proof

theorem YL.page_in_fabric (p : Fin 3) : YLR.page ≤ YL.page p ∧ YL.page p + 0x1000 ≤ YLR.page + 0x4000 := by
  simp only [YL.page, YLR.page]
  omega

/-- A fabric command works on the router's page and the ports' pages, and in the router's own state and messages. -/
abbrev Dev.SameButFabric (d t : Dev) : Prop := d.SameOutside YLR.page 0x4000 t

namespace Dev.SameButFabric

/-- A register of a port is written. -/
theorem portWr (p : Fin 3) {a o : Nat} (ha : a = YL.page p + o) (ho : o < 0x1000) (d : Dev) (w : Word) :
    d.SameButFabric (d.wr a w) :=
  .wr (by have := YL.page_in_fabric p; omega) d w

/-- A field of a port's STAT is written. -/
theorem portStat (p : Fin 3) {f : Fld} (hf : f.reg = YL.STAT p) (d : Dev) (v : Nat) : d.SameButFabric (d.set f v) :=
  portWr p hf (by decide : 0x040 < 0x1000) d _

theorem portEvent (p : Fin 3) (d : Dev) (e : Nat) : d.SameButFabric (d.raise (YL.page p) e) :=
  .raise (by have := YL.page_in_fabric p; omega) d e

/-- The router's own state changes, and messages go out. -/
theorem hidden (d : Dev) (y : YlrInt) (l : List LinkMsg) : d.SameButFabric { d with ylr := y, linkOut := l } := .of_outerParts rfl

theorem modYlr (d : Dev) (f : YlrInt → YlrInt) : d.SameButFabric (d.modYlr f) := hidden d _ _

theorem modYl (d : Dev) (p : Fin 3) (f : YlInt → YlInt) : d.SameButFabric (d.modYl p f) := hidden d _ _

/-! #### Messages of the unit's own (R430, R431) -/

theorem linkPut (d : Dev) (l : List LinkMsg) : d.SameButFabric (d.linkPut l) := hidden d _ _

theorem sendNext (d : Dev) (c : Fin 4) : d.SameButFabric (d.sendNext c).2 :=
  .trans (hidden d _ _) (.ite (hidden _ _ _) (.refl _))

theorem link (d : Dev) (m : LinkMsg) : d.SameButFabric (d.link m) := .trans (sendNext d _) (linkPut _ _)

theorem flood (d : Dev) (typ : Nat) (body : List Nat) : d.SameButFabric (d.flood typ body) :=
  .trans (.trans (sendNext d _) (hidden _ _ _)) (linkPut _ _)

theorem sendTo (d : Dev) (a typ : Nat) (body : List Nat) : d.SameButFabric (d.sendTo a typ body) := by
  unfold Dev.sendTo
  cases d.route a with
  | some p => exact link d _
  | none => exact .set (by decide) d _

/-! #### Ports (R426, R437) -/

theorem linkCheck (d : Dev) (p : Fin 3) : d.SameButFabric (d.linkCheck p) := by
  have shown : d.SameButFabric ((d.setBit (YL.STAT_LINK_UP p) true).raise (YL.page p) YL.ev_LINK_UP) :=
    .trans (portStat p rfl d _) (portEvent p _ _)
  exact .ite (.trans shown (.ite (modYlr _ _) (.refl _))) (.refl d)

theorem helloTake (d : Dev) (p : Fin 3) (uid addr : Nat) : d.SameButFabric (d.helloTake p uid addr) :=
  have neighbour : d.SameButFabric (((d.wrN (YL.NEIGH_UID_LO p) (uid % 2 ^ 32)).wrN (YL.NEIGH_UID_HI p) (uid / 2 ^ 32)).set
      (YL.NEIGH_ADDR p) addr) :=
    .trans (.trans (portWr p rfl (by decide : 0x044 < 0x1000) d _) (portWr p rfl (by decide : 0x048 < 0x1000) _ _))
      (portWr p rfl (by decide : 0x04C < 0x1000) _ _)
  .trans neighbour (.trans (modYl _ p _) (linkCheck _ p))

/-- A greeting goes out on a port in SYNC, and comes back where the port's loop is closed (R426, R522). -/
theorem greet (d : Dev) (p : Fin 3) : d.SameButFabric (
    if d.bit (YL.STAT_SYNC p) then
      let d := d.link { port := p.val, typ := 0x01, body := [d.uidN, d.ownAddr] }
      let d := (d.modYl p fun y => { y with sent := true }).linkCheck p
      if d.portLooped p.val then d.helloTake p d.uidN d.ownAddr else d
    else d) :=
  .ite (.trans (.trans (link d _) (.trans (modYl _ p _) (linkCheck _ p))) (.ite (helloTake _ p _ _) (.refl _))) (.refl d)

theorem portDown (d : Dev) (p : Fin 3) : d.SameButFabric (d.portDown p) := by
  have shown : d.SameButFabric
      (((d.setBit (YL.STAT_SYNC p) false).setBit (YL.STAT_LINK_UP p) false).raise (YL.page p) YL.ev_LINK_DOWN) :=
    .trans (.trans (portStat p rfl d _) (portStat p rfl _ _)) (portEvent p _ _)
  have dropped (t : Dev) (v : Nat) (f : YlInt → YlInt) : t.SameButFabric ((t.set (YL.CNT_DROP p) v).modYl p f) :=
    .trans (portWr p rfl (by decide : 0x054 < 0x1000) t _) (modYl _ p f)
  have told (t : Dev) (e : Nat) : t.SameButFabric (t.raise YLR.page e) := .raise (by decide) t e
  unfold Dev.portDown
  exact .ite (.refl d) (.trans shown (.trans (dropped _ _ _) (.ite (.refl _)
    (.trans (told _ _) (.ite (modYlr _ _) (.ite (sendTo _ _ _ _) (.refl _)))))))

/-- Code violations are counted in the port's ERR and posted (R437). -/
theorem violations (d : Dev) (p : Fin 3) (n v : Nat) :
    d.SameButFabric (if n = 0 then d else (d.set (YL.ERR_CODE_ERR p) v).raise (YL.page p) YL.ev_ERR) :=
  .ite (.refl d) (.trans (portWr p rfl (by decide : 0x050 < 0x1000) d _) (portEvent p _ _))

end Dev.SameButFabric

open Dev.SameButFabric in
/-- Settles O58: every one of these commands answers what its completion clause writes out, and that differs from the old device, in
what the frame names, in the router's and the ports' pages alone. -/
theorem fabricFrame : Obligations.FabricFrame := by
  intro d q p u a8 hops b v r i h hi
  obtain ⟨linkSync, hello, helloPeriod, linkDown, -, -, electionStart, beaconPeriod, beacon, -, -, report, -, -, -, -, sync, -⟩ :=
    fabricCommands d q h
  have answer : ∃ t : Dev, exec i ⟨d, q⟩ = .next ⟨t, q⟩ ∧ d.SameButFabric t := by
    simp only [List.mem_cons, List.not_mem_nil, or_false] at hi
    rcases hi with rfl | rfl | rfl | rfl | rfl | rfl | rfl | rfl | rfl
    · exact ⟨_, linkSync p, .ite (.trans (portStat p rfl d _) (modYl _ p _)) (.refl d)⟩
    · exact ⟨_, hello p u a8, .ite (helloTake d p _ _) (.refl d)⟩
    · exact ⟨_, helloPeriod, .foldl greet ylPorts d⟩
    · exact ⟨_, linkDown p b v, .ite (.refl d) (.trans (violations d p _ _) (.ite (portDown _ p) (.refl _)))⟩
    · exact ⟨_, electionStart, .ite (.trans (modYlr d _) (flood _ _ _)) (.refl d)⟩
    · exact ⟨_, beacon u, .ite (modYlr d _) (.refl d)⟩
    · exact ⟨_, beaconPeriod, .ite (.trans (modYlr d _) (flood _ _ _)) (.refl d)⟩
    · refine ⟨_, report r, .ite (.refl d) (.ite (modYlr d _) ?_)⟩
      cases d.ylr.parent with
      | some e => exact link d _
      | none => exact .refl d
    · exact ⟨_, sync u b hops, .ite (.trans (.wr (by decide) d _) (.set (by decide) _ _)) (.refl d)⟩
  obtain ⟨t, ht, hsame⟩ := answer
  exact ⟨t, ht, Dev.rdByte_congr hsame.mem, hsame.rd, hsame.led, hsame.vlt, hsame.ctc, hsame.chip⟩

end Sys2Proof.Machine
end

section
/-!
PROOFS. Where a packet goes (R427–R431): what taking a packet leaves, and how it is forwarded.
-/
namespace Sys2Proof.Machine

open Sys2Proof

/-! ### Taking a packet -/

@[simp] theorem Dev.ylr_wrBytes (l : List Byte) : ∀ (d : Dev) (a : Nat), (d.wrBytes a l).ylr = d.ylr := by
  induction l with
  | nil => exact fun _ _ => rfl
  | cons x l ih => exact fun d a => ih (d.wrByte a x) (a + 1)

@[simp] theorem Dev.ylr_llog (d : Dev) (role code bay : Nat) (data : List Byte) : (d.llog role code bay data).ylr = d.ylr := by
  simp only [Dev.llog]
  split
  · rfl
  · split <;> simp [Dev.ledNotify, Dev.notice]

theorem Dev.ylr_ite (c : Prop) [Decidable c] (x y : Dev) : (if c then x else y).ylr = if c then x.ylr else y.ylr :=
  apply_ite Dev.ylr c x y

@[simp] theorem Dev.ylr_noKey (d : Dev) : d.noKey.ylr = d.ylr := rfl

@[simp] theorem Dev.ylr_bump (d : Dev) (f : Fld) : (d.bump f).ylr = d.ylr := rfl

@[simp] theorem Dev.ylr_fwBlock (d : Dev) (m : Master) (a : Nat) (wr : Bool) : (d.fwBlock m a wr).ylr = d.ylr := by
  simp [Dev.fwBlock, Dev.ylr_ite]

@[simp] theorem Dev.ylr_masterWrite (d : Dev) (m : Master) (a : Nat) (l : List Byte) : (d.masterWrite m a l).ylr = d.ylr := by
  simp [Dev.masterWrite, Dev.turnedAway, Dev.ylr_ite]

/-- A packet stored in the RX ring leaves the router's own state. -/
@[simp] theorem Dev.ylr_ringStore (d : Dev) (p : Fin 3) (k : Pkt) : (d.ringStore p k).ylr = d.ylr := by
  simp [Dev.ringStore, Dev.ylr_ite]

/-- Authentication moves the counters of sources, and notes no broadcast. -/
theorem Dev.seen_authenticate (d : Dev) (k : Pkt) : (d.authenticate k).2.ylr.seen = d.ylr.seen := by
  unfold Dev.authenticate
  dsimp only
  split
  · rfl
  · split
    · rfl
    · split
      · simp
      · split
        · rfl
        · split <;> rfl

/-- Taking a packet notes no broadcast. -/
theorem Dev.seen_takePkt (d : Dev) (p : Fin 3) (k : Pkt) : (d.takePkt p k).ylr.seen = d.ylr.seen := by
  have hauth := d.seen_authenticate k
  unfold Dev.takePkt
  split
  · rfl
  · generalize d.authenticate k = r at hauth
    obtain ⟨ok, t⟩ := r
    simp only [Dev.ylr_ite, Dev.ylr_bump, Dev.ylr_ringStore, ite_self, Dev.modYlr]
    split
    · exact hauth
    · split
      · exact hauth
      · split <;> exact hauth

/-! ### Forwarding (R429, R430) -/

@[simp] theorem syncHop_dst (k : Pkt) : (syncHop k).dst = k.dst := by
  unfold syncHop
  split <;> rfl

@[simp] theorem syncHop_cls (k : Pkt) : (syncHop k).cls = k.cls := by
  unfold syncHop
  split <;> rfl

/-- A packet of a class that is not stopped joins the queue of its port. -/
theorem Dev.queuePkt_open {d : Dev} {p : Fin 3} {k : Pkt} (h : d.classStopped k.cls.val = false) :
    d.queuePkt p k = d.modYl p fun y => { y with queue := y.queue ++ [k] } := by
  simp [Dev.queuePkt, h]

theorem Dev.port_modYl_same (d : Dev) (p : Fin 3) (f : YlInt → YlInt) : (d.modYl p f).ylr.port[p] = f d.ylr.port[p] := by
  simp [Dev.modYl, Dev.modYlr]

theorem Dev.port_modYl_ne (d : Dev) {p o : Fin 3} (h : o ≠ p) (f : YlInt → YlInt) : (d.modYl p f).ylr.port[o] = d.ylr.port[o] :=
  Vector.getElem_set_ne p.isLt o.isLt fun e => h (Fin.ext e.symm)

/-- A packet of an open class that goes out on different ports joins each one's queue once, and notes no broadcast. -/
theorem Dev.queue_flood {k : Pkt} (l : List (Fin 3)) : ∀ d : Dev, l.Nodup → d.classStopped k.cls.val = false →
    (∀ o : Fin 3, (l.foldl (fun d p => d.queuePkt p k) d).ylr.port[o].queue =
      d.ylr.port[o].queue ++ if o ∈ l then [k] else []) ∧
    (l.foldl (fun d p => d.queuePkt p k) d).ylr.seen = d.ylr.seen := by
  induction l with
  | nil => exact fun d _ _ => ⟨fun o => by simp, rfl⟩
  | cons p l ih =>
    intro d hnodup hopen
    obtain ⟨hp, hl⟩ := List.nodup_cons.mp hnodup
    obtain ⟨hqueue, hseen⟩ := ih (d.queuePkt p k) hl (by rw [Dev.queuePkt_open hopen]; exact hopen)
    rw [List.foldl_cons]
    refine ⟨fun o => ?_, hseen.trans (by rw [Dev.queuePkt_open hopen]; rfl)⟩
    rw [hqueue o, Dev.queuePkt_open hopen]
    by_cases ho : o = p
    · subst ho
      rw [Dev.port_modYl_same, if_neg hp, if_pos List.mem_cons_self, List.append_nil]
    · simp [Dev.port_modYl_ne d ho, ho]

/-- The packet that a hop passes on: its TTL falls, and a SYNC counts the hop (R429, R439). -/
def hopped (k : Pkt) : Pkt := syncHop { k with ttl := k.ttl - 1 }

/-- A unicast packet with hops left goes to the port of its route, unless that is the arrival port (R430). -/
theorem Dev.forward_unicast {d : Dev} {p : Fin 3} {k : Pkt} (hdst : k.dst ≠ 255) (httl : 2 ≤ k.ttl.toNat) :
    d.forward p k = match d.route k.dst.toNat with
      | some r => if r = p then d.bump YLR.CNT1_NOROUTE else d.queuePkt r (hopped k)
      | none => d.bump YLR.CNT1_NOROUTE := by
  have hhops : ¬ k.ttl.toNat ≤ 1 := by omega
  simp only [Dev.forward, if_neg hhops, syncHop_dst, if_neg hdst]
  rfl

/-- A broadcast with hops left goes to every other port that carries routed packets (R430). -/
theorem Dev.forward_broadcast {d : Dev} {p : Fin 3} {k : Pkt} (hdst : k.dst = 255) (httl : 2 ≤ k.ttl.toNat) :
    d.forward p k = (d.floodPorts.filter (· != p)).foldl (fun d r => d.queuePkt r (hopped k)) d := by
  have hhops : ¬ k.ttl.toNat ≤ 1 := by omega
  simp only [Dev.forward, if_neg hhops, syncHop_dst, if_pos hdst]
  rfl

theorem Dev.nodup_floodPorts (d : Dev) : d.floodPorts.Nodup := List.Nodup.filter _ (by decide)

/-- A packet with a good header on a synchronised port whose loop is open, while the router runs: it is taken, forwarded or both, by its
destination (R430). -/
theorem Dev.exec_packetReceive {d : Dev} {q : List Instr} {p : Fin 3} {k : Pkt} (h : d.pwr.off = false)
    (hloop : d.portLooped p.val = false) (hsync : d.bit (YL.STAT_SYNC p) = true) (hgood : k.hcrcOk = true) (hon : d.ylrOn = true) :
    exec (.packetReceive p k) ⟨d, q⟩ = .next ⟨
      if k.dst = 0 then d.takePkt p k
      else if k.dst = 255 then
        if d.ylr.seen.contains (k.src.toNat, k.seq.toNat) then d
        else ((d.modYlr fun y => { y with seen := (k.src.toNat, k.seq.toNat) :: y.seen }).takePkt p k).forward p k
      else if k.dst.toNat = d.ownAddr then d.takePkt p k
      else d.forward p k, q⟩ := by
  obtain ⟨-, -, -, -, packetReceive, -⟩ := fabricCommands d q h
  rw [packetReceive]
  simp [Dev.pktIn, hloop, hsync, hgood, hon]

/-- Settles O47: an accepted packet is taken, forwarded by its route, or flooded once. -/
theorem packetForwarding : Obligations.PacketForwarding := by
  refine ⟨fun d a hlo hhi => if_neg (by omega), fun d q p k hoff hloop hsync hgood hon => ?_⟩
  have hexec := Dev.exec_packetReceive (q := q) hoff hloop hsync hgood hon
  refine ⟨fun h0 h255 hown => ?own, fun r h0 h255 hown httl hroute hrp hopen => ?forwarded,
    fun h0 h255 hown httl hroute => ?unroutable, fun h255 hseen => ?known, fun x h255 hnew httl hx hopen => ?flooded⟩
  case own => rw [hexec, if_neg h0, if_neg h255, if_pos hown]
  case forwarded =>
    rw [hexec, if_neg h0, if_neg h255, if_neg hown, Dev.forward_unicast h255 httl, hroute]
    dsimp only
    rw [if_neg hrp, Dev.queuePkt_open (by simpa [hopped] using hopen)]
    exact ⟨_, rfl, by rw [Dev.port_modYl_same]; rfl, fun o ho => Dev.port_modYl_ne d ho _, fun _ => rfl, rfl⟩
  case unroutable =>
    rw [hexec, if_neg h0, if_neg h255, if_neg hown, Dev.forward_unicast h255 httl]
    rcases hroute with hnone | hback
    · rw [hnone]
    · rw [hback]
      dsimp only
      rw [if_pos rfl]
  case known => rw [hexec, h255, if_neg (by decide), if_pos rfl, if_pos hseen]
  case flooded =>
    have hx0 : ¬ k.dst = 0 := by rw [h255]; decide
    rw [hexec, if_neg hx0, if_pos h255, if_neg (by simp only [hnew, Bool.false_eq_true, not_false_eq_true]), ← hx,
      Dev.forward_broadcast h255 httl]
    obtain ⟨hqueue, hseen⟩ := Dev.queue_flood (k := hopped k) (x.floodPorts.filter (· != p)) x (x.nodup_floodPorts.filter _)
      (by simpa [hopped] using hopen)
    refine ⟨_, rfl, fun o => ?_, ?_⟩
    · rw [hqueue o]
      simp [List.mem_filter, and_comm, hopped]
    · rw [hseen, hx, Dev.seen_takePkt]
      simp [Dev.modYlr]

end Sys2Proof.Machine
end

section
/-!
PROOFS. The redundant pair (R448–R467) and the update (R485–R506).
-/
namespace Sys2Proof.Machine

open Sys2Proof

/-- Settles O32: every message and timer of the pair acts as an event of a chip whose domains are on. -/
theorem pairCommands : Obligations.PairCommands := by
  intro d pend h
  refine ⟨?pairPeriodStart, ?heartbeat, ?heartbeatMissed, ?takeoverGuardEnd, ?pairStartWaitExpiry, ?tokenRace, ?resign,
    ?resignReceived, ?deferredResign, ?takeover, ?session, ?sessionPeriod, ?output, ?ledger, ?pairMark, ?crossCheck,
    ?standbyReport, ?pairStatus, ?handover, ?syncBlock, ?pairSyncComplete, ?pairHandover, ?pairRejoin, ?pairKey⟩
  case pairPeriodStart => exact fun tokI => show execPairPeriodStart tokI ⟨d, pend⟩ = _ from State.on_on _ h
  case heartbeat =>
    exact fun st unit _tok _flags fail _seq phase =>
      show execHeartbeat st unit _tok _flags fail _seq phase ⟨d, pend⟩ = _ from State.on_on _ h
  case heartbeatMissed => exact show execHeartbeatMissed ⟨d, pend⟩ = _ from State.on_on _ h
  case takeoverGuardEnd => exact fun tokI => show execTakeoverGuardEnd tokI ⟨d, pend⟩ = _ from State.on_on _ h
  case pairStartWaitExpiry => exact fun tokI => show execPairStartWaitExpiry tokI ⟨d, pend⟩ = _ from State.on_on _ h
  case tokenRace => exact fun stays => show execTokenRace stays ⟨d, pend⟩ = _ from State.on_on _ h
  case resign => exact fun cause => show execResign cause ⟨d, pend⟩ = _ from State.on_on _ h
  case resignReceived => exact fun reason item => show execResignReceived reason item ⟨d, pend⟩ = _ from State.on_on _ h
  case deferredResign => exact show execDeferredResign ⟨d, pend⟩ = _ from State.on_on _ h
  case takeover => exact show execTakeover ⟨d, pend⟩ = _ from State.on_on _ h
  case session => exact fun n v => show execSession n v ⟨d, pend⟩ = _ from State.on_on _ h
  case sessionPeriod => exact show execSessionPeriod ⟨d, pend⟩ = _ from State.on_on _ h
  case output => exact fun n drv pre mode duty => show execOutput n drv pre mode duty ⟨d, pend⟩ = _ from State.on_on _ h
  case ledger => exact fun r => show execLedger r ⟨d, pend⟩ = _ from State.on_on _ h
  case pairMark => exact fun mark => show execPairMark mark ⟨d, pend⟩ = _ from State.on_on _ h
  case crossCheck => exact fun minute pages late => show execCrossCheck minute pages late ⟨d, pend⟩ = _ from State.on_on _ h
  case standbyReport => exact fun card eligible => show execStandbyReport card eligible ⟨d, pend⟩ = _ from State.on_on _ h
  case pairStatus => exact show execPairStatus ⟨d, pend⟩ = _ from State.on_on _ h
  case handover => exact fun ack => show execHandover ack ⟨d, pend⟩ = _ from State.on_on _ h
  case syncBlock => exact fun progress r => show execSyncBlock progress r ⟨d, pend⟩ = _ from State.on_on _ h
  case pairSyncComplete => exact show execPairSyncComplete ⟨d, pend⟩ = _ from State.on_on _ h
  case pairHandover => exact fun w => show execPairHandover w ⟨d, pend⟩ = _ from State.on_on _ h
  case pairRejoin => exact fun w => show execPairRejoin w ⟨d, pend⟩ = _ from State.on_on _ h
  case pairKey => exact fun q blob => show execPairKey q blob ⟨d, pend⟩ = _ from State.on_on _ h

/-- Settles O33: CONFIRM is written behind the guard of its page, and every other command of the update acts as a message or an event. -/
theorem updateCommands : Obligations.UpdateCommands := by
  intro d pend h
  refine ⟨?updBegin, ?updBlock, ?updStatus, ?updEnd, ?reconstructionDone, ?updApply, ?updCancel, ?updateStepSwitch, ?confirm,
    ?updateRevert, ?rollbackRetry⟩
  case updBegin => exact fun q hdr sigV sigO => show execUpdBegin q hdr sigV sigO ⟨d, pend⟩ = _ from State.on_on _ h
  case updBlock => exact fun q img ofs crc data => show execUpdBlock q img ofs crc data ⟨d, pend⟩ = _ from State.on_on _ h
  case updStatus => exact fun q img first => show execUpdStatus q img first ⟨d, pend⟩ = _ from State.on_on _ h
  case updEnd => exact fun q img => show execUpdEnd q img ⟨d, pend⟩ = _ from State.on_on _ h
  case reconstructionDone => exact show execReconstructionDone ⟨d, pend⟩ = _ from State.on_on _ h
  case updApply => exact fun q bundle => show execUpdApply q bundle ⟨d, pend⟩ = _ from State.on_on _ h
  case updCancel => exact fun q bundle => show execUpdCancel q bundle ⟨d, pend⟩ = _ from State.on_on _ h
  case updateStepSwitch => exact show execUpdateStepSwitch ⟨d, pend⟩ = _ from State.on_on _ h
  case confirm => exact fun m => show execConfirm m ⟨d, pend⟩ = _ from State.on_guard _ h
  case updateRevert => exact show execUpdateRevert ⟨d, pend⟩ = _ from State.on_on _ h
  case rollbackRetry => exact fun busy => show execRollbackRetry busy ⟨d, pend⟩ = _ from State.on_on _ h

end Sys2Proof.Machine
end

section
/-!
PROOFS. What a chip reset leaves (R507, R508, R515), and the resets' completion: they act with the domains on or off, and a return of
the supply or of the temperature restarts the chip only from the off state.
-/
namespace Sys2Proof.Machine

open Sys2Proof

/-! ### What a restart is told by -/

/-- What tells that the chip has restarted (R507, R508): the cause, the straps, supply and counts, the clock, the event logs, the host's
messages and sessions, and the memories. -/
def Dev.startView (d : Dev) :
    Word × (Bool × Bool) × PwrInt × Nat × CarInt × RtcInt × LogInt × List HostMsg × List RoleSess × List Host.Cell :=
  (d.rd SYS.RST_CAUSE, (d.chip.pairRole, d.chip.testMode), d.pwr, d.now, d.car, d.rtc, d.log, d.hostOut, d.roles, d.mem)

/-- `t` tells the same restart as `d`. -/
def Dev.SameStart (d t : Dev) : Prop := t.startView = d.startView

theorem Dev.SameStart.refl (d : Dev) : d.SameStart d := Eq.refl _

theorem Dev.SameStart.trans {d t u : Dev} (h : d.SameStart t) (k : t.SameStart u) : d.SameStart u := Eq.trans k h

/-- A branch keeps what both its sides keep. -/
theorem Dev.SameStart.ite {d t u : Dev} {c : Prop} [Decidable c] (ht : d.SameStart t) (hu : d.SameStart u) :
    d.SameStart (if c then t else u) := by
  split
  · exact ht
  · exact hu

/-- Effects on a list, one after the other, keep what each keeps. -/
theorem Dev.SameStart.foldl {α : Type} {f : Dev → α → Dev} {l : List α} (hf : ∀ (t : Dev), ∀ x ∈ l, t.SameStart (f t x)) (d : Dev) :
    d.SameStart (l.foldl f d) :=
  l.foldlRecOn f (motive := fun t => d.SameStart t) (.refl d) fun t ht x hx => ht.trans (hf t x hx)

/-- A register other than RST_CAUSE is written. -/
theorem Dev.SameStart.wr {a : Nat} (ha : a ≠ SYS.RST_CAUSE) (d : Dev) (w : Word) : d.SameStart (d.wr a w) := by
  simp only [Dev.SameStart, Dev.startView, Dev.rd_wr_ne d w ha.symm]
  rfl

theorem Dev.SameStart.set {f : Fld} (hf : f.reg ≠ SYS.RST_CAUSE) (d : Dev) (v : Nat) : d.SameStart (d.set f v) := .wr hf d _

/-! ### The steps after the cause is stored -/

theorem Dev.SameStart.updShow (d : Dev) : d.SameStart d.updShow := .trans (.set (by decide) d _) (.set (by decide) _ _)

/-- The update engine's own state changes. -/
theorem Dev.SameStart.upd (d : Dev) (fresh : Nat) (u : UpdInt) : d.SameStart { d with fresh := fresh, upd := u } := Eq.refl _

/-- A trial falls back to the other bank; an open bundle is taken up from its checkpoint, or lost (R491, R495, R499). -/
theorem Dev.SameStart.updCut (d o : Dev) : d.SameStart (d.updCut o) := by
  have lost (u : UpdInt) : d.SameStart
      ({ (d.set UPD.STAT_STATE 7).set UPD.STAT_CAUSE 12 with upd := u } : Dev).updShow :=
    .trans (.trans (.set (by decide) d _) (.set (by decide) _ _)) (.trans (.upd _ _ _) (.updShow _))
  unfold Dev.updCut
  dsimp only
  split
  case h_1 k _ =>
    have fallen : d.SameStart (((d.setFlag SYS.BANKSEL_SEL k (!d.flag SYS.BANKSEL_SEL k)).set UPD.REV_DOMAIN (slotDom k)).set
        UPD.REV_CAUSE 10) := .trans (.trans (.set (by decide) d _) (.set (by decide) _ _)) (.set (by decide) _ _)
    exact .trans fallen (.trans (.trans (.trans (.set (by decide) _ _) (.set (by decide) _ _)) (.set (by decide) _ _))
      (.upd _ _ _))
  case h_2 =>
    refine .ite (.upd d _ _) ?_
    split
    case h_1 =>
      have kept : d.SameStart ((((d.wr UPD.CFG (o.rd UPD.CFG)).wr UPD.STG_BASE (o.rd UPD.STG_BASE)).wr UPD.STG_SIZE
          (o.rd UPD.STG_SIZE)).wr UPD.BUNDLE (o.rd UPD.BUNDLE)) :=
        .trans (.trans (.trans (.wr (by decide) d _) (.wr (by decide) _ _)) (.wr (by decide) _ _)) (.wr (by decide) _ _)
      exact .ite (.trans kept (.trans (.trans (.set (by decide) _ _) (.upd _ _ _)) (.updShow _))) (lost _)
    case h_2 => exact lost _

/-- No header of a page lies on RST_CAUSE. -/
theorem header_ne_rstCause : ∀ p ∈ allPages, (Hdr.EN p.base).reg ≠ SYS.RST_CAUSE ∧ (Hdr.READY p.base).reg ≠ SYS.RST_CAUSE := by
  decide

/-- The boot check of the root and what fuses and straps show (R14, R328, R528). -/
theorem Dev.SameStart.bootShow (d : Dev) : d.SameStart d.bootShow := by
  have lifecycle (t : Dev) (l : Lifecycle) (b : Bool) :
      t.SameStart { t with chip := { t.chip with lifecycle := l, deadFuse := b } } := Eq.refl _
  have root (t : Dev) (v : VltInt) : t.SameStart { t with vlt := v } := Eq.refl _
  have fusedOff (t : Dev) : t.SameStart (allPages.foldl (fun d p =>
      if d.present p then d else (d.setBit (Hdr.EN p.base) false).setBit (Hdr.READY p.base) false) t) :=
    .foldl (fun t p hp => .ite (.refl t) (.trans (.set (header_ne_rstCause p hp).1 t _) (.set (header_ne_rstCause p hp).2 _ _))) t
  have shown (t : Dev) (v : Nat) (b c : Bool) :
      t.SameStart (((t.set VLT.LC_STATE v).setBit TST.STAT_FORCED_OK b).setBit TST.STAT_PROD c) :=
    .trans (.trans (.set (by decide) t _) (.set (by decide) _ _)) (.set (by decide) _ _)
  exact .trans (.trans (.trans (.trans (.ite (lifecycle d _ _) (.refl d)) (root _ _)) (shown _ _ _ _)) (fusedOff _))
    (.set (by decide) _ _)

theorem Dev.SameStart.lswLoadRecord (d : Dev) : d.SameStart d.lswLoadRecord :=
  .trans (.foldl (fun t c _ => .wr (by simp only [LSW.CH_CFG, LSW.page, SYS.RST_CAUSE, SYS.page]; omega) t _) d)
    (.wr (by decide) _ _)

theorem Dev.SameStart.dirtyShow (d : Dev) : d.SameStart d.dirtyShow := by
  have rect (t : Dev) (k xy wh : Nat) : t.SameStart ((t.wrN (EPD.DIRTY_XY k) xy).wrN (EPD.DIRTY_WH k) wh) :=
    .trans (.wr (by simp only [EPD.DIRTY_XY, EPD.page, SYS.RST_CAUSE, SYS.page]; omega) t _)
      (.wr (by simp only [EPD.DIRTY_WH, EPD.page, SYS.RST_CAUSE, SYS.page]; omega) _ _)
  refine .trans (.set (by decide) d _) (.foldl (fun t k _ => ?_) _)
  cases t.epd.dirty[k]? with
  | some r => exact rect t k _ _
  | none => exact rect t k 0 0

theorem Dev.SameStart.rtcRefresh (d : Dev) : d.SameStart d.rtcRefresh :=
  have flags : d.SameStart ((((d.setBit RTC.STAT_XT32_OK d.rtc.xt32).setBit RTC.STAT_CI d.rtc.ci).setBit RTC.STAT_SLEWING
      (d.rtc.slewRem != 0)).setBit RTC.STAT_VBAT_RUN d.rtc.vbatRun) :=
    .trans (.trans (.trans (.set (by decide) d _) (.set (by decide) _ _)) (.set (by decide) _ _)) (.set (by decide) _ _)
  .trans flags (.trans (.trans (.wr (by decide) _ _) (.set (by decide) _ _)) (.wr (by decide) _ _))

/-- What follows the storing of the cause in a chip reset. -/
theorem Dev.SameStart.afterCause (n d : Dev) (b c : Bool) :
    n.SameStart (((((n.wrN WTG.CFG d.tag.cfg).setBit TSEN.STAT_SHUTDOWN b).setBit PWR.CFG_NOM c).updCut
      d).bootShow).lswLoadRecord.dirtyShow.rtcRefresh :=
  have shown : n.SameStart (((n.wrN WTG.CFG d.tag.cfg).setBit TSEN.STAT_SHUTDOWN b).setBit PWR.CFG_NOM c) :=
    .trans (.trans (.wr (by decide) n _) (.set (by decide) _ _)) (.set (by decide) _ _)
  .trans shown (.trans (.updCut _ d) (.trans (.bootShow _) (.trans (.lswLoadRecord _) (.trans (.dirtyShow _) (.rtcRefresh _)))))

/-! ### The chip reset -/

/-- Taking out entries of other keys leaves what the table holds at a key. -/
theorem Sparse.get_filter {α : Type} (d : Nat → α) {p : Nat → Bool} {a : Nat} (h : p a = true) (m : List (Nat × α)) :
    Sparse.get d (m.filter fun e => p e.1) a = Sparse.get d m a := by
  induction m with
  | nil => rfl
  | cons e m ih =>
    obtain ⟨k, v⟩ := e
    by_cases hk : p k = true
    · simp only [List.filter_cons, hk, if_true, Sparse.get, ih]
    · have hne : k ≠ a := fun hka => hk (hka ▸ h)
      simp only [List.filter_cons, hk, Bool.false_eq_true, if_false, ih, Sparse.get, if_neg hne]

/-- What a chip reset leaves of the hidden state, before registers are stored (R507, R508). -/
def Dev.restarted (d : Dev) (pairRole testMode : Bool) : Dev :=
  { chip := { d.chip with pairRole := pairRole, testMode := testMode }, ctc := d.ctc.map fun c => { fbHigh := c.fbHigh },
    mem := d.mem.filter fun c => keptByte c.1, rtc := d.rtc, log := d.log,
    lsw := { recCfg := d.lsw.recCfg, recHm := d.lsw.recHm }, mpl := { fingerprint := d.mpl.fingerprint }, led := ledCut d.led,
    vlt := { rootOk := d.vlt.rootOk, zeroised := d.vlt.zeroised, anchors := d.vlt.anchors },
    tag := { d.tag with host := none }, epd := { dirty := d.epd.dirty }, ylr := ylrCut d.ylr, linkOut := d.linkOut,
    fresh := d.fresh }

/-- The restarted chip with the registers that survive and the cause of the restart. -/
def Dev.causeStored (d : Dev) (cause : Nat) (pairRole testMode : Bool) : Dev :=
  ((keptRegs.foldl (fun n a => n.wr a (d.rd a)) (d.restarted pairRole testMode)).set SYS.RST_CAUSE_CHIP cause).bump
    SYS.RST_CAUSE_COUNT

theorem Dev.chipReset_eq (d : Dev) (cause : Nat) (pairRole testMode : Bool) :
    d.chipReset cause pairRole testMode =
      (((((d.causeStored cause pairRole testMode).wrN WTG.CFG d.tag.cfg).setBit TSEN.STAT_SHUTDOWN (cause == 5)).setBit PWR.CFG_NOM
        (d.bit PWR.CFG_NOM)).updCut d).bootShow.lswLoadRecord.dirtyShow.rtcRefresh := rfl

/-- Registers written one after the other change the registers alone. -/
theorem Dev.foldl_wr_regs (w : Nat → Word) (l : List Nat) :
    ∀ d : Dev, ∃ r, l.foldl (fun n a => n.wr a (w a)) d = { d with regs := r } := by
  induction l with
  | nil => exact fun d => ⟨d.regs, rfl⟩
  | cons a l ih =>
    intro d
    obtain ⟨r, hr⟩ := ih (d.wr a (w a))
    exact ⟨r, hr⟩

theorem Dev.causeStored_regs (d : Dev) (cause : Nat) (pairRole testMode : Bool) :
    ∃ r, d.causeStored cause pairRole testMode = { d.restarted pairRole testMode with regs := r } := by
  obtain ⟨r, hr⟩ := Dev.foldl_wr_regs d.rd keptRegs (d.restarted pairRole testMode)
  rw [Dev.causeStored, hr]
  exact ⟨_, rfl⟩

/-- The cause reads back from RST_CAUSE once the restarts are counted beside it (R507). -/
theorem Dev.get_causeStored (d : Dev) {cause : Nat} (h : cause < 16) (pairRole testMode : Bool) :
    (d.causeStored cause pairRole testMode).get SYS.RST_CAUSE_CHIP = cause := by
  rw [Dev.causeStored, Dev.bump, Dev.get_set_disjoint _ SYS.RST_CAUSE_COUNT SYS.RST_CAUSE_CHIP _ (by decide) rfl (.inl (by decide)),
    Dev.get_set_same _ _ cause (by decide)]
  exact Nat.mod_eq_of_lt h

/-- What a chip reset leaves: no step after the cause is stored touches what tells the restart. -/
theorem Dev.resetTo_chipReset (d : Dev) {cause : Nat} (h : cause < 16) (pairRole testMode : Bool) :
    d.resetTo (d.chipReset cause pairRole testMode) cause pairRole testMode := by
  have hsame := Dev.SameStart.afterCause (d.causeStored cause pairRole testMode) d (cause == 5) (d.bit PWR.CFG_NOM)
  have hcause := d.get_causeStored h pairRole testMode
  rw [← Dev.chipReset_eq] at hsame
  simp only [Dev.SameStart, Dev.startView, Prod.mk.injEq] at hsame
  obtain ⟨hrd, ⟨hpair, htest⟩, hpwr, hnow, hcar, hrtc, hlog, hout, hroles, hmem⟩ := hsame
  obtain ⟨r, hr⟩ := d.causeStored_regs cause pairRole testMode
  rw [hr] at hpair htest hpwr hnow hcar hrtc hlog hout hroles hmem
  refine ⟨(congrArg SYS.RST_CAUSE_CHIP.get hrd).trans hcause, hpair, htest, congrArg PwrInt.off hpwr, hnow, congrArg CarInt.cyc hcar, hrtc,
    hlog, hout, hroles, fun a ha => ?_⟩
  rw [Dev.rdByte_congr hmem]
  exact Sparse.get_filter _ ha d.mem

/-- Settles O1: the resets and the supply's rise act in either case, and a restart leaves what `Dev.resetTo_chipReset` says. -/
theorem resetCommands : Obligations.ResetCommands := by
  intro d pend
  have chipReset (cause : Fin 6) (p m : Bool) : exec (.chipReset cause p m) ⟨d, pend⟩ = .next ⟨d.chipReset (cause.val + 1) p m, pend⟩ :=
    show execChipReset cause p m ⟨d, pend⟩ = _ from State.vbat_eq _
  have powerOnReset (p m : Bool) : exec (.powerOnReset p m) ⟨d, pend⟩ = .next ⟨d.chipReset 1 p m, pend⟩ :=
    show execPowerOnReset p m ⟨d, pend⟩ = _ from State.vbat_eq _
  have porstN (p m : Bool) : exec (.porstN p m) ⟨d, pend⟩ = .next ⟨d.chipReset 2 p m, pend⟩ :=
    show execPorstN p m ⟨d, pend⟩ = _ from State.vbat_eq _
  have resetN (p m : Bool) : exec (.resetN p m) ⟨d, pend⟩ = .next ⟨d.chipReset 3 p m, pend⟩ :=
    show execResetN p m ⟨d, pend⟩ = _ from State.vbat_eq _
  have supplyReturnReset (vsup vsense : BitVec 16) : execSupplyReturnReset vsup vsense ⟨d, pend⟩ = .next ⟨_, pend⟩ :=
    State.vbat_eq _
  have thermalShutdownEnd (tj : BitVec 12) : execThermalShutdownEnd tj ⟨d, pend⟩ = .next ⟨_, pend⟩ := State.vbat_eq _
  refine ⟨chipReset, powerOnReset, porstN, resetN, ?trstN, ?powerGood, supplyReturnReset, thermalShutdownEnd,
    fun cause p m => ⟨_, chipReset cause p m, d.resetTo_chipReset (by omega) p m⟩,
    fun p m => ⟨_, powerOnReset p m, d.resetTo_chipReset (by decide) p m⟩,
    fun p m => ⟨_, porstN p m, d.resetTo_chipReset (by decide) p m⟩,
    fun p m => ⟨_, resetN p m, d.resetTo_chipReset (by decide) p m⟩, ?supplyBack, ?cooled⟩
  case trstN => exact show execTrstN ⟨d, pend⟩ = _ from State.vbat_eq _
  case powerGood => exact fun vsup => show execPowerGood vsup ⟨d, pend⟩ = _ from State.vbat_eq _
  case supplyBack =>
    intro v x hoff hcool hsup hsense
    have hgood : (d.pwr.off && !d.pwr.thermal && (decide (8500 ≤ v.toNat) && (!d.bit PWR.CFG_VSENSE_EN ||
        decide (d.ofNom (d.get PWR.VSENSE_CFG_LOSS + d.get PWR.THR_HYST) ≤ x.toNat)))) = true := by
      cases hen : d.bit PWR.CFG_VSENSE_EN
      · simp [hoff, hcool, hsup]
      · simp [hoff, hcool, hsup, hsense hen]
    exact ⟨_, (supplyReturnReset v x).trans (by rw [if_pos hgood]), d.resetTo_chipReset (by decide) _ _⟩
  case cooled =>
    intro tj hoff hhot htj
    have hgood : (d.pwr.off && d.pwr.thermal && decide (tj.toInt < 1250)) = true := by simp [hoff, hhot, htj]
    exact ⟨_, (thermalShutdownEnd tj).trans (by rw [if_pos hgood]), d.resetTo_chipReset (by decide) _ _⟩

end Sys2Proof.Machine
end
